-- ==== Sys2Proof/Word.lean ====
section
/-!
DEFINITION. The byte and byte-string types of the model.

Everything the CLR-8800 exchanges with the outside (descriptors, keys, records, flits) is a string of
bytes, least significant byte first in every integer field (R9 of 00_scope.md).
-/
namespace Sys2Proof

/-- One byte. -/
abbrev Byte := BitVec 8

/-- A string of bytes, lowest address first. -/
abbrev Bytes := List Byte

end Sys2Proof
end

