-- ==== Sys2Proof/Syntax.lean ====
section
/-!
DEFINITION. The commands of the block: what comes to the CLR-8800 from outside (register accesses, bus
and protocol operations, pin events) and the events of its own engines and timers, one constructor per
row of the opcode table, with the operands the row's rule needs. What is measured, fetched or received
from outside the block (voltages, temperatures, flash and card contents, host memory) comes as operands
(assumption log 6).
-/
namespace Sys2Proof

/-- Where a register access goes: a BAR, or the configuration space. There a register is named by its capability (0 the header,
the capability ID, or 0x10000 plus the extended capability ID) and its offset in it, since the manual places no capability
(R94, R97). -/
inductive Space where
  | bar0
  | bar2
  | bar4
  | config (cap : Nat)
  deriving DecidableEq, Repr

/-- A register read: where, the address in it, and whether it is an 8-byte access (BAR2 and the MSI-X table, R97). -/
structure RegRead where
  space : Space
  addr : Nat
  wide : Bool := false
  deriving DecidableEq, Repr

/-- What a register write carries: the value, and whether it is an 8-byte access (the MSI-X table, R97). -/
structure RegValue where
  value : Nat
  wide : Bool := false
  deriving DecidableEq, Repr

/-- A doorbell write at SQ_TAIL: its lower half, and the upper half, CQ_HEAD, of an 8-byte write (R98). -/
structure DoorbellWrite where
  tail : Nat
  head : Option Nat := none
  deriving DecidableEq, Repr

/-- The byte of an SMBus Write Byte and whether its PEC is right (none: no PEC byte; R68). -/
structure SmbusByte where
  value : Nat
  pec : Option Bool := none
  deriving DecidableEq, Repr

/-- What the tamper sensors show at one sample (R467); the defaults are the nominal readings. -/
structure TamperSense where
  /-- Lid mesh A: 0 good, 1 open, 2 short, 3 wrong pattern. -/
  meshA : Nat := 0
  /-- Lid mesh B, coded alike. -/
  meshB : Nat := 0
  /-- Substrate shield: 0 whole, 1 open, 2 short. -/
  shield : Nat := 0
  /-- Shield resistance in percent of the stored reference. -/
  shieldPct : Nat := 100
  /-- VDD_T0–VDD_T3, VDD_H, VDD_SRAM, VDD_PE in mV: the extreme held for 50 ns. -/
  coreMv : List Nat := [750, 750, 750, 750, 750, 850, 850]
  /-- VDD_G, VDDIO18, VDDIO33, VDD_PE18 in mV: the extreme held for 50 ns. -/
  ioMv : List Nat := [900, 1800, 3300, 1800]
  /-- VAUX5 in mV. -/
  vaux5Mv : Nat := 5000
  /-- VBAT in mV. -/
  vbatMv : Nat := 3000
  /-- The guard die's sensor in 0.25 °C. -/
  guardTemp : Int := 100
  /-- Die sensors in 0.1 °C. -/
  temps : List Int := []
  /-- SYSCLK measured over 10 µs, in kHz. -/
  sysclkKhz : Nat := 100000
  /-- No SYSCLK edge for 1 µs. -/
  sysclkStopped : Bool := false
  /-- Photodiodes in µW/cm². -/
  light : List Nat := []
  /-- A glitch detector has latched since the last sample. -/
  glitch : Bool := false
  /-- Raw levels of EXT_TAMP0–EXT_TAMP3, high = true. -/
  ext : List Bool := [true, true, true, true]
  deriving DecidableEq, Repr

/-- Data a life-cycle transition installs after its erase step (R499). -/
structure Installed where
  /-- Die identifiers fused at MANUFACTURED (R33). -/
  dieIds : List Nat := []
  /-- The identity certificate stored at PROVISIONED (R363). -/
  identityCert : Bytes := []
  deriving DecidableEq, Repr

/-- One flash slot as the warden reads it: whether the flash answered (R73), its bytes (erased bytes after the
signature block may be left out: every byte of the slot after those given is 0xFF), and the outcome of the second evaluation of the
acceptance decision where it differs from the first (R84). -/
structure FlashSlot where
  /-- The flash drove XSPI_DQS within 1 µs. -/
  answered : Bool := true
  /-- The slot's bytes, its erased tail left out. -/
  data : Bytes := []
  /-- Second outcome of the critical decision, where it differs. -/
  second : Option Nat := none
  deriving DecidableEq, Repr

/-- What stage Hub reads (R33, R53). -/
structure HubStart where
  /-- Hub die identifier. -/
  hubId : Nat := 0
  /-- Identifiers of T0–T3. -/
  dieIds : List Nat := []
  /-- Pattern slot A. -/
  slotA : FlashSlot := {}
  /-- Pattern slot B. -/
  slotB : FlashSlot := {}
  /-- Failing wires of the G-H link, each direction (R28). -/
  wiresDn : List Nat := []
  /-- Failing wires towards the hub. -/
  wiresUp : List Nat := []
  deriving DecidableEq, Repr

/-- What stage Guard finds (R50, R51). -/
structure GuardFacts where
  /-- SB_ADDR[1:0]. -/
  sbAddr : Nat := 0
  /-- The two full reads of the fuse array agree. -/
  readsAgree : Bool := true
  /-- The state the second life-cycle evaluation decodes, where it differs. -/
  lcSecond : Option Nat := none
  /-- The short-circuit test of VRISER passes. -/
  riserOk : Bool := true
  /-- Data a transition finished at stage Guard installs again (R499). -/
  installed : Installed := {}
  /-- Enrolment structures whose signature fails: 0 the domain header, 1-16 a custodian record (R511). -/
  badEnrol : List Nat := []
  deriving DecidableEq, Repr

/-- BIST results (R57, R59). -/
structure BistResult where
  /-- Failed units: physical cluster, kind (0 TC, 1 SBU, 2 BNU, 3 DGU), index. -/
  units : List (Nat × Nat × Nat) := []
  /-- Physical clusters whose SRAM has an uncorrectable fault. -/
  sram : List Nat := []
  /-- Regions with a failed PLL. -/
  pll : List Nat := []
  /-- Regions whose power-switch test failed. -/
  switch : List Nat := []
  /-- Regions whose thermal-sensor cross-check failed. -/
  sensor : List Nat := []
  deriving DecidableEq, Repr

/-- One SBU check mismatch that a verb met (R164, R165). -/
structure SbuFault where
  /-- SBU 0-3 whose check failed. -/
  sbu : Nat := 0
  /-- Key register 0-3 the block used. -/
  reg : Nat := 0
  /-- 0 encipher, 1 decipher, 2 and 3 the single-DES pass. -/
  direction : Nat := 0
  /-- The block's input. -/
  input : Bytes := []
  /-- Datapath A's result. -/
  a : Bytes := []
  /-- Datapath B's result: of the same operation in duplicate mode, of the inverse operation on A's result in inverse-check
  mode. -/
  b : Bytes := []
  /-- The key register's parity was wrong when the block read it. -/
  parity : Bool := false
  /-- The retry mismatched too. -/
  retryFails : Bool := false
  /-- SBU the retry ran on. -/
  retrySbu : Nat := 1
  deriving DecidableEq, Repr

/-- What the units of the cluster report of a class S verb: its blocks, its check mismatches, and the output
bytes already written when a retry failed (R165). -/
structure UnitReport where
  /-- Blocks completed on SBU 0-3. -/
  blocks : List Nat := []
  /-- Blocks whose compare cycle or parity check may have failed, in order. -/
  faults : List SbuFault := []
  /-- For SBU 0-3, the key register and direction of the first block it ran for the item. -/
  first : List (Nat × Nat) := []
  /-- Output bytes a progressive verb had written when it failed. -/
  written : Nat := 0
  /-- What stopped the item part-way: 0 a read fault on a later chunk of its input, 1 an SBU call that found its
  key's entry gone (R170, R329). -/
  cut : Option Nat := none
  deriving DecidableEq, Repr

/-- The item of a class A verb that runs SBU or digest-unit blocks beside its BNU command, and what those units report
(R16). -/
structure SlotWork where
  /-- The item's slot. -/
  slot : Nat
  /-- What the units of its cluster report. -/
  units : UnitReport := {}
  deriving DecidableEq, Repr

/-- The result record of a BNU command (R186). -/
structure BnuReport where
  /-- The invariant check that failed, by its number. -/
  invariant : Option Nat := none
  /-- Operation time in us. -/
  busyUs : Nat := 0
  /-- The BNU aborted the command. -/
  aborted : Bool := false
  deriving DecidableEq, Repr

/-- The telemetry of one region over the last 10 us (R414). -/
structure RegionSense where
  /-- Measured dynamic energy, nJ. -/
  dynamicNj : Nat := 0
  /-- Leakage power, mW. -/
  leakMw : Nat := 0
  /-- Its four sensors in 0.25 °C. -/
  sensors : List Int := [100, 100, 100, 100]
  /-- Every sensor reads within its physical range. -/
  sensorOk : Bool := true
  deriving DecidableEq, Repr

/-- The telemetry Chill reads at an update (R414), with the measurements GDS shows (R577). -/
structure ChillSense where
  /-- Regions 0-15. -/
  regions : List RegionSense := []
  /-- P_static, mW. -/
  staticMw : Nat := 0
  /-- Package power, mW. -/
  packageMw : Nat := 0
  /-- Hub sensors 0-3 and the guard sensor in 0.25 °C. -/
  temps : List Int := [100, 100, 100, 100, 100]
  /-- Rails 0-13 in mV. -/
  railMv : List Nat := []
  /-- Rail currents. -/
  railMa : List Nat := []
  /-- SYSCLK against the guard oscillator, kHz. -/
  sysclkKhz : Nat := 100000
  /-- Guard oscillator against SYSCLK, kHz. -/
  guardKhz : Nat := 0
  /-- PE_REFCLK toggles. -/
  refclk : Bool := true
  deriving DecidableEq, Repr

/-- A slice record as one package gives it to another, its tenant wrap key in clear (R388, R397). -/
structure SliceCopy where
  /-- Slice number. -/
  slice : Nat := 0
  /-- Lease epoch. -/
  epoch : Nat := 0
  /-- Generation. -/
  generation : Nat := 0
  /-- Tenant wrap key, 32 bytes. -/
  key : Bytes := []
  /-- PASID. -/
  pasid : Nat := 0
  /-- MIN. -/
  min : Nat := 0
  /-- CAP. -/
  cap : Nat := 0
  /-- WEIGHT. -/
  weight : Nat := 0
  /-- PRIO_CEILING. -/
  ceiling : Nat := 1
  /-- VECTOR_BASE. -/
  vecBase : Nat := 0
  /-- VECTOR_COUNT. -/
  vecCount : Nat := 0
  /-- COUNT_BASE. -/
  countBase : Nat := 0
  /-- COUNT_QUOTA. -/
  countQuota : Nat := 0
  /-- STATUS_ADDR. -/
  statusAddr : Nat := 0
  /-- PIN lockouts: PAN tag and expiry. -/
  lockouts : List (Bytes × Nat) := []
  deriving DecidableEq, Repr, Inhabited

/-- What the head of a slice image's body carries: the counts and the record (R388). -/
structure ImageHead where
  /-- Queue contexts. -/
  queues : Nat := 0
  /-- Counted-key records. -/
  counted : Nat := 0
  /-- Delayed items. -/
  delayed : Nat := 0
  /-- Captured completions. -/
  completions : Nat := 0
  /-- The record. -/
  record : SliceCopy := {}
  deriving DecidableEq, Repr, Inhabited

/-- A mirror update: the record set of a slice, or its erasure (R397, R398). -/
structure MirrorUpdate where
  /-- The update's number, which its acknowledgement returns. -/
  number : Nat := 0
  /-- The peer's copy is erased. -/
  erase : Bool := false
  /-- The record. -/
  record : SliceCopy := {}
  /-- Counted-key records: index, KEY_ID, LIMIT, COUNT. -/
  counted : List (Nat × Nat × Nat × Nat) := []
  deriving DecidableEq, Repr, Inhabited

/-- The attestation material of a Ngueth handshake (R396). -/
structure PeerHello where
  /-- Serial, 16 bytes. -/
  serial : Bytes := []
  /-- Nonce, 32 bytes. -/
  nonce : Bytes := []
  /-- Ephemeral P-384 point. -/
  point : Bytes := []
  /-- Life-cycle state code. -/
  lcState : Nat := 0
  /-- Identity certificate. -/
  idCert : Bytes := []
  /-- Attestation key certificate. -/
  attCert : Bytes := []
  /-- Signature over the transcript hash, r and s. -/
  sig : Bytes := []
  /-- DOMAIN_TAG. -/
  tag : Bytes := []
  deriving DecidableEq, Repr, Inhabited

/-- What the receiver of a port settled at training, by lane (R396, R403). -/
structure LaneReport where
  /-- Lanes locked. -/
  lock : List Nat := [0, 1, 2, 3]
  /-- Timing margins. -/
  marginT : List Nat := [0, 0, 0, 0]
  /-- Voltage margins. -/
  marginV : List Nat := [0, 0, 0, 0]
  /-- Equalisation presets. -/
  eq : List Nat := [0, 0, 0, 0]
  /-- Recovered-clock offsets. -/
  cdr : List Int := [0, 0, 0, 0]
  /-- Block-coding errors counted since. -/
  errors : List Nat := [0, 0, 0, 0]
  deriving DecidableEq, Repr

/-- A flit of a die-to-die link as its receiver gets it (R27). -/
structure LinkFlit where
  /-- 64 bytes of payload. -/
  payload : Bytes := []
  /-- 4-bit type. -/
  type : Nat := 0
  /-- 12-bit sequence number. -/
  seq : Nat := 0
  /-- CRC-16. -/
  crc : Nat := 0
  deriving DecidableEq, Repr

/-- A flit as it arrives, beside the sequence number the receiver expected (R27). -/
structure LinkArrival where
  flit : LinkFlit
  expected : Nat
  deriving DecidableEq, Repr

/-- What a card answers to the SD command, or group of commands, in progress (R539–R543). -/
structure SdAnswer where
  /-- The 32 bits of the response: card status R1 (all error bits of a group), OCR, RCA in bits 31 to 16, or the echo of
  CMD8. -/
  resp : Nat := 0x900
  /-- Data read, or the CSD. -/
  data : Bytes := []
  /-- No CRC error on response or data, and a positive CRC status token. -/
  crcOk : Bool := true
  /-- The lines of R540 read as they must. -/
  linesOk : Bool := true
  deriving DecidableEq, Repr, Inhabited

/-- The commands of the block: one constructor per row of the opcode table, in its order. -/
inductive Instr where
  /-- HOLD_ENTRY (R47): RESET_N or PWR_OK falls: every ball takes its Hold state within 10 µs and the halt and commit-buffer drain begin. Operands: which ball fell: 0 RESET_N, 1 PWR_OK -/
  | holdEntry (pin : Nat)
  /-- KEEP_RAIL_UP (R593): VAUX5 rises above 4.5 V: the keep rail comes up and the battery domain changes over to it. -/
  | keepRailUp
  /-- GUARD_START (R50): RESET_N and PWR_OK are both high and any drain has ended: the warden runs stage Guard (fuse reads, life-cycle decision, arming, battery replay) and STAT shows 001. Operands: what stage Guard finds -/
  | guardStart (facts : GuardFacts)
  /-- STAGE_HUB_ENTRY (R53): After Guard ends, the hub leaves DIE_RESET, its identifier is checked, the pattern slot is read and verified, and the hub stores are initialised. Operands: identifiers, pattern slots and link wires as read -/
  | stageHubEntry (start : HubStart)
  /-- STAGE_FULL_ENTRY (R57): The device enters stage Full: Anneal starts on the transaction dies and the firmware read starts. Operands: failing wires of each T-H link, T0 to T3, in each direction -/
  | stageFullEntry (wiresDn wiresUp : List (List Nat))
  /-- ANNEAL_BIST_COMPLETE (R59): BIST ends: failed units, clusters and regions are handled, logical maps are built and CAPACITY is set. Operands: the BIST results -/
  | annealBistComplete (bist : BistResult)
  /-- FIRMWARE_READ_COMPLETE (R58): The firmware slot read ends: it is verified and measured, or the other slot is tried, or the device returns to Hub with FIRMWARE_BAD. Operands: the firmware slot read -/
  | firmwareReadComplete (slot : FlashSlot)
  /-- RISER_SAMPLE (R433): Every 100 µs the warden measures VRISER and updates the riser gate and the persist-unsafe state. Operands: VRISER in mV -/
  | riserSample (mv : Nat)
  /-- RISER_TIMEOUT (R60): The riser timeout expires: the warden records an ALARM, sets RISER_TIMEOUT and unseals anyway. -/
  | riserTimeout
  /-- SLICE_RESTORE_COMPLETE (R61): Slice records and counters are restored after unsealing, and region bring-up begins in the fixed order. Operands: slice numbers and counted-key indexes whose record checks fail at restore -/
  | sliceRestoreComplete (badSlices badCounted : List Nat)
  /-- REGION_BRINGUP_COMPLETE (R61): A region's bring-up ends: it comes online and the next region starts its bring-up. Operands: region G, duration in ms, units that failed their known-answer test as (physical cluster, kind, index) -/
  | regionBringupComplete (region katMs : Nat) (failed : List (Nat × Nat × Nat))
  /-- STG_REPOUR (R64): A write of STG_CONTROL with REPOUR and the correct KEY starts or holds a re-pour. Operands: KEY as written -/
  | stgRepour (key : Nat)
  /-- REPOUR_PENDING_START (R64): A held re-pour starts once the running re-pour reaches STAT 100 or stops in Hub. -/
  | repourPendingStart
  /-- STG_HUB_HOLD_WRITE (R55): A write of STG_CONTROL.HUB_HOLD sets or clears the Hub hold; clearing it releases a held device. Operands: the HUB_HOLD bit written -/
  | stgHubHoldWrite (value : Bool)
  /-- POWER_FAIL_SAVE (R430): PFAIL_N low, VAUX5 low or a core rail droop raises HALT, isolates the keep rail onto VRISER and drains the buffers to MRAM. Operands: which trigger of R429 started it: 0 PFAIL_N, 1 VAUX5, 2 a core rail -/
  | powerFailSave (cause : Nat)
  /-- SAVE_DRAIN_COMPLETE (R430): The save drain ends: the save marker is written and the riser save count rises. -/
  | saveDrainComplete
  /-- KEEP_RAIL_OFF (R430): VRISER falls below 2.4 V after a save and the keep rail switches off. -/
  | keepRailOff
  /-- PERST_N_ASSERT (R121): PERST_N falls: fetching stops, lists are emptied, BNU commands abort and every slice begins to detach. -/
  | perstNAssert
  /-- PERST_N_DEASSERT (R54): PERST_N rises: the host port trains the link from the training anchor. -/
  | perstNDeassert
  /-- SLICE0_REATTACH (R374): Once its detachment has drained and the port is up, the hub attaches slice 0 again by itself. -/
  | slice0Reattach
  /-- PM_D3HOT_ENTRY (R95): The function enters D3hot: fetching and DMA stop, and accepted items finish with their writes held. -/
  | pmD3hotEntry
  /-- PM_D0_RETURN (R95): The function returns to D0 and held output and completion writes are issued. -/
  | pmD0Return
  /-- SMBUS_STATUS (R69): The SMBus STATUS Read Word returns the stage, flags and life-cycle state. -/
  | smbusStatus
  /-- SMBUS_REASON (R69): The SMBus REASON Read Word returns STG_REASON.CODE and its stage. -/
  | smbusReason
  /-- SMBUS_CAPACITY (R69): The SMBus CAPACITY Block Read returns the capacity figures. -/
  | smbusCapacity
  /-- SMBUS_THERMAL (R69): The SMBus THERMAL Read Word returns the hottest junction temperature. -/
  | smbusThermal
  /-- SMBUS_POWER (R69): The SMBus POWER Read Word returns package power. -/
  | smbusPower
  /-- SMBUS_SERIAL (R69): The SMBus SERIAL Block Read returns the device serial. -/
  | smbusSerial
  /-- SMBUS_TAMPER (R69): The SMBus TAMPER Read Word returns the latched tamper sources. -/
  | smbusTamper
  /-- SMBUS_HEAT (R69): The SMBus HEAT Block Read returns the newest heat number. -/
  | smbusHeat
  /-- SMBUS_ALERT_CAUSE_READ (R69): The ALERT_CAUSE Read Byte returns the alert cause bits. -/
  | smbusAlertCauseRead
  /-- SMBUS_ALERT_CAUSE_CLEAR (R69): The ALERT_CAUSE Write Byte clears the bits written as 1; ALERT_N is released when the cause reaches 0. Operands: the byte written and whether its PEC is right (none: no PEC byte) -/
  | smbusAlertCauseClear (value : SmbusByte)
  /-- SMBUS_ALERT_RESPONSE (R68): A read of the Alert Response Address is answered by the device while it asserts ALERT_N. -/
  | smbusAlertResponse
  /-- SMBUS_QUENCH_ARM (R70): QUENCH_ARM with value 0xA5 and a valid PEC arms an SMBus Quench for 100 ms. Operands: the byte written and whether its PEC is right (none: no PEC byte) -/
  | smbusQuenchArm (value : Nat) (pec : Option Bool)
  /-- SMBUS_QUENCH_FIRE (R70): QUENCH_FIRE with value 0x3C and a valid PEC, inside an arm, causes a Quench. Operands: the byte written and whether its PEC is right (none: no PEC byte) -/
  | smbusQuenchFire (value : Nat) (pec : Option Bool)
  /-- SMBUS_UNKNOWN_COMMAND (R68): A command code outside the table is not acknowledged and cancels any Quench arm. Operands: the command code -/
  | smbusUnknownCommand (code : Nat)
  /-- QUENCH_ARM_EXPIRE (R70): 100 ms pass after an accepted Quench arm without a fire, and the arm lapses. -/
  | quenchArmExpire
  /-- SMBUS_BUS_TIMEOUT (R604): SB_SCL held low for 30 ms: the target releases the bus and resets its interface. -/
  | smbusBusTimeout
  /-- TAP_IDCODE (R502): The IDCODE instruction selects the identification register. -/
  | tapIdcode
  /-- TAP_BYPASS (R502): The BYPASS instruction, or an instruction not available in this state, selects the bypass register. Operands: the opcode loaded -/
  | tapBypass (opcode : Nat)
  /-- TAP_EXTEST (R502): EXTEST drives the boundary scan where the state or a Hub hold allows it. Operands: the boundary register values driven at Update-DR -/
  | tapExtest (update : List Bool)
  /-- TAP_SAMPLE_PRELOAD (R502): SAMPLE/PRELOAD captures or preloads the boundary register where allowed. Operands: the ball levels captured and the values preloaded -/
  | tapSamplePreload (capture update : List Bool)
  /-- TAP_HUB_HOLD (R55): Loading HUB_HOLD holds the device in stage Hub; loading another instruction releases the hold. -/
  | tapHubHold
  /-- TAP_LC_REQUEST (R504): At Update-DR of LC_REQUEST the warden checks the target and token and starts a transition or a test unlock. Operands: TARGET, INDEX, the 32-byte token, and the outcome of the second evaluation where it differs -/
  | tapLcRequest (target index : Nat) (token : Bytes) (second : Option Nat)
  /-- TAP_LC_FUSE (R505): At Update-DR of LC_FUSE the warden programs a token digest, a floor, SMBUS_QUENCH_OFF or COSIGN_REQUIRED. Operands: FIELD, INDEX, the value byte (FIELD 2–4), the value of every bit the FIELD leaves unused, the 32-byte token (FIELD 2–4), the 48-byte digest (FIELD 1), the second outcome where it differs -/
  | tapLcFuse (field index value rest : Nat) (token digest : Bytes) (second : Option Nat)
  /-- TAP_VDBG (R503): Selecting VDBG takes the debug-unlock decision twice and opens the vendor debug port or leaves BYPASS selected. Operands: the outcome of the second evaluation where it differs -/
  | tapVdbg (second : Option Nat)
  /-- TAP_RESET (R605): TRST_N held low for 50 ns resets the TAP asynchronously. -/
  | tapReset
  /-- BAR_BAD_ACCESS (R97): An access of the wrong size or alignment to any BAR reads all ones or is discarded, and is counted and logged. Operands: BAR (0 BAR0, 1 BAR2, 2 BAR4), the address, and whether it was a write -/
  | barBadAccess (bar addr : Nat) (write : Bool)
  /-- REG_PAIR_LO_READ (R8): A read of the _LO register of a 64-bit pair latches its _HI half. Every other register read is this row too (assumption log 2). Operands: where, the address in it, and whether it is an 8-byte access (BAR2, MSI-X table) -/
  | regPairLoRead (addr : RegRead)
  /-- REGISTER_WRITE (R570): A write to a register that has no row of its own updates its writable fields. Operands: where, the address in it, the value written, and whether it is an 8-byte access (MSI-X table) -/
  | registerWrite (bar : Space) (addr : Nat) (value : RegValue)
  /-- DOORBELL_SQ_TAIL (R103): A doorbell write of SQ_TAIL records new submissions or puts the queue in ERROR for a value out of range. Operands: global queue ID, the value written, and the upper half of an 8-byte write: CQ_HEAD, applied first (R98) -/
  | doorbellSqTail (qid : Nat) (tail : DoorbellWrite)
  /-- DOORBELL_CQ_HEAD (R103): A doorbell write of CQ_HEAD frees completion space, so that parked and held completions are written. Operands: global queue ID and the value written -/
  | doorbellCqHead (qid head : Nat)
  /-- MB_NOTIFY (R380): A tenant's write to MB_NOTIFY places its slice in the pending set and raises the manager's mailbox vector. Operands: the slice whose page was written -/
  | mbNotify (slice : Nat)
  /-- FETCH_BATCH (R114): The hub visits a slice in round robin, takes the slots it may obtain and issues a descriptor read of up to 16 entries. -/
  | fetchBatch
  /-- DESCRIPTOR_ARRIVAL (R122): A descriptor batch arrives: each item is checked at acceptance (checks 1–6) and placed READY, FENCED, DELAYED or FINISHED. Operands: global queue ID of the batch, whether the read failed (R101), the 64-byte entries read -/
  | descriptorArrival (qid : Nat) (fault : Bool) (descs : List Bytes)
  /-- MSIX_DELAY_EXPIRE (R119): MAX_DELAY elapses since the first pending notification of a vector, and its message is sent. Operands: the vector -/
  | msixDelayExpire (vector : Nat)
  /-- MSIX_VECTOR_UNMASK (R119): Unmasking a vector whose PBA bit is set sends its message. Operands: the vector -/
  | msixVectorUnmask (vector : Nat)
  /-- QAW_READ (R106): The QAW READ command copies the selected queue context into QAW_DATA. -/
  | qawRead
  /-- QAW_WRITE (R106): The QAW WRITE command checks and copies the configuration fields of a DISABLED queue. -/
  | qawWrite
  /-- QAW_ENABLE (R105): The QAW ENABLE command initialises a DISABLED queue to ACTIVE, or holds the enable of a DRAINING queue. -/
  | qawEnable
  /-- QAW_DISABLE (R105): The QAW DISABLE command stops fetching, cancels delayed items and leaves the queue DRAINING. -/
  | qawDisable
  /-- QAW_RESET_ERROR (R105): The QAW RESET_ERROR command returns a queue in ERROR to ACTIVE, with SQ_TAIL set to SQ_HEAD. -/
  | qawResetError
  /-- TAKE (R131): A transaction core issues a take and receives an item chosen by priority, credit, deficit round robin and locality, or blocks. Operands: core 4 × L + TC -/
  | take (core : Nat)
  /-- INPUT_FETCH_COMPLETE (R120): An item's input and ingots arrive: the core runs the key, length and structure checks and processes the verb. Operands: in-flight slot, the input and the ingots as read, and the reads that faulted (0 input, 1 key A, 2 key B, 3 an operand) -/
  | inputFetchComplete (slot : Nat) (input keyA keyB : Bytes) (faults : List Nat)
  /-- BNU_COMMAND_COMPLETE (R186): A BNU raises its completion interrupt with a result record, and the core finishes the item. Operands: in-flight slot and the result record -/
  | bnuCommandComplete (slot : Nat) (report : BnuReport)
  /-- SIGNER_COMPLETE (R365): The warden's signer finishes a signature for a waiting item. -/
  | signerComplete
  /-- COMMIT_ACK (R39): The commit buffer acknowledges an item's persistent effect, and its completion is handed to the hub. Operands: in-flight slot -/
  | commitAck (slot : Nat)
  /-- ITEM_FINISH (R124): An item finishes and its completion becomes postable, or awaits release in an ordered queue. Operands: in-flight slot -/
  | itemFinish (slot : Nat)
  /-- MUST_RUN_PROMOTE (R135): A deferred item's deferral clock reaches DEFER_US and the item becomes MUST_RUN. Operands: in-flight slot -/
  | mustRunPromote (slot : Nat)
  /-- AGE_PROMOTE (R137): An item READY for 5 ms moves to the list one priority higher, within its slice ceiling. Operands: in-flight slot -/
  | agePromote (slot : Nat)
  /-- NOT_BEFORE_DUE (R146): A NOT_BEFORE delay entry falls due, and the item becomes FENCED or READY. Operands: in-flight slot -/
  | notBeforeDue (slot : Nat)
  /-- RETRY_DUE (R147): An internal-retry entry falls due, and the item becomes READY with its age kept. Operands: in-flight slot -/
  | retryDue (slot : Nat)
  /-- RETRY_WAIT_POLL (R147): A running item that could not obtain a delay entry tries its resource again after two ticks. Operands: in-flight slot -/
  | retryWaitPoll (slot : Nat)
  /-- PIN_LOCKOUT_TIMER_DUE (R148): A PIN-try lockout entry falls due and the lockout is removed from the slice record. Operands: slice and PAN tag -/
  | pinLockoutTimerDue (slice : Nat) (tag : Bytes)
  /-- QUORUM_SESSION_EXPIRE (R522): A quorum session's lifetime expires and the session ends. -/
  | quorumSessionExpire
  /-- REGION_IDLE_TIMER_DUE (R415): A region's idle timer falls due and the region begins to drain. Operands: region G -/
  | regionIdleTimerDue (region : Nat)
  /-- CHILL_UPDATE (R405): Every 10 µs Chill reads telemetry, reconciles and accrues credit, takes operating-point decisions and offers work again. Operands: the telemetry of the last 10 µs -/
  | chillUpdate (sense : ChillSense)
  /-- REGION_WAKE_COMPLETE (R415): The wake sequence ends and the region is ON with credit A_r. Operands: region G -/
  | regionWakeComplete (region : Nat)
  /-- REGION_DRAIN_COMPLETE (R415): The drain ends: the region is OFF, or starts a held wake. Operands: region G -/
  | regionDrainComplete (region : Nat)
  /-- TC_ECC_CORRECTED (R16): A single-bit register-file error is corrected in place and logged. Operands: core 4 × L + TC -/
  | tcEccCorrected (core : Nat)
  /-- TC_ECC_UNCORRECTABLE (R16): An uncorrectable register-file error stops the item, which is returned or failed, and may retire the core. Operands: core 4 × L + TC and the chunks of output its item had written -/
  | tcEccUncorrectable (core written : Nat)
  /-- CLUSTER_SRAM_ECC (R19): An ECC event in operand SRAM or the key cache is corrected and logged, or fails the cluster. Operands: physical cluster, key cache or operand SRAM, uncorrectable or corrected -/
  | clusterSramEcc (phys : Nat) (keyCache uncorrectable : Bool)
  /-- SPARE_SELFTEST_COMPLETE (R20): The spare's 2 ms self-test ends and it is mapped to the failed logical number. Operands: the logical cluster and whether its spare passed -/
  | spareSelftestComplete (logical : Nat) (pass : Bool)
  /-- BNU_DRBG_RESEED (R179): A BNU DRBG reaches 65,536 requests or 1 s and reseeds from the device DRBG. Operands: physical cluster -/
  | bnuDrbgReseed (phys : Nat)
  /-- DGU_KAT_DUE (R352): A DGU's 10 s known-answer test falls due and runs when the DGU is idle, retiring it on failure. Operands: physical cluster and the test's result -/
  | dguKatDue (phys : Nat) (pass : Bool)
  /-- DIE_LINK_FLIT_ERROR (R27): A die-link flit fails its CRC or sequence check and a retry is requested from the sender. Operands: link 0–3 T0-H to T3-H, 4 G-H; the flit as received, the sequence number the receiver expected, and whether the same flit failed its retry -/
  | dieLinkFlitError (link : Nat) (arrival : LinkArrival) (again : Bool)
  /-- HUB_MEMORY_ECC (R577): An ECC event in a hub memory is counted, or sets the device fault state if uncorrectable. Operands: hub memory 0–5, uncorrectable or corrected -/
  | hubMemoryEcc (memory : Nat) (uncorrectable : Bool)
  /-- ENTROPY_HEALTH_FAIL (R356): A health test fails: the source is RNG_FAILED and the device DRBG stops. -/
  | entropyHealthFail
  /-- RNG_RETEST_DUE (R356): Every 100 ms a failed source repeats its start-up test, returning to service or becoming RNG_DEAD after 16 failures. Operands: the start-up test's result -/
  | rngRetestDue (pass : Bool)
  /-- COMMIT_ENTRY_ACCEPT (R422): The warden accepts a commit entry that fits, merging it into the line cache or counter area where it applies. -/
  | commitEntryAccept
  /-- JOURNAL_DRAIN (R423): Journal entries are written to MRAM, freeing space for waiting entries. Operands: how many journal entries drain -/
  | journalDrain (count : Nat)
  /-- LINE_PACE_EXPIRE (R426): 32 s pass since a line's last write and its waiting line-cache change is written. Operands: the MRAM line -/
  | linePaceExpire (line : Nat)
  /-- COUNTER_CHECKPOINT (R428): Once per second the counter area is checkpointed into the next ring slot after folding it. -/
  | counterCheckpoint
  /-- TIME_CHECKPOINT (R442): Every 60 s device time is written to the time checkpoint. -/
  | timeCheckpoint
  /-- LIFE_COUNTER_WRITE (R443): Every 60 s the life counters are written to the next copy and the wear model is updated. Operands: junction band 0-4 of each die (T0-T3, H, G) over the last 60 s and battery charge used since the last write, uAh -/
  | lifeCounterWrite (bands : List Nat) (batteryUah : Nat)
  /-- CALENDAR_FLIT_SEND (R440): Once per second a calendar flit is sent on each port with DOMAIN_MATCH. -/
  | calendarFlitSend
  /-- HEAT_OCCURRENCE (R452): A producer's event reaches the warden and is admitted, merged, suppressed or dropped. Operands: code, SOURCE, SLICE, the TIME stamped by the producer and the 24-byte payload -/
  | heatOccurrence (code source slice time : Nat) (payload : Bytes)
  /-- RECORD_SEAL_TIMEOUT (R453): 100 ms after admission an open heat-log record is sealed. -/
  | recordSealTimeout
  /-- SUMMARY_FLUSH_DUE (R455): Every 60 s the warden writes every pending summary. -/
  | summaryFlushDue
  /-- STAGING_DRAIN (R457): Sealed records drain from the log staging buffer to MRAM, and LOG_DROPPED is written once space returns. Operands: how many sealed records drain -/
  | stagingDrain (count : Nat)
  /-- HLW_CURSOR_HI_WRITE (R460): A write of HLW_CURSOR_HI loads the named record into the window and checks its chain. Operands: the 32-bit value written -/
  | hlwCursorHiWrite (value : Nat)
  /-- HLW_DATA15_READ (R460): A read of HLW_DATA15 advances the cursor and loads the next record. -/
  | hlwData15Read
  /-- TAMPER_SAMPLE (R469): Every 1 µs the warden samples armed sources and latches and handles new alarms as one event. Operands: the sensor readings of the sample -/
  | tamperSample (sense : TamperSense)
  /-- BATTERY_PULSE (R480): Every 125 ms on battery the meshes, shield, temperature and light sensors are checked and alarms applied. Operands: the sensor readings of the pulse -/
  | batteryPulse (sense : TamperSense)
  /-- BATTERY_INPUT_EDGE (R480): An edge on VBAT or a fitted external input on battery starts its filter and may raise an alarm. Operands: input 0–3 of EXT_TAMP with its new raw level 0 or 1, or input 4 for VBAT with its voltage in mV -/
  | batteryInputEdge (input level : Nat)
  /-- TAM_QUENCH_ARM (R488): A TAM_QUENCH write of ARM with key 0x5A3C arms a commanded Quench. Operands: KEY as written -/
  | tamQuenchArm (key : Nat)
  /-- TAM_QUENCH_FIRE (R477): A TAM_QUENCH write of FIRE with key 0xC3A5 within 100 ms of an arm causes a Quench. Operands: KEY as written -/
  | tamQuenchFire (key : Nat)
  /-- TAM_QUENCH_CANCEL (R488): Any other TAM_QUENCH write cancels an armed command. Operands: OP and KEY as written -/
  | tamQuenchCancel (op key : Nat)
  /-- TAM_LATCHED_CLEAR (R485): Writing 1 to TAM_LATCHED clears the latch of an inactive RECORD source. Operands: the 16-bit value written -/
  | tamLatchedClear (mask : Nat)
  /-- MEA_SELECT_WRITE (R372): A write of MEA_SELECT latches a measurement register's value and count. Operands: value written -/
  | meaSelectWrite (value : Nat)
  /-- SLC_MB_NEXT_READ (R380): A read of SLC_MB_NEXT returns a pending mailbox slice and removes it from the set. -/
  | slcMbNextRead
  /-- SLC_NOTIFY_WRITE (R380): A write of SLC_NOTIFY raises the named attached slice's event vector. Operands: SLICE as written -/
  | slcNotifyWrite (slice : Nat)
  /-- CLU_SBU_INJECT_WRITE (R171): Writing 1 to CLU_SBU_INJECT arms a forced mismatch on the next block of an SBU, in test states. Operands: physical cluster and the value written -/
  | cluSbuInjectWrite (phys mask : Nat)
  /-- CLU_BNU_INJECT_WRITE (R201): Writing 1 to CLU_BNU_INJECT arms a forced invariant failure, in test states. Operands: physical cluster and the value written -/
  | cluBnuInjectWrite (phys value : Nat)
  /-- NGL_PORT_DISABLE (R396): Writing NGL_CONTROL.ENABLE = 0 shuts the port down. Operands: the port -/
  | nglPortDisable (port : Nat)
  /-- NGL_PORT_ENABLE (R396): Writing NGL_CONTROL.ENABLE = 1 re-enables the port, clears MISMATCH, or holds the enable as WAKE_PENDING. Operands: the port -/
  | nglPortEnable (port : Nat)
  /-- NGL_LANE_PRBS_WRITE (R403): A write of NGL_LANE_PRBS switches a lane of a DOWN or DISABLED port to PRBS31. Operands: port, lane, RUN as written, and the bit errors PRBS31 checking counted on the lane so far -/
  | nglLanePrbsWrite (port lane : Nat) (run : Bool) (errors : Nat)
  /-- NGUETH_TRAINING_COMPLETE (R396): A port finishes training and starts the attestation handshake. Operands: port and what its receiver settled -/
  | nguethTrainingComplete (port : Nat) (lanes : LaneReport)
  /-- NGUETH_HANDSHAKE (R396): A handshake flit carries attestation material; the port becomes UP, MISMATCH or DOWN and derives its keys. Operands: port, the flits that carried the material, the last ACK, the peer's material -/
  | nguethHandshake (port flits ack : Nat) (hello : PeerHello)
  /-- NGUETH_HEARTBEAT (R395): A heartbeat flit is received and counts as a valid flit. Operands: port and ACK -/
  | nguethHeartbeat (port ack : Nat)
  /-- NGUETH_MIRROR_UPDATE (R398): A mirror update flit carries a commit entry of a mirrored slice to the mirror peer, which commits it. Operands: port, the flits that carried the update, the last ACK, the update -/
  | nguethMirrorUpdate (port flits ack : Nat) (update : MirrorUpdate)
  /-- NGUETH_MIRROR_ACK (R398): A mirror acknowledgement lets the owner's waiting completion proceed. Operands: port, ACK and the number of the update acknowledged -/
  | nguethMirrorAck (port ack update : Nat)
  /-- NGUETH_LEASE_SUMMARY (R401): A lease summary is resolved against the local copies of shared slices. Operands: port, the flits that carried the summary, the last ACK, and slice, state and epoch of each copy -/
  | nguethLeaseSummary (port flits ack : Nat) (copies : List (Nat × Nat × Nat))
  /-- NGUETH_CALENDAR (R440): A calendar flit makes the package adopt, slew towards, or report skew from a peer's calendar. Operands: port, ACK, the peer's RTC in µs and CAL_SET -/
  | nguethCalendar (port ack rtcUs : Nat) (calSet : Bool)
  /-- NGUETH_RETRY_REQUEST (R395): A retry request makes the sender resend from its retry buffer. Operands: port, ACK and the sequence number of the first flit to resend -/
  | nguethRetryRequest (port ack seq : Nat)
  /-- NGUETH_BAD_FLIT (R395): A flit fails its CRC, sequence, format or tag check; it is dropped and a retry is requested. Operands: the port and the 256 bytes of the flit -/
  | nguethBadFlit (port : Nat) (flit : Bytes)
  /-- NGUETH_RX_TIMEOUT (R395): No valid flit arrives for 30 µs and the port goes down. Operands: the port -/
  | nguethRxTimeout (port : Nat)
  /-- NGUETH_ACK_TIMEOUT (R395): The port's flits go unacknowledged for 30 µs and the port goes down. Operands: the port -/
  | nguethAckTimeout (port : Nat)
  /-- NGUETH_LOCK_LOSS (R395): The receiver loses lock and the port goes down. Operands: the port -/
  | nguethLockLoss (port : Nat)
  /-- NGUETH_HEARTBEAT_SEND (R395): An idle port sends a heartbeat every 10 µs. Operands: the port -/
  | nguethHeartbeatSend (port : Nat)
  /-- NGUETH_RETRAIN_DUE (R396): 1 s after an attestation failure the port retrains. Operands: the port -/
  | nguethRetrainDue (port : Nat)
  /-- LEASE_EXPIRE (R399): No valid flit from the mirror peer for LEASE_MS: the owner fences the slice. Operands: the slice -/
  | leaseExpire (slice : Nat)
  /-- OFFER_EXPIRE (R387): An offer reaches 10 minutes, its number returns to FREE and its ephemeral key is erased. Operands: the slice number offered -/
  | offerExpire (slice : Nat)
  /-- ICC_INSERTED (R536): A contact card's presence holds for 5 ms: it is debounced and activated if a session is open. Operands: 0 slot A, 1 slot B -/
  | iccInserted (slot : Nat)
  /-- ICC_REMOVED (R536): A removal edge deactivates the contact-card slot at once and ends its exchange. Operands: 0 slot A, 1 slot B -/
  | iccRemoved (slot : Nat)
  /-- ICC_POWER_HOLD_END (R535): The 10 ms power-off hold of a contact-card slot ends and a held activation starts. Operands: 0 slot A, 1 slot B -/
  | iccPowerHoldEnd (slot : Nat)
  /-- ICC_ATR_RECEIVED (R561): A card's ATR completes: it is checked, and the class, protocol and PPS are settled. Operands: the slot, the ATR, and the card's answer to the PPS request it leads to -/
  | iccAtrReceived (slot : Nat) (atr : Bytes) (pps : Option Bytes)
  /-- ICC_RESPONSE (R563): A card response or T=1 block arrives, and the admission or issuing exchange advances. Operands: the slot, the characters or the block received, and the repetitions or parity errors -/
  | iccResponse (slot : Nat) (data : Bytes) (parity : Nat)
  /-- ICC_WAIT_TIMEOUT (R563): A character, block or work waiting time is exceeded and the exchange fails. Operands: the slot; while activating, whether an ATR had begun -/
  | iccWaitTimeout (slot : Nat) (begun : Bool)
  /-- KEYPAD_KEY (R517): A debounced key press is applied to the current entry step: digits, ENTER, CLEAR, CANCEL or FN sequences. Operands: 4 x row + column -/
  | keypadKey (key : Nat)
  /-- KEYPAD_STUCK (R516): A key held for 5 s is marked stuck and ignored. Operands: 4 x row + column -/
  | keypadStuck (key : Nat)
  /-- KEYPAD_ENTRY_TIMEOUT (R517): An entry with no key for 60 s is discarded and its prompt restarts. -/
  | keypadEntryTimeout
  /-- SD_INSERTED (R536): SD_CD_N held low for 50 ms: the card is debounced and powered up for initialisation. Operands: SD_WP reads high -/
  | sdInserted (wp : Bool)
  /-- SD_REMOVED (R536): An SD removal edge acts at once: a running verb fails and the slot powers down. -/
  | sdRemoved
  /-- SD_POWER_HOLD_END (R535): The 5 ms SD power-off hold ends and a held power-up starts. -/
  | sdPowerHoldEnd
  /-- SD_COMMAND_RESPONSE (R539): An SD command response or data block arrives, and initialisation, tuning or the transfer advances. Operands: what the card answers -/
  | sdCommandResponse (answer : SdAnswer)
  /-- SD_COMMAND_TIMEOUT (R539): An SD command has no response within its limit. -/
  | sdCommandTimeout
  /-- SD_BUSY_RELEASE (R543): The card releases DAT0 after a write or erase and the next command may follow. Operands: card status the CMD13 poll returns -/
  | sdBusyRelease (r1 : Nat)
  /-- SD_BUSY_TIMEOUT (R543): The busy limit passes: the operation ends with 0x1005 and the card is power-cycled. -/
  | sdBusyTimeout
  /-- SD_RETUNE_DUE (R542): 4 s after the last tuning a retune is made before the next command. -/
  | sdRetuneDue
  /-- PATTERN_STAGE (R89): Writes a pattern or firmware image into the inactive slot, verifies it and may activate it. Operands: in-flight slot of the item -/
  | patternStage (slot : Nat)
  /-- GUARD_SLOT_LOAD (R354): Loads or clears an HMAC guard key slot and its grant. Operands: in-flight slot of the item -/
  | guardSlotLoad (slot : Nat)
  /-- ARCHIVE_FORMAT (R552): Formats the SD card as an archive of this domain. Operands: in-flight slot of the item; SD_WP reads high -/
  | archiveFormat (slot : Nat) (wp : Bool)
  /-- ARCHIVE_WRITE (R553): Encrypts and appends one record to the archive and commits a new generation. Operands: in-flight slot of the item; SD_WP reads high -/
  | archiveWrite (slot : Nat) (wp : Bool)
  /-- ARCHIVE_READ (R554): Reads, checks and decrypts one archive record and extends MEAS5. Operands: in-flight slot of the item; SD_WP reads high -/
  | archiveRead (slot : Nat) (wp : Bool)
  /-- ARCHIVE_INFO (R555): Reports the archive identity, capacity, state and flags. Operands: in-flight slot of the item; SD_WP reads high -/
  | archiveInfo (slot : Nat) (wp : Bool)
  /-- ARCHIVE_SEAL (R556): Commits a sealed generation and sets TMP_WRITE_PROTECT. Operands: in-flight slot of the item; SD_WP reads high -/
  | archiveSeal (slot : Nat) (wp : Bool)
  /-- KEY_GENERATE (R252): Creates a symmetric ingot or split pair from the device DRBG. Operands: in-flight slot of the item and what its units report -/
  | keyGenerate (slot : Nat) (units : UnitReport)
  /-- KEY_CHECK (R253): Returns, and optionally compares, the KCV of key A. Operands: in-flight slot of the item and what its units report -/
  | keyCheck (slot : Nat) (units : UnitReport)
  /-- COMPONENT_COMBINE (R254): Combines the session's key components into an ingot for a target slice. Operands: in-flight slot of the item -/
  | componentCombine (slot : Nat)
  /-- TR31_IMPORT (R257): Imports a TR-31 key block as one ingot or a split pair. Operands: in-flight slot of the item and what its units report -/
  | tr31Import (slot : Nat) (units : UnitReport)
  /-- TR31_EXPORT (R258): Exports key A as a TR-31 block under key B. Operands: in-flight slot of the item and what its units report -/
  | tr31Export (slot : Nat) (units : UnitReport)
  /-- TR31_TRANSLATE (R259): Rewraps a TR-31 block from key A to key B. Operands: in-flight slot of the item and what its units report -/
  | tr31Translate (slot : Nat) (units : UnitReport)
  /-- DUKPT_IK_DERIVE (R260): Derives a DUKPT initial key ingot from a BDK. Operands: in-flight slot of the item and what its units report -/
  | dukptIkDerive (slot : Nat) (units : UnitReport)
  /-- DUKPT_KEY_DERIVE (R261): Derives one DUKPT working key ingot from a BDK or initial key and a KSN. Operands: in-flight slot of the item and what its units report -/
  | dukptKeyDerive (slot : Nat) (units : UnitReport)
  /-- KDF_DERIVE (R263): Derives a symmetric ingot by the SP 800-108 CMAC KDF. Operands: in-flight slot of the item and what its units report -/
  | kdfDerive (slot : Nat) (units : UnitReport)
  /-- INGOT_INSPECT (R264): Reports an ingot's header and validity state. Operands: in-flight slot of the item and what its units report -/
  | ingotInspect (slot : Nat) (units : UnitReport)
  /-- INGOT_RESTRICT (R265): Writes a narrowed copy of an ingot. Operands: in-flight slot of the item and what its units report -/
  | ingotRestrict (slot : Nat) (units : UnitReport)
  /-- INGOT_PIN (R266): Installs an ingot in the hub key cache and returns a handle. Operands: in-flight slot of the item and what its units report -/
  | ingotPin (slot : Nat) (units : UnitReport)
  /-- INGOT_UNPIN (R267): Withdraws a hub-cache handle. Operands: in-flight slot of the item -/
  | ingotUnpin (slot : Nat)
  /-- COUNTER_RELEASE (R268): Frees the counted-key record of key A. Operands: in-flight slot of the item and what its units report -/
  | counterRelease (slot : Nat) (units : UnitReport)
  /-- KEYPAIR_GENERATE (R271): Generates an asymmetric key pair ingot in the BNU. Operands: in-flight slot of the item -/
  | keypairGenerate (slot : Nat)
  /-- SIGN (R272): Signs a digest or message with key A. Operands: in-flight slot of the item -/
  | sign (slot : Nat)
  /-- VERIFY (R273): Verifies a signature with key A or a supplied public key. Operands: in-flight slot of the item -/
  | verify (slot : Nat)
  /-- ECDH_DERIVE (R274): Agrees a key with a peer and derives a symmetric ingot. Operands: in-flight slot of the item -/
  | ecdhDerive (slot : SlotWork)
  /-- OAEP_ENCRYPT (R275): Encrypts a message to a supplied RSA public key with OAEP. Operands: in-flight slot of the item -/
  | oaepEncrypt (slot : Nat)
  /-- OAEP_DECRYPT (R276): Decrypts an OAEP ciphertext with key A. Operands: in-flight slot of the item -/
  | oaepDecrypt (slot : Nat)
  /-- PUBLIC_EXPORT (R277): Returns the public part of an asymmetric ingot. Operands: in-flight slot of the item and what its units report -/
  | publicExport (slot : Nat) (units : UnitReport)
  /-- PUBKEY_TICKET (R278): Creates a CA or KDH ticket from a public key or certificate. Operands: in-flight slot of the item and what its units report -/
  | pubkeyTicket (slot : Nat) (units : UnitReport)
  /-- TR34_BIND (R280): Verifies a KRD credential into a ticket, or signs an unbind or rebind token. Operands: in-flight slot of the item -/
  | tr34Bind (slot : SlotWork)
  /-- TR34_SEND (R281): Writes a TR-34 key token for one KRD. Operands: in-flight slot of the item -/
  | tr34Send (slot : SlotWork)
  /-- TR34_RECEIVE (R282): Imports the key from a TR-34 token addressed to key A. Operands: in-flight slot of the item -/
  | tr34Receive (slot : SlotWork)
  /-- PIN_TRANSLATE (R294): Deciphers a PIN block under key A and enciphers it under key B. Operands: in-flight slot of the item and what its units report -/
  | pinTranslate (slot : Nat) (units : UnitReport)
  /-- PIN_VERIFY_PVV (R299): Verifies a PIN by the verification value method under the lockout rules. Operands: in-flight slot of the item and what its units report -/
  | pinVerifyPvv (slot : Nat) (units : UnitReport)
  /-- PIN_VERIFY_OFFSET (R299): Verifies a PIN by the decimalization-offset method under the lockout rules. Operands: in-flight slot of the item and what its units report -/
  | pinVerifyOffset (slot : Nat) (units : UnitReport)
  /-- PVV_GENERATE (R300): Computes the PVV of a customer-selected PIN. Operands: in-flight slot of the item and what its units report -/
  | pvvGenerate (slot : Nat) (units : UnitReport)
  /-- OFFSET_GENERATE (R300): Computes the offset of a customer-selected PIN. Operands: in-flight slot of the item and what its units report -/
  | offsetGenerate (slot : Nat) (units : UnitReport)
  /-- PIN_CHANGE (R301): Verifies the old PIN and computes the reference value of a new one. Operands: in-flight slot of the item and what its units report -/
  | pinChange (slot : Nat) (units : UnitReport)
  /-- PIN_TRY_STATUS (R307): Reads, and may clear, the PIN-try state of one PAN. Operands: in-flight slot of the item and what its units report -/
  | pinTryStatus (slot : Nat) (units : UnitReport)
  /-- CVV_GENERATE (R310): Computes a static card verification value. Operands: in-flight slot of the item and what its units report -/
  | cvvGenerate (slot : Nat) (units : UnitReport)
  /-- CVV_VERIFY (R310): Verifies a static card verification value. Operands: in-flight slot of the item and what its units report -/
  | cvvVerify (slot : Nat) (units : UnitReport)
  /-- DCVV_GENERATE (R312): Computes a dynamic card verification value. Operands: in-flight slot of the item and what its units report -/
  | dcvvGenerate (slot : Nat) (units : UnitReport)
  /-- DCVV_VERIFY (R312): Verifies a dynamic card verification value. Operands: in-flight slot of the item and what its units report -/
  | dcvvVerify (slot : Nat) (units : UnitReport)
  /-- EMV_MK_DERIVE (R317): Derives a card master key as an ingot or a TR-31 block. Operands: in-flight slot of the item and what its units report -/
  | emvMkDerive (slot : Nat) (units : UnitReport)
  /-- EMV_ARQC_VERIFY (R318): Checks an ARQC and may return an ARPC. Operands: in-flight slot of the item and what its units report -/
  | emvArqcVerify (slot : Nat) (units : UnitReport)
  /-- EMV_SCRIPT_MAC (R319): Computes an issuer script MAC. Operands: in-flight slot of the item and what its units report -/
  | emvScriptMac (slot : Nat) (units : UnitReport)
  /-- EMV_SCRIPT_ENCRYPT (R320): Enciphers issuer script data or an offline PIN block. Operands: in-flight slot of the item and what its units report -/
  | emvScriptEncrypt (slot : Nat) (units : UnitReport)
  /-- EMV_CERT_SIGN (R321): Builds and signs an EMV issuer or ICC public key certificate. Operands: in-flight slot of the item -/
  | emvCertSign (slot : Nat)
  /-- DATA_ENCRYPT (R334): Encrypts data in ECB, CBC, CTR or GCM, writing output progressively. Operands: in-flight slot of the item and what its units report -/
  | dataEncrypt (slot : Nat) (units : UnitReport)
  /-- DATA_DECRYPT (R334): Decrypts data in ECB, CBC, CTR or GCM. Operands: in-flight slot of the item and what its units report -/
  | dataDecrypt (slot : Nat) (units : UnitReport)
  /-- P2PE_DECRYPT (R337): Decrypts terminal data under a DUKPT data key. Operands: in-flight slot of the item and what its units report -/
  | p2peDecrypt (slot : Nat) (units : UnitReport)
  /-- MAC_GENERATE (R340): Computes a MAC selected by the key usage. Operands: in-flight slot of the item and what its units report -/
  | macGenerate (slot : Nat) (units : UnitReport)
  /-- MAC_VERIFY (R340): Verifies a MAC selected by the key usage. Operands: in-flight slot of the item and what its units report -/
  | macVerify (slot : Nat) (units : UnitReport)
  /-- BLOCK_RAW (R338): Enciphers or deciphers one block with key A. Operands: in-flight slot of the item and what its units report -/
  | blockRaw (slot : Nat) (units : UnitReport)
  /-- DIGEST (R341): Hashes the input on the cluster DGU. Operands: in-flight slot of the item and what its units report -/
  | digest (slot : Nat) (units : UnitReport)
  /-- HMAC_GENERATE (R344): Computes an HMAC with an ingot or a guard key slot. Operands: in-flight slot of the item and what its units report -/
  | hmacGenerate (slot : Nat) (units : UnitReport)
  /-- HMAC_VERIFY (R344): Verifies an HMAC with an ingot or a guard key slot. Operands: in-flight slot of the item and what its units report -/
  | hmacVerify (slot : Nat) (units : UnitReport)
  /-- FF1_TOKENIZE (R345): Tokenizes numerals with FF1. Operands: in-flight slot of the item and what its units report -/
  | ff1Tokenize (slot : Nat) (units : UnitReport)
  /-- FF1_DETOKENIZE (R345): Inverts FF1 tokenization. Operands: in-flight slot of the item and what its units report -/
  | ff1Detokenize (slot : Nat) (units : UnitReport)
  /-- RANDOM (R347): Returns device DRBG output, optionally reseeding first. Operands: in-flight slot of the item and what its units report -/
  | random (slot : Nat) (units : UnitReport)
  /-- SLICE_CREATE (R383): Creates a tenant slice record with a new tenant wrap key. Operands: in-flight slot of the item -/
  | sliceCreate (slot : Nat)
  /-- SLICE_ATTACH (R377): Binds a slice to a PASID with its quotas, vectors and counted-key range. Operands: in-flight slot of the item -/
  | sliceAttach (slot : Nat)
  /-- SLICE_DETACH (R378): Detaches one slice by the PERST_N sequence applied to it alone. Operands: in-flight slot of the item -/
  | sliceDetach (slot : Nat)
  /-- SLICE_DELETE (R379): Drains and erases a slice. Operands: in-flight slot of the item -/
  | sliceDelete (slot : Nat)
  /-- SLICE_GENERATION (R212): Raises a slice's generation, revoking older ingots and tickets. Operands: in-flight slot of the item -/
  | sliceGeneration (slot : Nat)
  /-- SLICE_FREEZE (R386): Drains a slice for migration and makes it FROZEN. Operands: in-flight slot of the item -/
  | sliceFreeze (slot : Nat)
  /-- SLICE_OFFER (R387): Reserves a slice number on the destination and returns a signed offer. Operands: in-flight slot of the item -/
  | sliceOffer (slot : Nat)
  /-- SLICE_SAVE (R388): Checks an offer and emits the encrypted slice image. Operands: in-flight slot of the item -/
  | sliceSave (slot : Nat)
  /-- SLICE_RESTORE (R389): Checks and installs a slice image and returns a receipt. Operands: in-flight slot of the item -/
  | sliceRestore (slot : Nat)
  /-- SLICE_DISCARD (R390): Erases the source slice against a receipt and returns a release certificate. Operands: in-flight slot of the item -/
  | sliceDiscard (slot : Nat)
  /-- SLICE_ACTIVATE (R391): Activates a restored slice on a release certificate. Operands: in-flight slot of the item -/
  | sliceActivate (slot : Nat)
  /-- SLICE_THAW (R392): Returns a FROZEN or SAVED slice to ACTIVE on its own package. Operands: in-flight slot of the item -/
  | sliceThaw (slot : Nat)
  /-- SLICE_MIRROR (R397): Names or removes a mirror peer for a slice and sends its record set. Operands: in-flight slot of the item and the peer serial it names, if any -/
  | sliceMirror (slot : Nat) (peer : Option Bytes)
  /-- MIRROR_TAKEOVER (R400): Makes a mirror copy ACTIVE after twice the lease without owner flits. Operands: in-flight slot of the item -/
  | mirrorTakeover (slot : Nat)
  /-- SLICE_UNFENCE (R401): Returns a FENCED slice to ACTIVE when the mirror reports the same epoch. Operands: in-flight slot of the item -/
  | sliceUnfence (slot : Nat)
  /-- QUORUM_OPEN (R519): Opens a quorum session for one ceremony class. Operands: in-flight slot of the item -/
  | quorumOpen (slot : Nat)
  /-- QUORUM_CLOSE (R522): Ends the open quorum session. Operands: in-flight slot of the item -/
  | quorumClose (slot : Nat)
  /-- DOMAIN_CREATE (R526): Moves PROVISIONED to DEPLOYED, or creates and shares a new domain root onto issued cards. Operands: in-flight slot of the item; the second evaluations of quorum and token, where they differ -/
  | domainCreate (slot : Nat) (second token : Option Nat)
  /-- DOMAIN_JOIN (R527): Rebuilds an existing domain root from admitted shares onto this device. Operands: in-flight slot of the item; the second evaluations of quorum and token, where they differ -/
  | domainJoin (slot : Nat) (second token : Option Nat)
  /-- DOMAIN_RESTORE (R528): Rebuilds the root of a QUENCHED device from custodian shares. Operands: in-flight slot of the item; the second evaluation of the quorum, where it differs -/
  | domainRestore (slot : Nat) (second : Option Nat)
  /-- UNLOCK (R483): Releases LOCK when every LOCK or QUENCH source is inactive. Operands: in-flight slot of the item; the second evaluations of quorum and release, where they differ -/
  | unlock (slot : Nat) (second release : Option Nat)
  /-- LIFECYCLE (R530): Runs a DEPLOYED to RETURNED or SCRAPPED transition under quorum. Operands: in-flight slot of the item; the second evaluations of quorum and token, where they differ -/
  | lifecycle (slot : Nat) (second token : Option Nat)
  /-- CUSTODIAN_ENROL (R529): Adds, recognises, revokes or reshares custodians. Operands: in-flight slot of the item; the second evaluation of the quorum, where it differs -/
  | custodianEnrol (slot : Nat) (second : Option Nat)
  /-- CALENDAR_SET (R441): Sets the RTC by ceremony and shifts lockout expiries by the step. Operands: in-flight slot of the item; the second evaluation of the quorum, where it differs -/
  | calendarSet (slot : Nat) (second : Option Nat)
  /-- PATTERN_KEY_ENROL (R531): Enrols a customer pattern key digest and may blow an epoch bit. Operands: in-flight slot of the item; the second evaluation of the quorum, where it differs -/
  | patternKeyEnrol (slot : Nat) (second : Option Nat)
  /-- LOG_CLEAR (R463): Releases acknowledged heat-log records and writes CLEARED. Operands: in-flight slot of the item; the second evaluation of the quorum, where it differs -/
  | logClear (slot : Nat) (second : Option Nat)
  /-- ARCHIVE_PROTECT (R557): Sets permanent write protection on a sealed archive card. Operands: in-flight slot of the item; the second evaluation of the quorum, where it differs -/
  | archiveProtect (slot : Nat) (second : Option Nat)
  /-- LOG_READ_SLICE (R461): Returns heat-log records of the submitting slice. Operands: in-flight slot of the item and what its units report -/
  | logReadSlice (slot : Nat) (units : UnitReport)
  /-- LOG_EXPORT (R461): Exports sealed heat-log records with a signed trailer. Operands: in-flight slot of the item -/
  | logExport (slot : Nat)
  /-- LOG_ACK (R462): Acknowledges an export trailer and advances ACKED. Operands: in-flight slot of the item -/
  | logAck (slot : Nat)
  /-- PELYN_ATTEST (R368): Issues a signed Pelyn statement. Operands: in-flight slot, the ingots read for the claimed references by address, and what its units report -/
  | pelynAttest (slot : Nat) (claims : List Bytes) (units : UnitReport)
  /-- KEY_ORIGIN (R370): Writes the key-origin statement for an asymmetric ingot. Operands: in-flight slot of the item and what its units report -/
  | keyOrigin (slot : Nat) (units : UnitReport)
  /-- IDENTITY_CHAIN (R364): Returns the device's three certificates. Operands: in-flight slot of the item and what its units report -/
  | identityChain (slot : Nat) (units : UnitReport)
  /-- MEAS_EXTEND (R362): Extends a customer measurement register. Operands: in-flight slot of the item -/
  | measExtend (slot : Nat)
  /-- PCIE_LINK_TRAINED (R54): The PCIe link finishes training after the training anchor; configuration requests are answered and WIDTH_LOW is set or cleared by the trained width. Operands: trained lanes and speed code -/
  | pcieLinkTrained (width speed : Nat)
  /-- COMPLETION_TIMEOUT (R101): A descriptor, input, ingot or operand read gets no completion within the completion timeout and becomes a DMA read fault. Operands: a descriptor read of queue id, or read which (0 input, 1 key A, 2 key B, 3 an operand) of the item in slot id -/
  | completionTimeout (descriptor : Bool) (id which : Nat)
  /-- BNU_KEYGEN_LONG (R198): An RSA key generation still running 1 s after its start makes the cluster write BNU_KEYGEN_LONG while the search continues. Operands: in-flight slot of the item -/
  | bnuKeygenLong (slot : Nat)
  /-- FLASH_OPERATION_COMPLETE (R89): A status read during PATTERN_STAGE finds write-in-progress clear after a block erase or page program, and the next erase, program or read-back proceeds. Operands: what the slot reads as after its last page, where it is not the image programmed -/
  | flashOperationComplete (readBack : Option FlashSlot)
  /-- FLASH_TIMEOUT (R89): A block erase or page program outlasts ERASE_TIMEOUT or PROGRAM_TIMEOUT and PATTERN_STAGE fails with FLASH_FAILED. -/
  | flashTimeout
  /-- LC_TRANSITION_DONE (R496): A running life-cycle transition finishes its erase, blows the target position, verifies it, writes LC_TRANSITION_DONE and performs the internal cold reset. Operands: data the transition installs and the second outcome of step 5 where it differs -/
  | lcTransitionDone (installed : Installed) (second : Option Nat)
  /-- NGUETH_PORT_SHUTDOWN_COMPLETE (R396): A Ngueth port's shutdown sequence completes, leaving the port DISABLED or starting a held enable from WAKE_PENDING. Operands: the port -/
  | nguethPortShutdownComplete (port : Nat)
  /-- EXT_TAMP_FILTER_EXPIRE (R470): On battery, an EXT_TAMP input holds its level for its filter time after the edge, and the source registers and latches its alarm. Operands: the EXT_TAMP input 0–3 -/
  | extTampFilterExpire (input : Nat)
  /-- SLOT_CHATTER_END (R536): A slot in CHATTER sees its presence input read absent for 1 s without a change and leaves CHATTER to accept insertions again. Operands: 0 slot A, 1 slot B, 2 SD slot -/
  | slotChatterEnd (slot : Nat)
  /-- KEYPAD_KEY_RELEASE (R516): A key reads released for 10 ms and is released, which ends a stuck state or a chord. Operands: 4 x row + column -/
  | keypadKeyRelease (key : Nat)
  /-- RTC_HOLD (R438): The RTC reaches 2255-12-31 23:59:59, holds at that value and clears CAL_SET and CAL_SOURCE. -/
  | rtcHold
  /-- PLL_LOCK_LOSS (R580): A region's core, block or big-number PLL loses lock, and RGN_PLL lock bits and LOCK_LOSSES change. Operands: region G and the PLL: 0 core, 1 block, 2 big-number -/
  | pllLockLoss (region pll : Nat)
  deriving DecidableEq, Repr

end Sys2Proof
end

