-- ==== Sys2Proof/Decode.lean ====
section
/-!
DEFINITION. The command a word of the table spells. The table of this block gives no row any bits (a command is
an access or an event with operands, not a word), so no word spells a command.
-/
namespace Sys2Proof

/-- The command spelled by the low `nbits` bits of `w`, for the rows to which the table gives bits: there are
none (assumption log 9). -/
def decodeTableWord (_nbits _w : Nat) : Option Instr := none

end Sys2Proof
end

