-- ==== Sys2Proof/Machine/Bytes.lean ====
section
/-!
DEFINITION. Byte strings: integer fields in either byte order, slices, padding, exclusive or.
Integer fields are little-endian unless a rule says otherwise (R9).
-/
namespace Sys2Proof.Machine

/-- `n` bytes of `v`, least significant first (R9). -/
def le : Nat → Nat → Bytes
  | 0, _ => []
  | n + 1, v => BitVec.ofNat 8 v :: le n (v / 256)

/-- `n` bytes of `v`, most significant first. -/
def be (n v : Nat) : Bytes := (le n v).reverse

/-- The number a little-endian byte string holds. -/
def ofLE : Bytes → Nat
  | [] => 0
  | b :: bs => b.toNat + 256 * ofLE bs

/-- The number a big-endian byte string holds. -/
def ofBE (b : Bytes) : Nat := ofLE b.reverse

/-- `n` zero bytes. -/
def zeros (n : Nat) : Bytes := List.replicate n 0

/-- Bytes `off` to `off + n − 1` of a string; bytes beyond its end read 0. -/
def sub (b : Bytes) (off n : Nat) : Bytes :=
  let t := (b.drop off).take n
  t ++ zeros (n - t.length)

/-- The little-endian field of `n` bytes at offset `off`. -/
def fld (b : Bytes) (off n : Nat) : Nat := ofLE (sub b off n)

/-- Byte `off` of a string as a number. -/
def byteAt (b : Bytes) (off : Nat) : Nat := fld b off 1

/-- Bit `i` of a number. -/
def bit (v i : Nat) : Bool := v.testBit i

/-- A Boolean as a bit. -/
def b2n (b : Bool) : Nat := if b then 1 else 0

/-- Bits `lo` to `lo + w − 1` of a number. -/
def bits (v lo w : Nat) : Nat := v / 2 ^ lo % 2 ^ w

/-- Byte-wise exclusive or, over the shorter length. -/
def xorB (a b : Bytes) : Bytes := List.zipWith (· ^^^ ·) a b

/-- A string cut or zero-filled to exactly `n` bytes. -/
def fit (n : Nat) (b : Bytes) : Bytes := sub b 0 n

/-- A string split into blocks of `n` bytes (`fuel` bounds their number); the last may be short. -/
def chunks (n : Nat) : Nat → Bytes → List Bytes
  | 0, _ => []
  | fuel + 1, b =>
    match b with
    | [] => []
    | _ => b.take n :: chunks n fuel (b.drop n)

/-- The blocks of `n` bytes of a whole string. -/
def blocksOf (n : Nat) (b : Bytes) : List Bytes := chunks n (b.length + 1) b

/-- A mask of the numbers of a list, bit i for element i. -/
def maskOf (l : List Nat) : Nat := l.eraseDups.foldl (fun m i => m ||| 2 ^ i) 0

/-- The numbers below `n` whose bit is set in a mask. -/
def ofMask (n m : Nat) : List Nat := (List.range n).filter (fun i => m.testBit i)

/-- A counter of `w` bits that wraps. -/
def wrap (w v : Nat) : Nat := v % 2 ^ w

/-- A counter of `w` bits that saturates. -/
def sat (w v : Nat) : Nat := min v (2 ^ w - 1)

/-- ⌈a / b⌉. -/
def ceilDiv (a b : Nat) : Nat := (a + b - 1) / b

/-- The value listed for a key in an association list, or a default. -/
def lookupD (l : List (Nat × Nat)) (k d : Nat) : Nat := (l.lookup k).getD d

/-- An association list with one key's value replaced. -/
def assocSet {α β : Type} [BEq α] (l : List (α × β)) (k : α) (v : β) : List (α × β) :=
  (k, v) :: l.filter (fun p => !(p.1 == k))

/-- An association list without one key. -/
def assocDel {α β : Type} [BEq α] (l : List (α × β)) (k : α) : List (α × β) :=
  l.filter (fun p => !(p.1 == k))

/-- Insert by a key, after every element of the same key. -/
def insertBy {α : Type} (key : α → Nat) (x : α) : List α → List α
  | [] => [x]
  | y :: r => if key x < key y then x :: y :: r else y :: insertBy key x r

/-- A list in ascending order of a key, equal keys keeping their order. -/
def sortBy {α : Type} (key : α → Nat) (l : List α) : List α := l.foldl (fun acc x => insertBy key x acc) []

/-- ASCII text as bytes. -/
def ascii (t : String) : Bytes := t.toList.map (fun c => BitVec.ofNat 8 c.toNat)

/-- A cyclic redundancy check of `w` bits over a byte string, most significant bit first, from 0, not reflected. -/
def crcLeft (w poly : Nat) (b : Bytes) : Nat :=
  b.foldl (fun (c : Nat) x => (List.range 8).foldl (fun (c : Nat) _ =>
    if c.testBit (w - 1) then (2 * c % 2 ^ w) ^^^ poly else 2 * c % 2 ^ w) (c ^^^ (x.toNat * 2 ^ (w - 8)))) 0

/-- The largest r with r^k ≤ n, by `fuel` bits from the top. -/
def iroot (k n : Nat) : Nat → Nat → Nat
  | 0, r => r
  | fuel + 1, r =>
    let r' := r + 2 ^ fuel
    if r' ^ k ≤ n then iroot k n fuel r' else iroot k n fuel r

/-- Integer square root. -/
def isqrt (n : Nat) : Nat := iroot 2 n (Nat.log2 n / 2 + 1) 0

end Sys2Proof.Machine
end

