-- ==== Sys2Proof/Machine/Aes.lean ====
section
/-!
DEFINITION. AES (FIPS 197) and the block modes and MACs built on a 16-byte block: CMAC (SP 800-38B),
GCM (SP 800-38D), key wrap with padding (SP 800-38F). The manual names the standards and not their
tables; the tables are PRESUMED from the standards (assumption log 4).
-/
namespace Sys2Proof.Machine

/-- Multiplication by x in GF(2^8) modulo 0x11B. -/
def xtime (a : Byte) : Byte := if a.msb then (a <<< 1) ^^^ 0x1B else a <<< 1

/-- Product in GF(2^8) modulo 0x11B. -/
def gmul (a b : Byte) : Byte :=
  ((List.range 8).foldl
    (fun (p : Byte × Byte) i => (if b.getLsbD i then p.1 ^^^ p.2 else p.1, xtime p.2)) (0, a)).1

/-- Inverse in GF(2^8), 0 for 0: a^254. -/
def ginv (a : Byte) : Byte :=
  let a2 := gmul a a; let a4 := gmul a2 a2; let a8 := gmul a4 a4; let a16 := gmul a8 a8
  let a32 := gmul a16 a16; let a64 := gmul a32 a32; let a128 := gmul a64 a64
  gmul a128 (gmul a64 (gmul a32 (gmul a16 (gmul a8 (gmul a4 a2)))))

/-- The AES S-box: byte i is S(i), byte 0 the least significant. -/
def sboxRom : Nat :=
  0x16bb54b00f2d99416842e6bf0d89a18cdf2855cee9871e9b948ed9691198f8e19e1dc186b95735610ef6034866b53e708a8bbd4b1f74dde8c6b4a61c2e2578ba08ae7a65eaf4566ca94ed58d6d37c8e779e4959162acd3c25c2406490a3a32e0db0b5ede14b8ee4688902a22dc4f816073195d643d7ea7c41744975fec130ccdd2f3ff1021dab6bcf5389d928f40a351a89f3c507f02f94585334d43fbaaefd0cf584c4a39becb6a5bb1fc20ed00d153842fe329b3d63b52a05a6e1b1a2c830975b227ebe28012079a059618c323c7041531d871f1e5a534ccf73f362693fdb7c072a49cafa2d4adf04759fa7dc982ca76abd7fe2b670130c56f6bf27b777c63

/-- The inverse S-box, laid out alike. -/
def invSboxRom : Nat :=
  0x7d0c2155631469e126d677ba7e042b17619953833cbbebc8b0f52aae4d3be0a0ef9cc9939f7ae52d0d4ab519a97f51605fec8027591012b131c7078833a8dd1ff45acd78fec0db9a2079d2c64b3e56fc1bbe18aa0e62b76f89c5291d711af1476edf751ce837f9e28535ade72274ac9673e6b4f0cecff297eadc674f4111913a6b8a130103bdafc1020f3fca8f1e2cd00645b3b80558e4f70ad3bc8c00abd890849d8da75746155edab9edfd5048706c92b6655dcc5ca4d41698688664f6f87225d18b6d49a25b76b224d92866a12e084ec3fa420b954cee3d23c2a632947b54cbe9dec444438e3487ff2f9b8239e37cfbd7f3819ea340bf38a53630d56a0952

/-- A byte through an S-box. -/
def romAt (rom a : Nat) : Nat := rom >>> (8 * a) % 256

/-- One 32-bit word through the S-box. -/
def subWord (w : Nat) : Nat :=
  romAt sboxRom (w >>> 24 % 256) <<< 24 + romAt sboxRom (w >>> 16 % 256) <<< 16 + romAt sboxRom (w >>> 8 % 256) <<< 8 +
    romAt sboxRom (w % 256)

/-- One word of the key schedule after the previous words (newest first). -/
def aesNextWord (nk i : Nat) (ws : List Nat) (rcon : Nat) : Nat :=
  let prev := ws.headD 0
  let old := ws.getD (nk - 1) 0
  if i % nk = 0 then old ^^^ subWord (prev <<< 8 % 2 ^ 32 + prev >>> 24) ^^^ rcon <<< 24
  else if nk > 6 ∧ i % nk = 4 then old ^^^ subWord prev
  else old ^^^ prev

/-- Four words of the schedule as one round key. -/
def roundKeys : List Nat → List Nat
  | a :: b :: c :: d :: r => (a <<< 96 + b <<< 64 + c <<< 32 + d) :: roundKeys r
  | _ => []

/-- The round keys of a key of 16, 24 or 32 bytes, as 128-bit numbers. -/
def aesExpand (key : Bytes) : List Nat :=
  let nk := key.length / 4
  let first := ((blocksOf 4 key).map ofBE).reverse
  let r := (List.range (4 * (nk + 7) - nk)).foldl
    (fun (p : List Nat × Nat) j =>
      (aesNextWord nk (nk + j) p.1 p.2 :: p.1,
        if (nk + j) % nk = 0 then (if p.2 < 128 then 2 * p.2 else (2 * p.2) ^^^ 0x11B) else p.2)) (first, 1)
  roundKeys r.1.reverse

/-- SubBytes and ShiftRows of a block, byte 0 the most significant; `inv` undoes them with the inverse S-box. -/
def subShift (rom : Nat) (inv : Bool) (s : Nat) : Nat :=
  (List.range 16).foldl (fun acc i =>
    let c := if inv then i / 4 + 4 - i % 4 else i / 4 + i % 4
    acc * 256 + romAt rom (s >>> (8 * (15 - (i % 4 + 4 * (c % 4)))) % 256)) 0

/-- Every byte of a block times x in GF(2^8). -/
def xtimes (s : Nat) : Nat :=
  ((s &&& 0x7F7F7F7F7F7F7F7F7F7F7F7F7F7F7F7F) <<< 1) ^^^ (((s >>> 7) &&& 0x01010101010101010101010101010101) * 0x1B)

/-- Every column of a block rotated up by one byte. -/
def rot1 (s : Nat) : Nat :=
  ((s <<< 8) &&& 0xFFFFFF00FFFFFF00FFFFFF00FFFFFF00) ||| ((s >>> 24) &&& 0x000000FF000000FF000000FF000000FF)

/-- Every column of a block rotated up by two bytes. -/
def rot2 (s : Nat) : Nat :=
  ((s <<< 16) &&& 0xFFFF0000FFFF0000FFFF0000FFFF0000) ||| ((s >>> 16) &&& 0x0000FFFF0000FFFF0000FFFF0000FFFF)

/-- MixColumns: 2a + 3b + c + d in every row, from 2(a + b) + b + c + d. -/
def mixColumns (s : Nat) : Nat :=
  let r := rot1 s
  xtimes (s ^^^ r) ^^^ r ^^^ rot2 s ^^^ rot2 r

/-- MixColumns undone: 4(a + c) is added to every byte first. -/
def invMixColumns (s : Nat) : Nat := mixColumns (s ^^^ xtimes (xtimes (s ^^^ rot2 s)))

/-- AES encryption of one 16-byte block under an expanded key. -/
def aesEncBlock (rk : List Nat) (b : Bytes) : Bytes :=
  match rk with
  | [] => b
  | k0 :: rest =>
    let s := rest.dropLast.foldl (fun s k => mixColumns (subShift sboxRom false s) ^^^ k) (ofBE b ^^^ k0)
    be 16 (subShift sboxRom false s ^^^ rest.getLastD 0)

/-- AES decryption of one 16-byte block under an expanded key. -/
def aesDecBlock (rk : List Nat) (b : Bytes) : Bytes :=
  match rk.reverse with
  | [] => b
  | kn :: rest =>
    let s := rest.dropLast.foldl (fun s k => subShift invSboxRom true (invMixColumns (s ^^^ k)))
      (subShift invSboxRom true (ofBE b ^^^ kn))
    be 16 (s ^^^ rest.getLastD 0)

/-- AES of one block under a key of 16, 24 or 32 bytes. -/
def aesEnc (key b : Bytes) : Bytes := aesEncBlock (aesExpand key) b

/-- AES inverse of one block. -/
def aesDec (key b : Bytes) : Bytes := aesDecBlock (aesExpand key) b

/-! ## Modes over a block function -/

/-- CBC encryption of whole blocks with a given block function. -/
def cbcEncWith (enc : Bytes → Bytes) (iv : Bytes) (bs : List Bytes) : Bytes :=
  (bs.foldl (fun (p : Bytes × Bytes) b => let c := enc (xorB b p.1); (c, p.2 ++ c)) (iv, [])).2

/-- CBC decryption of whole blocks with a given inverse block function. -/
def cbcDecWith (dec : Bytes → Bytes) (iv : Bytes) (bs : List Bytes) : Bytes :=
  (bs.foldl (fun (p : Bytes × Bytes) c => (c, p.2 ++ xorB (dec c) p.1)) (iv, [])).2

/-- CTR keystream application: the counter block counts up as one big-endian number. -/
def ctrWith (enc : Bytes → Bytes) (n : Nat) (iv : Bytes) (bs : List Bytes) : Bytes :=
  (bs.foldl (fun (p : Nat × Bytes) b => (p.1 + 1, p.2 ++ xorB b (enc (be n p.1)))) (ofBE iv, [])).2

/-- The CMAC subkeys of a block function with blocks of `n` bytes (8 or 16): K1 and K2. -/
def cmacSubkeys (enc : Bytes → Bytes) (n : Nat) : Bytes × Bytes :=
  let rb := if n = 16 then 0x87 else 0x1B
  let dbl := fun (v : Nat) => let d := 2 * v
    if d ≥ 2 ^ (8 * n) then (d - 2 ^ (8 * n)) ^^^ rb else d
  let l := ofBE (enc (zeros n))
  (be n (dbl l), be n (dbl (dbl l)))

/-- CMAC (SP 800-38B) of a message over a block function with blocks of `n` bytes. -/
def cmacWith (enc : Bytes → Bytes) (n : Nat) (m : Bytes) : Bytes :=
  let ks := cmacSubkeys enc n
  let bs := blocksOf n m
  let whole := m.length % n = 0 ∧ m ≠ []
  let last := bs.getLastD []
  let last' := if whole then xorB last ks.1
    else xorB (fit n (last ++ [0x80])) ks.2
  enc (xorB (bs.dropLast.foldl (fun c b => enc (xorB c b)) (zeros n))
    last')

/-- CMAC-AES under a key. -/
def cmacAes (key m : Bytes) : Bytes := cmacWith (aesEncBlock (aesExpand key)) 16 m

/-- The product of GCM's field, bit 0 of the standard being the most significant bit. -/
def ghashMul (x y : Nat) : Nat :=
  ((List.range 128).foldl
    (fun (p : Nat × Nat) i =>
      (if x.testBit (127 - i) then p.1 ^^^ p.2 else p.1,
       if p.2.testBit 0 then (p.2 / 2) ^^^ (0xE1 * 2 ^ 120) else p.2 / 2)) (0, y)).1

/-- GHASH of whole 16-byte blocks. -/
def ghash (h : Nat) (m : Bytes) : Nat :=
  (blocksOf 16 m).foldl (fun a b => ghashMul (a ^^^ ofBE (fit 16 b)) h) 0

/-- Zero-fill to a multiple of 16 bytes. -/
def pad16 (b : Bytes) : Bytes := b ++ zeros ((16 - b.length % 16) % 16)

/-- AES-GCM (SP 800-38D) encryption with a 96-bit IV: ciphertext and 16-byte tag. -/
def gcmEnc (key iv aad p : Bytes) : Bytes × Bytes :=
  let rk := aesExpand key
  let enc := aesEncBlock rk
  let h := ofBE (enc (zeros 16))
  let j0 := iv ++ [0, 0, 0, 1]
  let c := ((blocksOf 16 p).zipIdx.map
    (fun q => xorB q.1 (enc (iv ++ be 4 (q.2 + 2))))).flatten
  let s := ghash h (pad16 aad ++ pad16 c ++ be 8 (8 * aad.length) ++ be 8 (8 * c.length))
  (c, xorB (be 16 s) (enc j0))

/-- AES-GCM decryption: the plaintext, if the tag of 12 to 16 bytes agrees. -/
def gcmDec (key iv aad c tag : Bytes) : Option Bytes :=
  let rk := aesExpand key
  let enc := aesEncBlock rk
  let h := ofBE (enc (zeros 16))
  let s := ghash h (pad16 aad ++ pad16 c ++ be 8 (8 * aad.length) ++ be 8 (8 * c.length))
  if 12 ≤ tag.length ∧ (xorB (be 16 s) (enc (iv ++ [0, 0, 0, 1]))).take tag.length = tag then
    some ((blocksOf 16 c).zipIdx.map (fun q => xorB q.1 (enc (iv ++ be 4 (q.2 + 2))))).flatten
  else none

/-- One step of the wrap function W of SP 800-38F. -/
def wStep (enc : Bytes → Bytes) (t : Nat) (p : Bytes × List Bytes) : Bytes × List Bytes :=
  match p.2 with
  | [] => p
  | r :: rest =>
    let b := enc (p.1 ++ r)
    (xorB (b.take 8) (be 8 t), rest ++ [b.drop 8])

/-- AES key wrap with padding (SP 800-38F, KWP). -/
def kwpWrap (kek p : Bytes) : Bytes :=
  let enc := aesEncBlock (aesExpand kek)
  let padded := p ++ zeros ((8 - p.length % 8) % 8)
  let icv : Bytes := [0xA6, 0x59, 0x59, 0xA6] ++ be 4 p.length
  if padded.length = 8 then enc (icv ++ padded)
  else
    let rs := blocksOf 8 padded
    let n := rs.length
    let r := (List.range (6 * n)).foldl (fun p t => wStep enc (t + 1) p) (icv, rs)
    r.1 ++ r.2.flatten

/-- AES key unwrap with padding; none when the check value does not verify. -/
def kwpUnwrap (kek c : Bytes) : Option Bytes :=
  if c.length % 8 ≠ 0 ∨ c.length < 16 then none else
  let dec := aesDecBlock (aesExpand kek)
  let r : Bytes × Bytes :=
    if c.length = 16 then let b := dec c; (b.take 8, b.drop 8)
    else
      let rs := (blocksOf 8 (c.drop 8))
      let n := rs.length
      let q := (List.range (6 * n)).foldl
        (fun (p : Bytes × List Bytes) j =>
          let t := 6 * n - j
          let last := p.2.getLastD []
          let b := dec (xorB p.1 (be 8 t) ++ last)
          (b.take 8, b.drop 8 :: p.2.dropLast)) (c.take 8, rs)
      (q.1, q.2.flatten)
  let n := ofBE (r.1.drop 4)
  if r.1.take 4 = [0xA6, 0x59, 0x59, 0xA6] ∧ n ≤ r.2.length ∧ r.2.length < n + 8
      ∧ (r.2.drop n).all (· == 0) then some (r.2.take n) else none

end Sys2Proof.Machine
end

