-- ==== Sys2Proof/Config.lean ====
section
/-!
DEFINITION. What the manual leaves to a particular part or leaves open: the guard-ROM constants, and the
free values (opaque, so that no proof can see what they are).
-/
namespace Sys2Proof

/-- What a TR-34 token carries (R279–R282); its layout as octets is that of ANSI X9 TR-34-2019, which the manual
names and does not give (assumption log 10). -/
structure TokenParts where
  /-- 0 KRD credential, 1 key token, 2 unbind, 3 rebind. -/
  kind : Nat := 0
  /-- The certificate it carries: the KRD's in a credential, the new KDH's in a rebind. -/
  cert : Bytes := []
  /-- SHA-256 of the certificate of the other party it names. -/
  peer : Bytes := []
  /-- The signing time, in seconds since 2000. -/
  time : Option Nat := none
  /-- The KRD's random number. -/
  nonce : Bytes := []
  /-- Content encryption: 1 AES-128-CBC, 2 TDES-CBC, 3 AES-256-CBC, another number where it is another. -/
  cek : Nat := 0
  /-- Key transport is RSAES-OAEP with SHA-256 and MGF1-SHA-256. -/
  oaep : Bool := true
  /-- The CEK under key transport. -/
  encKey : Bytes := []
  /-- The CBC initial value. -/
  iv : Bytes := []
  /-- The enciphered key block. -/
  cipher : Bytes := []
  /-- The key block header among the signed attributes. -/
  header : Bytes := []
  /-- The signature. -/
  signature : Bytes := []
  deriving DecidableEq, Repr, Inhabited

namespace Config

/-- Random output: entropy source, device DRBG and BNU DRBG bytes, by the model's draw counter (R355,
R179). Free value: the manual gives random numbers no value (assumption log 5). -/
opaque random : Nat → Byte

/-- The substitute test root in guard ROM, 256 bits (R210); its value is not given (assumption log 5). -/
opaque testRoot : Bytes

/-- The digest of token T0 in guard ROM (R492); its value is not given (assumption log 5). -/
opaque t0Digest : Bytes

/-- The digest of the vendor test pattern key in guard ROM (R79); its value is not given (assumption log 5). -/
opaque testPatternDigest : Bytes

/-- The wrap key of slice 0, by the domain root in use: the manual gives slice 0 no slice record (R212) and
states no source for the wrap key its ingots are under. Free value (assumption log 7). -/
opaque slice0WrapKey : Bytes → Bytes

/-- Bytes the manual calls undefined, by the model's draw counter: the output of a data verb whose output range
overlaps its input (R331). Free value (assumption log 12). -/
opaque undefinedByte : Nat → Byte

/-- Whether padding method 3 adds a block of zeros after the length block of empty data; the manual does not say.
Free value (assumption log 12). -/
opaque emptyPad3 : Bool

/-- The to-be-signed part of a device-issued certificate (R363): 0 for the attestation key, 1 for the compatibility
key; serial, public point and notBefore. The manual fixes some of its fields and not its octets (assumption
log 12). -/
opaque certificate : Nat → Bytes → Bytes → Nat → Bytes

/-- The parts of a token, none where it does not parse (assumption log 10). -/
opaque tokenParse : Bytes → Option TokenParts

/-- A token as octets (assumption log 10). -/
opaque tokenEncode : TokenParts → Bytes

/-- The octets a token's signature covers (assumption log 10). -/
opaque tokenSigned : TokenParts → Bytes

/-- The key block inside a token's envelope: its header and its key, as octets (assumption log 10). -/
opaque tokenContent : Bytes → Bytes → Bytes

/-- Header and key of a deciphered key block, none where it does not parse (assumption log 10). -/
opaque tokenOpen : Bytes → Option (Bytes × Bytes)

/-- FIRST and LAST of an export without records, by the FIRST asked for; the manual does not say. Free value
(assumption log 12). -/
opaque emptyExport : Nat → Nat × Nat

/-- The 288 octets that open an image's body: the 32-byte count header and the 256-byte record, whose layouts the
manual does not give (R375, R388; assumption log 13). -/
opaque imageHead : ImageHead → Bytes

/-- The same read back, none where it does not parse (assumption log 13). -/
opaque imageHeadRead : Bytes → Option ImageHead

/-- The octets of a mirror update (R397, R398; assumption log 13). -/
opaque mirrorOctets : MirrorUpdate → Bytes

/-- The octets of a handshake's attestation material (R396; assumption log 13). -/
opaque helloOctets : PeerHello → Bytes

/-- The octets of a lease summary: slice, state and epoch of each shared slice (R401; assumption log 13). -/
opaque leaseOctets : List (Nat × Nat × Nat) → Bytes

/-- The octets of a calendar flit: the RTC in µs and CAL_SET (R440; assumption log 13). -/
opaque calendarOctets : Nat → Bool → Bytes

/-- The transcript hash of a handshake, from the material of the package with the lower serial and of the other
(R396; assumption log 13). -/
opaque transcriptHash : PeerHello → PeerHello → Bytes

/-- The context of the KDF of a port's keys, from the lower and the higher serial (R396; assumption log 13). -/
opaque linkContext : Bytes → Bytes → Bytes

/-- Chunks of a progressive verb whose output writes were issued when the verb was stopped, by the model's draw counter: the
manual gives chunks no event of their own (R328, R329; assumption log 5). -/
opaque progress : Nat → Nat

/-- Generate requests a BNU command makes of its DRBG, by its code and the model's draw counter: the manual counts them
towards the reseed and gives no command a number (R179; assumption log 5). -/
opaque bnuRequests : Nat → Nat → Nat

/-- PUBLIC_EXPORT of a symmetric ingot, by its FORM: its entry makes no step 5, and the manual gives such an ingot no public
part (R277; assumption log 12). -/
opaque noPublicPart : Nat → Bytes → Bytes

/-- Flits a die link has accepted by a time, in both directions: the manual counts them and gives no row or rule that
says which traffic crosses a link (R578; assumption log 5). -/
opaque linkFlits : Nat → Nat → Nat

/-- The pointer of a capability of the configuration space to the next: the manual places none (R94; assumption log 22). -/
opaque nextCapability : Nat → Nat

/-- Whether a blinking LED is lit at a time: the manual gives its rate and no phase (R518; assumption log 5). -/
opaque blinkLit : Nat → Nat → Bool

end Config
end Sys2Proof
end

