-- ==== Sys2Proof/Machine/Records.lean ====
section
/-!
DEFINITION. The record and enumeration types the state is made of: one structure per kind of entry the
CLR-8800 keeps in a table, list or slot. Each field names the rule that gives it.
-/
namespace Sys2Proof.Machine

/-- The four stages (R44). -/
inductive StageName where
  | hold | guard | hub | full
  deriving DecidableEq, Repr

/-- DCC_ICC_STATUS.STATE (R568). -/
inductive IccState where
  | empty | present | activating | active | deactivating | activatePending | refused | chatter | disabled
  deriving DecidableEq, Repr

/-- DCC_SD_STATUS.STATE (R568). -/
inductive SdState where
  | empty | powering | initialising | ready | busy | poweringOff | powerPending | failed | disabled | chatter
  deriving DecidableEq, Repr

/-- The state of an item (R124). -/
inductive ItemState where
  | delayed | fenced | ready | running | finished
  deriving DecidableEq, Repr

/-- What runs an item (R126): a transaction core (4 × logical cluster + TC), the hub manager executor, or
the warden's short or flash context. -/
inductive Executor where
  | core (k : Nat)
  | hub
  | wardenShort
  | wardenFlash
  deriving DecidableEq, Repr

/-- How far a running item is: its input and ingots are being fetched; it is being processed; its result is
known and it waits for what `waits` names (R120, R39). -/
inductive Phase where
  | fetching | processing | waiting
  deriving DecidableEq, Repr

/-- What a result still waits for: its BNU command (R186), the signer (R365), the commit buffer (R39), the
mirror peer (R398), a slice's drain (R378, R379, R386), a ceremony's cards (R526, R529), or a resource for
which no delay-list entry was free (R147). -/
inductive Wait where
  | bnu | signer | commit | mirror | drain | cards | resource | flash
  deriving DecidableEq, Repr

/-- The uses of the delay lists (R144). -/
inductive DelayKind where
  | notBefore (slot : Nat)
  | retry (slot : Nat)
  | pinLockout (slice : Nat) (tag : Bytes)
  | quorum
  | regionIdle (g : Nat)
  deriving DecidableEq, Repr

/-- A command on the XSPI bus (R73, R75, R89). -/
inductive FlashOp where
  /-- XSPI_RESET_N driven low for 10 µs. -/
  | reset
  /-- A 1S-1S-1S read, with a 4-byte address. -/
  | read1s (cmd addr len : Nat)
  /-- A 1S-1S-1S command without data. -/
  | send1s (cmd : Nat)
  /-- A 1S-1S-1S register write of one data byte. -/
  | write1s (cmd addr data : Nat)
  /-- An 8D-8D-8D read, after the dummy cycles. -/
  | read8d (cmd dummy addr len : Nat)
  /-- The 8D-8D-8D write enable. -/
  | wren8d (cmd : Nat)
  /-- The 8D-8D-8D erase of a 64 KiB block. -/
  | erase8d (cmd addr : Nat)
  /-- The 8D-8D-8D program of a page. -/
  | program8d (cmd addr : Nat) (data : Bytes)
  /-- The 8D-8D-8D status read; status bit 0 is write-in-progress. -/
  | status8d (cmd : Nat)
  deriving DecidableEq, Repr

/-- The flash part of a pattern header: commands, dummy cycles, size and timeouts (R75). -/
structure FlashCfg where
  /-- 8 bits CFG_CMD -/
  cfgCmd : Nat := 0
  /-- 8 bits CFG_DATA -/
  cfgData : Nat := 0
  /-- 8 bits READ_DUMMY -/
  dummy : Nat := 0
  /-- 8 bits FLASH_LOG2 -/
  log2 : Nat := 0
  /-- 32 bits CFG_ADDR -/
  cfgAddr : Nat := 0
  /-- 16 bits READ_CMD_8D -/
  readCmd : Nat := 0
  /-- 16 bits PROGRAM_CMD_8D -/
  programCmd : Nat := 0
  /-- 16 bits ERASE_CMD_8D -/
  eraseCmd : Nat := 0
  /-- 16 bits STATUS_CMD_8D -/
  statusCmd : Nat := 0
  /-- 16 bits WREN_CMD_8D -/
  wrenCmd : Nat := 0
  /-- 16 bits ERASE_TIMEOUT, ms -/
  eraseMs : Nat := 0
  /-- 16 bits PROGRAM_TIMEOUT, µs -/
  programUs : Nat := 0
  deriving DecidableEq, Repr

/-- What the block drives out towards the host, the board, the cards and the other packages. -/
inductive OutEvent where
  /-- Data returned by a memory read of a BAR (R8, R97, R571). -/
  | mmioData (addr value : Nat)
  /-- Data returned by a configuration read: capability, offset in it, value (R94). -/
  | cfgData (cap offset value : Nat)
  /-- A DMA write of output, status block or completion data into host memory for a slice (R108, R113, R117). -/
  | dmaWrite (slice addr : Nat) (data : Bytes)
  /-- A DMA read of descriptors, input or ingots (R114, R120). -/
  | dmaRead (slice addr len : Nat)
  /-- A completion entry written for a queue (R111, R112). -/
  | completion (queue : Nat) (entry : Bytes)
  /-- An MSI-X message of a vector (R118). -/
  | msix (vector : Nat)
  /-- Bytes answered over SMBus, with their PEC (R68, R69). -/
  | smbus (command : Nat) (data : Bytes) (pec : Nat)
  /-- A negative acknowledgement over SMBus (R68). -/
  | smbusNack (command : Nat)
  /-- A TAP register presented for shifting out (R502). -/
  | tdo (opcode value : Nat)
  /-- A Ngueth flit sent on a port (R395). -/
  | flit (port type : Nat) (data : Bytes)
  /-- A retry requested on a die-to-die link, from a sequence number on (R27). -/
  | linkRetry (link seq : Nat)
  /-- The dual-rail ZEROISE line of a die driven: T0–T3 and H as 4 (R31). -/
  | zeroise (die : Nat)
  /-- An APDU or protocol block sent to a contact card (R513, R563). -/
  | apdu (slot : Nat) (data : Bytes)
  /-- A command, with its block, sent to the SD card (R539, R543). -/
  | sdCommand (index arg : Nat) (data : Bytes)
  /-- A command of the configuration flash (R73, R89). -/
  | flash (op : FlashOp)
  deriving DecidableEq, Repr

/-- The step of a card exchange whose answer or keypad entry is awaited (R513, R521, R526). -/
inductive XStep where
  /-- SELECT has been sent. -/
  | select
  /-- GET_INFO has been sent. -/
  | getInfo
  /-- OPEN_SM has been sent. -/
  | openSm
  /-- The PIN (or the old PIN) is awaited from the keypad. -/
  | pin
  /-- VERIFY_PIN has been sent. -/
  | verifyPin
  /-- ERASE has been sent. -/
  | erase
  /-- The new PIN is awaited from the keypad, the first time. -/
  | newPin
  /-- The new PIN is awaited again. -/
  | newPin2
  /-- SET_PIN has been sent. -/
  | setPin
  /-- GET_CREDENTIAL has been sent. -/
  | getCredential
  /-- PUT_CREDENTIAL has been sent. -/
  | putCredential
  /-- A component is awaited from the keypad (R523). -/
  | component
  /-- The component's check value is awaited (R523). -/
  | kcv
  deriving DecidableEq, Repr

/-- What the SD command in progress of a running archive verb is for (R548–R557). -/
inductive SdPhase where
  /-- The label is read (R548, R552 step 1). -/
  | label
  /-- The 2,048 journal blocks are read (R548). -/
  | journal
  /-- Blocks 1–2,048 are erased (R552). -/
  | erase
  /-- Blocks are written (R552, R553, R556). -/
  | write
  /-- The newest record's first block is read (R553 step 2). -/
  | newest
  /-- The record's data is read from host memory (R553 step 3). -/
  | fetch
  /-- Record headers are followed (R554). -/
  | scan
  /-- The record's blocks are read (R554). -/
  | read
  /-- The CSD is programmed (R544). -/
  | csdWrite
  /-- The CSD is read back (R544). -/
  | csdRead
  deriving DecidableEq, Repr


/-- The exchange with the card in one slot: admission, issuing or recognition (R513, R514, R521, R526). -/
structure Exchange where
  /-- 0 admission, 1 issuing, 2 recognition (R521,R526,R529 19_dual_control.md) -/
  purpose : Nat := 0
  /-- the step whose answer or entry is awaited (R513,R521 19_dual_control.md) -/
  step : XStep := .select
  /-- command bytes not yet sent: T=0 data, T=1 the rest of a chain (R563 20_card_slots.md) -/
  rest : Bytes := []
  /-- T=0: 0 a procedure byte awaited, 1 response data, 2 SW2 (R563 20_card_slots.md) -/
  mode : Nat := 0
  /-- T=0: response bytes before the next procedure byte, or SW1 (R563 20_card_slots.md) -/
  want : Nat := 0
  /-- T=0: response data the command may still return (R563 20_card_slots.md) -/
  le : Nat := 0
  /-- the command APDU awaiting its answer, for a resend (R563 20_card_slots.md) -/
  command : Bytes := []
  /-- response data collected before GET RESPONSE (R563 20_card_slots.md) -/
  received : Bytes := []
  /-- 89 bytes of GET_INFO (R513 19_dual_control.md) -/
  info : Bytes := []
  /-- device ephemeral P-256 private key (R513,R514 19_dual_control.md) -/
  ephPriv : Nat := 0
  /-- 16 bytes N_d (R513 19_dual_control.md) -/
  nonce : Bytes := []
  /-- 16 bytes K_ENC (R514 19_dual_control.md) -/
  kEnc : Bytes := []
  /-- 16 bytes K_MAC (R514 19_dual_control.md) -/
  kMac : Bytes := []
  /-- 16-byte counter SSC (R514 19_dual_control.md) -/
  ssc : Nat := 0
  /-- discards, wrong PINs and failed KCVs in this insertion (R517 19_dual_control.md) -/
  failures : Nat := 0
  /-- a PIN change was asked for (R517 19_dual_control.md) -/
  changing : Bool := false
  /-- the new PIN as entered first (R517,R526 19_dual_control.md) -/
  newPin : List Nat := []
  /-- a component as entered, awaiting its KCV (R523 19_dual_control.md) -/
  digits : List Nat := []
  /-- the index being issued (R526 19_dual_control.md) -/
  index : Nat := 0
  /-- share read from the card (R521 19_dual_control.md) -/
  share : Bytes := []
  /-- ENROL_MAC read from the card (R521 19_dual_control.md) -/
  mac : Bytes := []
  /-- waiting-time extension granted so far, us (R563 20_card_slots.md) -/
  wtxUs : Nat := 0
  deriving DecidableEq, Repr

/-- One contact-card slot (R559-R568): the presence input, the activation, the exchange in progress, and its registers. -/
structure IccSlot where
  /-- 4 bits DCC_ICC_STATUS.STATE; reset: 0x0 EMPTY (R568 20_card_slots.md) -/
  state : IccState := .empty
  /-- 2 bits DCC_ICC_STATUS.CLASS: 0 none, 1 B, 2 C; reset: 0x0 (R568 20_card_slots.md) -/
  cls : Nat := 0
  /-- DCC_ICC_STATUS.PROTOCOL; reset: 0 (R568 20_card_slots.md) -/
  protoT1 : Bool := false
  /-- DCC_ICC_STATUS.PRESENT (debounced); reset: 0 (R568 20_card_slots.md) -/
  present : Bool := false
  /-- DCC_ICC_STATUS.CLOCK_STOPPED; reset: 0 (R568 20_card_slots.md) -/
  clockStopped : Bool := false
  /-- DCC_ICC_STATUS.EDC_CRC; reset: 0 (R568 20_card_slots.md) -/
  edcCrc : Bool := false
  /-- 12 bits DCC_ICC_PARAM.FI; reset: 0x000 (R568 20_card_slots.md) -/
  fi : Nat := 0
  /-- 6 bits DCC_ICC_PARAM.DI; reset: 0x00 (R568 20_card_slots.md) -/
  di : Nat := 0
  /-- 8 bits DCC_ICC_PARAM.IFSC; reset: 0x00 (R568 20_card_slots.md) -/
  ifsc : Nat := 0
  /-- 14 bits DCC_ICC_CLOCK.KHZ; reset: 0x0000 (R568 20_card_slots.md) -/
  khz : Nat := 0
  /-- 16 bits DCC_ICC_ERRORS.FAILED, saturates; reset: 0x0000 (R568 20_card_slots.md) -/
  failed : Nat := 0
  /-- 16 bits DCC_ICC_ERRORS.RETRIES, saturates; reset: 0x0000 (R568 20_card_slots.md) -/
  retries : Nat := 0
  /-- 16 bits DCC_ICC_LAST.DETAIL; reset: 0x0000 (R568 20_card_slots.md) -/
  lastDetail : Nat := 0
  /-- 1 bit: the 10 ms power-off hold runs; reset: 0 (R535 20_card_slots.md) -/
  hold : Bool := false
  /-- 1 bit: this activation is already the one at class B; reset: 0 (R560 20_card_slots.md) -/
  triedB : Bool := false
  /-- 1 bit: this activation is the one without PPS; reset: 0 (R562 20_card_slots.md) -/
  noPps : Bool := false
  /-- 1 bit: the ATR names a specific mode (TA2); reset: 0 (R561 20_card_slots.md) -/
  specific : Bool := false
  /-- 2 bits: clock-stop indicator of the ATR; reset: 0 (R561 20_card_slots.md) -/
  clockStop : Nat := 0
  /-- times of the presence input's changes within the last 1 s; reset: none (R536 20_card_slots.md) -/
  changes : List Nat := []
  /-- 1 bit: this card is not admitted until removed and reinserted; reset: 0 (R564 20_card_slots.md) -/
  refused : Bool := false
  /-- R-blocks sent for the block in error; reset: 0 (R563 20_card_slots.md) -/
  blockRetries : Nat := 0
  /-- 1 bit: S(RESYNCH) has been sent; reset: 0 (R563 20_card_slots.md) -/
  resynched : Bool := false
  /-- 1 bit: N(S) of the next T=1 I-block sent; reset: 0 (R563 20_card_slots.md) -/
  nS : Nat := 0
  /-- 1 bit: N(S) expected of the card's next I-block; reset: 0 (R563 20_card_slots.md) -/
  nR : Nat := 0
  /-- the T=1 block sent last; reset: none (R563 20_card_slots.md) -/
  lastBlock : Bytes := []
  /-- 2 bits: 0 the command's answer, 1 the response to S(IFS), 2 the response to S(RESYNCH); reset: 0 (R563 20_card_slots.md) -/
  awaits : Nat := 0
  /-- 8 bits: TC1, extra guard time; reset: 0 (R561 20_card_slots.md) -/
  extraGuard : Nat := 0
  /-- 8 bits: TC2, WI; reset: 10 (R561 20_card_slots.md) -/
  wi : Nat := 10
  /-- 4 bits: CWI of TB3; reset: 13 (R561 20_card_slots.md) -/
  cwi : Nat := 13
  /-- 4 bits: BWI of TB3; reset: 4 (R561 20_card_slots.md) -/
  bwi : Nat := 4
  /-- time until which the red LED blinks; reset: 0 (R515,R517,R518 19_dual_control.md) -/
  redUntil : Nat := 0
  /-- time until which an accepted key turns the green LED off; reset: 0 (R517 19_dual_control.md) -/
  greenOffUntil : Nat := 0
  /-- the card in the slot is admitted or written; reset: 0 (R518,R521 19_dual_control.md) -/
  sealed : Bool := false
  /-- the admission or issuing exchange in progress; reset: none (R513,R563 20_card_slots.md) -/
  exchange : Option Exchange := none
  deriving DecidableEq, Repr

/-- One valid journal commit that adds a record (R546). -/
structure ArchCommit where
  /-- 64 bits generation (R546 20_card_slots.md) -/
  generation : Nat := 0
  /-- 32 bits RECORD (R546 20_card_slots.md) -/
  record : Nat := 0
  /-- 32 bits BLOCKS (R546 20_card_slots.md) -/
  blocks : Nat := 0
  /-- 64 bits FIRST (R546 20_card_slots.md) -/
  first : Nat := 0
  /-- 48 bytes DIGEST (R546 20_card_slots.md) -/
  digest : Bytes := []
  deriving DecidableEq, Repr

/-- The open archive on the SD card, as the device holds it (R545-R548). -/
structure Archive where
  /-- 16 bytes ARCHIVE_ID; reset: none (R546 20_card_slots.md) -/
  id : Bytes := []
  /-- 16 bytes DOMAIN_ID of the label; reset: none (R546 20_card_slots.md) -/
  domain : Bytes := []
  /-- 8 bytes CAPACITY of the label; reset: 0 (R546 20_card_slots.md) -/
  capacity : Nat := 0
  /-- SEALED of the current commit; reset: 0 (R546 20_card_slots.md) -/
  sealed : Bool := false
  /-- 32 bits RECORDS of the current commit; reset: 0 (R546 20_card_slots.md) -/
  records : Nat := 0
  /-- 64 bits NEXT_FREE of the current commit; reset: 2,049 (R546 20_card_slots.md) -/
  nextFree : Nat := 2049
  /-- 64 bits generation of the current commit; reset: 0 (R546 20_card_slots.md) -/
  generation : Nat := 0
  /-- valid commits of the journal, newest first; reset: none (R548,R554 20_card_slots.md) -/
  commits : List ArchCommit := []
  deriving DecidableEq, Repr

/-- The archive verb at work on the SD card (R548-R557). -/
structure SdRun where
  /-- in-flight slot of the verb (R550 20_card_slots.md) -/
  item : Nat := 0
  /-- what the command in progress is for (R548-R557 20_card_slots.md) -/
  phase : SdPhase := .label
  /-- blocks still to be written: address and 512 bytes (R543,R553 20_card_slots.md) -/
  todo : List (Nat × Bytes) := []
  /-- label read while the archive opens (R548 20_card_slots.md) -/
  label : Bytes := []
  /-- block being read in a scan or a record read (R554 20_card_slots.md) -/
  blk : Nat := 0
  /-- record number sought or written (R553,R554 20_card_slots.md) -/
  record : Nat := 0
  /-- blocks of the record being read (R554 20_card_slots.md) -/
  blocks : Nat := 0
  /-- the archive as the running write will leave it (R552,R553,R556 20_card_slots.md) -/
  next : Option Archive := none
  deriving DecidableEq, Repr

/-- The ordering attributes of a memory write on PCIe (R38). -/
structure TlpAttr where
  /-- Relaxed Ordering (R38 01_six_levels.md) -/
  relaxed : Bool := false
  /-- ID-Based Ordering (R38 01_six_levels.md) -/
  idBased : Bool := false
  /-- traffic class (R38 01_six_levels.md) -/
  trafficClass : Nat := 0
  deriving DecidableEq, Repr

/-- The registers of the configuration space that software writes or that record an event (R94); their fields and default
values are those of PCIe Base 5.0 (PRESUMED, assumption log 22). -/
structure CfgSpace where
  /-- 16 bits Command; reset: 0 (R94 04_host_port_and_queues.md) -/
  command : Nat := 0
  /-- 8 bits Cache Line Size; reset: 0 (R94 04_host_port_and_queues.md) -/
  cacheLine : Nat := 0
  /-- 8 bits Interrupt Line; reset: 0 (R94 04_host_port_and_queues.md) -/
  intLine : Nat := 0
  /-- 64 bits address of BAR0, a multiple of 64 MiB; reset: 0 (R94, R97 04_host_port_and_queues.md) -/
  bar0 : Nat := 0
  /-- 64 bits address of BAR2, a multiple of 16 MiB; reset: 0 (R94, R97 04_host_port_and_queues.md) -/
  bar2 : Nat := 0
  /-- 64 bits address of BAR4, a multiple of 64 KiB; reset: 0 (R94, R97 04_host_port_and_queues.md) -/
  bar4 : Nat := 0
  /-- 16 bits Device Control, with Max Payload Size [7:5] and Max Read Request Size [14:12]; reset: 0x2810 (R94 04_host_port_and_queues.md) -/
  devCtl : Nat := 0x2810
  /-- 4 bits Device Status [3:0], errors detected; reset: 0 (R94 04_host_port_and_queues.md) -/
  devStatus : Nat := 0
  /-- 16 bits Link Control; reset: 0 (R94 04_host_port_and_queues.md) -/
  linkCtl : Nat := 0
  /-- 16 bits Device Control 2, with Completion Timeout Value [3:0] and Disable [4]; reset: 0, the default 50 ms range (R94 04_host_port_and_queues.md) -/
  devCtl2 : Nat := 0
  /-- 16 bits Link Control 2; reset: 5 (R94 04_host_port_and_queues.md) -/
  linkCtl2 : Nat := 5
  /-- MSI-X Enable; reset: 0 (R94, R118 04_host_port_and_queues.md) -/
  msixEnable : Bool := false
  /-- MSI-X Function Mask; reset: 0 (R94, R118 04_host_port_and_queues.md) -/
  functionMask : Bool := false
  /-- 32 bits AER Uncorrectable Error Status; reset: 0 (R94 04_host_port_and_queues.md) -/
  uncStatus : Nat := 0
  /-- 32 bits AER Uncorrectable Error Mask; reset: 0x0040_0000 (R94 04_host_port_and_queues.md) -/
  uncMask : Nat := 0x400000
  /-- 32 bits AER Uncorrectable Error Severity; reset: 0x0046_2030 (R94 04_host_port_and_queues.md) -/
  uncSeverity : Nat := 0x462030
  /-- 32 bits AER Correctable Error Status; reset: 0 (R94 04_host_port_and_queues.md) -/
  corStatus : Nat := 0
  /-- 32 bits AER Correctable Error Mask; reset: 0x0000_6000 (R94 04_host_port_and_queues.md) -/
  corMask : Nat := 0x6000
  /-- AER ECRC Generation Enable and Check Enable, bits 0 and 1; reset: 0 (R94 04_host_port_and_queues.md) -/
  ecrc : Nat := 0
  /-- 5 bits AER First Error Pointer; reset: 0 (R94 04_host_port_and_queues.md) -/
  firstError : Nat := 0
  /-- 16 bytes AER header log of one TLP; reset: 0 (R94 04_host_port_and_queues.md) -/
  headerLog : Bytes := List.replicate 16 0
  deriving DecidableEq, Repr

/-- What is driven on the hardwired lines of one die, T0–T3 or H (R31). -/
structure DieLines where
  /-- HALT; reset: 0 (R31 01_six_levels.md) -/
  halt : Bool := false
  /-- DIE_RESET; reset: 1 (Hold) (R31 01_six_levels.md) -/
  reset : Bool := true
  /-- the hub's own HALT line to a transaction die; reset: 0 (R31 01_six_levels.md) -/
  hubHalt : Bool := false
  deriving DecidableEq, Repr

/-- One die-to-die link (R26-R28, R578). -/
structure DieLink where
  /-- 2 bits STATE: 0 down, 1 training, 2 up, 3 failed; reset: 0x0 (R578 21_register_map.md) -/
  state : Nat := 0
  /-- 5 bits SPARES_DN; reset: 0x00 (R578 21_register_map.md) -/
  sparesDn : Nat := 0
  /-- 5 bits SPARES_UP; reset: 0x00 (R578 21_register_map.md) -/
  sparesUp : Nat := 0
  /-- 32 bits RETRIES, wraps; reset: 0x0 (R578 21_register_map.md) -/
  retries : Nat := 0
  /-- times of the retries within the last 1 s (RETRIES_1S counts them); reset: none (R27,R578 21_register_map.md) -/
  recent : List Nat := []
  /-- consecutive retries of one flit; reset: 0 (R27 01_six_levels.md) -/
  consecutive : Nat := 0
  /-- 32 bits CRC_ERR, wraps; reset: 0x0 (R578 21_register_map.md) -/
  crcErr : Nat := 0
  /-- 32 bits SEQ_ERR, wraps; reset: 0x0 (R578 21_register_map.md) -/
  seqErr : Nat := 0
  /-- 32 bits TRAININGS, wraps; reset: 0x0 (R578 21_register_map.md) -/
  trainings : Nat := 0
  /-- DN wires failed at the last training; reset: none (R578 21_register_map.md) -/
  failDn : List Nat := []
  /-- UP wires failed at the last training; reset: none (R578 21_register_map.md) -/
  failUp : List Nat := []
  deriving DecidableEq, Repr

/-- One heat-log record (R447). -/
structure HeatRec where
  /-- 64 bits HEAT (R447 16_heat_log.md) -/
  heat : Nat := 0
  /-- 64 bits TIME, us (R447 16_heat_log.md) -/
  time : Nat := 0
  /-- 16 bits CODE (R447 16_heat_log.md) -/
  code : Nat := 0
  /-- 8 bits SEVERITY (R447 16_heat_log.md) -/
  severity : Nat := 0
  /-- FLAGS bit 1 (R447 16_heat_log.md) -/
  summary : Bool := false
  /-- FLAGS bit 2 (R447 16_heat_log.md) -/
  battery : Bool := false
  /-- FLAGS bit 3 (R447 16_heat_log.md) -/
  truncated : Bool := false
  /-- 32 bits SOURCE (R448 16_heat_log.md) -/
  source : Nat := 0
  /-- 16 bits SLICE (R447 16_heat_log.md) -/
  slice : Nat := 0xFFFF
  /-- 32 bits REPEATS (FLAGS bit 0 when not 0) (R447 16_heat_log.md) -/
  repeats : Nat := 0
  /-- 24 bytes PAYLOAD (R447 16_heat_log.md) -/
  payload : Bytes := []
  /-- 8 bytes CHECK (empty until sealed) (R449 16_heat_log.md) -/
  check : Bytes := []
  deriving DecidableEq, Repr

/-- A producer's event on its way to the warden (R452). -/
structure Occurrence where
  /-- 16 bits (R452 16_heat_log.md) -/
  code : Nat := 0
  /-- 32 bits (R448 16_heat_log.md) -/
  source : Nat := 0
  /-- 16 bits (R447 16_heat_log.md) -/
  slice : Nat := 0xFFFF
  /-- 64 bits: TIME stamped at the event (R452 16_heat_log.md) -/
  time : Nat := 0
  /-- 24 bytes (R447 16_heat_log.md) -/
  payload : Bytes := []
  /-- severity given by a producer of DEBUG codes (R450 16_heat_log.md) -/
  severity : Nat := 1
  deriving DecidableEq, Repr

/-- The token bucket of one limited code (R451). -/
structure Bucket where
  /-- 16 bits (R451 16_heat_log.md) -/
  code : Nat := 0
  /-- tokens in millionths (R451 16_heat_log.md) -/
  microTokens : Nat := 0
  /-- device time of the last refill, us (R451 16_heat_log.md) -/
  refilled : Nat := 0
  deriving DecidableEq, Repr

/-- The suppressed counter of one code (R454, R455). -/
structure Suppressed where
  /-- 16 bits (R454 16_heat_log.md) -/
  code : Nat := 0
  /-- occurrences suppressed (R454 16_heat_log.md) -/
  count : Nat := 0
  /-- SOURCE of the first (R455 16_heat_log.md) -/
  source : Nat := 0
  /-- SLICE if all were of one slice, else 0xFFFF (R455 16_heat_log.md) -/
  slice : Nat := 0xFFFF
  /-- TIME of the first (R455 16_heat_log.md) -/
  first : Nat := 0
  /-- TIME of the last (R455 16_heat_log.md) -/
  last : Nat := 0
  deriving DecidableEq, Repr

/-- One slot of the count checkpoint ring (R425). -/
structure Checkpoint where
  /-- slot 0-31 (R425 15_riser_persistence_time.md) -/
  slot : Nat := 0
  /-- 64 bits SEQ (R425 15_riser_persistence_time.md) -/
  seq : Nat := 0
  /-- (INDEX, COUNT), at most 680 (R425 15_riser_persistence_time.md) -/
  pairs : List (Nat × Nat) := []
  deriving DecidableEq, Repr

/-- One replay-ring entry (R436) with its scope (R437). -/
structure ReplayEntry where
  /-- 64 bits REQUEST_ID (R436 15_riser_persistence_time.md) -/
  request : Nat := 0
  /-- 16 bits VERB (R436 15_riser_persistence_time.md) -/
  verb : Nat := 0
  /-- 16 bits STATUS (R436 15_riser_persistence_time.md) -/
  status : Nat := 0
  /-- 32 bits OUT_LEN (R436 15_riser_persistence_time.md) -/
  outLen : Nat := 0
  /-- 16 bytes RESULT (R436 15_riser_persistence_time.md) -/
  result : Bytes := []
  /-- count of cold resets when made (R437 15_riser_persistence_time.md) -/
  cold : Nat := 0
  /-- count of cold resets, re-pours and PERST_N falls when made (R437 15_riser_persistence_time.md) -/
  scope : Nat := 0
  /-- 0–4095 its place in the ring (R426,R436 15_riser_persistence_time.md) -/
  place : Nat := 0
  deriving DecidableEq, Repr

/-- One factory or field repair-map entry (R15, R22, R579). -/
structure RepairEntry where
  /-- die 0-4 (R579 21_register_map.md) -/
  die : Nat := 0
  /-- factory KIND 0-3; field: 1 a whole position, 0 one unit (R579 21_register_map.md) -/
  kind : Nat := 0
  /-- 2 bits (R579 21_register_map.md) -/
  region : Nat := 0
  /-- 4 bits (R579 21_register_map.md) -/
  position : Nat := 0
  /-- 2 bits: 0 TC, 1 SBU, 2 BNU, 3 DGU (R579 21_register_map.md) -/
  unitKind : Nat := 0
  /-- 2 bits (R579 21_register_map.md) -/
  unit : Nat := 0
  /-- 16 bits ROW (R579 21_register_map.md) -/
  row : Nat := 0
  /-- 16 bits HOURS (R579 21_register_map.md) -/
  hours : Nat := 0
  deriving DecidableEq, Repr

/-- The logical map of one region (R22). -/
structure LogicalMap where
  /-- region G (R22 01_six_levels.md) -/
  region : Nat := 0
  /-- position behind each logical slot 0-7 (R22 01_six_levels.md) -/
  slots : List (Option Nat) := []
  deriving DecidableEq, Repr

/-- One check-window time of the wear record (R35). -/
structure Strike where
  /-- physical cluster (R35 01_six_levels.md) -/
  phys : Nat := 0
  /-- 0 TC, 1 SBU, 2 BNU (R35 01_six_levels.md) -/
  kind : Nat := 0
  /-- unit index (R35 01_six_levels.md) -/
  unit : Nat := 0
  /-- device time, us (R35 01_six_levels.md) -/
  time : Nat := 0
  deriving DecidableEq, Repr

/-- The running PATTERN_STAGE (R88, R89). -/
structure StageRun where
  /-- slot of its item (R89 03_pattern_image.md) -/
  item : Nat := 0
  /-- TARGET (R88 03_pattern_image.md) -/
  firmware : Bool := false
  /-- ACTIVATE (R88 03_pattern_image.md) -/
  activate : Bool := false
  /-- the slot written (R88 03_pattern_image.md) -/
  slotB : Bool := false
  /-- the pieces of the image read from host memory so far, 64 KiB each (R89 03_pattern_image.md) -/
  image : Bytes := []
  /-- 64 bits, address of the image in host memory (R89 03_pattern_image.md) -/
  inAddr : Nat := 0
  /-- 32 bits, length of the image (R89 03_pattern_image.md) -/
  inLen : Nat := 0
  /-- 1 bit: a piece is being read from host memory (R89 03_pattern_image.md) -/
  pieceDue : Bool := false
  /-- 1 bit: a Quench stops the verb after its current page or block (R90 03_pattern_image.md) -/
  aborting : Bool := false
  /-- 0 erasing, 1 programming, 2 read back (R89 03_pattern_image.md) -/
  phase : Nat := 0
  /-- blocks erased or pages programmed (R89 03_pattern_image.md) -/
  done : Nat := 0
  /-- flash commands and timeouts of the run (R89 03_pattern_image.md) -/
  cfg : FlashCfg := {}
  /-- the time in 250 ns at which the block erase or page program in progress was sent (R89 03_pattern_image.md) -/
  since : Nat := 0
  /-- outcome of the second evaluation at read back, where it differs (R84 03_pattern_image.md) -/
  second : Option Nat := none
  deriving DecidableEq, Repr

/-- One MSI-X vector: its 16-byte table entry, PBA bit, moderation entry and pending notifications (R118, R119). -/
structure MsixVec where
  /-- vector 0-2,047 (R118 04_host_port_and_queues.md) -/
  vector : Nat := 0
  /-- 64 bits message address (R118 04_host_port_and_queues.md) -/
  addr : Nat := 0
  /-- 32 bits message data (R118 04_host_port_and_queues.md) -/
  data : Nat := 0
  /-- vector control bit 0; reset: masked (PCIe Base 5.0) (R118 04_host_port_and_queues.md) -/
  masked : Bool := true
  /-- Pending Bit Array; reset: 0 (R118 04_host_port_and_queues.md) -/
  pba : Bool := false
  /-- 8 bits MAX_COUNT; reset: 0x00 (R118 04_host_port_and_queues.md) -/
  maxCount : Nat := 0
  /-- 16 bits MAX_DELAY, us; reset: 0x0000 (R118 04_host_port_and_queues.md) -/
  maxDelay : Nat := 0
  /-- notifications since the last message; reset: 0 (R119 04_host_port_and_queues.md) -/
  pending : Nat := 0
  deriving DecidableEq, Repr

/-- One queue context (R102); INFLIGHT, WINDOW and PARKED are counted from the items, batches and parked completions of the queue. -/
structure QueueCtx where
  /-- 18 bits global queue ID (R102 04_host_port_and_queues.md) -/
  qid : Nat := 0
  /-- 64 bits SQ_BASE; reset: 0 (R102 04_host_port_and_queues.md) -/
  sqBase : Nat := 0
  /-- 64 bits CQ_BASE; reset: 0 (R102 04_host_port_and_queues.md) -/
  cqBase : Nat := 0
  /-- 8 bits SQ_LOG2; reset: 0 (R102 04_host_port_and_queues.md) -/
  sqLog2 : Nat := 0
  /-- 8 bits CQ_LOG2; reset: 0 (R102 04_host_port_and_queues.md) -/
  cqLog2 : Nat := 0
  /-- 8 bits PRIO; reset: 0 (R102 04_host_port_and_queues.md) -/
  prio : Nat := 0
  /-- QFLAGS bit 0; reset: 0 (R102 04_host_port_and_queues.md) -/
  ordered : Bool := false
  /-- QFLAGS bit 1; reset: 0 (R102 04_host_port_and_queues.md) -/
  intr : Bool := false
  /-- 16 bits VECTOR; reset: 0 (R102 04_host_port_and_queues.md) -/
  vector : Nat := 0
  /-- 16 bits SQ_TAIL; reset: 0 (R102 04_host_port_and_queues.md) -/
  sqTail : Nat := 0
  /-- 16 bits SQ_HEAD; reset: 0 (R102 04_host_port_and_queues.md) -/
  sqHead : Nat := 0
  /-- 16 bits CQ_TAIL; reset: 0 (R102 04_host_port_and_queues.md) -/
  cqTail : Nat := 0
  /-- 16 bits CQ_HEAD; reset: 0 (R102 04_host_port_and_queues.md) -/
  cqHead : Nat := 0
  /-- 8 bits CQ_PHASE; reset: 0 (R102,R111 04_host_port_and_queues.md) -/
  phase : Nat := 0
  /-- 8 bits STATE: 0 DISABLED, 1 ACTIVE, 2 DRAINING, 3 ENABLE_PENDING, 4 ERROR; reset: 0 (R102 04_host_port_and_queues.md) -/
  state : Nat := 0
  /-- 16 bits ERR; reset: 0 (R102 04_host_port_and_queues.md) -/
  err : Nat := 0
  /-- 64 bits FETCHED; reset: 0 (R102 04_host_port_and_queues.md) -/
  fetched : Nat := 0
  /-- 64 bits POSTED; reset: 0 (R102 04_host_port_and_queues.md) -/
  posted : Nat := 0
  deriving DecidableEq, Repr

/-- One outstanding descriptor read (R114). -/
structure Batch where
  /-- global queue ID (R114 04_host_port_and_queues.md) -/
  qid : Nat := 0
  /-- descriptors read, 1-16; each holds an in-flight slot (R114 04_host_port_and_queues.md) -/
  count : Nat := 0
  /-- SQ index of the first (R114 04_host_port_and_queues.md) -/
  head : Nat := 0
  deriving DecidableEq, Repr

/-- One parked completion in the completion buffer (R115). -/
structure Completion where
  /-- global queue ID (R115 04_host_port_and_queues.md) -/
  qid : Nat := 0
  /-- 32 bytes, PHASE not yet set (R110 04_host_port_and_queues.md) -/
  entry : Bytes := []
  /-- NOTIFY of its descriptor (R107 04_host_port_and_queues.md) -/
  notify : Bool := false
  /-- order in which it became postable (R115 04_host_port_and_queues.md) -/
  order : Nat := 0
  deriving DecidableEq, Repr

/-- Where in the order of R187 a BNU command ends: at its result (steps 5 to 7), at sizes and curves of its input (step 1),
at a corrupt ingot (step 2), at the edge checks (step 4), or after the last regeneration (R192). -/
inductive BnuEnd where
  | result | size | corrupt | edge | draws
  deriving DecidableEq, Repr

/-- One BNU command, executing or queued (R175, R180). -/
structure BnuCmd where
  /-- in-flight slot of its item (R180 07_big_number_unit.md) -/
  slot : Nat := 0
  /-- code 1-6 (R175 07_big_number_unit.md) -/
  code : Nat := 0
  /-- where it ends (R187 07_big_number_unit.md) -/
  ends : BnuEnd := .result
  /-- the first invariant check its own values fail, by its place in the table (R193 07_big_number_unit.md) -/
  failing : Option Nat := none
  /-- internal regenerations it makes (R192 07_big_number_unit.md) -/
  regen : Nat := 0
  /-- generate requests it makes of the BNU's DRBG (R179 07_big_number_unit.md) -/
  requests : Nat := 0
  /-- its wrapped key (R180 07_big_number_unit.md) -/
  ingot : Bytes := []
  /-- its other operands (R180 07_big_number_unit.md) -/
  operands : Bytes := []
  deriving DecidableEq, Repr

/-- One in-flight slot with its item (R113, R124): the descriptor, its scheduling attributes, its working data, its result. -/
structure Item where
  /-- 16 bits: slot 0-65,535 (R113 04_host_port_and_queues.md) -/
  slot : Nat := 0
  /-- global queue ID (R102 04_host_port_and_queues.md) -/
  qid : Nat := 0
  /-- slice of the queue (R102 04_host_port_and_queues.md) -/
  slice : Nat := 0
  /-- order of acceptance (R125 05_tundish.md) -/
  seq : Nat := 0
  /-- place in its slice's FIFO: its order of acceptance, or of its last move to a tail (R125,R137 05_tundish.md) -/
  fifo : Nat := 0
  /-- 64 bytes (R107 04_host_port_and_queues.md) -/
  desc : Bytes := []
  /-- class: 0 S, 1 A, 2 M, 3 C (R126 05_tundish.md) -/
  cls : Nat := 0
  /-- R124 (R124 05_tundish.md) -/
  state : ItemState := .ready
  /-- priority of the list it is on (R125,R137 05_tundish.md) -/
  prio : Nat := 0
  /-- start of its age on the list (R137 05_tundish.md) -/
  readySince : Nat := 0
  /-- its age when it was dispatched, which a retry keeps (R137,R147 05_tundish.md) -/
  age : Nat := 0
  /-- the last BNU result record in its core's memory: status, result length, regenerations (R186 07_big_number_unit.md) -/
  bnuRecord : List Nat := []
  /-- start of the deferral clock; none: not DEFERRED (R134 05_tundish.md) -/
  deferredSince : Option Nat := none
  /-- MUST_RUN (R135 05_tundish.md) -/
  mustRun : Bool := false
  /-- times passed over for locality (R130 05_tundish.md) -/
  passed : Nat := 0
  /-- energy weight, nJ (R410,R411 14_chill_governor.md) -/
  weight : Nat := 0
  /-- weight debited to its region at dispatch (R131,R411 05_tundish.md) -/
  debited : Nat := 0
  /-- hub entry of key A resolved at acceptance (R130 05_tundish.md) -/
  keyIdent : Option Nat := none
  /-- hub entry of handle A resolved at acceptance (R229 08_keys_and_ingots.md) -/
  hubA : Option Nat := none
  /-- hub entry of handle B resolved at acceptance (R229 08_keys_and_ingots.md) -/
  hubB : Option Nat := none
  /-- core or executor running it (R126 05_tundish.md) -/
  executor : Option Executor := none
  /-- how far its execution is (R120,R122 04_host_port_and_queues.md) -/
  phase : Phase := .fetching
  /-- its input as fetched (R120 04_host_port_and_queues.md) -/
  input : Bytes := []
  /-- ingot of key A as fetched (R109 04_host_port_and_queues.md) -/
  keyA : Bytes := []
  /-- ingot of key B as fetched (R109 04_host_port_and_queues.md) -/
  keyB : Bytes := []
  /-- reads that faulted: 0 input, 1 key A, 2 key B, 3 operand (R101 04_host_port_and_queues.md) -/
  faults : List Nat := []
  /-- what its completion still waits for (R39 01_six_levels.md) -/
  waits : List Wait := []
  /-- 16 bits STATUS (R110 04_host_port_and_queues.md) -/
  status : Nat := 0
  /-- 32 bits DETAIL (R110 04_host_port_and_queues.md) -/
  detail : Nat := 0
  /-- 32 bits OUT_LEN (R110 04_host_port_and_queues.md) -/
  outLen : Nat := 0
  /-- 16 bytes RESULT (R110 04_host_port_and_queues.md) -/
  result : Bytes := []
  /-- output computed and not yet written (R38 01_six_levels.md) -/
  output : Bytes := []
  /-- PFLAGS.RETRIED (R110 04_host_port_and_queues.md) -/
  retried : Bool := false
  /-- BNU commands of its verb not yet handed to the BNU (R281,R282 09_verbs_key_management.md) -/
  cmds : List BnuCmd := []
  /-- it has placed a commit entry (R16 01_six_levels.md) -/
  committed : Bool := false
  /-- counted-key records it holds (R231 08_keys_and_ingots.md) -/
  counted : List Nat := []
  /-- its completion is discarded when it finishes (PERST_N, slice deletion) (R121,R379 04_host_port_and_queues.md) -/
  quiet : Bool := false
  /-- held completion: order in which it became postable (R115 04_host_port_and_queues.md) -/
  heldOrder : Option Nat := none
  deriving DecidableEq, Repr

/-- The deficit of one slice on one list (R132). -/
structure Deficit where
  /-- list: 2 x priority, + 1 for class S (R132 05_tundish.md) -/
  list : Nat := 0
  /-- slice (R132 05_tundish.md) -/
  slice : Nat := 0
  /-- nJ, may be negative (R132 05_tundish.md) -/
  value : Int := 0
  deriving DecidableEq, Repr

/-- The round of one list (R132). -/
structure Round where
  /-- list: 2 x priority, + 1 for class S (R132 05_tundish.md) -/
  list : Nat := 0
  /-- the slices of the round, the current slice first (R132 05_tundish.md) -/
  slices : List Nat := []
  deriving DecidableEq, Repr

/-- One delay-list entry (R144). -/
structure DelayEntry where
  /-- delay list 0-7 (R144 05_tundish.md) -/
  list : Nat := 0
  /-- due tick (R143 05_tundish.md) -/
  due : Nat := 0
  /-- insertion order (R144 05_tundish.md) -/
  order : Nat := 0
  /-- taken from the 1,024 reserved entries (R144 05_tundish.md) -/
  reserved : Bool := false
  /-- what it is for (R144 05_tundish.md) -/
  kind : DelayKind := .quorum
  deriving DecidableEq, Repr

/-- One key of a cluster key cache: the ingot it was verified from and the unwrapped key (R219, R228). -/
structure CachedKey where
  /-- owner (R228 08_keys_and_ingots.md) -/
  slice : Nat := 0
  /-- header and check values (R219,R228 08_keys_and_ingots.md) -/
  ingot : Bytes := []
  /-- verified unwrapped symmetric key (R228 08_keys_and_ingots.md) -/
  key : Bytes := []
  /-- inner and outer HMAC states by hash code 1–3, each pair a further entry tied to the key's (R343 11_verbs_data_mac_token.md) -/
  states : List (Nat × List (List Nat)) := []
  deriving DecidableEq, Repr

/-- A tenant wrap key of a slice, in a wrap entry of a cluster key cache or in a tenant-key register of a BNU. -/
structure SliceKey where
  /-- its slice (R183,R228 08_keys_and_ingots.md) -/
  slice : Nat := 0
  /-- 32 bytes (R183,R211 08_keys_and_ingots.md) -/
  key : Bytes := []
  deriving DecidableEq, Repr

/-- One transient key-cache entry of an item: its 8-byte slots in order (R160). -/
structure Transient where
  /-- in-flight slot of the item (R160 06_symmetric_block_unit.md) -/
  slot : Nat := 0
  /-- at most 128 bytes (R160,R228 08_keys_and_ingots.md) -/
  data : Bytes := []
  deriving DecidableEq, Repr

/-- The blocks one SBU runs and queues, by the transaction core 0–3 that called it (R153, R159). -/
structure SbuWork where
  /-- core whose block runs; reset: none (R153 06_symmetric_block_unit.md) -/
  running : Option Nat := none
  /-- cores with a queued block, at most 2 entries, in the order of their calls; reset: empty (R159 06_symmetric_block_unit.md) -/
  queue : List Nat := []
  /-- cores stalled on a full queue; reset: none (R159 06_symmetric_block_unit.md) -/
  stalled : List Nat := []
  /-- core granted last (round robin); reset: DESIGN CHOICE 3 (R18,R159 06_symmetric_block_unit.md) -/
  last : Nat := 3
  deriving DecidableEq, Repr

/-- One SBU key register that holds a key (R155). -/
structure SbuKey where
  /-- SBU 0-3 (R155 06_symmetric_block_unit.md) -/
  sbu : Nat := 0
  /-- register 0-3 (R155 06_symmetric_block_unit.md) -/
  reg : Nat := 0
  /-- slice of the key-cache entry it was loaded from (R155 06_symmetric_block_unit.md) -/
  slice : Nat := 0
  /-- TAG of that entry (empty: a transient or wrap entry) (R155,R219 06_symmetric_block_unit.md) -/
  tag : Bytes := []
  /-- the key as loaded, its variant applied: at most 32 bytes (R155,R156 06_symmetric_block_unit.md) -/
  key : Bytes := []
  /-- even parity of every byte (R155 06_symmetric_block_unit.md) -/
  parity : List Bool := []
  /-- 16 bytes: the cached final round key, where valid (R154,R155 06_symmetric_block_unit.md) -/
  final : Bytes := []
  /-- algorithm code (R155 06_symmetric_block_unit.md) -/
  alg : Nat := 0
  /-- its valid bit (R154 06_symmetric_block_unit.md) -/
  finalRk : Bool := false
  /-- INVERSE_FORCED (R163 06_symmetric_block_unit.md) -/
  inverse : Bool := false
  deriving DecidableEq, Repr

/-- One powered physical cluster: the live values its window and caches hold. -/
structure Cluster where
  /-- physical number P (R21 01_six_levels.md) -/
  phys : Nat := 0
  /-- 4 x 32 bits CLU_SBU_BLOCKS, wraps; reset: 0 (R171 06_symmetric_block_unit.md) -/
  sbuBlocks : List Nat := [0, 0, 0, 0]
  /-- 4 x 8 bits MISMATCHES, saturates; reset: 0 (R171 06_symmetric_block_unit.md) -/
  sbuMismatch : List Nat := [0, 0, 0, 0]
  /-- 4 x 8 bits RETRY_OK, saturates; reset: 0 (R171 06_symmetric_block_unit.md) -/
  sbuRetryOk : List Nat := [0, 0, 0, 0]
  /-- 4 x 8 bits RETRY_FAILED, saturates; reset: 0 (R171 06_symmetric_block_unit.md) -/
  sbuRetryFail : List Nat := [0, 0, 0, 0]
  /-- 4 bits CLU_SBU_INJECT.ARM; reset: 0 (R171 06_symmetric_block_unit.md) -/
  sbuInject : List Bool := [false, false, false, false]
  /-- key registers that hold a key, most recently used first; reset: empty (R155,R158 06_symmetric_block_unit.md) -/
  sbuKeys : List SbuKey := []
  /-- cluster key cache: the symmetric keys held, most recently used first; reset: empty (R228 08_keys_and_ingots.md) -/
  keys : List CachedKey := []
  /-- wrap entries, most recently used first, at most 16; reset: empty (R219,R228 08_keys_and_ingots.md) -/
  wraps : List SliceKey := []
  /-- transient entries of running items, at most 16 for each core; reset: empty (R160 06_symmetric_block_unit.md) -/
  transients : List Transient := []
  /-- blocks run and queued by SBU 0-3; reset: none (R153,R159 06_symmetric_block_unit.md) -/
  sbuWork : List SbuWork := [{}, {}, {}, {}]
  /-- BNU tenant-key registers, most recently used first, at most 16; reset: empty (R183 07_big_number_unit.md) -/
  tenantKeys : List SliceKey := []
  /-- 32 bytes: BNU transport-key register (empty: it holds no key); reset: empty (R61,R173,R183 07_big_number_unit.md) -/
  transport : Bytes := []
  /-- BNU operand memory: the bank of the executing command, then the queued command's, 16 KiB each; reset: zeroed (R173,R174 07_big_number_unit.md) -/
  banks : List Bytes := [[], []]
  /-- time at which the last abort began (CLU_BNU_STATUS.ABORTING for 2 us after it); reset: none (R199,R201 07_big_number_unit.md) -/
  abortAt : Option Nat := none
  /-- time of the BNU DRBG's last seed; reset: 0 (R179 07_big_number_unit.md) -/
  bnuReseeded : Nat := 0
  /-- BNU DRBG generate requests since the last seed; reset: 0 (R179 07_big_number_unit.md) -/
  bnuRequests : Nat := 0
  /-- the BNU's commands: the executing one, then the queued one; reset: empty (R173,R182 07_big_number_unit.md) -/
  bnuQueue : List BnuCmd := []
  /-- 32 bits CLU_BNU_OPS, wraps; reset: 0 (R201 07_big_number_unit.md) -/
  bnuOps : Nat := 0
  /-- time executing commands, us (CLU_BNU_BUSY counts 64 us); reset: 0 (R201 07_big_number_unit.md) -/
  bnuBusyUs : Nat := 0
  /-- 8 bits, saturates; reset: 0 (R201 07_big_number_unit.md) -/
  bnuInvariant : Nat := 0
  /-- 8 bits, saturates; reset: 0 (R201 07_big_number_unit.md) -/
  bnuCorrupt : Nat := 0
  /-- 8 bits, saturates; reset: 0 (R201 07_big_number_unit.md) -/
  bnuAborts : Nat := 0
  /-- 8 bits, saturates; reset: 0 (R201 07_big_number_unit.md) -/
  bnuRegen : Nat := 0
  /-- 16 bits REJECTS, saturates; reset: 0 (R201 07_big_number_unit.md) -/
  bnuEdge : Nat := 0
  /-- CLU_BNU_INJECT.ARM; reset: 0 (R201 07_big_number_unit.md) -/
  bnuInject : Bool := false
  /-- bytes hashed; reset: 0 (R373 12_digest_measurement_attestation.md) -/
  dguBytes : Nat := 0
  /-- KAT_DUE: the known-answer test waits for the DGU to be idle; reset: 0 (R373 12_digest_measurement_attestation.md) -/
  katDue : Bool := false
  /-- known-answer tests passed; reset: 0 (R373 12_digest_measurement_attestation.md) -/
  dguKats : Nat := 0
  /-- 4 x 32 bits CLU_TC_ITEMS, wraps; reset: 0 (R581 21_register_map.md) -/
  tcItems : List Nat := [0, 0, 0, 0]
  /-- 16 bits CLU_ECC.OPERAND, saturates; reset: 0 (R581 21_register_map.md) -/
  eccOperand : Nat := 0
  /-- 16 bits CLU_ECC.KEYCACHE, saturates; reset: 0 (R581 21_register_map.md) -/
  eccKeyCache : Nat := 0
  deriving DecidableEq, Repr

/-- One cached key of the hub key cache, or a pinned ingot and the entries it takes (R228). -/
structure HubEntry where
  /-- 16 bits: index of its first entry (R228 08_keys_and_ingots.md) -/
  index : Nat := 0
  /-- entries it takes: 1, or one per 128 bytes of an asymmetric ingot (R228 08_keys_and_ingots.md) -/
  count : Nat := 1
  /-- owner (R228 08_keys_and_ingots.md) -/
  slice : Nat := 0
  /-- header and check values, or the whole wrapped asymmetric ingot (R219,R228 08_keys_and_ingots.md) -/
  ingot : Bytes := []
  /-- verified unwrapped symmetric key (R228 08_keys_and_ingots.md) -/
  key : Bytes := []
  /-- pinned: never evicted (R228 08_keys_and_ingots.md) -/
  pinned : Bool := false
  /-- unpinned, draining (R229 08_keys_and_ingots.md) -/
  withdrawn : Bool := false
  /-- address it last came from (R219 08_keys_and_ingots.md) -/
  lastAddr : Nat := 0
  deriving DecidableEq, Repr

/-- One entry of the PIN failure-count table (R303). -/
structure PinFail where
  /-- slice (R303 10_verbs_pin_card_emv.md) -/
  slice : Nat := 0
  /-- PAN tag (R303 10_verbs_pin_card_emv.md) -/
  tag : Bytes := []
  /-- failure count, 0-15 (R303,R307 10_verbs_pin_card_emv.md) -/
  count : Nat := 0
  /-- device time of the last failure, us (R303 10_verbs_pin_card_emv.md) -/
  last : Nat := 0
  deriving DecidableEq, Repr

/-- One guard key slot (R353): the six HMAC states, not the key. -/
structure GuardSlot where
  /-- slot 0-15 (R353 12_digest_measurement_attestation.md) -/
  slot : Nat := 0
  /-- inner and outer state for SHA-256, SHA-384, SHA-512, as the words of each state (R353 12_digest_measurement_attestation.md) -/
  states : List (List Nat) := []
  /-- 64 bits KEY_ID of the source ingot (R353 12_digest_measurement_attestation.md) -/
  keyId : Nat := 0
  /-- NOT_AFTER of the source ingot (R353 12_digest_measurement_attestation.md) -/
  notAfter : Nat := 0
  /-- recorded mode (R353 12_digest_measurement_attestation.md) -/
  mode : Nat := 0
  /-- VERIFY_ONLY (R353 12_digest_measurement_attestation.md) -/
  verifyOnly : Bool := false
  /-- granted to ALL tenant slices (R353 12_digest_measurement_attestation.md) -/
  grantAll : Bool := false
  /-- granted tenant slices, at most 64 (R353 12_digest_measurement_attestation.md) -/
  grants : List Nat := []
  /-- holds a key (R353 12_digest_measurement_attestation.md) -/
  loaded : Bool := false
  /-- BUSY: the item using it; reset: none (R353,R354 12_digest_measurement_attestation.md) -/
  user : Option Nat := none
  deriving DecidableEq, Repr

/-- One counted-key record (R425), its home fields in MRAM. -/
structure CountedRec where
  /-- 16 bits (R425 15_riser_persistence_time.md) -/
  index : Nat := 0
  /-- 12 bits SLICE (R425 15_riser_persistence_time.md) -/
  slice : Nat := 0
  /-- 32 bits LIMIT (R425 15_riser_persistence_time.md) -/
  limit : Nat := 1
  /-- 64 bits KEY_ID (R425 15_riser_persistence_time.md) -/
  keyId : Nat := 0
  /-- 32 bits COUNT as of the last fold (R425 15_riser_persistence_time.md) -/
  count : Nat := 0
  /-- 4 bytes CHECK (R231,R425 15_riser_persistence_time.md) -/
  check : Bytes := []
  deriving DecidableEq, Repr

/-- Queue contexts, delayed items and captured completions a slice carries (R386, R389). -/
structure Restored where
  /-- carried contexts (R388 13_slices_migration_peers.md) -/
  queues : List QueueCtx := []
  /-- (local queue, descriptor, remaining time in 250 ns) (R388 13_slices_migration_peers.md) -/
  delayed : List (Nat × Bytes × Nat) := []
  /-- (local queue, 32-byte entry) in their order (R388 13_slices_migration_peers.md) -/
  completions : List (Nat × Bytes) := []
  deriving DecidableEq, Repr

/-- One tenant slice: its MRAM record and its runtime state (R375-R382). -/
structure Slice where
  /-- 12 bits (R375 13_slices_migration_peers.md) -/
  number : Nat := 0
  /-- 4 bits, code of R376; reset: 0 FREE (R376 13_slices_migration_peers.md) -/
  state : Nat := 0
  /-- its record's CMAC failed at restore; reset: 0 (R375 13_slices_migration_peers.md) -/
  recordBad : Bool := false
  /-- 32 bits lease epoch; reset: 0 (R375 13_slices_migration_peers.md) -/
  epoch : Nat := 0
  /-- tenant wrap key under KWP, 40 bytes; reset: none (R211 08_keys_and_ingots.md) -/
  wrapped : Bytes := []
  /-- 16 bits; reset: 0 (R212 08_keys_and_ingots.md) -/
  generation : Nat := 0
  /-- 20 bits; reset: 0 (R377 13_slices_migration_peers.md) -/
  pasid : Nat := 0
  /-- guaranteed slots; reset: 0 (R377 13_slices_migration_peers.md) -/
  min : Nat := 0
  /-- slot cap; reset: 0 (R377 13_slices_migration_peers.md) -/
  cap : Nat := 0
  /-- 1-1,024; reset: 0 (R377 13_slices_migration_peers.md) -/
  weight : Nat := 0
  /-- priority ceiling 1-7; reset: 1 (R377 13_slices_migration_peers.md) -/
  ceiling : Nat := 1
  /-- 11 bits VECTOR_BASE; reset: 0 (R377 13_slices_migration_peers.md) -/
  vecBase : Nat := 0
  /-- VECTOR_COUNT 1-64; reset: 0 (R377 13_slices_migration_peers.md) -/
  vecCount : Nat := 0
  /-- COUNT_BASE; reset: 0 (R377 13_slices_migration_peers.md) -/
  countBase : Nat := 0
  /-- COUNT_QUOTA; reset: 0 (R377 13_slices_migration_peers.md) -/
  countQuota : Nat := 0
  /-- STATUS_ADDR; reset: 0 (R377 13_slices_migration_peers.md) -/
  statusAddr : Nat := 0
  /-- eight PIN lockout entries: PAN tag and expiry in device time, whole seconds; reset: empty (R303 10_verbs_pin_card_emv.md) -/
  lockouts : List (Bytes × Nat) := []
  /-- serial of its mirror peer, or of the owner of a MIRROR copy; reset: none (R375,R397 13_slices_migration_peers.md) -/
  mirrorPeer : Bytes := []
  /-- the counterpart's attestation key, whose digest the record holds; reset: none (R375 13_slices_migration_peers.md) -/
  peerKey : Bytes := []
  /-- 16 bytes OFFER_ID; reset: none (R375 13_slices_migration_peers.md) -/
  offerId : Bytes := []
  /-- 48 bytes kept at SAVE or RESTORE; reset: none (R390 13_slices_migration_peers.md) -/
  imageDigest : Bytes := []
  /-- release certificate of the tombstone; reset: none (R390 13_slices_migration_peers.md) -/
  release : Bytes := []
  /-- attached; reset: 0 (R376 13_slices_migration_peers.md) -/
  attached : Bool := false
  /-- detachment draining; reset: 0 (R121 04_host_port_and_queues.md) -/
  detaching : Bool := false
  /-- attach held behind a drain: its item and its input; reset: none (R377 13_slices_migration_peers.md) -/
  heldAttach : Option (Nat × Bytes) := none
  /-- creates held behind a deletion: their items; reset: none (R24, R379 13_slices_migration_peers.md) -/
  heldCreate : List Nat := []
  /-- tenant wrap key held by the hub while attached; reset: none (R211 08_keys_and_ingots.md) -/
  hubKey : Bytes := []
  /-- STALLED_CQ; reset: 0 (R116 04_host_port_and_queues.md) -/
  stalled : Bool := false
  /-- 32 bits NOTICE; reset: 0 (R382 13_slices_migration_peers.md) -/
  notice : Nat := 0
  /-- 64 bits; reset: 0 (R382 13_slices_migration_peers.md) -/
  noticeTime : Nat := 0
  /-- 32 bits SEQ; reset: 0 (R382 13_slices_migration_peers.md) -/
  statusSeq : Nat := 0
  /-- 64 bits since attachment; reset: 0 (R382 13_slices_migration_peers.md) -/
  fetched : Nat := 0
  /-- 64 bits since attachment; reset: 0 (R382 13_slices_migration_peers.md) -/
  posted : Nat := 0
  /-- restored area: queue contexts, delayed items, captured completions; reset: none (R386,R389 13_slices_migration_peers.md) -/
  carried : Option Restored := none
  /-- the SLICE_DELETE items or the SLICE_FREEZE waiting for its drain; reset: none (R24, R379, R386 13_slices_migration_peers.md) -/
  drainItem : List Nat := []
  /-- the SLICE_DETACH items waiting for its drain; reset: none (R378 13_slices_migration_peers.md) -/
  detachItems : List Nat := []
  /-- after a takeover: serial of the package that owned the slice and still holds a fenced copy; reset: none (R400,R401 13_slices_migration_peers.md) -/
  formerOwner : Bytes := []
  /-- state and epoch of the peer's copy as its last lease summary gave them; reset: none (R401 13_slices_migration_peers.md) -/
  peerReport : Option (Nat × Nat) := none
  deriving DecidableEq, Repr

/-- The manager's slice (R374). -/
structure Slice0 where
  /-- attached (R374 13_slices_migration_peers.md) -/
  attached : Bool := false
  /-- detachment draining (R374 13_slices_migration_peers.md) -/
  detaching : Bool := false
  /-- STALLED_CQ (R116 04_host_port_and_queues.md) -/
  stalled : Bool := false
  deriving DecidableEq, Repr

/-- One outstanding offer (R387). -/
structure Offer where
  /-- slice number reserved (R387 13_slices_migration_peers.md) -/
  slice : Nat := 0
  /-- 16 bytes OFFER_ID (R387 13_slices_migration_peers.md) -/
  id : Bytes := []
  /-- ephemeral P-384 private key (R387 13_slices_migration_peers.md) -/
  priv : Nat := 0
  /-- time of issue (R387 13_slices_migration_peers.md) -/
  since : Nat := 0
  deriving DecidableEq, Repr

/-- One Ngueth port (R394-R396, R403). -/
structure Port where
  /-- port 0-3 (R403 13_slices_migration_peers.md) -/
  number : Nat := 0
  /-- 3 bits STATE; reset: 0 (R403 13_slices_migration_peers.md) -/
  state : Nat := 0
  /-- NGL_CONTROL.ENABLE; reset: 1 (R403 13_slices_migration_peers.md) -/
  enable : Bool := true
  /-- its shutdown sequence runs; reset: 0 (R396 13_slices_migration_peers.md) -/
  shutting : Bool := false
  /-- DOMAIN_MATCH; reset: 0 (R403 13_slices_migration_peers.md) -/
  domainMatch : Bool := false
  /-- 4 bits LANES locked; reset: 0 (R403 13_slices_migration_peers.md) -/
  lanes : Nat := 0
  /-- serial of the attested peer; reset: none (R403 13_slices_migration_peers.md) -/
  peer : Bytes := []
  /-- own handshake nonce; reset: none (R396 13_slices_migration_peers.md) -/
  nonce : Bytes := []
  /-- own ephemeral P-384 private key; reset: 0 (R396 13_slices_migration_peers.md) -/
  ephPriv : Nat := 0
  /-- AES-256-GCM key, sending; reset: none (R396 13_slices_migration_peers.md) -/
  txKey : Bytes := []
  /-- AES-256-GCM key, receiving; reset: none (R396 13_slices_migration_peers.md) -/
  rxKey : Bytes := []
  /-- 64 bits flits sent since the keys were derived (nonce); reset: 0 (R396 13_slices_migration_peers.md) -/
  txCount : Nat := 0
  /-- 64 bits flits accepted since the keys were derived; reset: 0 (R396 13_slices_migration_peers.md) -/
  rxCount : Nat := 0
  /-- 12 bits next SEQ to send; reset: 0 (R394 13_slices_migration_peers.md) -/
  txSeq : Nat := 0
  /-- 12 bits SEQ expected; reset: 0 (R394 13_slices_migration_peers.md) -/
  rxSeq : Nat := 0
  /-- 12 bits last SEQ of ours acknowledged; reset: 0 (R394 13_slices_migration_peers.md) -/
  ackSeq : Nat := 0
  /-- 256-flit retry buffer: SEQ and the 256 bytes sent, newest first; reset: empty (R395 13_slices_migration_peers.md) -/
  buffer : List (Nat × Bytes) := []
  /-- consecutive retries of one flit; reset: 0 (R395 13_slices_migration_peers.md) -/
  retryOf : Nat := 0
  /-- attestation failed: the port waits 1 s before it retrains; reset: 0 (R396 13_slices_migration_peers.md) -/
  attestFailed : Bool := false
  /-- the time in 250 ns of that failure, from which it waits 1 s (R396 13_slices_migration_peers.md) -/
  failedAt : Nat := 0
  /-- peer's RTC less ours at its last calendar flit, us (none: its calendar is unset or unheard); reset: none (R440 15_riser_persistence_time.md) -/
  calDiff : Option Int := none
  /-- 64 bits NGL_TX; reset: 0 (R403 13_slices_migration_peers.md) -/
  tx : Nat := 0
  /-- 64 bits NGL_RX; reset: 0 (R403 13_slices_migration_peers.md) -/
  rx : Nat := 0
  /-- 32 bits; reset: 0 (R403 13_slices_migration_peers.md) -/
  retries : Nat := 0
  /-- 32 bits; reset: 0 (R403 13_slices_migration_peers.md) -/
  crcErr : Nat := 0
  /-- 32 bits; reset: 0 (R403 13_slices_migration_peers.md) -/
  tagErr : Nat := 0
  /-- 32 bits; reset: 0 (R403 13_slices_migration_peers.md) -/
  formatErr : Nat := 0
  /-- 32 bits; reset: 0 (R403 13_slices_migration_peers.md) -/
  downs : Nat := 0
  /-- 32 bits; reset: 0 (R403 13_slices_migration_peers.md) -/
  rekeys : Nat := 0
  /-- 4 x 32 bits NGL_LANE_ERR; reset: 0 (R403 13_slices_migration_peers.md) -/
  laneErr : List Nat := [0, 0, 0, 0]
  /-- 4 x 8 bits; reset: 0 (R403 13_slices_migration_peers.md) -/
  laneMarginT : List Nat := [0, 0, 0, 0]
  /-- 4 x 8 bits; reset: 0 (R403 13_slices_migration_peers.md) -/
  laneMarginV : List Nat := [0, 0, 0, 0]
  /-- 4 x 16 bits; reset: 0 (R403 13_slices_migration_peers.md) -/
  laneEq : List Nat := [0, 0, 0, 0]
  /-- 4 x 16 bits, signed; reset: 0 (R403 13_slices_migration_peers.md) -/
  laneCdr : List Int := [0, 0, 0, 0]
  /-- 4 bits NGL_LANE_PRBS.RUN; reset: 0 (R403 13_slices_migration_peers.md) -/
  prbs : List Bool := [false, false, false, false]
  /-- 4 x 32 bits; reset: 0 (R403 13_slices_migration_peers.md) -/
  prbsErr : List Nat := [0, 0, 0, 0]
  deriving DecidableEq, Repr

/-- A finished item whose mirror acknowledgement has not arrived (R398, R399). -/
structure MirrorWait where
  /-- mirrored slice (R398 13_slices_migration_peers.md) -/
  slice : Nat := 0
  /-- in-flight slot (R398 13_slices_migration_peers.md) -/
  item : Nat := 0
  /-- serial of the peer the update is for (R398 13_slices_migration_peers.md) -/
  peer : Bytes := []
  /-- the update erases the peer's copy (R397 13_slices_migration_peers.md) -/
  erase : Bool := false
  /-- port the update went out on (4: none reached the peer) (R398 13_slices_migration_peers.md) -/
  port : Nat := 0
  /-- number of the update, returned by its acknowledgement (R398 13_slices_migration_peers.md) -/
  update : Nat := 0
  deriving DecidableEq, Repr

/-- One region: its Chill account, state and general registers (R420, R580). -/
structure Region where
  /-- region G (R420 14_chill_governor.md) -/
  number : Nat := 0
  /-- 3 bits: 0 OFF, 1 WAKING, 2 ON, 3 DRAINING, 4 WAKE_PENDING; reset: 0x0 (R420 14_chill_governor.md) -/
  state : Nat := 0
  /-- 2 bits operating point; reset: 0x3 (R420 14_chill_governor.md) -/
  op : Nat := 3
  /-- 2 bits: last operating point while ON (R415 14_chill_governor.md) -/
  lastOp : Nat := 0
  /-- THERMAL_GATED; reset: 0 (R420 14_chill_governor.md) -/
  thermalGated : Bool := false
  /-- MUSTRUN: took a MUST_RUN item since the last update; reset: 0 (R420 14_chill_governor.md) -/
  mustrunSince : Bool := false
  /-- SENSOR_FAIL; reset: 0 (R420 14_chill_governor.md) -/
  sensorFail : Bool := false
  /-- 32 bits CREDIT, nJ, signed; reset: 0 (R420 14_chill_governor.md) -/
  credit : Int := 0
  /-- 32 bits POOL, nJ; reset: 0 (R420 14_chill_governor.md) -/
  pool : Nat := 0
  /-- credit at the last update, to see whether it changed (R136 05_tundish.md) -/
  creditWas : Int := 0
  /-- 16 bits DYNAMIC, mW; reset: 0 (R420 14_chill_governor.md) -/
  dynMw : Nat := 0
  /-- 16 bits LEAKAGE, mW; reset: 0 (R420 14_chill_governor.md) -/
  leakMw : Nat := 0
  /-- 16 bits HOTTEST, 0.25 C; reset: 0 (R420 14_chill_governor.md) -/
  hottest : Int := 0
  /-- 8 bits FACTOR, 1/128; reset: 0 (R420 14_chill_governor.md) -/
  factor : Nat := 0
  /-- 4 x 8 bits, C; reset: 0 (R420 14_chill_governor.md) -/
  sensors : List Int := [0, 0, 0, 0]
  /-- region energy, nJ (RGN_ENERGY in uJ); reset: 0 (R420 14_chill_governor.md) -/
  energyNj : Nat := 0
  /-- time ON at OP0-OP2 in units of 10 us (registers in ms); reset: 0 (R420 14_chill_governor.md) -/
  timeOp : List Nat := [0, 0, 0]
  /-- 16 bits WAKES, wraps; reset: 0 (R420 14_chill_governor.md) -/
  wakes : Nat := 0
  /-- 16 bits STEPDOWNS, wraps; reset: 0 (R420 14_chill_governor.md) -/
  stepdowns : Nat := 0
  /-- consecutive updates with at least 500 uJ and no MUST_RUN item, at most 10 (R413 14_chill_governor.md) -/
  goodUpdates : Nat := 0
  /-- fastest operating point the measured rail voltage allows, 0 OP0 to 2 OP2; reset: DESIGN CHOICE 0, no cap before the first measurement (R592 22_electrical_and_package.md) -/
  voltCap : Nat := 0
  /-- class whose demand woke it while WAKING or WAKE_PENDING: true A (R416 14_chill_governor.md) -/
  wakeClassA : Option Bool := none
  /-- 3 bits BRINGUP; reset: 0x0 (R580 21_register_map.md) -/
  bringup : Nat := 0
  /-- 9 bits FAILED, as positions; reset: 0x000 (R580 21_register_map.md) -/
  bistFailed : List Nat := []
  /-- PLL_FAIL; reset: 0 (R580 21_register_map.md) -/
  pllFail : Bool := false
  /-- SWITCH_FAIL; reset: 0 (R580 21_register_map.md) -/
  switchFail : Bool := false
  /-- RGN_BIST.SENSOR_FAIL; reset: 0 (R580 21_register_map.md) -/
  bistSensor : Bool := false
  /-- CORE_LOCK, BLOCK_LOCK, BN_LOCK; reset: 0 (R580 21_register_map.md) -/
  pllLock : List Bool := [false, false, false]
  /-- 16 bits LOCK_LOSSES, saturates; reset: 0 (R580 21_register_map.md) -/
  lockLosses : Nat := 0
  /-- 16 bits RGN_BRINGUP.TIME; reset: 0 (R580 21_register_map.md) -/
  bringupMs : Nat := 0
  /-- 8 bits KAT_RETIRED; reset: 0 (R580 21_register_map.md) -/
  katRetired : Nat := 0
  /-- 64 bits RGN_ITEMS; reset: 0 (R580 21_register_map.md) -/
  items : Nat := 0
  /-- 32 bits RGN_MUSTRUN; reset: 0 (R580 21_register_map.md) -/
  mustrun : Nat := 0
  deriving DecidableEq, Repr

/-- One battery-buffer entry (R458, R480). -/
structure BattEvent where
  /-- 4 bits (R480 17_tamper_and_quench.md) -/
  source : Nat := 0
  /-- 2 bits: 1 RECORD, 2 LOCK, 3 QUENCH (R480 17_tamper_and_quench.md) -/
  response : Nat := 1
  /-- 8 bits CAUSE (R487 17_tamper_and_quench.md) -/
  cause : Nat := 0
  /-- MERGED (R479 17_tamper_and_quench.md) -/
  merged : Bool := false
  /-- RTC time, us (R480 17_tamper_and_quench.md) -/
  time : Nat := 0
  deriving DecidableEq, Repr

/-- A running life-cycle transition (R496). -/
structure Transition where
  /-- 3 bits: state code (R496 18_life_cycle_and_debug.md) -/
  target : Nat := 0
  /-- token index: 0-5 for T0-T5 (R496 18_life_cycle_and_debug.md) -/
  token : Nat := 0
  /-- item of the ceremony that asked for it (R495 18_life_cycle_and_debug.md) -/
  ceremony : Option Nat := none
  deriving DecidableEq, Repr

/-- One copy of the transition intent (R496). -/
structure Intent where
  /-- 3 bits (R496 18_life_cycle_and_debug.md) -/
  target : Nat := 0
  /-- token index (R496 18_life_cycle_and_debug.md) -/
  token : Nat := 0
  /-- sequence number (R496 18_life_cycle_and_debug.md) -/
  seq : Nat := 0
  /-- 16 bytes: leftmost of SHA-384 over the rest (R496 18_life_cycle_and_debug.md) -/
  check : Bytes := []
  deriving DecidableEq, Repr

/-- One custodian record of the enrolment partition (R511). -/
structure Custodian where
  /-- INDEX, 1-16 (R511 19_dual_control.md) -/
  index : Nat := 0
  /-- STATE: 1 ACTIVE, 2 REVOKED (an absent record is none) (R511 19_dual_control.md) -/
  state : Nat := 1
  /-- 8 bits: epoch of the custodian's share (R511 19_dual_control.md) -/
  epoch : Nat := 0
  /-- 64 bits: calendar time of enrolment, or 0 (R511 19_dual_control.md) -/
  enrolled : Nat := 0
  /-- 65 bytes: the card's P-256 public point (R511 19_dual_control.md) -/
  point : Bytes := []
  deriving DecidableEq, Repr

/-- One admitted custodian of the open session, with the share the warden holds (R521). -/
structure Admitted where
  /-- custodian index (R521 19_dual_control.md) -/
  index : Nat := 0
  /-- EPOCH of the card (R513,R521 19_dual_control.md) -/
  epoch : Nat := 0
  /-- K of the card (R513,R527 19_dual_control.md) -/
  k : Nat := 0
  /-- the card's public point (R513 19_dual_control.md) -/
  point : Bytes := []
  /-- 32 bytes: the share (empty: not read for this class) (R521 19_dual_control.md) -/
  share : Bytes := []
  /-- 16 bytes: ENROL_MAC of the credential (R512 19_dual_control.md) -/
  mac : Bytes := []
  deriving DecidableEq, Repr

/-- The issuing of cards by a running ceremony verb (R526, R529). -/
structure Issuing where
  /-- in-flight slot of the verb (R526 19_dual_control.md) -/
  item : Nat := 0
  /-- 0 DOMAIN_CREATE, 1 ADD, 2 RESHARE, 3 RECOGNISE (R526,R529 19_dual_control.md) -/
  mode : Nat := 0
  /-- 32 bytes: the root being shared (R526 19_dual_control.md) -/
  root : Bytes := []
  /-- coefficients of x^1 to x^(K-1), 32 bytes each (R510 19_dual_control.md) -/
  coeffs : List Bytes := []
  /-- threshold of the sharing (R509 19_dual_control.md) -/
  k : Nat := 0
  /-- epoch of the sharing (R509 19_dual_control.md) -/
  epoch : Nat := 0
  /-- indexes not yet written, in order (R526 19_dual_control.md) -/
  todo : List Nat := []
  /-- indexes written, with their cards' points (R526 19_dual_control.md) -/
  written : List (Nat × Bytes) := []
  deriving DecidableEq, Repr

/-- The open quorum session (R519-R523). -/
structure Session where
  /-- class number 0-10 (R524 19_dual_control.md) -/
  cls : Nat := 0
  /-- ALG of a KEY_COMPONENT_ENTRY session (R523 19_dual_control.md) -/
  alg : Nat := 0
  /-- COMPONENTS of a KEY_COMPONENT_ENTRY session (R523 19_dual_control.md) -/
  components : Nat := 0
  /-- time at which its lifetime ends, in 250 ns (R519 19_dual_control.md) -/
  endsAt : Nat := 0
  /-- custodians admitted, in order (R521,R522 19_dual_control.md) -/
  admitted : List Admitted := []
  /-- components held: (custodian index, component) (R523 19_dual_control.md) -/
  comps : List (Nat × Bytes) := []
  /-- DOMAIN_JOIN: domain of the first card admitted, which later cards must share (R527 19_dual_control.md) -/
  joinDomain : Bytes := []
  /-- DOMAIN_JOIN: K of the first card admitted (R527 19_dual_control.md) -/
  joinK : Nat := 0
  /-- DOMAIN_JOIN: EPOCH of the first card admitted (R527 19_dual_control.md) -/
  joinEpoch : Nat := 0
  /-- issuing in progress (R526,R529 19_dual_control.md) -/
  issuing : Option Issuing := none
  /-- the lifetime ended while the ceremony verb ran outside ISSUING: the session ends with it (R532 19_dual_control.md) -/
  expired : Bool := false
  deriving DecidableEq, Repr

/-- The keypad: the entry in progress and the keys (R516, R517). -/
structure Keypad where
  /-- slot whose entry is in progress: 0 A, 1 B (R521,R534 19_dual_control.md) -/
  slot : Option Nat := none
  /-- slots that have reached an entry step and wait for the keypad, in order (R521 19_dual_control.md) -/
  waiting : List Nat := []
  /-- digits of the current entry, in order (R517,R534 19_dual_control.md) -/
  entry : List Nat := []
  /-- time of an FN press not yet followed by another key (R517 19_dual_control.md) -/
  fnAt : Option Nat := none
  /-- keys down: 4 x row + col (R516 19_dual_control.md) -/
  down : List Nat := []
  /-- stuck keys (R516 19_dual_control.md) -/
  stuck : List Nat := []
  deriving DecidableEq, Repr

/-- What MRAM still holds in place of an effect whose commit entry has not reached it (R431): applied when
the entry is lost with the keep rail. -/
inductive Undo where
  /-- The slice record as it was (R375). -/
  | slice (number : Nat) (old : Slice)
  /-- The replay ring as it was (R436). -/
  | replay (old : List ReplayEntry)
  /-- The rollback counter as it was (R83). -/
  | rollback (old : Nat)
  /-- The activation record as it was (R82). -/
  | activation (pattern firmware : Bool)
  /-- A counted-key record as it was: none where it was free (R231). -/
  | counted (index : Nat) (old : Option CountedRec)
  /-- The domain header and custodian records as they were (R511). -/
  | enrolment (domainId : Bytes) (k epoch : Nat) (records : List Custodian)
  /-- The customer pattern key digests as they were (R511). -/
  | patternKeys (k0 k1 : Bytes)
  /-- C and ACKED as they were (R459). -/
  | bounds (cleared acked : Nat)
  deriving DecidableEq, Repr

/-- One journal entry of the commit buffer (R421-R423). -/
structure CommitEntry where
  /-- bytes it takes in the journal (R421 15_riser_persistence_time.md) -/
  size : Nat := 0
  /-- the paced MRAM line it changes, when it changes one (R426 15_riser_persistence_time.md) -/
  line : Option Nat := none
  /-- the item whose effect it is (R39 01_six_levels.md) -/
  item : Option Nat := none
  /-- what MRAM still holds in place of the effect, should the entry be lost (R431 15_riser_persistence_time.md) -/
  undo : List Undo := []
  /-- the change of a logical map it holds: logical cluster and its new position (R22 01_six_levels.md) -/
  slot : Option (Nat × Option Nat) := none
  /-- accepted only while the device is not persist-unsafe (R526 19_dual_control.md) -/
  safeOnly : Bool := false
  deriving DecidableEq, Repr

/-- One line-cache entry (R426). -/
structure LineEntry where
  /-- MRAM line number (R426 15_riser_persistence_time.md) -/
  line : Nat := 0
  /-- the item whose effect it holds (R39 01_six_levels.md) -/
  item : Option Nat := none
  /-- what MRAM still holds in place of the change, newest first (R431 15_riser_persistence_time.md) -/
  undo : List Undo := []
  deriving DecidableEq, Repr

end Sys2Proof.Machine
end

