-- ==== Sys2Proof/Machine/State.lean ====
section
/-!
DEFINITION. The state of the CLR-8800 model as plain data: one structure per block of the register map or
store, every field with its width, the rule that names it and its reset value, and the machine right
after reset. A reset value the spec does not give is named in assumption log 3.
-/
namespace Sys2Proof.Machine

/-- The input balls, supplies and derived outputs the stages depend on. -/
structure Pins where
  /-- 1 bit (ball); reset: DESIGN CHOICE low: the machine stands in Hold right after a cold reset (R44,R47 02_staged_start.md) -/
  resetN : Bool := false
  /-- 1 bit (ball); reset: DESIGN CHOICE low (R44,R47 02_staged_start.md) -/
  pwrOk : Bool := false
  /-- 1 bit (ball); reset: DESIGN CHOICE high (no power failure) (R47 02_staged_start.md) -/
  pfailN : Bool := true
  /-- 1 bit (ball); reset: DESIGN CHOICE low (host reset asserted) (R54,R121 04_host_port_and_queues.md) -/
  perstN : Bool := false
  /-- 1 bit; reset: main supply present (Hold with main supply) (R48 02_staged_start.md) -/
  mainOn : Bool := true
  /-- 1 bit: keep rail up; reset: DESIGN CHOICE up (R34 01_six_levels.md, R593 22_electrical_and_package.md) -/
  keepRail : Bool := true
  /-- 1 bit: keep rail isolated onto VRISER; reset: spec: not isolated until a save (R430 15_riser_persistence_time.md) -/
  onRiser : Bool := false
  /-- 1 bit: the cell powers the battery domain (VBAT of 0.5 V or more, R609); reset: DESIGN CHOICE present (R478 17_tamper_and_quench.md) -/
  vbatOk : Bool := true
  /-- the guard's HALT and DIE_RESET lines to T0, and the hub's own HALT line to it; reset: HALT 0, DIE_RESET 1 (Hold), the hub's line 0 (R31,R53,R57 01_six_levels.md, R429 15_riser_persistence_time.md) -/
  die0 : DieLines := {}
  /-- the same lines to T1; reset: the same -/
  die1 : DieLines := {}
  /-- the same lines to T2; reset: the same -/
  die2 : DieLines := {}
  /-- the same lines to T3; reset: the same -/
  die3 : DieLines := {}
  /-- the guard's HALT and DIE_RESET lines to H, which has no hub line; reset: the same -/
  dieH : DieLines := {}
  /-- 2 bits: SB_ADDR[1:0] latched at Guard; reset: DESIGN CHOICE 0 until sampled (R49,R50 02_staged_start.md) -/
  sbAddr : Nat := 0
  /-- 1 bit: halted after a power-fail save until the next cold reset; reset: 0 (R47 02_staged_start.md) -/
  reposeSaved : Bool := false
  deriving DecidableEq, Repr

/-- Stages and start block (STG) and the start machinery behind it. -/
structure Stage where
  /-- 2 bits (Hold, Guard, Hub, Full); reset: Hold (R44 02_staged_start.md) -/
  stage : StageName := .hold
  /-- 1 bit: Hold's halt and commit-buffer drain is running; reset: 0 (R47 02_staged_start.md) -/
  draining : Bool := false
  /-- 1 bit: a power-fail save is running; reset: 0 (R47,R429 15_riser_persistence_time.md) -/
  saving : Bool := false
  /-- 1 bit: a rise of RESET_N and PWR_OK is held until the drain ends, with what stage Guard will find; reset: 0 (R47 02_staged_start.md) -/
  heldStart : Option GuardFacts := none
  /-- STG_STATUS.VERBS; reset: 0 (R66 02_staged_start.md) -/
  verbs : Bool := false
  /-- STG_STATUS.FULLCAP; reset: 0 (R66 02_staged_start.md) -/
  fullcap : Bool := false
  /-- STG_STATUS.UNSEALED; reset: 0 (R66 02_staged_start.md) -/
  unsealed : Bool := false
  /-- STG_STATUS.RISER_WAIT; reset: 0 (R66 02_staged_start.md) -/
  riserWait : Bool := false
  /-- STG_STATUS.RISER_TIMEOUT; reset: 0 (R66 02_staged_start.md) -/
  riserTimeout : Bool := false
  /-- STG_STATUS.FAULT; reset: 0 (R66 02_staged_start.md) -/
  fault : Bool := false
  /-- 8 bits: cause of the device fault state (GDS); reset: 0 (R30 01_six_levels.md, R577 21_register_map.md) -/
  faultCause : Nat := 0
  /-- STG_STATUS.HELD; reset: 0 (R66 02_staged_start.md) -/
  held : Bool := false
  /-- 1 bit; reset: 0 (R51 02_staged_start.md) -/
  stoppedInGuard : Bool := false
  /-- 1 bit: stopped in Hub with HUB_ID_MISMATCH; reset: 0 (R33 01_six_levels.md) -/
  hubIdStop : Bool := false
  /-- STG_STATUS.REPOUR_BUSY; reset: 0 (R66 02_staged_start.md) -/
  repourBusy : Bool := false
  /-- STG_STATUS.REPOUR_PENDING; reset: 0 (R66 02_staged_start.md) -/
  repourPending : Bool := false
  /-- STG_STATUS.PAT_SLOT; reset: 0 (R66 02_staged_start.md) -/
  patSlot : Bool := false
  /-- STG_STATUS.FW_SLOT; reset: 0 (R66 02_staged_start.md) -/
  fwSlot : Bool := false
  /-- 8 bits STG_REASON.CODE; reset: 0 (R66 02_staged_start.md) -/
  reasonCode : Nat := 0
  /-- 3 bits STG_REASON.STAGE; reset: 0 (R66 02_staged_start.md) -/
  reasonStage : Nat := 0
  /-- 16 bits STG_REASON.DETAIL; reset: 0 (R66 02_staged_start.md) -/
  reasonDetail : Nat := 0
  /-- STG_CONTROL.HUB_HOLD; reset: 0 (R66 02_staged_start.md) -/
  hubHold : Bool := false
  /-- 16 bits STG_REGIONS.ONLINE, as the list of online regions G; reset: 0x0000 (R66 02_staged_start.md) -/
  online : List Nat := []
  /-- 16 bits STG_REGIONS.USABLE, as the list of usable regions G; reset: 0x0000 (R66 02_staged_start.md) -/
  usable : List Nat := []
  /-- 32 bits STG_T_GUARD; reset: 0 (R66 02_staged_start.md) -/
  tGuard : Nat := 0
  /-- 32 bits STG_T_HUB; reset: 0 (R66 02_staged_start.md) -/
  tHub : Nat := 0
  /-- 32 bits STG_T_FULL; reset: 0 (R66 02_staged_start.md) -/
  tFull : Nat := 0
  /-- 32 bits STG_T_VERBS; reset: 0 (R66 02_staged_start.md) -/
  tVerbs : Nat := 0
  /-- 32 bits STG_T_FULLCAP; reset: 0 (R66 02_staged_start.md) -/
  tFullcap : Nat := 0
  /-- time of the most recent cold reset or re-pour; reset: 0 (R66 02_staged_start.md) -/
  t0 : Nat := 0
  /-- 8 bits STG_ANNEAL.NEW_RETIRED; reset: 0 (R66 02_staged_start.md) -/
  newRetired : Nat := 0
  /-- 4 bits STG_ANNEAL.DIE_OFFLINE, as the list of offline dies; reset: 0 (R66 02_staged_start.md) -/
  dieOffline : List Nat := []
  /-- 1 bit: BIST and maps done in this stage Full; reset: 0 (R57 02_staged_start.md) -/
  annealDone : Bool := false
  /-- 1 bit: firmware verified and running; reset: 0 (R57 02_staged_start.md) -/
  firmwareDone : Bool := false
  /-- firmware slots already rejected in this stage Full; reset: none (R58 02_staged_start.md) -/
  fwTried : List Nat := []
  /-- 1 bit: slice records and counters restored; reset: 0 (R61 02_staged_start.md) -/
  restored : Bool := false
  /-- the region now in bring-up; reset: none (R61 02_staged_start.md) -/
  bringing : Option Nat := none
  /-- 1 bit: stage Hub's pattern read is the next step of the start or re-pour; reset: 0 (R53,R64 02_staged_start.md) -/
  hubEntryDue : Bool := false
  /-- 1 bit: a pattern is accepted this start; reset: 0 (R53 02_staged_start.md) -/
  patternDone : Bool := false
  /-- 4 bits: dies whose identifier disagrees; reset: 0 (R33 01_six_levels.md) -/
  dieIdBad : Nat := 0
  /-- 8 bits ALERT_CAUSE; reset: 0 (R69 02_staged_start.md) -/
  alertCause : Nat := 0
  /-- time of an accepted QUENCH_ARM over SMBus; reset: none (R70 02_staged_start.md) -/
  smbArm : Option Nat := none
  /-- 1 bit: RWL registers locked since the first entry to Full; reset: 0 (R10 00_scope.md) -/
  rwlLocked : Bool := false
  deriving DecidableEq, Repr

/-- The 64 Kibit fuse array and the hardwired identities. -/
structure Fuses where
  /-- 16 bytes; reset: DESIGN CHOICE 0 (a part-specific fuse value) (R36 01_six_levels.md) -/
  serial : Bytes := List.replicate 16 0
  /-- 8 bits; reset: 0xB0 (R1 00_scope.md) -/
  stepping : Nat := 0xB0
  /-- identity root copy A; reset: DESIGN CHOICE 0 (R36 01_six_levels.md) -/
  rootA : Bytes := List.replicate 32 0
  /-- identity root copy B; reset: DESIGN CHOICE 0 (R36 01_six_levels.md) -/
  rootB : Bytes := List.replicate 32 0
  /-- 5 x 64 bits: T0-T3 and H; reset: DESIGN CHOICE 0 (R33 01_six_levels.md) -/
  dieIds : List Nat := List.replicate 5 0
  /-- factory repair map; reset: DESIGN CHOICE empty (R22,R35 01_six_levels.md) -/
  factoryMap : List RepairEntry := []
  /-- 32-bit thermometer word, as its count of blown bits 0-32; reset: DESIGN CHOICE 0 (unblown) (R83 03_pattern_image.md) -/
  epoch : Nat := 0
  /-- 1 fuse; reset: DESIGN CHOICE unblown (R80 03_pattern_image.md) -/
  cosignRequired : Bool := false
  /-- 48 bytes: vendor provisioning pattern key; reset: DESIGN CHOICE unprogrammed (R79 03_pattern_image.md) -/
  vendorProvDigest : Bytes := []
  /-- 48 bytes; reset: DESIGN CHOICE unprogrammed (R80 03_pattern_image.md) -/
  vendorCosignDigest : Bytes := []
  /-- 48 bytes; reset: DESIGN CHOICE unprogrammed (R92 03_pattern_image.md) -/
  vendorFwDigest : Bytes := []
  /-- the device-CA key, as an uncompressed point; reset: DESIGN CHOICE unprogrammed (R388 13_slices_migration_peers.md) -/
  deviceCa : Bytes := []
  /-- ROM patch held in the fuse array; reset: DESIGN CHOICE none (R50 02_staged_start.md) -/
  romPatch : Bytes := []
  /-- 24 fuses: blown fuses (0-4) of positions 1-6; reset: BLANK: none blown (DESIGN CHOICE: a new part) (R490 18_life_cycle_and_debug.md) -/
  lcWord : List Nat := [0, 0, 0, 0, 0, 0]
  /-- 48-byte digests of T1-T5 (1-5) and TT0-TT7 (8-15); reset: DESIGN CHOICE unprogrammed (R492 18_life_cycle_and_debug.md) -/
  tokenDigests : List (Nat × Bytes) := []
  /-- used fuses (1-2) of each token; unlisted 0; reset: none blown (R493 18_life_cycle_and_debug.md) -/
  tokenUsed : List (Nat × Nat) := []
  /-- 16 x 4-bit floor fields; reset: DESIGN CHOICE unblown (R472 17_tamper_and_quench.md) -/
  floors : List Nat := List.replicate 16 0
  /-- 1 fuse; reset: DESIGN CHOICE unblown (R472 17_tamper_and_quench.md) -/
  smbusQuenchOff : Bool := false
  /-- kill bits of SCRAPPED blown; reset: 0 (R500 18_life_cycle_and_debug.md) -/
  identityKilled : Bool := false
  /-- trim fields fused; reset: DESIGN CHOICE 0 (R489 18_life_cycle_and_debug.md) -/
  trimsFused : Bool := false
  /-- 16 bits: unblown fuse bits; reset: DESIGN CHOICE 65,535 (the register's largest value; the array is 64 Kibit) (R508 18_life_cycle_and_debug.md) -/
  fusesFree : Nat := 65535
  deriving DecidableEq, Repr

/-- The parameters of the pattern in use (R85), the PAT block (R93) and a running PATTERN_STAGE. -/
structure Pattern where
  /-- PAT_STATUS.ACCEPTED; reset: 0 (R93 03_pattern_image.md) -/
  accepted : Bool := false
  /-- PAT_STATUS.SLOT; reset: 0 (R93 03_pattern_image.md) -/
  slotB : Bool := false
  /-- PAT_STATUS.FALLBACK; reset: 0 (R93 03_pattern_image.md) -/
  fallback : Bool := false
  /-- PAT_STATUS.COSIGNED; reset: 0 (R93 03_pattern_image.md) -/
  cosigned : Bool := false
  /-- PAT_STATUS.FLOOR_RAISED; reset: 0 (R93 03_pattern_image.md) -/
  floorRaised : Bool := false
  /-- PAT_STATUS.WIDTH_LOW; reset: 0 (R93 03_pattern_image.md) -/
  widthLow : Bool := false
  /-- 8 bits PAT_STATUS.CAUSE_A; reset: 0x00 (R93 03_pattern_image.md) -/
  causeA : Nat := 0
  /-- 8 bits PAT_STATUS.CAUSE_B; reset: 0x00 (R93 03_pattern_image.md) -/
  causeB : Nat := 0
  /-- 32 bits PAT_VERSION; reset: 0 (R93 03_pattern_image.md) -/
  version : Nat := 0
  /-- 6 bits PAT_EPOCH.IMAGE; reset: 0 (R93 03_pattern_image.md) -/
  imageEpoch : Nat := 0
  /-- 32 bits MIN_FW_VERSION of the pattern in use; reset: 0 (R75 03_pattern_image.md) -/
  minFw : Nat := 0
  /-- 8 bits FW_SLOT of the pattern in use; reset: 0xFF (R75 03_pattern_image.md) -/
  fwSlotSel : Nat := 0xFF
  /-- 48 bytes PAT_DIGEST; reset: 0 (R93 03_pattern_image.md) -/
  digest : Bytes := []
  /-- 32 bits PAT_FW_VERSION; reset: 0 (R93 03_pattern_image.md) -/
  fwVersion : Nat := 0
  /-- PAT_KEYS.KEY_USED; reset: 0 (R93 03_pattern_image.md) -/
  keyUsed : Bool := false
  /-- 1 bit: stage Hub has read the rollback counter; reset: 0 (R93 03_pattern_image.md) -/
  rollbackShown : Bool := false
  /-- flash commands and timeouts of the header of the pattern in use; reset: 0 (R75 03_pattern_image.md) -/
  flash : FlashCfg := {}
  /-- RISER_UF; reset: 3,300 (catalogue default) (R85 03_pattern_image.md) -/
  riserUf : Nat := 3300
  /-- BATTERY_MAH; reset: 1,000 (R85 03_pattern_image.md) -/
  batteryMah : Nat := 1000
  /-- FITTED; reset: 0x1F (R85 03_pattern_image.md) -/
  fitted : Nat := 0x1F
  /-- PCIE_WIDTH; reset: 16 (R85 03_pattern_image.md) -/
  pcieWidth : Nat := 16
  /-- EXT_FITTED; reset: 0 (R85 03_pattern_image.md) -/
  extFitted : Nat := 0
  /-- VDDT_MV_n; reset: 750 (R85 03_pattern_image.md) -/
  vddtMv : List Nat := [750, 750, 750, 750]
  /-- MIN_SLOTS; reset: 8 (R85 03_pattern_image.md) -/
  minSlots : Nat := 8
  /-- CAP_SLOTS; reset: 4,096 (R85 03_pattern_image.md) -/
  capSlots : Nat := 4096
  /-- WEIGHT; reset: 64 (R85 03_pattern_image.md) -/
  weight : Nat := 64
  /-- PRIO_CEILING; reset: 1 (R85 03_pattern_image.md) -/
  prioCeiling : Nat := 1
  /-- MAX_SLICES; reset: 4,095 (R85 03_pattern_image.md) -/
  maxSlices : Nat := 4095
  /-- TICK_EXP; reset: 2 (R85 03_pattern_image.md) -/
  tickExp : Nat := 2
  /-- ENABLE_gg maps, as the verb codes they disable; reset: all 1 (none disabled) (R85 03_pattern_image.md) -/
  disabledVerbs : List Nat := []
  /-- PPL, 0.1 W; reset: 1,500 (R85 03_pattern_image.md) -/
  ppl : Nat := 1500
  /-- DEFER_US; reset: 2,000 (R85 03_pattern_image.md) -/
  deferUs : Nat := 2000
  /-- IDLE_GATE_US; reset: 100 (R85 03_pattern_image.md) -/
  idleGateUs : Nat := 100
  /-- THROTTLE_C; reset: 90 (R85 03_pattern_image.md) -/
  throttleC : Nat := 90
  /-- EWEIGHT_n given by the pattern (others: the table of R409); reset: none given (R85 03_pattern_image.md) -/
  eweights : List (Nat × Nat) := []
  /-- EXT_POLARITY; reset: 0 (R85 03_pattern_image.md) -/
  extPolarity : Nat := 0
  /-- EXT_FILTER_n, us; reset: 32 (R85 03_pattern_image.md) -/
  extFilter : List Nat := [32, 32, 32, 32]
  /-- RESP_TSn; reset: 0 (R85 03_pattern_image.md) -/
  respTs : List Nat := List.replicate 16 0
  /-- FULL_POLICY; reset: 0 OVERWRITE (R85 03_pattern_image.md) -/
  fullPolicyHold : Bool := false
  /-- INFO_RATE; reset: 10 (R85 03_pattern_image.md) -/
  infoRate : Nat := 10
  /-- INFO_BURST; reset: 50 (R85 03_pattern_image.md) -/
  infoBurst : Nat := 50
  /-- WARN_RATE; reset: 100 (R85 03_pattern_image.md) -/
  warnRate : Nat := 100
  /-- WARN_BURST; reset: 500 (R85 03_pattern_image.md) -/
  warnBurst : Nat := 500
  /-- CODE_LIMITS (code, rate, burst); reset: none (R85 03_pattern_image.md) -/
  codeLimits : List (Nat × Nat × Nat) := []
  /-- LEASE_MS; reset: 50 (R85 03_pattern_image.md) -/
  leaseMs : Nat := 50
  /-- PEER_n: (port, serial); reset: absent (R85 03_pattern_image.md) -/
  peers : List (Nat × Bytes) := []
  /-- SESSION_MIN; reset: 10 (R85 03_pattern_image.md) -/
  sessionMin : Nat := 10
  /-- QUORUM_c; reset: 2 (R85 03_pattern_image.md) -/
  quorums : List Nat := List.replicate 11 2
  /-- 32 bits PAT_STAGE_PROGRESS; reset: 0 (R93 03_pattern_image.md) -/
  stageProgress : Nat := 0
  /-- the running PATTERN_STAGE: item, target, flags, image, phase, flash position; reset: none (R89 03_pattern_image.md) -/
  staging : Option StageRun := none
  deriving DecidableEq, Repr

/-- The PCIe function, its three BARs, MSI-X and the register-pair latches. -/
structure HostPort where
  /-- 1 bit; reset: 0 (Hold: link down) (R54 02_staged_start.md) -/
  linkUp : Bool := false
  /-- training anchor time while the link trains; reset: none (R54 02_staged_start.md) -/
  training : Option Nat := none
  /-- lanes trained; reset: 0 (R54 02_staged_start.md) -/
  linkWidth : Nat := 0
  /-- trained speed (GDS); reset: 0 (R94 04_host_port_and_queues.md) -/
  linkSpeed : Nat := 0
  /-- the configuration space; reset: PRESUMED the defaults of PCIe Base 5.0 (R94 04_host_port_and_queues.md) -/
  cfg : CfgSpace := {}
  /-- PASID Control Enable in configuration space; reset: PRESUMED 0 (PCIe Base 5.0) (R100 04_host_port_and_queues.md) -/
  pasidEnable : Bool := false
  /-- PMCSR power state D3hot; reset: D0 (R95 04_host_port_and_queues.md) -/
  d3hot : Bool := false
  /-- output and completion writes held in D3hot; reset: empty (R95 04_host_port_and_queues.md) -/
  heldWrites : List OutEvent := []
  /-- 2,048 entries of 16 B, PBA bits, moderation entries and pending counts (unlisted: reset values); reset: moderation 0; PRESUMED table masked (PCIe Base 5.0) (R118,R119 04_host_port_and_queues.md) -/
  msix : List MsixVec := []
  /-- _HI halves latched by _LO reads, by BAR0 offset of the _LO register; reset: none latched (R8 00_scope.md) -/
  latches : List (Nat × Nat) := []
  deriving DecidableEq, Repr

/-- Queue contexts, the queue administration window and fetching. -/
structure Queues where
  /-- 262,144 contexts of 64 B (unlisted: all zero, DISABLED); reset: cleared (R102 04_host_port_and_queues.md) -/
  ctxs : List QueueCtx := []
  /-- 18 bits QAW_SELECT; reset: 0 (R106 04_host_port_and_queues.md) -/
  qawSelect : Nat := 0
  /-- QAW_STATUS.REFUSED; reset: 0 (R106 04_host_port_and_queues.md) -/
  qawRefused : Bool := false
  /-- 4 bits QAW_STATUS.CAUSE; reset: 0 (R106 04_host_port_and_queues.md) -/
  qawCause : Nat := 0
  /-- 3 bits QAW_STATUS.QSTATE; reset: 0 (R106 04_host_port_and_queues.md) -/
  qawState : Nat := 0
  /-- 16 x 32 bits QAW_DATA; reset: 0 (R106 04_host_port_and_queues.md) -/
  qawData : List Nat := List.replicate 16 0
  /-- fetch round robin: slice visited last; reset: DESIGN CHOICE 0 (R114 04_host_port_and_queues.md) -/
  rrSlice : Nat := 0
  /-- per slice: local queue served last; reset: DESIGN CHOICE none (R114 04_host_port_and_queues.md) -/
  rrQueue : List (Nat × Nat) := []
  /-- outstanding descriptor reads, at most one per queue; reset: none (R114 04_host_port_and_queues.md) -/
  batches : List Batch := []
  /-- completion buffer, 8,192 entries: parked completions; reset: empty (R115 04_host_port_and_queues.md) -/
  complBuf : List Completion := []
  deriving DecidableEq, Repr

/-- The Tundish: items, lists, takes, deficits, delay lists and the TND counters. -/
structure Tundish where
  /-- the in-flight table, 65,536 slots: every accepted item with its state, age, deferral, MUST_RUN mark, list order, working data; reset: empty (R113,R124 05_tundish.md) -/
  items : List Item := []
  /-- order of acceptance (FIFO order of the ready lists); reset: 0 (R125 05_tundish.md) -/
  seqNo : Nat := 0
  /-- per S/A list and slice: deficit (nJ); reset: none (R132 05_tundish.md) -/
  deficits : List Deficit := []
  /-- per S/A list: the slices of the round and the pointer; reset: empty (R132 05_tundish.md) -/
  rounds : List Round := []
  /-- per logical cluster: last 64 key-A identities; reset: empty (R130 05_tundish.md) -/
  locality : List (Nat × List Nat) := []
  /-- transaction cores blocked in a take: core = 4 x logical cluster + TC, in the order they blocked; reset: none (R128 05_tundish.md) -/
  blocked : List Nat := []
  /-- eight delay lists sharing 65,536 entries (1,024 reserved); reset: empty (R144 05_tundish.md) -/
  delays : List DelayEntry := []
  /-- order of insertion into the delay lists; reset: 0 (R144 05_tundish.md) -/
  delaySeq : Nat := 0
  /-- order in which completions become postable; reset: 0 (R115 04_host_port_and_queues.md) -/
  postSeq : Nat := 0
  /-- time at which TND_TICK was last 0; reset: 0 (R143 05_tundish.md) -/
  tick0 : Nat := 0
  /-- TND_STATUS.DISPATCHING; reset: 0 (R151 05_tundish.md) -/
  dispatching : Bool := false
  /-- TND_STATUS.WAKE_DEMAND; reset: 0 (R151 05_tundish.md) -/
  wakeDemand : Bool := false
  /-- 1 bit: the raised wake demand is for class A; reset: 0 (R136 05_tundish.md) -/
  wakeA : Bool := false
  /-- 32 bits TND_PROMOTED; reset: 0 (R151 05_tundish.md) -/
  promoted : Nat := 0
  /-- 32 bits TND_AGED; reset: 0 (R151 05_tundish.md) -/
  aged : Nat := 0
  /-- 64 bits TND_DISPATCH; reset: 0 (R151 05_tundish.md) -/
  dispatches : Nat := 0
  /-- 64 bits TND_LOCAL; reset: 0 (R151 05_tundish.md) -/
  locals : Nat := 0
  /-- 24 bits TND_BAD_ACCESS.COUNT; reset: 0 (R151 05_tundish.md) -/
  badAccess : Nat := 0
  /-- 2 bits TND_BAD_ACCESS.LAST_BAR; reset: 0 (R151 05_tundish.md) -/
  badBar : Nat := 0
  deriving DecidableEq, Repr

/-- The 144 physical clusters, 16 logical maps, the field repair maps and the five die-to-die links. -/
structure Fabric where
  /-- per physical cluster (unlisted: powered off, no unit live): TC, SBU, BNU, DGU, key cache and their registers; reset: every field 0 (R171 06_symmetric_block_unit.md, R201 07_big_number_unit.md) -/
  clusters : List Cluster := []
  /-- 16 logical maps in the wear record (unlisted: none recorded); reset: DESIGN CHOICE none recorded (a new device) (R22,R35 01_six_levels.md) -/
  maps : List LogicalMap := []
  /-- field repair maps, at most 32 entries per die; reset: DESIGN CHOICE empty (a new device) (R15,R35 01_six_levels.md) -/
  fieldMap : List RepairEntry := []
  /-- units retired until the next cold reset because the field map is full; reset: none (R15 01_six_levels.md) -/
  tempRetired : List RepairEntry := []
  /-- check-window times of TCs, SBUs and BNUs in the wear record; reset: DESIGN CHOICE none (R16,R166,R194 01_six_levels.md) -/
  strikes : List Strike := []
  /-- lane maps in the wear record: (link, wire, spare); reset: DESIGN CHOICE none (R28,R35 01_six_levels.md) -/
  lanes : List (Nat × Nat × Nat) := []
  /-- five links: T0-H to T3-H, G-H; reset: down, counts 0 (R26,R27,R578 01_six_levels.md) -/
  links : List DieLink := [{}, {}, {}, {}, {}]
  /-- recorded substitutions awaiting a region wake: (logical cluster, spare position); reset: none (R20 01_six_levels.md) -/
  subst : List (Nat × Nat) := []
  /-- spare self-tests running: (physical cluster, logical cluster); reset: none (R20 01_six_levels.md) -/
  spareTest : List (Nat × Nat) := []
  deriving DecidableEq, Repr

/-- Roots, derived-key presence, hub key cache, handles, counted-key records and the KST counters. -/
structure Keys where
  /-- BBRAM domain root, 32 bytes; reset: DESIGN CHOICE all zero: no domain (R205) (R204 08_keys_and_ingots.md) -/
  bbram : Bytes := List.replicate 32 0
  /-- 64-bit BBRAM check; reset: DESIGN CHOICE 0 (R205 08_keys_and_ingots.md) -/
  bbramCheck : Bytes := List.replicate 8 0
  /-- 1 bit: BBRAM erased by a Quench fuse line (QUENCHED shown); reset: 0 (R476 17_tamper_and_quench.md) -/
  bbramFuse : Bool := false
  /-- KST_STATUS.FIR_OK; reset: 0 (R236 08_keys_and_ingots.md) -/
  firOk : Bool := false
  /-- KST_STATUS.DOMAIN; reset: 0 (R236 08_keys_and_ingots.md) -/
  domain : Bool := false
  /-- KST_STATUS.TEST_ROOT; reset: 0 (R236 08_keys_and_ingots.md) -/
  testRoot : Bool := false
  /-- KST_STATUS.BBRAM_BAD; reset: 0 (R236 08_keys_and_ingots.md) -/
  bbramBad : Bool := false
  /-- 1 bit: identity-root keys derived (warden registers); reset: 0 (R209 08_keys_and_ingots.md) -/
  idKeysReady : Bool := false
  /-- hub key cache, 65,536 entries of 128 B: cached keys, pins, handles, draining entries (LRU order); reset: empty (R228 08_keys_and_ingots.md) -/
  hubCache : List HubEntry := []
  /-- reuse count UNIQ of each hub entry index (16 bits; unlisted 0); reset: 0 (R228 08_keys_and_ingots.md) -/
  uniq : List (Nat × Nat) := []
  /-- 65,536 counted-key records in MRAM; reset: DESIGN CHOICE none allocated (a new device) (R231 08_keys_and_ingots.md) -/
  counted : List CountedRec := []
  /-- counted records held by running items: (index, item); reset: none (R231 08_keys_and_ingots.md) -/
  heldCounted : List (Nat × Nat) := []
  /-- 64 bits KST_MISS; reset: 0 (R236 08_keys_and_ingots.md) -/
  missCount : Nat := 0
  /-- 32 bits KST_CORRUPT; reset: 0 (R236 08_keys_and_ingots.md) -/
  corruptCount : Nat := 0
  /-- 32 bits KST_STALE; reset: 0 (R236 08_keys_and_ingots.md) -/
  staleCount : Nat := 0
  /-- PIN failure-count table, 16,384 entries (slice, tag, count, last failure); reset: empty (volatile) (R303 10_verbs_pin_card_emv.md) -/
  pinFails : List PinFail := []
  /-- failure-count entries held by running items: (slice, tag, item); reset: none (R306 10_verbs_pin_card_emv.md) -/
  pinHeld : List (Nat × Bytes × Nat) := []
  deriving DecidableEq, Repr

/-- Measurement registers, guard key slots, entropy source, device DRBG, and signer. -/
structure Measure where
  /-- 32 x 384 bits MEAS0-MEAS31; reset: 48 zero bytes each (R360 12_digest_measurement_attestation.md) -/
  meas : List Bytes := List.replicate 32 (List.replicate 48 0)
  /-- 32 x 32 bits extend counts; reset: 0 (R360 12_digest_measurement_attestation.md) -/
  measCount : List Nat := List.replicate 32 0
  /-- 5 bits MEA_SELECT; reset: 0 (R372 12_digest_measurement_attestation.md) -/
  select : Nat := 0
  /-- MEA_VALUE0-11; reset: 0 (R372 12_digest_measurement_attestation.md) -/
  latchedValue : Bytes := List.replicate 48 0
  /-- 32 bits MEA_COUNT; reset: 0 (R372 12_digest_measurement_attestation.md) -/
  latchedCount : Nat := 0
  /-- 16 guard key slots (unlisted: empty); reset: empty (R353 12_digest_measurement_attestation.md) -/
  slots : List GuardSlot := []
  /-- MEA_RNG_STATUS.HEALTHY; reset: 0 (R372 12_digest_measurement_attestation.md) -/
  rngHealthy : Bool := false
  /-- MEA_RNG_STATUS.FAILED; reset: 0 (R372 12_digest_measurement_attestation.md) -/
  rngFailed : Bool := false
  /-- MEA_RNG_STATUS.DEAD; reset: 0 (R372 12_digest_measurement_attestation.md) -/
  rngDead : Bool := false
  /-- 5 bits MEA_RNG_STATUS.CONSEC; reset: 0 (R372 12_digest_measurement_attestation.md) -/
  rngConsec : Nat := 0
  /-- 32 bits MEA_RNG_FAILS; reset: 0 (R372 12_digest_measurement_attestation.md) -/
  rngFails : Nat := 0
  /-- 1 bit: the DRBG must reseed before its next request; reset: 0 (R356 12_digest_measurement_attestation.md) -/
  rngReseed : Bool := false
  /-- 32 bits MEA_STATEMENTS; reset: 0 (R372 12_digest_measurement_attestation.md) -/
  statements : Nat := 0
  /-- item whose signature is in progress; reset: none (R365 12_digest_measurement_attestation.md) -/
  signerItem : Option Nat := none
  /-- items waiting for the signer; reset: empty (R365 12_digest_measurement_attestation.md) -/
  signerQueue : List Nat := []
  /-- bytes of the open ICC transcript; reset: empty (R359 12_digest_measurement_attestation.md) -/
  transcript : Bytes := []
  /-- 64-bit session sequence number since cold reset; reset: 0 (R359 12_digest_measurement_attestation.md) -/
  sessionSeq : Nat := 0
  /-- 1 bit: the two device-issued certificates exist since the last cold reset; reset: 0 (R363 12_digest_measurement_attestation.md) -/
  certsIssued : Bool := false
  /-- attestation key certificate (DER); reset: none (R363 12_digest_measurement_attestation.md) -/
  attCert : Bytes := []
  /-- compatibility key certificate (DER); reset: none (R363 12_digest_measurement_attestation.md) -/
  compatCert : Bytes := []
  /-- identity certificate in MRAM (DER); reset: DESIGN CHOICE none (R363 12_digest_measurement_attestation.md) -/
  identityCert : Bytes := []
  /-- its CMAC under the vendor binding key; reset: DESIGN CHOICE none (R363 12_digest_measurement_attestation.md) -/
  identityCertTag : Bytes := []
  deriving DecidableEq, Repr

/-- Slice records and runtime state, offers, restored areas, mailbox and the SLC registers. -/
structure Slices where
  /-- 4,095 records and runtime state (unlisted: FREE, detached): state, epoch, wrap key, generation, attachment parameters, lockouts, mirror, migration digests, tombstone, restored area, status block, notices, held create or attach; reset: FREE (R375,R376,R377 13_slices_migration_peers.md) -/
  slices : List Slice := []
  /-- slice 0: attached, detaching, quotas; reset: detached (Hold) (R374 13_slices_migration_peers.md) -/
  slice0 : Slice0 := {}
  /-- 12 bits SLC_SELECT; reset: 0x000 (R402 13_slices_migration_peers.md) -/
  select : Nat := 0
  /-- 11 bits SLC_MB_VECTOR; reset: 0x000 (R402 13_slices_migration_peers.md) -/
  mbVector : Nat := 0
  /-- pending mailbox set; reset: empty (R380 13_slices_migration_peers.md) -/
  mbPending : List Nat := []
  /-- at most 16 offers with their ephemeral keys; reset: none (R387 13_slices_migration_peers.md) -/
  offers : List Offer := []
  deriving DecidableEq, Repr

/-- Four Ngueth ports (NGL), their lanes, mirror waits and calendar agreement. -/
structure Ngueth where
  /-- port n: state, keys, peer, counters, lanes (unlisted: DISABLED, ENABLE 1); reset: STATE 0, ENABLE 1, others 0 (R403 13_slices_migration_peers.md) -/
  ports : List Port := []
  /-- per peer serial: time of the last valid flit; reset: none (R399 13_slices_migration_peers.md) -/
  peerSeen : List (Bytes × Nat) := []
  /-- completions waiting for a mirror acknowledgement; reset: none (R398 13_slices_migration_peers.md) -/
  mirrorWaits : List MirrorWait := []
  /-- per peer: time of the last CALENDAR_SKEW record; reset: none (R440 15_riser_persistence_time.md) -/
  skewLogged : List (Bytes × Nat) := []
  /-- number of the last mirror update sent; reset: DESIGN CHOICE 0 (R398 13_slices_migration_peers.md) -/
  updates : Nat := 0
  /-- mirror updates received whose commit entry is not yet accepted: port and number; reset: none (R398 13_slices_migration_peers.md) -/
  ackDue : List (Nat × Nat) := []
  /-- slew in force, ppm; reset: 0 (R440 15_riser_persistence_time.md) -/
  slewPpm : Int := 0
  deriving DecidableEq, Repr

/-- Chill: sixteen regions and the package figures (CHL, RGN). -/
structure Chill where
  /-- region G: state, OP, credit, pool, temperatures, gates, timers, counts (unlisted: OFF, OP3, 0); reset: STATE 0, OP 3, others 0 (R420 14_chill_governor.md) -/
  regions : List Region := []
  /-- 11 bits CHL_CONTROL.PPL_CAP; reset: 0 (R419 14_chill_governor.md) -/
  pplCap : Nat := 0
  /-- 2 bits CHL_CONTROL.OP_CAP; reset: 0 (R419 14_chill_governor.md) -/
  opCap : Nat := 0
  /-- 16 bits CHL_PKG_POWER.STATIC, 0.1 W; reset: 0 (R419 14_chill_governor.md) -/
  pStatic : Nat := 0
  /-- 16 bits CHL_PKG_POWER.POWER, 0.1 W; reset: 0 (R419 14_chill_governor.md) -/
  pkgPower : Nat := 0
  /-- last 100 package readings (1 ms average); reset: none (R419 14_chill_governor.md) -/
  powerWindow : List Nat := []
  /-- CHL_STATUS.STATIC_OVER; reset: 0 (R419 14_chill_governor.md) -/
  staticOver : Bool := false
  /-- 16 bits CHL_HOTTEST.TEMP, 0.25 C; reset: 0 (R419 14_chill_governor.md) -/
  hottest : Int := 0
  /-- 4 bits CHL_HOTTEST.REGION; reset: 0 (R419 14_chill_governor.md) -/
  hottestRegion : Nat := 0
  /-- CHL_HOTTEST.NO_REGION; reset: 0 (R419 14_chill_governor.md) -/
  noRegion : Bool := false
  /-- package energy since cold reset (CHL_ENERGY in uJ); reset: 0 (R419 14_chill_governor.md) -/
  energyNj : Nat := 0
  /-- 32 bits CHL_STEPDOWNS; reset: 0 (R419 14_chill_governor.md) -/
  stepdowns : Nat := 0
  /-- 32 bits CHL_WAKES; reset: 0 (R419 14_chill_governor.md) -/
  wakes : Nat := 0
  /-- 32 bits CHL_GATES; reset: 0 (R419 14_chill_governor.md) -/
  gates : Nat := 0
  /-- 32 bits CHL_THERMAL_GATES; reset: 0 (R419 14_chill_governor.md) -/
  thermalGates : Nat := 0
  /-- 1 bit: updates run (stage Full); reset: 0 (R418 14_chill_governor.md) -/
  updating : Bool := false
  deriving DecidableEq, Repr

/-- Commit buffer, MRAM contents outside the slice, key and log partitions, riser, device time and life counters (PER). -/
structure Persist where
  /-- journal, 228 KiB, in arrival order; reset: empty (R421 15_riser_persistence_time.md) -/
  journal : List CommitEntry := []
  /-- entries waiting for journal space, a line or a replay line; reset: empty (R422 15_riser_persistence_time.md) -/
  waiting : List CommitEntry := []
  /-- line cache, 256 lines; reset: empty (R421,R426 15_riser_persistence_time.md) -/
  lines : List LineEntry := []
  /-- per paced line: time of its last MRAM write; reset: none (R426 15_riser_persistence_time.md) -/
  lineWrites : List (Nat × Nat) := []
  /-- counter area, 680 entries (index, COUNT); reset: empty (R421 15_riser_persistence_time.md) -/
  counterArea : List (Nat × Nat) := []
  /-- count checkpoint ring, 32 slots; reset: DESIGN CHOICE none written (a new device) (R425,R428 15_riser_persistence_time.md) -/
  ring : List Checkpoint := []
  /-- 64 bits SEQ of the newest checkpoint; reset: 0 (R428 15_riser_persistence_time.md) -/
  ringSeq : Nat := 0
  /-- 5 bits: next slot of the rotation; reset: 0 (R428 15_riser_persistence_time.md) -/
  ringNext : Nat := 0
  /-- replay ring, 4,096 entries, newest first; reset: DESIGN CHOICE empty (a new device) (R436 15_riser_persistence_time.md) -/
  replay : List ReplayEntry := []
  /-- 16 bits PER_REPLAY.HITS; reset: 0 (R446 15_riser_persistence_time.md) -/
  replayHits : Nat := 0
  /-- count of cold resets, for replay scopes; reset: DESIGN CHOICE 0 (R437 15_riser_persistence_time.md) -/
  coldSeq : Nat := 0
  /-- count of cold resets, re-pours and PERST_N falls, for replay scopes; reset: DESIGN CHOICE 0 (R437 15_riser_persistence_time.md) -/
  scopeSeq : Nat := 0
  /-- 32-bit rollback counter; reset: 0 (a new device holds 0) (R83 03_pattern_image.md) -/
  rollback : Nat := 0
  /-- activation record: pattern slot B; reset: A (never activated) (R82 03_pattern_image.md) -/
  actPattern : Bool := false
  /-- activation record: firmware slot B; reset: A (R82 03_pattern_image.md) -/
  actFirmware : Bool := false
  /-- device time of the last time checkpoint, us; reset: DESIGN CHOICE 0 (R442 15_riser_persistence_time.md) -/
  timeCheckpoint : Nat := 0
  /-- save marker: heat number and checkpoint SEQ; reset: DESIGN CHOICE none (R431 15_riser_persistence_time.md) -/
  saveMarker : Option (Nat × Nat) := none
  /-- 1 bit: main power was lost and its save did not complete; reset: 0 (R431 15_riser_persistence_time.md) -/
  saveOwed : Bool := false
  /-- 13 bits PER_RISER.VRISER, mV; reset: 0 (R446 15_riser_persistence_time.md) -/
  vriser : Nat := 0
  /-- PER_STATUS.PERSIST_UNSAFE; reset: 1 (R446 15_riser_persistence_time.md) -/
  persistUnsafe : Bool := true
  /-- 1 bit: the starting persist-unsafe state has ended; reset: 0 (R433 15_riser_persistence_time.md) -/
  everSafe : Bool := false
  /-- 1 bit: persist-unsafe permanently; reset: 0 (R434 15_riser_persistence_time.md) -/
  unsafePerm : Bool := false
  /-- consecutive measurements below V_P; reset: 0 (R433 15_riser_persistence_time.md) -/
  below : Nat := 0
  /-- time since which VRISER has held V_P; reset: none (R433 15_riser_persistence_time.md) -/
  aboveSince : Option Nat := none
  /-- time since which VRISER has held 4.6 V; reset: none (R60 02_staged_start.md) -/
  gateSince : Option Nat := none
  /-- 1 bit: riser charger enabled; reset: 0 (R50 02_staged_start.md) -/
  chargerOn : Bool := false
  /-- time of the charger's enabling; reset: 0 (R60 02_staged_start.md) -/
  chargerSince : Nat := 0
  /-- 1 bit: the short-circuit test failed; reset: 0 (R434 15_riser_persistence_time.md) -/
  riserShort : Bool := false
  /-- PER_STATUS.RISER_FAULT; reset: 0 (R446 15_riser_persistence_time.md) -/
  riserFault : Bool := false
  /-- PER_STATUS.CAL_SET (battery domain); reset: DESIGN CHOICE 0 (lost with the battery domain) (R438 15_riser_persistence_time.md) -/
  calSet : Bool := false
  /-- 2 bits PER_STATUS.CAL_SOURCE; reset: 0 (R438 15_riser_persistence_time.md) -/
  calSource : Nat := 0
  /-- PER_STATUS.BATT_LOW; reset: 0 (R446 15_riser_persistence_time.md) -/
  battLow : Bool := false
  /-- 1 bit: WEAR_LOW already written; reset: 0 (R444 15_riser_persistence_time.md) -/
  wearLow : Bool := false
  /-- PER_STATUS.SAVE_INCOMPLETE; reset: 0 (R446 15_riser_persistence_time.md) -/
  saveIncomplete : Bool := false
  /-- PER_STATUS.BATTERY_LOST; reset: 0 (R446 15_riser_persistence_time.md) -/
  batteryLost : Bool := false
  /-- 1 bit: the battery domain has lost power since the last stage Guard; reset: 0 (R442 15_riser_persistence_time.md) -/
  rtcLost : Bool := false
  /-- 1 bit: stage Guard has loaded counters, RTC and wear; reset: 0 (R446 15_riser_persistence_time.md) -/
  perLoaded : Bool := false
  /-- RTC seconds (33 bits) and fraction, held as device time in units of 0.25 ps (64 bits of us); reset: DESIGN CHOICE 0 (R438,R439 15_riser_persistence_time.md) -/
  rtc : Nat := 0
  /-- 1 bit: RTC holding at 2255-12-31 23:59:59; reset: 0 (R438 15_riser_persistence_time.md) -/
  rtcHeld : Bool := false
  /-- 10 bits PER_LIFE_SELECT; reset: 0x000 (R446 15_riser_persistence_time.md) -/
  lifeSelect : Nat := 0
  /-- life counters by index (unlisted 0); reset: DESIGN CHOICE 0 (a new device) (R443 15_riser_persistence_time.md) -/
  life : List (Nat × Nat) := []
  /-- 2 bits: life-counter copy written last; reset: DESIGN CHOICE 0 (R443 15_riser_persistence_time.md) -/
  lifeCopy : Nat := 0
  /-- writes to each 64 KiB MRAM sector (life counters 64-575 count 64 of them each); reset: DESIGN CHOICE 0 (a new device) (R443 15_riser_persistence_time.md) -/
  sectorWrites : List (Nat × Nat) := []
  /-- the three fractions (10^-9) at each 60 s write over the last 30 days of power-on time, newest first: (minutes, fractions); reset: DESIGN CHOICE none (R444 15_riser_persistence_time.md) -/
  wearHist : List (Nat × List Nat) := []
  /-- 7 bits PER_WEAR.REMAINING; reset: 0x00 (R446 15_riser_persistence_time.md) -/
  wearRemaining : Nat := 0
  /-- 2 bits PER_WEAR.LIMIT; reset: 0 (R446 15_riser_persistence_time.md) -/
  wearLimit : Nat := 0
  /-- 10 bits PER_WEAR.YEARS; reset: 0x000 (R446 15_riser_persistence_time.md) -/
  wearYears : Nat := 0
  deriving DecidableEq, Repr

/-- The heat log: numbering, open record, staging buffer, MRAM partition, buckets, boundaries and the HLW window. -/
structure HeatLog where
  /-- 64 bits: next heat number; reset: DESIGN CHOICE 1 (a new device; heat numbers are never reset) (R447,R452 16_heat_log.md) -/
  next : Nat := 1
  /-- the open record and its admission time; reset: none (R453 16_heat_log.md) -/
  opened : Option HeatRec := none
  /-- time the open record was admitted; reset: 0 (R453 16_heat_log.md) -/
  openSince : Nat := 0
  /-- log staging buffer, 256 records (sealed, waiting for MRAM); reset: empty (R457 16_heat_log.md) -/
  staging : List HeatRec := []
  /-- producer queue, 64 entries; reset: empty (R457 16_heat_log.md) -/
  queue : List Occurrence := []
  /-- MRAM heat-log partition, 393,216 slots (newest first); reset: DESIGN CHOICE empty (a new device) (R424,R457 16_heat_log.md) -/
  store : List HeatRec := []
  /-- CHECK of the newest sealed record; reset: CHECK(0) eight zero bytes (R449 16_heat_log.md) -/
  lastCheck : Bytes := List.replicate 8 0
  /-- token bucket per limited code: (code, tokens in micro-tokens, time); reset: full (unlisted) (R451 16_heat_log.md) -/
  buckets : List Bucket := []
  /-- suppressed counters with first and last times, source and slice; reset: 0 (R454,R455 16_heat_log.md) -/
  suppressed : List Suppressed := []
  /-- occurrences dropped and not yet reported by LOG_DROPPED; reset: 0 (R457 16_heat_log.md) -/
  droppedPending : Nat := 0
  /-- 32 bits HLW_DROPPED; reset: 0 (R466 16_heat_log.md) -/
  dropped : Nat := 0
  /-- 32 bits HLW_SUPPRESSED; reset: 0 (R466 16_heat_log.md) -/
  suppressedCount : Nat := 0
  /-- 64 bits C, the clear boundary; reset: DESIGN CHOICE 0 (a new device) (R459 16_heat_log.md) -/
  cleared : Nat := 0
  /-- 64 bits ACKED; reset: DESIGN CHOICE 0 (R459 16_heat_log.md) -/
  acked : Nat := 0
  /-- 64 bits HLW_CURSOR; reset: 0 (R466 16_heat_log.md) -/
  cursor : Nat := 0
  /-- _LO half written, waiting for _HI; reset: 0 (R8 00_scope.md) -/
  cursorLo : Nat := 0
  /-- HLW_DATA0-15; reset: 0 (R466 16_heat_log.md) -/
  data : Bytes := List.replicate 64 0
  /-- HLW_STATUS.VALID; reset: 0 (R466 16_heat_log.md) -/
  valid : Bool := false
  /-- HLW_STATUS.GONE; reset: 0 (R466 16_heat_log.md) -/
  gone : Bool := false
  /-- HLW_STATUS.END; reset: 0 (R466 16_heat_log.md) -/
  atEnd : Bool := false
  /-- HLW_STATUS.CHAIN_BAD; reset: 0 (R466 16_heat_log.md) -/
  chainBad : Bool := false
  /-- HLW_STATUS.LOG_FULL; reset: 0 (R466 16_heat_log.md) -/
  logFull : Bool := false
  /-- HLW_STATUS.UNACKED_90; reset: 0 (R466 16_heat_log.md) -/
  unacked90 : Bool := false
  deriving DecidableEq, Repr

/-- Sixteen tamper sources, responses, Lock, Quench, the battery domain's copies and buffer (TAM). -/
structure Tamper where
  /-- 16 bits TAM_ACTIVE, as the list of active sources; reset: 0x0000 (R488 17_tamper_and_quench.md) -/
  active : List Nat := []
  /-- sources disarmed after an alarm until their return condition holds; reset: none (R469 17_tamper_and_quench.md) -/
  disarmed : List Nat := []
  /-- 1 bit: main-power monitors armed (stage Guard); reset: 0 (R468,R50 17_tamper_and_quench.md) -/
  mainArmed : Bool := false
  /-- 1 bit: TS8 armed (stage Hub); reset: 0 (R468 17_tamper_and_quench.md) -/
  clockArmed : Bool := false
  /-- 1 bit: SYSCLK is absent or out of its window, so that the peripheral, hub and region clocks stand still; reset: 0 (R43 01_six_levels.md) -/
  clockLost : Bool := false
  /-- the time in 250 ns at which those clocks stopped; reset: 0 (R43 01_six_levels.md) -/
  clockLostAt : Nat := 0
  /-- 1 bit: TS3, TS4, TS10 masked from a save until cold reset; reset: 0 (R468 17_tamper_and_quench.md) -/
  saveMask : Bool := false
  /-- 16 bits TAM_LATCHED, as the list of latched sources (battery domain); reset: DESIGN CHOICE none (R488 17_tamper_and_quench.md) -/
  latched : List Nat := []
  /-- applied response of each latched source; reset: none (R483,R485 17_tamper_and_quench.md) -/
  latchedResp : List (Nat × Nat) := []
  /-- lock flag (battery domain); reset: DESIGN CHOICE 0 (R475 17_tamper_and_quench.md) -/
  lockFlag : Bool := false
  /-- 16 bits TAM_ARMED.CHATTER, sources disarmed after chatter; reset: 0x0000 (R488 17_tamper_and_quench.md) -/
  chatter : List Nat := []
  /-- TAM_EXT.LEVEL: filtered levels; reset: 0 (R488 17_tamper_and_quench.md) -/
  extLevel : List Bool := [false, false, false, false]
  /-- raw EXT_TAMP levels (active = true); reset: DESIGN CHOICE inactive (R470 17_tamper_and_quench.md) -/
  extRaw : List Bool := [false, false, false, false]
  /-- time of each input's last edge; reset: 0 (R470 17_tamper_and_quench.md) -/
  extSince : List Nat := [0, 0, 0, 0]
  /-- times of filtered-out transitions within 1 ms; reset: none (R470 17_tamper_and_quench.md) -/
  extFiltered : List (List Nat) := [[], [], [], []]
  /-- filter of each input is running; reset: none (R470 17_tamper_and_quench.md) -/
  filterRunning : List Bool := [false, false, false, false]
  /-- battery-domain copy of the responses (empty: shipped and fused floors); reset: DESIGN CHOICE none copied (R473 17_tamper_and_quench.md) -/
  respCopy : List Nat := []
  /-- 4 bits EXT_FITTED copy; reset: 0 (R473 17_tamper_and_quench.md) -/
  fittedCopy : Nat := 0
  /-- 4 bits EXT_POLARITY copy; reset: 0 (R473 17_tamper_and_quench.md) -/
  polarityCopy : Nat := 0
  /-- EXT_FILTER copies; reset: 32 (R473 17_tamper_and_quench.md) -/
  filterCopy : List Nat := [32, 32, 32, 32]
  /-- time the running or last Quench began (QUENCH_BUSY for 60 us after it); reset: none (R476,R488 17_tamper_and_quench.md) -/
  quenchAt : Option Nat := none
  /-- per source with a trip time: time since which its trip condition holds; reset: none (R467 17_tamper_and_quench.md) -/
  tripSince : List (Nat × Nat) := []
  /-- time of each input's last filtered-out transition; reset: 0 (R470 17_tamper_and_quench.md) -/
  filteredAt : List Nat := [0, 0, 0, 0]
  /-- time of an accepted TAM_QUENCH ARM; reset: none (R488 17_tamper_and_quench.md) -/
  armedCmd : Option Nat := none
  /-- TAM_STATUS.REPLAYED; reset: 0 (R488 17_tamper_and_quench.md) -/
  replayed : Bool := false
  /-- 13 bits TAM_VBAT, mV; reset: 0 (R488 17_tamper_and_quench.md) -/
  vbat : Nat := 0
  /-- 32 bits TAM_DECISIONS; reset: 0 (R488 17_tamper_and_quench.md) -/
  decisions : Nat := 0
  /-- 32 bits TAM_MISMATCHES; reset: 0 (R488 17_tamper_and_quench.md) -/
  mismatches : Nat := 0
  /-- 4 bits TAM_BATTERY.ENTRIES; reset: 0 (R488 17_tamper_and_quench.md) -/
  replayEntries : Nat := 0
  /-- 16 bits TAM_BATTERY.OVERFLOW; reset: 0 (R488 17_tamper_and_quench.md) -/
  replayOverflow : Nat := 0
  /-- 16 x 32 bits TAM_ALARMSn; reset: 0 (R488 17_tamper_and_quench.md) -/
  alarms : List Nat := List.replicate 16 0
  /-- 8-entry battery event buffer; reset: DESIGN CHOICE empty (R458,R480 16_heat_log.md) -/
  battBuf : List BattEvent := []
  /-- overflow count; reset: 0 (R458 16_heat_log.md) -/
  battOverflow : Nat := 0
  /-- lost-source mask; reset: 0 (R458 16_heat_log.md) -/
  battLostMask : List Nat := []
  /-- RTC time of the last event lost, us; reset: 0 (R458 16_heat_log.md) -/
  battLostTime : Nat := 0
  /-- per source: time since which its return condition holds; reset: none (R469 17_tamper_and_quench.md) -/
  returnSince : List (Nat × Nat) := []
  deriving DecidableEq, Repr

/-- The life-cycle controller, its journal, and the TAP (LCS). -/
structure LifeCycle where
  /-- TEST_UNLOCKED flag; reset: 0 (R490 18_life_cycle_and_debug.md) -/
  testUnlocked : Bool := false
  /-- running transition: target, token, source path; reset: none (R496 18_life_cycle_and_debug.md) -/
  running : Option Transition := none
  /-- 3 bits LCS_JOURNAL.STEP; reset: 0 (R508 18_life_cycle_and_debug.md) -/
  step : Nat := 0
  /-- 3 bits LCS_STATE.TARGET; reset: 0 (R508 18_life_cycle_and_debug.md) -/
  target : Nat := 0
  /-- intent copy A (MRAM life-cycle journal); reset: DESIGN CHOICE none (R496 18_life_cycle_and_debug.md) -/
  intentA : Option Intent := none
  /-- intent copy B; reset: DESIGN CHOICE none (R496 18_life_cycle_and_debug.md) -/
  intentB : Option Intent := none
  /-- sequence number of the last intent; reset: DESIGN CHOICE 0 (R496 18_life_cycle_and_debug.md) -/
  intentSeq : Nat := 0
  /-- LCS_STATE.RESUMED; reset: 0 (R508 18_life_cycle_and_debug.md) -/
  resumed : Bool := false
  /-- LCS_STATE.DEBUG_OPEN; reset: 0 (R508 18_life_cycle_and_debug.md) -/
  debugOpen : Bool := false
  /-- 8 bits RESULT of LC_REQUEST; reset: 0x00 (R504 18_life_cycle_and_debug.md) -/
  lcResult : Nat := 0
  /-- 8 bits RESULT of LC_FUSE; reset: 0x00 (R505 18_life_cycle_and_debug.md) -/
  fuseResult : Nat := 0
  /-- 8-bit TAP instruction register; reset: PRESUMED 0x01 IDCODE (IEEE 1149.1-2013 with an identification register) (R502 18_life_cycle_and_debug.md) -/
  tapIr : Nat := 1
  /-- data register selected: opcode whose register is in use (0xFF BYPASS); reset: PRESUMED IDCODE (R502 18_life_cycle_and_debug.md) -/
  tapSelected : Nat := 1
  /-- vendor debug port open now; reset: 0 (R503 18_life_cycle_and_debug.md) -/
  tapPort : Bool := false
  /-- boundary register update latches (PRELOAD); reset: DESIGN CHOICE empty (R502 18_life_cycle_and_debug.md) -/
  boundaryPre : List Bool := []
  /-- boundary register capture; reset: DESIGN CHOICE empty (R502 18_life_cycle_and_debug.md) -/
  boundaryCap : List Bool := []
  /-- EXTEST drives the balls; reset: 0 (R502 18_life_cycle_and_debug.md) -/
  extestDriven : Bool := false
  deriving DecidableEq, Repr

/-- Custodians, quorum session, keypad, LEDs (DCC 0x000-0x0FF). -/
structure DualCtl where
  /-- domain header: DOMAIN_ID (empty: no domain), 16 bytes (MRAM); reset: DESIGN CHOICE none (R511 19_dual_control.md) -/
  domainId : Bytes := []
  /-- 8 bits header K; reset: 0 (no domain) (R511 19_dual_control.md) -/
  shareK : Nat := 0
  /-- 8 bits header EPOCH; reset: 0 (R511 19_dual_control.md) -/
  shareEpoch : Nat := 0
  /-- 1 bit: the header's signature verified at stage Guard; reset: 1 (R511 19_dual_control.md) -/
  headerSigOk : Bool := true
  /-- 48-byte customer pattern key digest 0 (empty: not valid); reset: DESIGN CHOICE none (R511 19_dual_control.md) -/
  patKey0 : Bytes := []
  /-- 48-byte customer pattern key digest 1; reset: DESIGN CHOICE none (R511 19_dual_control.md) -/
  patKey1 : Bytes := []
  /-- custodian records, indexes 1-16 (MRAM); reset: DESIGN CHOICE none (R511 19_dual_control.md) -/
  records : List Custodian := []
  /-- the open session: class, phase, expiry, parameters, admitted custodians, shares, components, issuing progress; reset: none (R519,R520,R522 19_dual_control.md) -/
  session : Option Session := none
  /-- 4 bits DCC_SESSION.CLASS; reset: 0 (R534 19_dual_control.md) -/
  lastClass : Nat := 0
  /-- 3 bits DCC_SESSION.PHASE when no session is open; reset: 0 (R534 19_dual_control.md) -/
  lastPhase : Nat := 0
  /-- 4 bits DCC_SESSION.END_CAUSE; reset: 0 (R534 19_dual_control.md) -/
  endCause : Nat := 0
  /-- DCC_ADMITTED of the open or last session; reset: 0 (R534 19_dual_control.md) -/
  lastAdmitted : List Nat := []
  /-- 4 bits DCC_SESSION.QUORUM; reset: 0 (R534 19_dual_control.md) -/
  lastQuorum : Nat := 0
  /-- 5 bits DCC_SESSION.ISSUED; reset: 0 (R534 19_dual_control.md) -/
  lastIssued : Nat := 0
  /-- class and cause whose next ceremony verb fails once; reset: none (R522 19_dual_control.md) -/
  endedOnce : Option (Nat × Nat) := none
  /-- 32 bits DCC_CEREMONIES; reset: 0 (R534 19_dual_control.md) -/
  ceremonies : Nat := 0
  /-- keypad: entry, step, slot, stuck keys, FN time, keys down; reset: empty (R516,R517,R534 19_dual_control.md) -/
  keypad : Keypad := {}
  deriving DecidableEq, Repr

/-- The two contact-card slots and the SD archive slot with its host (DCC 0x100-0x1FF). -/
structure Cards where
  /-- slots A and B; reset: each at its reset values (R559,R568 20_card_slots.md) -/
  icc : List IccSlot := [{}, {}]
  /-- 4 bits DCC_SD_STATUS.STATE; reset: 0x0 EMPTY (R568 20_card_slots.md) -/
  sdState : SdState := .empty
  /-- DCC_SD_STATUS.PRESENT; reset: 0 (R568 20_card_slots.md) -/
  sdPresent : Bool := false
  /-- DCC_SD_STATUS.WP_SWITCH; reset: 0 (R568 20_card_slots.md) -/
  sdWp : Bool := false
  /-- DCC_SD_STATUS.TMP_WP; reset: 0 (R568 20_card_slots.md) -/
  tmpWp : Bool := false
  /-- DCC_SD_STATUS.PERM_WP; reset: 0 (R568 20_card_slots.md) -/
  permWp : Bool := false
  /-- DCC_SD_STATUS.V18; reset: 0 (R568 20_card_slots.md) -/
  v18 : Bool := false
  /-- 3 bits DCC_SD_STATUS.MODE; reset: 0x0 (R568 20_card_slots.md) -/
  sdMode : Nat := 0
  /-- 2 bits DCC_SD_STATUS.TYPE; reset: 0x0 (R568 20_card_slots.md) -/
  sdType : Nat := 0
  /-- 3 bits DCC_SD_STATUS.ARCHIVE; reset: 0x0 (R568 20_card_slots.md) -/
  sdArchive : Nat := 0
  /-- the open archive; reset: none (R548 20_card_slots.md) -/
  archive : Option Archive := none
  /-- 6 bits DCC_SD_TUNING.TAP; reset: 0x00 (R568 20_card_slots.md) -/
  tap : Nat := 0
  /-- 7 bits DCC_SD_TUNING.WINDOW; reset: 0x00 (R568 20_card_slots.md) -/
  window : Nat := 0
  /-- 6 bits DCC_SD_TUNING.COMMANDS; reset: 0x00 (R568 20_card_slots.md) -/
  tuneCommands : Nat := 0
  /-- 64 bits DCC_SD_CAPACITY; reset: 0x0 (R568 20_card_slots.md) -/
  sdCapacity : Nat := 0
  /-- 16 bits DCC_SD_ERRORS.CRC, saturates; reset: 0x0000 (R568 20_card_slots.md) -/
  crcErrors : Nat := 0
  /-- 16 bits DCC_SD_ERRORS.RETUNES, saturates; reset: 0x0000 (R568 20_card_slots.md) -/
  retunes : Nat := 0
  /-- 16 bits DCC_SD_LAST.DETAIL; reset: 0x0000 (R568 20_card_slots.md) -/
  sdLast : Nat := 0
  /-- 32 bits DCC_SD_R1.STATUS; reset: 0x0 (R568 20_card_slots.md) -/
  sdR1 : Nat := 0
  /-- 1 bit: the 5 ms power-off hold runs; reset: 0 (R535 20_card_slots.md) -/
  sdHold : Bool := false
  /-- 4 bits: initialisation step of R539, 1-8; reset: 0 (R539 20_card_slots.md) -/
  initStep : Nat := 0
  /-- 1 bit: this initialisation runs without S18R; reset: 0 (R539 20_card_slots.md) -/
  noS18r : Bool := false
  /-- 1 bit: the one repeated initialisation runs; reset: 0 (R539 20_card_slots.md) -/
  secondTry : Bool := false
  /-- 1 bit: the card answered CMD8; reset: 0 (R539 20_card_slots.md) -/
  v2Card : Bool := false
  /-- 1 bit: a retune runs before the next command; reset: 0 (R542 20_card_slots.md) -/
  retuneDue : Bool := false
  /-- time of the last tuning; reset: 0 (R542 20_card_slots.md) -/
  lastTuning : Nat := 0
  /-- 2 bits: repeats of the current command after CRC errors; reset: 0 (R542 20_card_slots.md) -/
  crcTries : Nat := 0
  /-- times of SD_CD_N's changes within the last 1 s; reset: none (R536 20_card_slots.md) -/
  sdChanges : List Nat := []
  /-- 1 bit: a block's or erase's busy is awaited; reset: 0 (R543 20_card_slots.md) -/
  sdBusy : Bool := false
  /-- archive verb waiting for the card to become READY; reset: none (R550 20_card_slots.md) -/
  sdItem : Option Nat := none
  /-- archive verb at work on the card; reset: none (R550 20_card_slots.md) -/
  run : Option SdRun := none
  /-- 16 bytes: CSD as read last; reset: none (R539,R544 20_card_slots.md) -/
  csd : Bytes := []
  /-- 1 bit: the card is block-addressed (SDHC, SDXC); reset: 0 (R537 20_card_slots.md) -/
  blockAddr : Bool := false
  /-- 16 bits: relative address the card published; reset: none (R539 20_card_slots.md) -/
  rca : Option Nat := none
  /-- 1 bit: CMD6 query answered, the set is in progress; reset: 0 (R539 20_card_slots.md) -/
  queried : Bool := false
  /-- time the ACMD41 polling began; reset: 0 (R539 20_card_slots.md) -/
  since : Nat := 0
  /-- bus modes left to try, fastest first; reset: none (R537,R539 20_card_slots.md) -/
  modes : List Nat := []
  /-- tuning run: taps tried and whether each passed; reset: none (R541 20_card_slots.md) -/
  tuning : Option (List (Nat × Bool)) := none
  /-- time until which LED[4] blinks after a failed verb; reset: 0 (R557 20_card_slots.md) -/
  led4Until : Nat := 0
  deriving DecidableEq, Repr

/-- The identity and device block's own registers (GDS). -/
structure Gds where
  /-- 32 bits GDS_SCRATCH; reset: 0x0 (R577 21_register_map.md) -/
  scratch : Nat := 0
  /-- 5 x 64 bits GDS_DIE_ID; reset: 0x0 (R577 21_register_map.md) -/
  dieIdRead : List Nat := List.replicate 5 0
  /-- 3 bits GDS_FAULT.DIE; reset: 0x0 (R577 21_register_map.md) -/
  faultDie : Nat := 0
  /-- 3 bits GDS_FAULT.MEMORY; reset: 0x0 (R577 21_register_map.md) -/
  faultMemory : Nat := 0
  /-- 17 bits GDS_CLOCKS.SYSCLK_KHZ; reset: 0x0_0000 (R577 21_register_map.md) -/
  sysclkKhz : Nat := 0
  /-- GDS_CLOCKS.REFCLK; reset: 0 (R577 21_register_map.md) -/
  refclk : Bool := false
  /-- 17 bits GDS_GUARD_OSC.KHZ; reset: 0x0_0000 (R577 21_register_map.md) -/
  guardKhz : Nat := 0
  /-- 14 x 16 bits GDS_RAIL_V; reset: 0x0000 (R577 21_register_map.md) -/
  railMv : List Nat := List.replicate 14 0
  /-- 14 x 16 bits GDS_RAIL_I; reset: 0x0000 (R577 21_register_map.md) -/
  railMa : List Nat := List.replicate 14 0
  /-- 6 x 32 bits GDS_HMEM_CORR, saturates; reset: 0x0 (R577 21_register_map.md) -/
  hmemCorr : List Nat := List.replicate 6 0
  /-- 6 x 32 bits GDS_HMEM_UNC, saturates; reset: 0x0 (R577 21_register_map.md) -/
  hmemUnc : List Nat := List.replicate 6 0
  /-- 5 x 16 bits GDS_TEMP, 0.25 C; reset: 0x0000 (R577 21_register_map.md) -/
  temps : List Int := List.replicate 5 0
  deriving DecidableEq, Repr

/-- The model's own fields, which the spec does not name: the clock, the counter of open values and what the block has put out. -/
structure Model where
  /-- time since the model's reset in units of 250 ns (one tick of R143); reset: MODEL FIELD, DESIGN CHOICE 0 (R143 05_tundish.md) -/
  now : Nat := 0
  /-- how many open values have been drawn (index of the free values of Config); reset: MODEL FIELD, DESIGN CHOICE 0 -/
  draws : Nat := 0
  /-- everything the block has driven out, newest first; reset: MODEL FIELD, DESIGN CHOICE empty -/
  out : List OutEvent := []
  deriving DecidableEq, Repr

/-- The whole state of the block (R7 onward): one component per block of the register map or store. -/
structure State where
  /-- The input balls, supplies and derived outputs the stages depend on. -/
  pins : Pins := {}
  /-- Stages and start block (STG) and the start machinery behind it. -/
  stage : Stage := {}
  /-- The 64 Kibit fuse array and the hardwired identities. -/
  fuses : Fuses := {}
  /-- The parameters of the pattern in use (R85), the PAT block (R93) and a running PATTERN_STAGE. -/
  pat : Pattern := {}
  /-- The PCIe function, its three BARs, MSI-X and the register-pair latches. -/
  host : HostPort := {}
  /-- Queue contexts, the queue administration window and fetching. -/
  queues : Queues := {}
  /-- The Tundish: items, lists, takes, deficits, delay lists and the TND counters. -/
  tnd : Tundish := {}
  /-- The 144 physical clusters, 16 logical maps, the field repair maps and the five die-to-die links. -/
  fabric : Fabric := {}
  /-- Roots, derived-key presence, hub key cache, handles, counted-key records and the KST counters. -/
  kst : Keys := {}
  /-- Measurement registers, guard key slots, entropy source, device DRBG, and signer. -/
  mea : Measure := {}
  /-- Slice records and runtime state, offers, restored areas, mailbox and the SLC registers. -/
  slc : Slices := {}
  /-- Four Ngueth ports (NGL), their lanes, mirror waits and calendar agreement. -/
  ngl : Ngueth := {}
  /-- Chill: sixteen regions and the package figures (CHL, RGN). -/
  chl : Chill := {}
  /-- Commit buffer, MRAM contents outside the slice, key and log partitions, riser, device time and life counters (PER). -/
  per : Persist := {}
  /-- The heat log: numbering, open record, staging buffer, MRAM partition, buckets, boundaries and the HLW window. -/
  log : HeatLog := {}
  /-- Sixteen tamper sources, responses, Lock, Quench, the battery domain's copies and buffer (TAM). -/
  tam : Tamper := {}
  /-- The life-cycle controller, its journal, and the TAP (LCS). -/
  lc : LifeCycle := {}
  /-- Custodians, quorum session, keypad, LEDs (DCC 0x000-0x0FF). -/
  dcc : DualCtl := {}
  /-- The two contact-card slots and the SD archive slot with its host (DCC 0x100-0x1FF). -/
  cards : Cards := {}
  /-- The identity and device block's own registers (GDS). -/
  gds : Gds := {}
  /-- The model's own fields, which the spec does not name: the clock, the counter of open values and what the block has put out. -/
  m : Model := {}
  /-- Commands waiting, first in, first out (the queue of this model; assumption log 1). -/
  pending : List Instr := []
  deriving DecidableEq, Repr

/-- No command of this model stops with a fault: the type is closed and empty. -/
inductive Fault where
  deriving DecidableEq, Repr

/-- Refusals: raised by `exec`'s arms alone, for a command that has no meaning yet. Safe: the model stops. -/
inductive Refusal where
  /-- The command has no meaning in the model yet. Safe: the model stops where the hardware goes on. -/
  | notModelled (mnemonic : String)
  deriving DecidableEq, Repr

/-- The machine right after a cold reset, in stage Hold with the main supply present (R44, R47);
assumption log 3 names every value the spec does not state. -/
def State.reset : State := {}

end Sys2Proof.Machine
end

