-- ==== Sys2Proof/Machine/Ops.lean ====
section
/-!
DEFINITION. The named operations over the whole state that every family of commands shares: what is put
out, time, random draws, and the life-cycle state the fuses spell.
-/
namespace Sys2Proof.Machine

/-- HALT is raised: the guard raises its line to every die at once (R31, R430). -/
def Pins.halt (p : Pins) : Bool := p.die0.halt || p.die1.halt || p.die2.halt || p.die3.halt || p.dieH.halt

/-- DIE_RESET holds the hub (R31). -/
def Pins.dieResetHub (p : Pins) : Bool := p.dieH.reset

/-- DIE_RESET holds the transaction dies (R31, R57). -/
def Pins.dieResetT (p : Pins) : Bool := p.die0.reset || p.die1.reset || p.die2.reset || p.die3.reset

/-- The guard drives HALT of every die, and the hub its own HALT lines with it (R31; that the hub's lines follow is
DEDUCED, assumption log 20). -/
def Pins.driveHalt (p : Pins) (v : Bool) : Pins :=
  { p with die0.halt := v, die0.hubHalt := v, die1.halt := v, die1.hubHalt := v, die2.halt := v, die2.hubHalt := v
           die3.halt := v, die3.hubHalt := v, dieH.halt := v }

/-- The guard drives DIE_RESET of the hub (R31, R53). -/
def Pins.resetHub (p : Pins) (v : Bool) : Pins :=
  { p with dieH.reset := v }

/-- The guard drives DIE_RESET of the transaction dies (R31, R57). -/
def Pins.resetT (p : Pins) (v : Bool) : Pins :=
  { p with die0.reset := v, die1.reset := v, die2.reset := v, die3.reset := v }

/-- The cores and the hub stand still: HALT is raised, or SYSCLK is lost and their clocks have stopped (R31, R43). -/
def State.halted (s : State) : Bool := s.pins.halt || s.tam.clockLost

/-- A change that the peripheral, hub and region clocks make: none while they have stopped (R43). -/
def State.clocked (s t : State) : State := if s.tam.clockLost then s else t

/-- A change that the TAP makes: none while the main supply is off (R48). -/
def State.powered (s t : State) : State := if s.pins.mainOn then t else s

/-- The block drives an event out. -/
def State.emit (s : State) (e : OutEvent) : State := { s with m.out := e :: s.m.out }

/-- The block drives several events out, in order. -/
def State.emitAll (s : State) (es : List OutEvent) : State := { s with m.out := es.reverse ++ s.m.out }

/-- The ordering attributes of the requests the block issues: none sets Relaxed Ordering or ID-Based Ordering, and all use
traffic class 0 (R38, R96). -/
def OutEvent.attributes : OutEvent → Option TlpAttr
  | .dmaWrite .. => some {}
  | .completion .. => some {}
  | .dmaRead .. => some {}
  | .msix .. => some {}
  | _ => none

/-- Time since the model's reset in µs (the model's clock counts 250 ns). -/
def State.nowUs (s : State) : Nat := s.m.now / 4

/-- Device time in µs (R439). -/
def State.devUs (s : State) : Nat := s.per.rtc / 4000000

/-- The RTC's whole seconds (R438). -/
def State.rtcSec (s : State) : Nat := s.devUs / 1000000

/-- Calendar time: the RTC's whole seconds while CAL_SET is 1, otherwise unset (R438). -/
def State.calendar (s : State) : Option Nat := if s.per.calSet then some s.rtcSec else none

/-- Calendar time as an 8-byte field that holds 0 while the calendar is unset. -/
def State.calOr0 (s : State) : Nat := s.calendar.getD 0

/-- `n` random bytes and the state after drawing them: a free value (assumption log 5). -/
def State.draw (s : State) (n : Nat) : Bytes × State :=
  ((List.range n).map (fun i => Config.random (s.m.draws + i)), { s with m.draws := s.m.draws + n })

/-- Life-cycle states (R489). -/
inductive Lc where
  | blank | test | testUnlocked | manufactured | provisioned | deployed | returned | scrapped
  deriving DecidableEq, Repr

/-- The state code of R69 and R489. -/
def Lc.code : Lc → Nat
  | .blank => 0 | .test => 1 | .testUnlocked => 2 | .manufactured => 3
  | .provisioned => 4 | .deployed => 5 | .returned => 6 | .scrapped => 7

/-- The highest p such that positions 1 to p are complete, of a word of blown-fuse counts (R490). -/
def lcPrefix : List Nat → Nat
  | [] => 0
  | n :: r => if n ≥ 4 then lcPrefix r + 1 else 0

/-- The life-cycle state the fuse word and the volatile flag spell (R490). -/
def State.lcState (s : State) : Lc :=
  if s.fuses.lcWord.getD 5 0 ≥ 4 then .scrapped else
  match lcPrefix (s.fuses.lcWord.take 5) with
  | 0 => .blank
  | 1 => if s.lc.testUnlocked then .testUnlocked else .test
  | 2 => .manufactured
  | 3 => .provisioned
  | 4 => .deployed
  | _ => .returned

/-- The states in which the substitute test root stands for both roots (R210). -/
def State.usesTestRoot (s : State) : Bool :=
  match s.lcState with
  | .blank | .test | .testUnlocked | .manufactured | .returned => true
  | _ => false

/-- A BBRAM of zeros holds no domain (R205). -/
def State.bbramEmpty (s : State) : Bool := s.kst.bbram.all (· == 0)

/-- QUENCHED: DEPLOYED without a domain root (R489, R476). -/
def State.quenched (s : State) : Bool := s.lcState == .deployed && s.bbramEmpty

/-- LOCK: the lock flag is set (R475). -/
def State.locked (s : State) : Bool := s.tam.lockFlag

/-- The G-H link has failed (R30, R578). -/
def State.ghFailed (s : State) : Bool := (s.fabric.links.getD 4 {}).state == 3

/-- Memory accesses reach the BARs: the link is up (R54, R121). -/
def State.hostUp (s : State) : Bool := s.host.linkUp && !s.halted

/-- STAT[2:0] (R45). -/
def State.stat (s : State) : Nat :=
  match s.stage.stage with
  | .hold => 0
  | .guard => 1
  | .hub => 2
  | .full =>
    if s.locked || s.quenched then 6
    else if s.stage.fullcap then 5
    else if s.stage.verbs then 4 else 3

/-- The region number of die d, region r (R21). -/
def regionNo (d r : Nat) : Nat := 4 * d + r

/-- The physical number of position k of region r of die d (R21). -/
def physNo (d r k : Nat) : Nat := 36 * d + 9 * r + k

/-- The region of a physical cluster. -/
def physRegion (p : Nat) : Nat := 4 * (p / 36) + p % 36 / 9

/-- The position of a physical cluster in its region. -/
def physPos (p : Nat) : Nat := p % 9

/-- The logical number of slot s of region g (R21). -/
def logicalNo (g sl : Nat) : Nat := 8 * g + sl

/-- ALERT_CAUSE bits set (R69, R471). -/
def State.alert (s : State) (bits : Nat) : State :=
  { s with stage.alertCause := s.stage.alertCause ||| bits }

/-- Replace element `i` of a list by a function of it; a list too short is left. -/
def modAt {α : Type} (l : List α) (i : Nat) (f : α → α) : List α := l.modify i f

end Sys2Proof.Machine
end

