-- ==== Sys2Proof/Machine/Sha.lean ====
section
/-!
DEFINITION. The hashes of the digest units: SHA-1, SHA-2 (FIPS 180-4), SHA-3 (FIPS 202), and HMAC
(FIPS 198-1). The manual names the standards and not their constants, which are PRESUMED from the standards
(assumption log 4).
-/
namespace Sys2Proof.Machine

/-- SHA-256's round constants: 32 bits of the fraction of the cube roots of the first 64 primes. -/
def sha256K : List Nat :=
  [0x428A2F98, 0x71374491, 0xB5C0FBCF, 0xE9B5DBA5, 0x3956C25B, 0x59F111F1, 0x923F82A4, 0xAB1C5ED5,
   0xD807AA98, 0x12835B01, 0x243185BE, 0x550C7DC3, 0x72BE5D74, 0x80DEB1FE, 0x9BDC06A7, 0xC19BF174] ++
  [0xE49B69C1, 0xEFBE4786, 0x0FC19DC6, 0x240CA1CC, 0x2DE92C6F, 0x4A7484AA, 0x5CB0A9DC, 0x76F988DA,
   0x983E5152, 0xA831C66D, 0xB00327C8, 0xBF597FC7, 0xC6E00BF3, 0xD5A79147, 0x06CA6351, 0x14292967] ++
  [0x27B70A85, 0x2E1B2138, 0x4D2C6DFC, 0x53380D13, 0x650A7354, 0x766A0ABB, 0x81C2C92E, 0x92722C85,
   0xA2BFE8A1, 0xA81A664B, 0xC24B8B70, 0xC76C51A3, 0xD192E819, 0xD6990624, 0xF40E3585, 0x106AA070] ++
  [0x19A4C116, 0x1E376C08, 0x2748774C, 0x34B0BCB5, 0x391C0CB3, 0x4ED8AA4A, 0x5B9CCA4F, 0x682E6FF3,
   0x748F82EE, 0x78A5636F, 0x84C87814, 0x8CC70208, 0x90BEFFFA, 0xA4506CEB, 0xBEF9A3F7, 0xC67178F2]

/-- SHA-512's round constants: 64 bits of the fraction of the cube roots of the first 80 primes. -/
def sha512K : List Nat :=
  [0x428A2F98D728AE22, 0x7137449123EF65CD, 0xB5C0FBCFEC4D3B2F, 0xE9B5DBA58189DBBC,
   0x3956C25BF348B538, 0x59F111F1B605D019, 0x923F82A4AF194F9B, 0xAB1C5ED5DA6D8118,
   0xD807AA98A3030242, 0x12835B0145706FBE, 0x243185BE4EE4B28C, 0x550C7DC3D5FFB4E2,
   0x72BE5D74F27B896F, 0x80DEB1FE3B1696B1, 0x9BDC06A725C71235, 0xC19BF174CF692694] ++
  [0xE49B69C19EF14AD2, 0xEFBE4786384F25E3, 0x0FC19DC68B8CD5B5, 0x240CA1CC77AC9C65,
   0x2DE92C6F592B0275, 0x4A7484AA6EA6E483, 0x5CB0A9DCBD41FBD4, 0x76F988DA831153B5,
   0x983E5152EE66DFAB, 0xA831C66D2DB43210, 0xB00327C898FB213F, 0xBF597FC7BEEF0EE4,
   0xC6E00BF33DA88FC2, 0xD5A79147930AA725, 0x06CA6351E003826F, 0x142929670A0E6E70] ++
  [0x27B70A8546D22FFC, 0x2E1B21385C26C926, 0x4D2C6DFC5AC42AED, 0x53380D139D95B3DF,
   0x650A73548BAF63DE, 0x766A0ABB3C77B2A8, 0x81C2C92E47EDAEE6, 0x92722C851482353B,
   0xA2BFE8A14CF10364, 0xA81A664BBC423001, 0xC24B8B70D0F89791, 0xC76C51A30654BE30,
   0xD192E819D6EF5218, 0xD69906245565A910, 0xF40E35855771202A, 0x106AA07032BBD1B8] ++
  [0x19A4C116B8D2D0C8, 0x1E376C085141AB53, 0x2748774CDF8EEB99, 0x34B0BCB5E19B48A8,
   0x391C0CB3C5C95A63, 0x4ED8AA4AE3418ACB, 0x5B9CCA4F7763E373, 0x682E6FF3D6B2B8A3,
   0x748F82EE5DEFB2FC, 0x78A5636F43172F60, 0x84C87814A1F0AB72, 0x8CC702081A6439EC,
   0x90BEFFFA23631E28, 0xA4506CEBDE82BDE9, 0xBEF9A3F7B2C67915, 0xC67178F2E372532B] ++
  [0xCA273ECEEA26619C, 0xD186B8C721C0C207, 0xEADA7DD6CDE0EB1E, 0xF57D4F7FEE6ED178,
   0x06F067AA72176FBA, 0x0A637DC5A2C898A6, 0x113F9804BEF90DAE, 0x1B710B35131C471B,
   0x28DB77F523047D84, 0x32CAAB7B40C72493, 0x3C9EBE0A15C9BEBC, 0x431D67C49C100D4C,
   0x4CC5D4BECB3E42B6, 0x597F299CFC657E2A, 0x5FCB6FAB3AD6FAEC, 0x6C44198C4A475817]

/-- Rotate right in `w` bits. -/
def rotr (w v n : Nat) : Nat := (v / 2 ^ n + v * 2 ^ (w - n)) % 2 ^ w

/-- Rotate left in `w` bits. -/
def rotl (w v n : Nat) : Nat := rotr w v (w - n)

/-- A three-term sigma: two rotations and either a rotation or a shift. -/
def sigma (w a b c : Nat) (shift : Bool) (v : Nat) : Nat :=
  rotr w v a ^^^ rotr w v b ^^^ (if shift then v / 2 ^ c else rotr w v c)

/-- The message schedule, newest first. -/
def sha2Schedule (w rounds : Nat) (blk : List Nat) : List Nat :=
  ((List.range (rounds - 16)).foldl (fun (l : List Nat) _ =>
    let s0 := if w = 32 then sigma 32 7 18 3 true (l.getD 14 0) else sigma 64 1 8 7 true (l.getD 14 0)
    let s1 := if w = 32 then sigma 32 17 19 10 true (l.getD 1 0) else sigma 64 19 61 6 true (l.getD 1 0)
    ((s1 + l.getD 6 0 + s0 + l.getD 15 0) % 2 ^ w) :: l) blk.reverse).reverse

/-- One round on the eight working variables. -/
def sha2Round (w : Nat) (v : List Nat) (kw : Nat × Nat) : List Nat :=
  match v with
  | [a, b, c, d, e, f, g, h] =>
    let s1 := if w = 32 then sigma 32 6 11 25 false e else sigma 64 14 18 41 false e
    let ch := (e &&& f) ^^^ ((2 ^ w - 1 - e) &&& g)
    let t1 := h + s1 + ch + kw.1 + kw.2
    let s0 := if w = 32 then sigma 32 2 13 22 false a else sigma 64 28 34 39 false a
    let maj := (a &&& b) ^^^ (a &&& c) ^^^ (b &&& c)
    [(t1 + s0 + maj) % 2 ^ w, a, b, c, (d + t1) % 2 ^ w, e, f, g]
  | _ => v

/-- Merkle–Damgård padding for blocks of `blk` bytes and a length field of `lf` bytes. -/
def mdPad (blk lf : Nat) (m : Bytes) : Bytes :=
  let z := (2 * blk - 1 - lf - m.length % blk) % blk
  m ++ [0x80] ++ zeros z ++ be lf (8 * m.length)

/-- SHA-2 compression of whole blocks with words of `w` bits, from a state. -/
def sha2Run (w : Nat) (k st : List Nat) (p : Bytes) : List Nat :=
  let wb := w / 8
  (blocksOf (16 * wb) p).foldl (fun st blk =>
    let ws := sha2Schedule w k.length ((blocksOf wb blk).map ofBE)
    List.zipWith (fun a b => (a + b) % 2 ^ w) st ((k.zip ws).foldl (sha2Round w) st)) st

/-- SHA-2 with words of `w` bits from an initial value, all eight words. -/
def sha2 (w : Nat) (k init : List Nat) (m : Bytes) : Bytes :=
  ((sha2Run w k init (mdPad (2 * w) (w / 4) m)).map (be (w / 8))).flatten

/-- Initial value of SHA-256. -/
def sha256Init : List Nat :=
  [0x6A09E667, 0xBB67AE85, 0x3C6EF372, 0xA54FF53A, 0x510E527F, 0x9B05688C, 0x1F83D9AB, 0x5BE0CD19]

/-- SHA-256. -/
def sha256 (m : Bytes) : Bytes := sha2 32 sha256K sha256Init m

/-- Initial value of SHA-384. -/
def sha384Init : List Nat :=
  [0xCBBB9D5DC1059ED8, 0x629A292A367CD507, 0x9159015A3070DD17, 0x152FECD8F70E5939,
   0x67332667FFC00B31, 0x8EB44A8768581511, 0xDB0C2E0D64F98FA7, 0x47B5481DBEFA4FA4]

/-- SHA-224: its initial value is the low halves of SHA-384's. -/
def sha224 (m : Bytes) : Bytes := (sha2 32 sha256K (sha384Init.map (· % 2 ^ 32)) m).take 28

/-- SHA-384. -/
def sha384 (m : Bytes) : Bytes := (sha2 64 sha512K sha384Init m).take 48

/-- Initial value of SHA-512. -/
def sha512Init : List Nat :=
  [0x6A09E667F3BCC908, 0xBB67AE8584CAA73B, 0x3C6EF372FE94F82B, 0xA54FF53A5F1D36F1,
   0x510E527FADE682D1, 0x9B05688C2B3E6C1F, 0x1F83D9ABFB41BD6B, 0x5BE0CD19137E2179]

/-- SHA-512. -/
def sha512 (m : Bytes) : Bytes := sha2 64 sha512K sha512Init m

/-- SHA-1. -/
def sha1 (m : Bytes) : Bytes :=
  let r := (blocksOf 64 (mdPad 64 8 m)).foldl (fun (st : List Nat) blk =>
    let ws := ((List.range 64).foldl (fun (l : List Nat) _ =>
      rotl 32 (l.getD 2 0 ^^^ l.getD 7 0 ^^^ l.getD 13 0 ^^^ l.getD 15 0) 1 :: l)
      ((blocksOf 4 blk).map ofBE).reverse).reverse
    let v := ws.zipIdx.foldl (fun (v : List Nat) q =>
      match v with
      | [a, b, c, d, e] =>
        let fk : Nat × Nat :=
          if q.2 < 20 then ((b &&& c) ||| ((2 ^ 32 - 1 - b) &&& d), 0x5A827999)
          else if q.2 < 40 then (b ^^^ c ^^^ d, 0x6ED9EBA1)
          else if q.2 < 60 then ((b &&& c) ||| (b &&& d) ||| (c &&& d), 0x8F1BBCDC)
          else (b ^^^ c ^^^ d, 0xCA62C1D6)
        [(rotl 32 a 5 + fk.1 + e + fk.2 + q.1) % 2 ^ 32, a, rotl 32 b 30, c, d]
      | _ => v) st
    List.zipWith (fun a b => (a + b) % 2 ^ 32) st v)
    [0x67452301, 0xEFCDAB89, 0x98BADCFE, 0x10325476, 0xC3D2E1F0]
  (r.map (be 4)).flatten

/-- One bit of Keccak's round-constant register after `t` steps. -/
def keccakRcBit (t : Nat) : Bool :=
  ((List.range (t % 255)).foldl (fun r _ =>
    let r2 := 2 * r
    if r2 ≥ 256 then (r2 - 256) ^^^ 0x71 else r2) 1) % 2 = 1

/-- Keccak's round constants. -/
def keccakRC : List Nat :=
  (List.range 24).map (fun r =>
    (List.range 7).foldl (fun a j => if keccakRcBit (j + 7 * r) then a ||| 2 ^ (2 ^ j - 1) else a) 0)

/-- The lanes visited by rho and pi, with their rotations. -/
def keccakRhoPi : List (Nat × Nat × Nat) :=
  ((List.range 24).foldl (fun (p : Nat × Nat × List (Nat × Nat × Nat)) t =>
    (p.2.1, (2 * p.1 + 3 * p.2.1) % 5, p.2.2 ++ [(p.1, p.2.1, (t + 1) * (t + 2) / 2 % 64)]))
    (1, 0, [])).2.2

/-- One Keccak round on 25 lanes, lane (x, y) at 5y + x. -/
def keccakRound (a : List Nat) (rc : Nat) : List Nat :=
  let l := fun (a : List Nat) (x y : Nat) => a.getD (5 * (y % 5) + x % 5) 0
  let c := (List.range 5).map (fun x => (List.range 5).foldl (fun s y => s ^^^ l a x y) 0)
  let d := (List.range 5).map (fun x => c.getD ((x + 4) % 5) 0 ^^^ rotl 64 (c.getD ((x + 1) % 5) 0) 1)
  let a := (List.range 25).map (fun i => a.getD i 0 ^^^ d.getD (i % 5) 0)
  let b := keccakRhoPi.foldl (fun (b : List Nat) t =>
    b.set (5 * ((2 * t.1 + 3 * t.2.1) % 5) + t.2.1) (rotl 64 (l a t.1 t.2.1) t.2.2)) a
  let a := (List.range 25).map (fun i =>
    let x := i % 5; let y := i / 5
    l b x y ^^^ ((2 ^ 64 - 1 - l b (x + 1) y) &&& l b (x + 2) y))
  a.set 0 (a.getD 0 0 ^^^ rc)

/-- Keccak-f[1600]. -/
def keccakF (a : List Nat) : List Nat := keccakRC.foldl keccakRound a

/-- SHA-3 with an output of `n` bytes. -/
def sha3 (n : Nat) (m : Bytes) : Bytes :=
  let rate := 200 - 2 * n
  let p := m ++ [0x06] ++ zeros (rate - 1 - m.length % rate)
  let p := p.dropLast ++ [p.getLastD 0 ||| 0x80]
  let p := if m.length % rate = rate - 1 then m ++ [0x86] else p
  let st := (blocksOf rate p).foldl (fun (st : List Nat) blk =>
    keccakF (List.zipWith (· ^^^ ·) st ((blocksOf 8 (blk ++ zeros (200 - rate))).map ofLE)))
    (List.replicate 25 0)
  ((st.map (le 8)).flatten).take n

/-- HMAC over a hash with blocks of `blk` bytes. -/
def hmacWith (h : Bytes → Bytes) (blk : Nat) (key m : Bytes) : Bytes :=
  let k := fit blk (if key.length > blk then h key else key)
  h (k.map (· ^^^ 0x5C) ++ h (k.map (· ^^^ 0x36) ++ m))

end Sys2Proof.Machine
end

