-- ==== Sys2Proof/Machine/Roots.lean ====
section
/-!
DEFINITION. The key hierarchy: the KDF of R206, the roots in use (R203, R204, R210) and every derived key
of R208.
-/
namespace Sys2Proof.Machine

/-- SP 800-108 counter-mode KDF over CMAC-AES-256: `len` output bytes (R206). -/
def kdfCtr (root : Bytes) (label : String) (context : Bytes) (len : Nat) : Bytes :=
  (((List.range (ceilDiv len 16)).map (fun i =>
    cmacAes root (be 4 (i + 1) ++ ascii label ++ [0] ++ context ++ be 4 (8 * len)))).flatten).take len

/-- The identity root in use: the substitute test root where R210 says, else the fuse root. -/
def State.identityRoot (s : State) : Bytes := if s.usesTestRoot then Config.testRoot else s.fuses.rootA

/-- The domain root in use (R204, R210). -/
def State.domainRoot (s : State) : Bytes := if s.usesTestRoot then Config.testRoot else s.kst.bbram

/-- A domain root is present and unsealed, or the test root stands for it (R60, R210). -/
def State.hasDomain (s : State) : Bool := s.usesTestRoot || (!s.bbramEmpty && s.kst.domain)

/-- The stepping as the 4 bytes of R208's context. DESIGN CHOICE (assumption log 22): the low byte first; R208 gives no byte
order, and R9 speaks of structures in memory and flash only. -/
def State.stepping4 (s : State) : Bytes := le 4 s.fuses.stepping

/-- Reduction of a derived integer to a private scalar (R207). -/
def scalarOf (n : Nat) (k : Bytes) : Nat := ofBE k % (n - 1) + 1

/-- The heat chain key: from the fuse identity root once it exists, from the test root before (R210, R449). -/
def State.heatKey (s : State) : Bytes :=
  let root := match s.lcState with
    | .blank | .test | .testUnlocked | .manufactured => Config.testRoot
    | _ => s.fuses.rootA
  kdfCtr root "HEAT CHAIN" s.fuses.serial 32

/-- The 448 bits of the device identity key (R208). -/
def State.identityKeyBits (s : State) : Bytes := kdfCtr s.identityRoot "CLR IDENTITY" s.fuses.serial 56

/-- The 448 bits of the Pelyn attestation key (R208). -/
def State.attestKeyBits (s : State) : Bytes :=
  kdfCtr s.identityRoot "PELYN ATTEST" (s.fuses.serial ++ s.stepping4) 56

/-- The 320 bits of the compatibility key (R208). -/
def State.compatKeyBits (s : State) : Bytes := kdfCtr s.identityRoot "KOS COMPAT" s.fuses.serial 40

/-- The vendor binding key (R208). -/
def State.vendorKey (s : State) : Bytes := kdfCtr s.identityRoot "VENDOR BIND" s.fuses.serial 32

/-- The BBRAM check key (R208). -/
def State.bbramKey (s : State) : Bytes := kdfCtr s.identityRoot "BBRAM CHECK" s.fuses.serial 32

/-- The domain ID of a root (R208). -/
def domainIdOf (root : Bytes) : Bytes := kdfCtr root "DOMAIN ID" [] 16

/-- The domain ID of the root in use. -/
def State.domainIdNow (s : State) : Bytes := domainIdOf s.domainRoot

/-- The slice record key (R208). -/
def State.sliceKey (s : State) : Bytes := kdfCtr s.domainRoot "SLICE RECORD" s.domainIdNow 32

/-- The counter record key (R208). -/
def State.counterKey (s : State) : Bytes := kdfCtr s.domainRoot "COUNTER RECORD" s.domainIdNow 32

/-- The cluster transport key of logical cluster `l`: from the domain root when present, else the
fallback from the identity root (R208, R63). -/
def State.transportKey (s : State) (l : Nat) : Bytes :=
  if s.hasDomain then kdfCtr s.domainRoot "CLUSTER TRANSPORT" (s.domainIdNow ++ be 2 l) 32
  else kdfCtr s.identityRoot "CLUSTER TRANSPORT" (s.fuses.serial ++ be 2 l) 32

/-- The domain proof key (R208). -/
def State.proofKey (s : State) : Bytes := kdfCtr s.domainRoot "DOMAIN PROOF" s.domainIdNow 32

/-- The archive key (R208). -/
def State.archiveKey (s : State) : Bytes := kdfCtr s.domainRoot "ARCHIVE" s.domainIdNow 32

/-- The 64-bit check of a BBRAM root (R205). -/
def State.bbramCheckOf (s : State) (root : Bytes) : Bytes := (cmacAes s.bbramKey root).take 8

end Sys2Proof.Machine
end

