-- ==== Sys2Proof/Machine/HeatLog.lean ====
section
/-!
DEFINITION. The heat log (16_heat_log.md): event codes, token buckets, admission, merging, sealing, the
staging buffer, the bounds, the full-log policy and the HLW window.
-/
namespace Sys2Proof.Machine

/-- Severity and "Limited" of every event code (R450, R487, R507, R533, R567): the codes of each kind. -/
def codesInfo : List Nat :=
  [0x0103, 0x0105, 0x0106, 0x0207, 0x0209, 0x0403, 0x0501, 0x0505, 0x0507, 0x0602,
   0x0701, 0x0F03, 0x0F06, 0x0808, 0x0A20, 0x0A21, 0x0A24, 0x0A30, 0x0A31]

/-- Codes of severity NOTICE. -/
def codesNotice : List Nat :=
  [0x0101, 0x0102, 0x0F01, 0x0F02, 0x0F08, 0x0804, 0x0809, 0x0901, 0x0905, 0x0907,
   0x0A01, 0x0A02, 0x0A03, 0x0A06, 0x0A27, 0x0A2A]

/-- Codes of severity WARNING. -/
def codesWarning : List Nat :=
  [0x0108, 0x0201, 0x0202, 0x0203, 0x0204, 0x0205, 0x0206, 0x0208, 0x020D, 0x020E,
   0x0301, 0x0304, 0x0305, 0x0307, 0x0401, 0x0402, 0x0504, 0x050A, 0x050B, 0x0601,
   0x0B02, 0x0F05, 0x0F09, 0x0904] ++
  [0x0A04, 0x0A05, 0x0A0C, 0x0A22, 0x0A23, 0x0A25, 0x0A26, 0x0A32, 0x0A33, 0x0A34]

/-- Codes of severity ERROR. -/
def codesError : List Nat := [0x020A]

/-- Codes of severity ALARM. -/
def codesAlarm : List Nat :=
  [0x0104, 0x0107, 0x020B, 0x020C, 0x0302, 0x0306, 0x0404, 0x0405, 0x0502, 0x0503,
   0x0506, 0x0508, 0x0509, 0x0603, 0x0604, 0x0702, 0x0B01, 0x0F04, 0x0F07, 0x0801,
   0x0802, 0x0903, 0x0906] ++ [0x0A09, 0x0A0D, 0x0A28, 0x0A29]

/-- Codes of severity CRITICAL. -/
def codesCritical : List Nat :=
  [0x0303, 0x0703, 0x0B03, 0x0803, 0x0805, 0x0806, 0x0807, 0x0902, 0x0908,
   0x0A07, 0x0A08, 0x0A0A, 0x0A0B, 0x0A2B]

/-- The fixed severity of a code (R450); a code no table lists is DEBUG (0). -/
def severityOf (code : Nat) : Nat :=
  if codesInfo.contains code then 1
  else if codesNotice.contains code then 2
  else if codesWarning.contains code then 3
  else if codesError.contains code then 4
  else if codesAlarm.contains code then 5
  else if codesCritical.contains code then 6 else 0

/-- Codes of severity below ALARM that are marked "No" under "Limited". -/
def codesUnlimited : List Nat :=
  [0x0101, 0x0102, 0x0701, 0x0F01, 0x0F02, 0x0F03, 0x0F05, 0x0F06, 0x0F08, 0x0F09,
   0x0804, 0x0808, 0x0809, 0x0901, 0x0904, 0x0905, 0x0907, 0x0A01, 0x0A02, 0x0A03,
   0x0A06, 0x0A27, 0x0A2A]

/-- Whether a code is limited by a token bucket (R450, R451, R456). -/
def limitedCode (code : Nat) : Bool := severityOf code < 5 && !codesUnlimited.contains code

/-- SOURCE (R448) from its fields. -/
def srcOf (level die region position unit port : Nat) : Nat :=
  level + 0x10 * die + 0x100 * region + 0x1000 * position + 0x10000 * unit + 0x1000000 * port

/-- SOURCE of the guard die at package level. -/
def srcGuard : Nat := srcOf 4 5 0xF 0xF 0xFF 0xFF

/-- SOURCE of the hub die at package level. -/
def srcHub : Nat := srcOf 4 4 0xF 0xF 0xFF 0xFF

/-- SOURCE of a tamper source n, on the guard die at package level. -/
def srcTamper (n : Nat) : Nat := srcOf 4 5 0xF 0xF 0xFF n

/-- SOURCE of a Ngueth port: system level, hosted by the hub. -/
def srcPort (n : Nat) : Nat := srcOf 5 4 0xF 0xF 0xFF n

/-- SOURCE of a die: level die. -/
def srcDie (d : Nat) : Nat := srcOf 3 d 0xF 0xF 0xFF 0xFF

/-- SOURCE of a region G. -/
def srcRegion (g : Nat) : Nat := srcOf 2 (g / 4) (g % 4) 0xF 0xFF 0xFF

/-- SOURCE of a physical cluster. -/
def srcCluster (p : Nat) : Nat := srcOf 1 (p / 36) (p % 36 / 9) (p % 9) 0xFF 0xFF

/-- SOURCE of a unit: kind 0 TC, 1 SBU, 2 BNU, 3 DGU, and its index in the cluster. -/
def srcUnit (p kind idx : Nat) : Nat := srcOf 0 (p / 36) (p % 36 / 9) (p % 9) (32 * kind + idx) 0xFF

/-- The die nibble of a SOURCE. -/
def srcDieOf (src : Nat) : Nat := src / 16 % 16

/-- The rate (per second) and burst of a limited code (R451). -/
def State.bucketLimits (s : State) (code : Nat) : Nat × Nat :=
  match s.pat.codeLimits.lookup code with
  | some l => l
  | none =>
    if severityOf code ≥ 3 then (s.pat.warnRate, s.pat.warnBurst) else (s.pat.infoRate, s.pat.infoBurst)

/-- A bucket refilled to the present device time, in millionths of a token (R451). -/
def State.bucketNow (s : State) (code : Nat) : Nat :=
  let l := s.bucketLimits code
  match s.log.buckets.find? (fun b => b.code == code) with
  | none => l.2 * 1000000
  | some b => min (l.2 * 1000000) (b.microTokens + l.1 * (s.devUs - b.refilled))

/-- Set a code's bucket. -/
def State.setBucket (s : State) (code tokens : Nat) : State :=
  { s with log.buckets := { code := code, microTokens := tokens, refilled := s.devUs } ::
      s.log.buckets.filter (fun b => !(b.code == code)) }

/-- Bytes 0x00–0x37 of a record (R447). -/
def HeatRec.body (r : HeatRec) : Bytes :=
  le 8 r.heat ++ le 8 r.time ++ le 2 r.code ++ le 1 r.severity ++
    le 1 (b2n (r.repeats != 0) + 2 * b2n r.summary + 4 * b2n r.battery + 8 * b2n r.truncated) ++
    le 4 r.source ++ le 2 r.slice ++ zeros 2 ++ le 4 r.repeats ++ fit 24 r.payload

/-- The 64 bytes of a record. -/
def HeatRec.bytes (r : HeatRec) : Bytes := r.body ++ fit 8 r.check

/-- CHECK of a record after the check before it (R449). -/
def chainCheck (key : Bytes) (r : HeatRec) (prev : Bytes) : Bytes := (cmacAes key (r.body ++ prev)).take 8

/-- NEWEST: the newest sealed heat number (R459). -/
def State.newest (s : State) : Nat :=
  match s.log.opened with
  | some r => r.heat - 1
  | none => s.log.next - 1

/-- OLDEST = max(C + 1, NEWEST − 393,215, 1) (R459). -/
def State.oldest (s : State) : Nat := max (max (s.log.cleared + 1) (s.newest - 393215)) 1

/-- Slots of the partition (R424). -/
def heatSlots : Nat := 393216

/-- Free slots: those holding no unreleased record (R464). -/
def State.freeSlots (s : State) : Nat := heatSlots - (s.log.next - 1 - s.log.cleared)

/-- The open record is sealed: CHECK computed, and it joins the staging buffer (R453). -/
def State.sealRecord (s : State) : State :=
  match s.log.opened with
  | none => s
  | some r =>
    let c := chainCheck s.heatKey r s.log.lastCheck
    { s with log.opened := none, log.lastCheck := c, log.staging := s.log.staging ++ [{ r with check := c }] }

/-- Admission of a record: it takes the next heat number, the open record before it is sealed, and it is
open (R452, R453). -/
def State.enterLog (s : State) (r : HeatRec) : State :=
  let s := s.sealRecord
  { s with
    log.opened := some { r with
      heat := s.log.next
      payload := fit 24 r.payload
      truncated := r.truncated || decide (r.payload.length > 24) }
    log.openSince := s.m.now
    log.next := s.log.next + 1 }

/-- A record the warden makes itself, of a code, now. -/
def State.mkRec (s : State) (code source slice : Nat) (payload : Bytes) : HeatRec :=
  { time := s.devUs, code := code, severity := severityOf code, source := source, slice := slice,
    payload := payload }

/-- Full-log bookkeeping after an admission (R464): HOLD enters LOG_FULL at 1,024 free slots; OVERWRITE
reports 90% unacknowledged. -/
def State.logFullCheck (s : State) : State :=
  if s.pat.fullPolicyHold then
    if !s.log.logFull && s.freeSlots ≤ 1024 then
      let s := { s with log.logFull := true }
      s.enterLog (s.mkRec 0x0F05 srcGuard 0xFFFF [])
    else s
  else
    let high := decide ((s.log.next - 1 - s.log.acked) * 10 ≥ heatSlots * 9)
    if high && !s.log.unacked90 then
      let s := { s with log.unacked90 := true }
      s.enterLog (s.mkRec 0x0F09 srcGuard 0xFFFF [])
    else { s with log.unacked90 := high }

/-- The pending SUMMARY record of a code is written, no token taken, and its counter returns to 0 (R455). -/
def State.writeSummary (s : State) (x : Suppressed) : State :=
  let r := s.mkRec x.code x.source x.slice (le 8 x.first ++ le 8 x.last)
  let s := s.enterLog { r with summary := true, repeats := x.count }
  { s with log.suppressed := s.log.suppressed.filter (fun y => !(y.code == x.code)) }

/-- Every pending summary is written (R455). -/
def State.flushSummaries (s : State) : State :=
  s.log.suppressed.foldl (fun s x => s.writeSummary x) s

/-- LOG_DROPPED, once space has returned (R457). -/
def State.reportDropped (s : State) : State :=
  if s.log.droppedPending = 0 then s else
  let n := s.log.droppedPending
  let s := { s with log.droppedPending := 0 }
  let r := s.mkRec 0x0F04 srcGuard 0xFFFF []
  s.enterLog { r with repeats := min n 0xFFFFFFFF }

/-- An occurrence dropped and counted (R457, R464). -/
def State.dropOccurrence (s : State) : State :=
  { s with log.dropped := sat 32 (s.log.dropped + 1), log.droppedPending := s.log.droppedPending + 1 }

/-- The record of an occurrence. -/
def recOf (o : Occurrence) : HeatRec :=
  { time := o.time, code := o.code, severity := max (severityOf o.code) 0, source := o.source,
    slice := o.slice, payload := o.payload }

/-- A limited code's occurrence finds its bucket empty: merged or suppressed (R454). -/
def State.mergeOrSuppress (s : State) (o : Occurrence) : State :=
  let suppress : State :=
    let x : Suppressed := match s.log.suppressed.find? (fun y => y.code == o.code) with
      | some y => { y with count := y.count + 1, last := o.time,
                           slice := if y.slice = o.slice then y.slice else 0xFFFF }
      | none => { code := o.code, count := 1, source := o.source, slice := o.slice,
                  first := o.time, last := o.time }
    { s with
      log.suppressed := s.log.suppressed.filter (fun y => !(y.code == o.code)) ++ [x]
      log.suppressedCount := sat 32 (s.log.suppressedCount + 1) }
  match s.log.opened with
  | some r =>
    if !r.summary && !r.battery && r.code == o.code && r.source == o.source && r.slice == o.slice
        && r.repeats < 0xFFFFFFFF then
      { s with log.opened := some { r with repeats := r.repeats + 1 } }
    else suppress
  | none => suppress

/-- Admission of an occurrence that passed its bucket, its code's pending summary first (R455, R464). -/
def State.admitOccurrence (s : State) (o : Occurrence) : State :=
  let s := match s.log.suppressed.find? (fun y => y.code == o.code) with
    | some x => s.writeSummary x
    | none => s
  (s.enterLog (recOf o)).logFullCheck

/-- The warden's handling of one occurrence (R450–R457, R464). -/
def State.logOccurrence (s : State) (o : Occurrence) : State :=
  let sev := severityOf o.code
  if sev = 0 ∧ s.lcState ≠ .testUnlocked ∧ s.lcState ≠ .returned then s
  -- occurrences of the hub and the transaction dies are lost with the G-H link (R452)
  else if s.ghFailed ∧ srcDieOf o.source ≠ 5 then s
  -- during a save only ALARM and CRITICAL wait in the producer queue (R465)
  else if s.stage.saving ∨ s.pins.halt then
    if sev ≥ 5 ∧ s.log.queue.length < 64 then { s with log.queue := s.log.queue ++ [o] } else s
  -- staging buffer full (R457)
  else if s.log.staging.length + 1 ≥ 256 then
    if sev ≥ 5 ∧ s.log.queue.length < 64 then { s with log.queue := s.log.queue ++ [o] }
    else s.dropOccurrence
  -- HOLD with the reserve exhausted (R464)
  else if s.pat.fullPolicyHold ∧ s.freeSlots = 0 ∧ sev < 5 then s.dropOccurrence
  else if limitedCode o.code then
    let t := s.bucketNow o.code
    if t ≥ 1000000 then (s.setBucket o.code (t - 1000000)).admitOccurrence o
    else (s.setBucket o.code t).mergeOrSuppress o
  else s.admitOccurrence o

/-- A producer's event of a code, stamped with the present device time. -/
def State.logEv (s : State) (code source slice : Nat) (payload : Bytes) : State :=
  s.logOccurrence { code := code, source := source, slice := slice, time := s.devUs, payload := payload }

/-- An event of the guard die itself, of no slice. -/
def State.logG (s : State) (code : Nat) (payload : Bytes) : State := s.logEv code srcGuard 0xFFFF payload

/-- An event of the hub, of no slice. -/
def State.logH (s : State) (code : Nat) (payload : Bytes) : State := s.logEv code srcHub 0xFFFF payload

/-- STAGE_REACHED and ALERT_CAUSE bit 0 where STAT[2:0] changed between two states (R69, R450). -/
def State.logStat (old s : State) : State :=
  if old.stat = s.stat then s else (s.alert 1).logG 0x0103 (le 1 s.stat)

/-- Sealed records leave the staging buffer for MRAM in heat order; waiting ALARM and CRITICAL occurrences
are admitted, then LOG_DROPPED is written, once space returns (R457). -/
def State.drainStaging (s : State) (n : Nat) : State :=
  let out := s.log.staging.take n
  let keep := (out.reverse ++ s.log.store).take heatSlots
  let s : State := out.foldl (fun (s : State) (r : HeatRec) =>
    let sec := (r.heat - 1) % heatSlots / 1024
    { s with per.sectorWrites := assocSet s.per.sectorWrites sec (lookupD s.per.sectorWrites sec 0 + 1) }) s
  let s := { s with log.staging := s.log.staging.drop n, log.store := keep }
  if s.stage.saving ∨ s.pins.halt ∨ s.log.staging.length + 1 ≥ 256 then s
  else
    let q := s.log.queue
    let s := { s with log.queue := [] }
    (q.foldl (fun s o => s.logOccurrence o) s).reportDropped

/-- A sealed record by heat number, from the staging buffer or the partition. -/
def State.findRec (s : State) (h : Nat) : Option HeatRec :=
  match s.log.staging.find? (fun r => r.heat == h) with
  | some r => some r
  | none => s.log.store.find? (fun r => r.heat == h)

/-- Whether a loaded record's CHECK fails against the record before it; a record whose predecessor is
gone is not checked (R460). -/
def State.chainFails (s : State) (r : HeatRec) : Bool :=
  if r.heat ≤ 1 then !(chainCheck s.heatKey r (zeros 8) == r.check)
  else match s.findRec (r.heat - 1) with
    | some p => !(chainCheck s.heatKey r p.check == r.check)
    | none => false

/-- The window loads the record the cursor names (R460). -/
def State.loadWindow (s : State) (cursor : Nat) : State :=
  let gone := decide (cursor < s.oldest)
  let c := if gone then s.oldest else cursor
  if c > s.newest then
    { s with log.cursor := c, log.gone := gone, log.atEnd := true, log.valid := false,
             log.chainBad := false, log.data := zeros 64 }
  else
    match s.findRec c with
    | some r =>
      { s with log.cursor := c, log.gone := gone, log.atEnd := false, log.valid := true,
               log.chainBad := s.chainFails r, log.data := r.bytes }
    | none =>
      { s with log.cursor := c, log.gone := gone, log.atEnd := false, log.valid := false,
               log.chainBad := false, log.data := zeros 64 }

/-- C and ACKED as life counters 54–55 and 52–53, low word first (R459). -/
def State.setBounds (s : State) (cleared acked : Nat) : State :=
  { s with
    log.cleared := cleared
    log.acked := acked
    per.life := assocSet (assocSet (assocSet (assocSet s.per.life 52 (acked % 2 ^ 32))
      53 (acked / 2 ^ 32)) 54 (cleared % 2 ^ 32)) 55 (cleared / 2 ^ 32) }

/-- The HLW registers are live from stage Hub onward (R460, R466). -/
def State.fromHub (s : State) : Bool := s.stage.stage == .hub || s.stage.stage == .full

/-! ## The rows -/

/-- HEAT_OCCURRENCE: a producer's event reaches the warden (R452). -/
def execHeatOccurrence (code source slice time : Nat) (payload : Bytes) (s : State) :
    Host.Outcome State Fault Refusal :=
  .next (s.logOccurrence { code := wrap 16 code, source := wrap 32 source, slice := wrap 16 slice,
                           time := wrap 64 time, payload := fit 24 payload })

/-- RECORD_SEAL_TIMEOUT: an open record is sealed 100 ms after its admission (R453). -/
def execRecordSealTimeout (s : State) : Host.Outcome State Fault Refusal :=
  .next (if s.m.now - s.log.openSince ≥ 400000 then s.sealRecord else s)

/-- SUMMARY_FLUSH_DUE: every 60 s every pending summary is written (R455). -/
def execSummaryFlushDue (s : State) : Host.Outcome State Fault Refusal := .next s.flushSummaries

/-- STAGING_DRAIN (R457). -/
def execStagingDrain (count : Nat) (s : State) : Host.Outcome State Fault Refusal :=
  .next (s.drainStaging count)

/-- HLW_CURSOR_HI_WRITE: the window loads the named record (R460). -/
def execHlwCursorHiWrite (value : Nat) (s : State) : Host.Outcome State Fault Refusal :=
  .next (if s.hostUp && s.fromHub && !s.ghFailed then s.loadWindow (s.log.cursorLo + 2 ^ 32 * wrap 32 value) else s)

/-- HLW_DATA15_READ: the old word is returned, and the cursor advances unless it is beyond NEWEST (R460). -/
def execHlwData15Read (s : State) : Host.Outcome State Fault Refusal :=
  let old := fld s.log.data 60 4
  if !s.hostUp then .next s
  else if s.ghFailed then .next (s.emit (.mmioData 0x08007C 0xFFFFFFFF))
  else if s.fromHub then
    let s1 := s.emit (.mmioData 0x08007C old)
    .next (if s.log.atEnd ∨ s.log.cursor > s.newest then s1 else s1.loadWindow (s.log.cursor + 1))
  else .next (s.emit (.mmioData 0x08007C 0))

end Sys2Proof.Machine
end

