-- ==== Sys2Proof/Machine/Persist.lean ====
section
/-!
DEFINITION. The commit buffer, MRAM pacing, the count checkpoint ring, the replay ring, riser limits,
device time and the life counters (15_riser_persistence_time.md).
-/
namespace Sys2Proof.Machine

/-! ## MRAM addresses (R424, R425) -/

/-- The 64-byte MRAM line of slice record n (256 B each at 0x1A0_0000). -/
def lineSlice (n : Nat) : Nat := (0x1A00000 + 256 * (n - 1)) / 64
/-- The line of counted-key record i (24 B each at 0x180_0000). -/
def lineCounted (i : Nat) : Nat := (0x1800000 + 24 * i) / 64
/-- The line of replay entry slot i (32 B each at 0x19C_0000). -/
def lineReplay (i : Nat) : Nat := (0x19C0000 + 32 * (i % 4096)) / 64
/-- The line of life data (counter block, rollback counter, activation record, time checkpoint). -/
def lineLife (k : Nat) : Nat := 0x19E0000 / 64 + k
/-- The line of the domain and custodian enrolment partition. -/
def lineEnrol : Nat := 0x1B00000 / 64
/-- The line of the field repair and wear partition of die d. -/
def lineWear (d : Nat) : Nat := 0x1B80000 / 64 + d

/-- Journal capacity in bytes: 228 KiB (R421). -/
def journalBytes : Nat := 228 * 1024

/-- Journal bytes in use. -/
def State.journalUsed (s : State) : Nat := s.per.journal.foldl (fun n e => n + e.size) 0

/-- A new commit entry arrives at the warden and awaits acceptance (R422). No entry is accepted once a
save has isolated the keep rail (R430). The item whose effect it holds has placed an entry (R16). -/
def State.commit (s : State) (size : Nat) (line : Option Nat) (item : Option Nat) (undo : List Undo) :
    State :=
  if s.pins.halt then s
  else { s with
    per.waiting := s.per.waiting ++ [{ size := size, line := line, item := item, undo := undo }]
    tnd.items := s.tnd.items.map (fun (x : Item) => if item == some x.slot then { x with committed := true } else x) }

/-- One undo applied: the effect is lost (R431). -/
def State.applyUndo (s : State) (u : Undo) : State :=
  match u with
  | .slice n old => { s with slc.slices := s.slc.slices.map (fun x => if x.number = n then old else x) }
  | .replay old => { s with per.replay := old }
  | .rollback v => { s with per.rollback := v }
  | .activation p f => { s with per.actPattern := p, per.actFirmware := f }
  | .counted i old =>
    let rest := s.kst.counted.filter (fun c => !(c.index == i))
    { s with kst.counted := match old with | none => rest | some c => c :: rest }
  | .enrolment d k e r =>
    { s with dcc.domainId := d, dcc.shareK := k, dcc.shareEpoch := e, dcc.records := r }
  | .patternKeys a b => { s with dcc.patKey0 := a, dcc.patKey1 := b }
  | .bounds c a => s.setBounds c a

/-- Effects of entries lost, newest first. -/
def State.applyUndos (s : State) (us : List Undo) : State := us.foldl State.applyUndo s

/-- A write of an MRAM line, counted for its 64 KiB sector (R443). -/
def State.countWrite (s : State) (line : Nat) : State :=
  let sec := line / 1024
  { s with per.sectorWrites := assocSet s.per.sectorWrites sec (lookupD s.per.sectorWrites sec 0 + 1) }

/-- Whether pacing holds a line: written less than 32 s ago (R426). 32 s are 128,000,000 ticks. -/
def State.paced (s : State) (line : Nat) : Bool :=
  match s.per.lineWrites.lookup line with
  | none => false
  | some t => decide (s.m.now - t < 128000000)

/-- A change of a logical map is used from the acceptance of its entry on; a spare that was tested for it is in place (R22). -/
def State.useMap (s : State) (e : CommitEntry) : State :=
  match e.slot with
  | none => s
  | some (l, k) => { s with
      fabric.maps := s.fabric.maps.map (fun (m : LogicalMap) =>
        if m.region = l / 8 then { m with slots := m.slots.set (l % 8) k } else m)
      fabric.spareTest := s.fabric.spareTest.filter (fun t => !(t.2 == l)) }

/-- Acceptance of one entry where it fits: merged into the line cache, given a free line, or placed in the
journal (R422, R426); none where it must wait, as the commit of an issuing does while the device is persist-unsafe
(R526). -/
def State.acceptEntry (s : State) (e : CommitEntry) : Option State :=
  let toJournal : Option State :=
    if s.journalUsed + e.size ≤ journalBytes then some { s with per.journal := s.per.journal ++ [e] }
    else none
  if e.safeOnly && s.per.persistUnsafe then none
  else match e.line with
  | none => toJournal
  | some l =>
    if s.per.lines.any (fun x => x.line == l) then
      some { s with per.lines := s.per.lines.map (fun x =>
        if x.line = l then { x with undo := e.undo ++ x.undo, item := e.item } else x) }
    else if s.paced l then
      if s.per.lines.length < 256 then
        some { s with per.lines := s.per.lines ++ [{ line := l, item := e.item, undo := e.undo }] }
      else none
    else toJournal

/-- The oldest waiting entry that fits is accepted; entries of one item keep their order (R422). -/
def State.acceptFirst (s : State) : List CommitEntry → List CommitEntry → State
  | [], kept => { s with per.waiting := kept }
  | e :: r, kept =>
    match s.acceptEntry e with
    | some s' => { s'.useMap e with per.waiting := kept ++ r }
    | none => s.acceptFirst r (kept ++ [e])

/-- An entry reaches MRAM: its line, if it changes one, is written and paced (R423, R426). -/
def State.entryToMram (s : State) (e : CommitEntry) : State :=
  match e.line with
  | none => s
  | some l => { (s.countWrite l) with per.lineWrites := assocSet s.per.lineWrites l s.m.now }

/-! ## Counted keys: counter area and checkpoint ring (R421, R425, R428) -/

/-- The slots of the ring, newest first. -/
def State.ringByAge (s : State) : List Checkpoint := (sortBy (fun (k : Checkpoint) => k.seq) s.per.ring).reverse

/-- COUNT of record i now: the counter area, else the newest slot with a pair, else the home field. -/
def State.countNow (s : State) (i : Nat) : Nat :=
  match s.per.counterArea.lookup i with
  | some c => c
  | none =>
    match (s.ringByAge.filterMap (fun (k : Checkpoint) => k.pairs.lookup i)).head? with
    | some c => c
    | none => match s.kst.counted.find? (fun (c : CountedRec) => c.index == i) with
      | some c => c.count
      | none => 0

/-- CHECK of a counted-key record with a given COUNT: 32 bits of the CMAC under the counter record key over index ‖ SLICE ‖
LIMIT ‖ KEY_ID ‖ COUNT, as the record stores them (R208, R425). -/
def State.countCheckOf (s : State) (c : CountedRec) (count : Nat) : Bytes :=
  (cmacAes s.counterKey (le 2 c.index ++ le 2 (c.slice + 0x8000) ++ le 4 c.limit ++ le 8 c.keyId ++ le 4 count)).take 4

/-- A counted-key record as it is written into MRAM, its CHECK made (R425). -/
def State.sealCount (s : State) (c : CountedRec) : CountedRec := { c with check := s.countCheckOf c c.count }

/-- No count of the records of some indexes is left outside their home fields (DEDUCED, assumption log 10: a pair of an
erased record says nothing of the one that takes its index). -/
def State.forgetCounts (s : State) (gone : Nat → Bool) : State :=
  { s with per.counterArea := s.per.counterArea.filter (fun p => !gone p.1)
           per.ring := s.per.ring.map (fun (k : Checkpoint) => { k with pairs := k.pairs.filter (fun p => !gone p.1) }) }

/-- A count change enters the counter area, overwriting the record's entry; none when all 680 entries are
in use by other records (R422). -/
def State.putCount (s : State) (i c : Nat) : Option State :=
  if (s.per.counterArea.lookup i).isSome || s.per.counterArea.length < 680 then
    some { s with per.counterArea := assocSet s.per.counterArea i c }
  else none

/-- One slot's pairs folded into the home fields, except those a newer slot supersedes (R428). -/
def State.foldSlot (s : State) (k : Checkpoint) : State :=
  let newer := s.per.ring.filter (fun x => x.seq > k.seq)
  k.pairs.foldl (fun s p =>
    if newer.any (fun x => (x.pairs.lookup p.1).isSome) then s
    else { s with kst.counted := s.kst.counted.map (fun c =>
      if c.index = p.1 then { c with count := p.2, check := s.countCheckOf c p.2 } else c) }) s

/-- A checkpoint: the next slot is folded, then overwritten with the counter area, which empties (R428). -/
def State.checkpoint (s : State) : State :=
  let s := match s.per.ring.find? (fun k => k.slot == s.per.ringNext) with
    | some k => s.foldSlot k
    | none => s
  let seq := s.per.ringSeq + 1
  { s with
    per.ring := { slot := s.per.ringNext, seq := seq, pairs := s.per.counterArea } ::
      s.per.ring.filter (fun k => !(k.slot == s.per.ringNext))
    per.ringSeq := wrap 64 seq
    per.ringNext := (s.per.ringNext + 1) % 32
    per.counterArea := [] }

/-- The slots valid at restore: SEQ non-zero and above that of the slot before (R428). -/
def validSlots (ring : List Checkpoint) : List Checkpoint :=
  ring.filter (fun k =>
    let prev := match ring.find? (fun x => x.slot == (k.slot + 31) % 32) with
      | some x => x.seq
      | none => 0
    k.seq ≠ 0 ∧ k.seq > prev)

/-! ## Replay ring (R436, R437) -/

/-- An entry is honoured within its scope (R437); `cold` and `session` list the verbs of the two
shorter scopes. -/
def State.replayHonoured (s : State) (cold session : List Nat) (e : ReplayEntry) : Bool :=
  if cold.contains e.verb then e.cold == s.per.coldSeq
  else if session.contains e.verb then e.scope == s.per.scopeSeq
  else true

/-- The place in the ring of the next replay entry: behind the newest, round and round (R436). -/
def State.replayPlace (s : State) : Nat :=
  match s.per.replay.head? with
  | some e => (e.place + 1) % 4096
  | none => 0

/-- A new replay entry, which replaces the oldest of 4,096 (R436). -/
def State.addReplay (s : State) (e : ReplayEntry) : State :=
  { s with per.replay := ({ e with cold := s.per.coldSeq, scope := s.per.scopeSeq, place := s.replayPlace } ::
      s.per.replay).take 4096 }

/-! ## Riser limits (R433, R434) -/

/-- The square of V_P's energy term in mV²: 2 × 12 mJ ÷ (0.8 × C) + (2.4 V)² (R433). -/
def vpSquare (uf : Nat) : Nat := ceilDiv 30000000000 uf + 5760000

/-- V_P in mV (R433), rounded up; 0 µF has none. -/
def vpMv (uf : Nat) : Nat :=
  let r := isqrt (vpSquare uf)
  max 4200 (if r * r < vpSquare uf then r + 1 else r)

/-- V_P exceeds 4.85 V: RISER_UF below 1,690 µF (R433). -/
def vpTooHigh (uf : Nat) : Bool := uf < 1690

/-- Persist-unsafe permanently from the accepted pattern's riser (R434). -/
def State.riserInsufficient (s : State) : Bool := s.pat.riserUf == 0 || vpTooHigh s.pat.riserUf

/-- VRISER as measured. -/
def State.riserNote (s : State) (mv : Nat) : State := { s with per.vriser := min mv 8191 }

/-- A measurement above or below V_P: since when it has been above, or how many in a row were below (R433). -/
def State.riserCross (s : State) (above : Bool) : State :=
  { s with per.aboveSince := if above then some (s.per.aboveSince.getD s.m.now) else none
           per.below := if above then 0 else s.per.below + 1 }

/-- The end of a persist-unsafe state after 1 ms above V_P; the first end since a cold reset is no exit (R433). -/
def State.riserExit (s : State) : State :=
  if s.per.everSafe then { s with per.persistUnsafe := false }.logG 0x0505 []
  else { s with per.persistUnsafe := false, per.everSafe := true }

/-- The persist-unsafe state after a measurement: two in a row below V_P enter it (R433). -/
def State.riserJudge (s : State) : State :=
  match s.per.aboveSince with
  | some t => if s.per.persistUnsafe ∧ s.m.now - t ≥ 4000 then s.riserExit else s
  | none =>
    if !s.per.persistUnsafe && s.per.below ≥ 2 then { s with per.persistUnsafe := true }.logG 0x0504 [] else s

/-- One 100 µs measurement of VRISER and the persist-unsafe state (R433). -/
def State.riserMeasure (s : State) (mv : Nat) : State :=
  let s := s.riserNote mv
  if s.per.unsafePerm then { s with per.persistUnsafe := true }
  else (s.riserCross (decide (mv ≥ vpMv s.pat.riserUf))).riserJudge

/-! ## Device time (R438, R439, R442) -/

/-- 2255-12-31 23:59:59 in seconds from 2000-01-01 00:00:00 (R438). -/
def rtcMaxSec : Nat := 8078572799

/-- The battery domain has power: the keep rail or the cell (R34, R438). -/
def State.batteryDomain (s : State) : Bool := s.pins.keepRail || s.pins.vbatOk

/-- One tick of 250 ns: the model's clock advances, and the RTC with it while the battery domain has power
and it does not hold, at the slewed rate (R143, R438, R440). -/
def State.tick (s : State) : State :=
  let s := { s with m.now := s.m.now + 1 }
  if s.batteryDomain && !s.per.rtcHeld then
    let r := s.per.rtc + (1000000 + s.ngl.slewPpm).toNat
    { s with per.rtc := min r (rtcMaxSec * 4000000000000) }
  else s

/-! ## Life counters and wear (R443, R444) -/

/-- Unused test tokens TT0–TT7 (R494). -/
def State.testTokensLeft (s : State) : Nat :=
  ((List.range 8).filter (fun i => lookupD s.fuses.tokenUsed (8 + i) 0 = 0)).length

/-- Minutes die d has spent in band b. -/
def State.bandMin (s : State) (d b : Nat) : Nat := lookupD s.per.life (1 + 5 * d + b) 0

/-- Power-on minutes: every die's bands sum to them. -/
def State.powerMin (s : State) : Nat :=
  (List.range 5).foldl (fun n b => n + s.bandMin 4 b) 0

/-- The value of a life counter (R443); 0 for an unused index. -/
def State.lifeValue (s : State) (i : Nat) : Nat :=
  if i = 0 then s.powerMin / 60
  else if i = 49 then s.fuses.fusesFree
  else if i = 51 then s.testTokensLeft
  else if 64 ≤ i ∧ i < 576 then lookupD s.per.sectorWrites (i - 64) 0 / 64
  else lookupD s.per.life i 0

/-- Add to a life counter, saturating at 32 bits. -/
def State.lifeAdd (s : State) (i n : Nat) : State :=
  { s with per.life := assocSet s.per.life i (sat 32 (lookupD s.per.life i 0 + n)) }

/-- E_t of a die in 10⁻⁹: Σ w_b × h_b ÷ 131,490 h with w = 0.5, 1, 2, 4, 8 (R444). -/
def State.wearTemp (s : State) (d : Nat) : Nat :=
  ((List.range 5).foldl (fun n b => n + 2 ^ b * s.bandMin d b) 0) * 1000000000 / (2 * 60 * 131490)

/-- The three consumed fractions in 10⁻⁹: temperature, MRAM, battery (R444). -/
def State.wearFractions (s : State) : List Nat :=
  [ (List.range 6).foldl (fun m d => max m (s.wearTemp d)) 0,
    (s.per.sectorWrites.foldl (fun m p => max m p.2) 0) * 1000000000 / (1024 * 100000000),
    s.lifeValue 50 * 1000000000 * 10 / (8 * s.pat.batteryMah * 1000) ]

/-- The figures of PER_WEAR from the life counters as they stand (R444). -/
def State.wearFigures (s : State) : State :=
  let e := s.wearFractions
  let worst := e.foldl max 0
  let limit := e.idxOf worst
  let mins := s.powerMin
  let hist := ((mins, e) :: s.per.wearHist).filter (fun p => p.1 + 43200 ≥ mins)
  let oldest := hist.getLastD (mins, e)
  -- the growth of the limiting factor itself over the last 30 days of power-on time
  let growth := worst - oldest.2.getD limit worst
  let span := mins - oldest.1
  let remain := 1000000000 - min worst 1000000000
  -- years in tenths: remaining ÷ (growth per minute) ÷ 525,960 minutes a year
  let years := if growth = 0 then 999 else min 999 (remain * span * 10 / (growth * 525960))
  { s with per.wearHist := hist, per.wearRemaining := remain / 10000000, per.wearLimit := limit, per.wearYears := years }

/-- The wear model after a 60 s write: PER_WEAR, BATTERY_LOW and WEAR_LOW (R444). -/
def State.wearUpdate (s : State) : State :=
  let e := s.wearFractions
  let s := s.wearFigures
  let s := if e.getD 2 0 ≥ 900000000 ∧ !s.per.battLow then
    { s with per.battLow := true }.logG 0x050A [] else s
  if e.foldl max 0 > 900000000 ∧ !s.per.wearLow then { s with per.wearLow := true }.logG 0x050B [] else s

/-- The life counters are written to the next of their four copies (R443). -/
def State.writeLife (s : State) : State :=
  let c := (s.per.lifeCopy + 1) % 4
  ({ s with per.lifeCopy := c }).commit 2304 (some (lineLife (64 * c))) none []

/-! ## The rows -/

/-- JOURNAL_DRAIN: entries reach MRAM in order, and waiting entries that now fit are accepted (R423). -/
def execJournalDrain (count : Nat) (s : State) : Host.Outcome State Fault Refusal :=
  let done := s.per.journal.take count
  let s := { s with per.journal := s.per.journal.drop count }
  .next (done.foldl State.entryToMram s)

/-- LINE_PACE_EXPIRE: a waiting line-cache change is written once 32 s have passed (R426). -/
def execLinePaceExpire (line : Nat) (s : State) : Host.Outcome State Fault Refusal :=
  .next (if s.per.lines.any (fun x => x.line == line) && !s.paced line then
      { (s.countWrite line) with
        per.lines := s.per.lines.filter (fun x => !(x.line == line))
        per.lineWrites := assocSet s.per.lineWrites line s.m.now }
    else s)

/-- COUNTER_CHECKPOINT: once per second (R428). -/
def execCounterCheckpoint (s : State) : Host.Outcome State Fault Refusal :=
  .next (if s.pins.halt ∨ s.stage.stage = .hold then s else s.checkpoint)

/-- TIME_CHECKPOINT: device time to life data every 60 s (R442). -/
def execTimeCheckpoint (s : State) : Host.Outcome State Fault Refusal :=
  .next (if s.pins.halt ∨ s.stage.stage = .hold then s else
    ({ s with per.timeCheckpoint := s.devUs }).commit 64 (some (lineLife 1)) none [])

/-- LIFE_COUNTER_WRITE: 60 s of temperature bands and battery charge, the copy, the wear model (R443, R444). -/
def execLifeCounterWrite (bands : List Nat) (batteryUah : Nat) (s : State) :
    Host.Outcome State Fault Refusal :=
  .next (if s.pins.halt ∨ s.stage.stage = .hold then s else
    let s := (bands.take 6).zipIdx.foldl (fun s p => s.lifeAdd (1 + 5 * p.2 + min p.1 4) 1) s
    (s.lifeAdd 50 batteryUah).writeLife.wearUpdate)

/-- RTC_HOLD: at 2255-12-31 23:59:59 the RTC holds and CAL_SET and CAL_SOURCE clear (R438). -/
def execRtcHold (s : State) : Host.Outcome State Fault Refusal :=
  .next (if s.rtcSec ≥ rtcMaxSec ∧ s.batteryDomain then
      { s with per.rtcHeld := true, per.calSet := false, per.calSource := 0 }
    else s)

end Sys2Proof.Machine
end

