-- ==== Sys2Proof/Machine/Fabric.lean ====
section
/-!
DEFINITION. Units, clusters, regions and dies: numbering, repair maps, logical maps, live units, capacity
(01_six_levels.md).
-/
namespace Sys2Proof.Machine

/-- Unit kinds of the repair maps (R579). -/
def kindTC : Nat := 0
/-- SBU kind. -/
def kindSBU : Nat := 1
/-- BNU kind. -/
def kindBNU : Nat := 2
/-- DGU kind. -/
def kindDGU : Nat := 3

/-- Units of a kind in one cluster (R14). -/
def unitsPer (kind : Nat) : Nat := if kind ≤ 1 then 4 else 1

/-- A position of a region is usable: it is not in the factory repair map, not retired in the field map (R22), and not
retired until the next cold reset because the field map was full (R15). -/
def State.posUsable (s : State) (g k : Nat) : Bool :=
  let hit := fun (e : RepairEntry) => e.kind == 1 && e.die == g / 4 && e.region == g % 4 && e.position == k
  !s.fuses.factoryMap.any (fun e => e.kind == 0 && e.die == g / 4 && e.region == g % 4 && e.position == k) &&
  !s.fabric.fieldMap.any hit && !s.fabric.tempRetired.any hit

/-- A unit of a physical cluster is live: neither it nor its position is retired (R15). -/
def State.unitLive (s : State) (p kind idx : Nat) : Bool :=
  let hit := fun (e : RepairEntry) => e.kind == 0 && e.die == p / 36 && e.region == p % 36 / 9 &&
    e.position == p % 9 && e.unitKind == kind && e.unit == idx
  s.posUsable (physRegion p) (physPos p) && decide (idx < unitsPer kind) &&
    !s.fabric.fieldMap.any hit && !s.fabric.tempRetired.any hit

/-- Live units of a kind in a physical cluster. -/
def State.liveUnits (s : State) (p kind : Nat) : List Nat :=
  (List.range (unitsPer kind)).filter (s.unitLive p kind)

/-- The recorded logical map of a region, if any (R22). -/
def State.mapOf (s : State) (g : Nat) : Option LogicalMap :=
  s.fabric.maps.find? (fun m => m.region == g)

/-- The physical cluster recorded behind logical cluster L (R21, R22). -/
def State.physOf (s : State) (l : Nat) : Option Nat :=
  match s.mapOf (l / 8) with
  | none => none
  | some m => (m.slots.getD (l % 8) none).map (fun k => physNo (l / 32) (l / 8 % 4) k)

/-- Usable positions of a region in ascending order. -/
def State.usablePos (s : State) (g : Nat) : List Nat := (List.range 9).filter (s.posUsable g)

/-- Slots served in ascending order with the positions that remain, in ascending order (R22). -/
def fillSlots : List (Option Nat) → List Nat → List (Option Nat)
  | [], _ => []
  | some k :: r, free => some k :: fillSlots r free
  | none :: r, k :: free => some k :: fillSlots r free
  | none :: r, [] => none :: fillSlots r []

/-- The logical map of a region built at Anneal: recorded slots keep usable positions, the others take the
usable positions that carry no slot (R22). -/
def State.buildMap (s : State) (g : Nat) : LogicalMap :=
  let old := match s.mapOf g with
    | some m => fitSlots m.slots
    | none => List.replicate 8 none
  let kept := old.map (fun o => match o with
    | some k => if s.posUsable g k then some k else none
    | none => none)
  let free := (s.usablePos g).filter (fun k => !kept.contains (some k))
  { region := g, slots := fillSlots kept free }
where
  /-- A recorded map always has eight slots. -/
  fitSlots (l : List (Option Nat)) : List (Option Nat) := (l ++ List.replicate 8 none).take 8

/-- The spare of a region: a usable position that carries no logical slot (R22). -/
def State.spares (s : State) (g : Nat) : List Nat :=
  match s.mapOf g with
  | none => []
  | some m => (s.usablePos g).filter (fun k => !m.slots.contains (some k) &&
      !s.fabric.spareTest.any (fun t => t.1 == physNo (g / 4) (g % 4) k))

/-- A die is offline (R29). -/
def State.dieOff (s : State) (d : Nat) : Bool := s.stage.dieOffline.contains d

/-- Regions that count: usable at Anneal and on a die that is online. -/
def State.liveRegions (s : State) : List Nat :=
  s.stage.usable.filter (fun g => !s.dieOff (g / 4))

/-- Present logical clusters: those with a usable physical cluster behind them in a usable region (R21);
a slot under its substitution self-test stays present (R583). -/
def State.present (s : State) (l : Nat) : Bool :=
  s.liveRegions.contains (l / 8) &&
  match s.physOf l with
  | none => false
  | some p => s.posUsable (physRegion p) (physPos p) || s.fabric.spareTest.any (fun t => t.2 == l)

/-- Present logical clusters in ascending order. -/
def State.presentClusters (s : State) : List Nat := (List.range 128).filter s.present

/-- Live units of a kind in the present clusters. -/
def State.capUnits (s : State) (kind : Nat) : Nat :=
  s.presentClusters.foldl (fun n l => match s.physOf l with
    | some p => n + (s.liveUnits p kind).length
    | none => n) 0

/-- STG_CAPACITY0.SPARES: usable spares across all regions (R66). -/
def State.capSpares (s : State) : Nat := s.liveRegions.foldl (fun n g => n + (s.spares g).length) 0

/-- STG_CAPACITY0 (R66); the registers are set by Anneal. -/
def State.capacity0 (s : State) : Nat :=
  s.presentClusters.length + 256 * s.capUnits kindBNU + 65536 * s.capUnits kindDGU + 16777216 * s.capSpares

/-- STG_CAPACITY1 (R66). -/
def State.capacity1 (s : State) : Nat := s.capUnits kindTC + 65536 * s.capUnits kindSBU

/-- A retirement enters the die's field repair map; a full map (32 entries) leaves the unit retired until
the next cold reset and writes REPAIR_MAP_FULL (R15). -/
def State.addRepair (s : State) (e : RepairEntry) : State :=
  let e := { e with hours := min (s.lifeValue 0) 0xFFFF }
  if (s.fabric.fieldMap.filter (fun x => x.die == e.die)).length < 32 then
    ({ s with fabric.fieldMap := s.fabric.fieldMap ++ [e] }).commit 64 (some (lineWear e.die)) none []
  else
    ({ s with fabric.tempRetired := s.fabric.tempRetired ++ [e] }).logEv 0x020C (srcDie e.die) 0xFFFF []

/-- A unit of a physical cluster is retired (R15). -/
def State.retireUnit (s : State) (p kind idx : Nat) : State :=
  if s.unitLive p kind idx then
    s.addRepair { die := p / 36, kind := 0, region := p % 36 / 9, position := p % 9,
                  unitKind := kind, unit := idx }
  else s

/-- A whole position is retired (R19, R20, R59). -/
def State.retirePosition (s : State) (p : Nat) : State :=
  if s.posUsable (physRegion p) (physPos p) then
    s.addRepair { die := p / 36, kind := 1, region := p % 36 / 9, position := p % 9 }
  else s

/-- The position behind one logical cluster changes: the change goes to the wear record through the commit buffer, and the
map is used once its entry is accepted (R22). -/
def State.setSlot (s : State) (l : Nat) (k : Option Nat) : State :=
  if s.pins.halt then s
  else { s with per.waiting := s.per.waiting ++ [{ size := 64, line := some (lineWear (l / 32)), slot := some (l, k) }] }

/-- 24 hours of device time in µs (R439). -/
def day24Us : Nat := 86400000000

/-- Check-window times of a unit within the last 24 hours (R14, R439). -/
def State.strikesOf (s : State) (p kind idx : Nat) : List Strike :=
  s.fabric.strikes.filter (fun x => x.phys == p && x.kind == kind && x.unit == idx &&
    decide (s.devUs - x.time < day24Us))

/-- A strike of a unit is recorded in the wear record through the commit buffer; older ones leave the
window (R16, R166, R194). -/
def State.addStrike (s : State) (p kind idx : Nat) : State :=
  let keep := s.fabric.strikes.filter (fun x => decide (s.devUs - x.time < day24Us))
  ({ s with fabric.strikes := { phys := p, kind := kind, unit := idx, time := s.devUs } :: keep }).commit
    16 (some (lineWear (p / 36))) none []

/-- Update one die-to-die link. -/
def State.modLink (s : State) (k : Nat) (f : DieLink → DieLink) : State :=
  { s with fabric.links := modAt s.fabric.links k f }

/-- A link is trained: the failing wires of each direction against its spares (R28). Up, or failed. -/
def trainLink (spares : Nat) (dn up : List Nat) (l : DieLink) : DieLink :=
  let ok := dn.length ≤ spares && up.length ≤ spares
  { l with state := if ok then 2 else 3, sparesDn := min dn.length spares, sparesUp := min up.length spares,
           trainings := wrap 32 (l.trainings + 1), failDn := dn, failUp := up, consecutive := 0, recent := [] }

end Sys2Proof.Machine
end

