-- ==== Sys2Proof/Machine/VerbTable.lean ====
section
/-!
DEFINITION. The submission entry (R107) and the verb tables: which class, executor, units, input lengths
and energy terms each verb code has (R88, R237, R283, R324, R354, R365, R383, R461, R524, R550).
-/
namespace Sys2Proof.Machine

/-! ## The submission entry (R107) -/

/-- VERB. -/
def dVerb (d : Bytes) : Nat := fld d 0 2
/-- FLAGS. -/
def dFlags (d : Bytes) : Nat := fld d 2 2
/-- TAG. -/
def dTag (d : Bytes) : Nat := fld d 4 4
/-- KEYREF_A. -/
def dKeyA (d : Bytes) : Nat := fld d 8 8
/-- KEYREF_B. -/
def dKeyB (d : Bytes) : Nat := fld d 16 8
/-- IN_ADDR. -/
def dInAddr (d : Bytes) : Nat := fld d 24 8
/-- IN_LEN. -/
def dInLen (d : Bytes) : Nat := fld d 32 4
/-- OUT_CAP. -/
def dOutCap (d : Bytes) : Nat := fld d 36 4
/-- OUT_ADDR. -/
def dOutAddr (d : Bytes) : Nat := fld d 40 8
/-- The 64-bit request ID of class M and C verbs. -/
def dRequest (d : Bytes) : Nat := fld d 0x30 8
/-- DELAY. -/
def dDelay (d : Bytes) : Nat := fld d 0x3C 4
/-- FENCE. -/
def dFence (d : Bytes) : Bool := bit (dFlags d) 0
/-- NOTIFY. -/
def dNotify (d : Bytes) : Bool := bit (dFlags d) 1
/-- NOT_BEFORE. -/
def dNotBefore (d : Bytes) : Bool := bit (dFlags d) 2
/-- PRIO_OVR. -/
def dPrioOvr (d : Bytes) : Bool := bit (dFlags d) 3
/-- PRIO_VAL. -/
def dPrioVal (d : Bytes) : Nat := bits (dFlags d) 4 3
/-- INVERSE_CHECK. -/
def dInverse (d : Bytes) : Bool := bit (dFlags d) 7

/-! ## Verb tables -/

/-- Class and executor of a verb (R126). -/
structure VerbInfo where
  /-- 0 S, 1 A, 2 M, 3 C. -/
  cls : Nat
  /-- Class M and C: 0 hub manager executor, 1 warden short context, 2 warden flash context. -/
  ctx : Nat := 0
  deriving DecidableEq, Repr

/-- Class S verbs. -/
def verbsS : List Nat :=
  [0x0201, 0x0202, 0x0210, 0x0211, 0x0212, 0x0220, 0x0221, 0x0230, 0x0240, 0x0241, 0x0242, 0x0243, 0x0244,
   0x0307, 0x0308] ++
  [0x0401, 0x0402, 0x0403, 0x0404, 0x0405, 0x0406, 0x0407, 0x0501, 0x0502, 0x0503, 0x0504, 0x0601, 0x0602,
   0x0603, 0x0604] ++
  [0x0701, 0x0702, 0x0703, 0x0710, 0x0711, 0x0720, 0x0801, 0x0802, 0x0803, 0x0810, 0x0811, 0x0820] ++
  [0x0B01, 0x0B10, 0x0B11, 0x0B12]

/-- Class A verbs. -/
def verbsA : List Nat := [0x0301, 0x0302, 0x0303, 0x0304, 0x0305, 0x0306, 0x0310, 0x0311, 0x0312, 0x0605]

/-- Class M verbs on the hub manager executor. -/
def verbsHub : List Nat :=
  [0x0901, 0x0902, 0x0903, 0x0904, 0x0905, 0x0910, 0x0916, 0x0920, 0x0921, 0x0922, 0x0B02, 0x0B03]

/-- Class M verbs on the warden's short context. -/
def verbsShort : List Nat := [0x0140, 0x0911, 0x0912, 0x0913, 0x0914, 0x0915, 0x0B13]

/-- Class M verbs on the warden's flash context. -/
def verbsFlash : List Nat := [0x0130, 0x0150, 0x0151, 0x0152, 0x0153, 0x0154]

/-- Class C verbs. -/
def verbsC : List Nat :=
  [0x0203, 0x0A01, 0x0A02, 0x0A10, 0x0A11, 0x0A12, 0x0A13, 0x0A14, 0x0A15, 0x0A16, 0x0A17, 0x0A18, 0x0A19]

/-- The class of a verb code; none where no table lists it. -/
def verbInfo (v : Nat) : Option VerbInfo :=
  if verbsS.contains v then some { cls := 0 }
  else if verbsA.contains v then some { cls := 1 }
  else if verbsHub.contains v then some { cls := 2, ctx := 0 }
  else if verbsShort.contains v then some { cls := 2, ctx := 1 }
  else if verbsFlash.contains v then some { cls := 2, ctx := 2 }
  else if verbsC.contains v then some { cls := 3, ctx := 1 }
  else none

/-- Verbs that need a digest unit (R238, R325), decided from the descriptor. -/
def needsDgu (d : Bytes) : Bool :=
  let v := dVerb d
  [0x0304, 0x0310, 0x0311, 0x0312, 0x0801, 0x0802, 0x0803].contains v || (v == 0x0308 && byteAt d 0x31 == 1)

/-- Verbs whose inline parameters use bytes 0x3C–0x3F, and so refuse NOT_BEFORE (R107, R240, R327). -/
def usesDelayBytes (v : Nat) : Bool := [0x0210, 0x0220, 0x0221, 0x0312, 0x0703].contains v

/-- Replay entries of these verbs live until the next cold reset (R437). -/
def coldScopeVerbs : List Nat := [0x0B13, 0x0140]

/-- Replay entries of these verbs live until the next cold reset, re-pour or PERST_N (R437). -/
def sessionScopeVerbs : List Nat := [0x0902, 0x0911]

/-- The range of IN_LEN a verb allows, where its entry states one as a length of the whole input; a
segmented input and a length the entry decides itself are checked by the core (R120). -/
def verbLenRange (v : Nat) : Nat × Nat :=
  match [(0x0201, 32, 32), (0x0202, 0, 0), (0x0203, 40, 40), (0x0210, 16, 9999), (0x0212, 16, 9999),
      (0x0240, 0, 0), (0x0241, 16, 16), (0x0242, 0, 0), (0x0243, 0, 0), (0x0244, 0, 0), (0x0307, 0, 0),
      (0x0401, 48, 48), (0x0402, 80, 80), (0x0403, 80, 80), (0x0404, 80, 80), (0x0405, 80, 80),
      (0x0406, 96, 96), (0x0407, 16, 16), (0x0501, 16, 16), (0x0502, 20, 20), (0x0503, 24, 24),
      (0x0504, 28, 28), (0x0601, 16, 16), (0x0701, 0, 16842816), (0x0702, 0, 16842816)].lookup v with
  | some r => r
  | none =>
    match [(0x0710, 0, 16777216), (0x0802, 0, 16777216), (0x0820, 0, 0), (0x0801, 0, 16777216), (0x0B01, 0, 0), (0x0B02, 16, 16),
      (0x0B03, 200, 200), (0x0B13, 48, 48), (0x0B12, 0, 0), (0x0B11, 0, 0), (0x0140, 0, 128),
      (0x0150, 0, 0), (0x0151, 1, 131072), (0x0152, 0, 0), (0x0153, 0, 0), (0x0154, 0, 0),
      (0x0901, 0, 0), (0x0902, 64, 64), (0x0903, 0, 0), (0x0904, 0, 0), (0x0905, 0, 0), (0x0910, 0, 0), (0x0911, 0, 0),
      (0x0914, 200, 200), (0x0916, 0, 0), (0x0921, 0, 0), (0x0922, 0, 0),
      (0x0A01, 0, 0), (0x0A02, 0, 0), (0x0A10, 40, 40), (0x0A11, 48, 48), (0x0A12, 0, 0), (0x0A13, 0, 0), (0x0A14, 40, 40),
      (0x0A15, 0, 1), (0x0A16, 8, 8), (0x0A17, 96, 96), (0x0A18, 0, 0), (0x0A19, 16, 16)].lookup v with
    | some r => r
    | none => (0, 2 ^ 32)

/-- IN_LEN of SIGN under its SCHEME and HASH, where both are codes SIGN offers: the digest HASH names, or an
Ed25519 message; other codes are left to the core (R272). -/
def signLenOk (scheme hash n : Nat) : Bool :=
  if scheme = 4 then hash != 0 || n ≤ 8192
  else if 1 ≤ scheme && scheme ≤ 3 then
    match hash with
    | 1 => n == 32 | 2 => n == 48 | 3 => n == 64 | 4 => n == 20 | _ => true
  else true

/-- IN_LEN of GUARD_SLOT_LOAD: 2-byte slice numbers, none with GRANT_ALL on a load (R354). -/
def slotLoadLenOk (d : Bytes) : Bool :=
  dInLen d % 2 == 0 && !(byteAt d 0x39 == 0 && bit (byteAt d 0x3A) 0 && dInLen d != 0)

/-- IN_LEN lies in the verb's range at acceptance (check 5 of R122). -/
def lenAllowed (d : Bytes) : Bool :=
  let v := dVerb d
  let n := dInLen d
  let r := verbLenRange v
  r.1 ≤ n && n ≤ r.2 && (v != 0x0302 || signLenOk (byteAt d 0x30) (byteAt d 0x31) n) &&
    (v != 0x0140 || slotLoadLenOk d) && (v != 0x0720 || n == 8 || n == 16)

/-- The address spans wrap (R120). -/
def spanWraps (d : Bytes) : Bool :=
  dInAddr d + dInLen d > 2 ^ 64 || dOutAddr d + dOutCap d > 2 ^ 64

/-! ## Energy weights (R410, R411, R326) -/

/-- Default of energy class n in nJ (R410). -/
def ewDefault (n : Nat) : Nat :=
  let a := [100, 200, 250, 300, 350, 400, 600, 800, 900, 1000, 50, 150, 250, 800, 250, 100, 100]
  let b := [13000, 1000, 100000, 3000, 3000, 333000, 6000, 7000, 780000, 12000, 12000, 800000]
  let c := [17000, 31000, 16000, 66000, 22000, 41000, 21000, 84000, 48000, 91000, 46000, 189000]
  let d := [62000, 118000, 61000, 243000, 122000, 230000, 118000, 474000, 13000, 26000, 51000, 12000, 23000,
    100000]
  (a ++ b ++ c ++ d).getD n 1000

/-- EWEIGHT_n in force: the pattern's, else the default. -/
def State.ew (s : State) (n : Nat) : Nat := (s.pat.eweights.lookup n).getD (ewDefault n)

/-- The fixed term of a class S verb, or the addition of a class A verb, as an energy class (R410). -/
def fixedClass (v : Nat) : Option Nat :=
  if [0x0243, 0x0720, 0x0820].contains v then some 0
  else if [0x0202, 0x0240, 0x0244, 0x0401, 0x0407, 0x0501, 0x0502, 0x0701, 0x0702, 0x0703, 0x0710, 0x0711,
      0x0801, 0x0802, 0x0803, 0x0B12].contains v then some 1
  else if [0x0402, 0x0403, 0x0404, 0x0405, 0x0503, 0x0504].contains v then some 2
  else if [0x0601, 0x0603, 0x0604, 0x0810, 0x0811, 0x0B01, 0x0B11].contains v then some 3
  else if v == 0x0602 then some 4
  else if [0x0201, 0x0220, 0x0230, 0x0241, 0x0242, 0x0304, 0x0406, 0x0B10].contains v then some 5
  else if [0x0210, 0x0211, 0x0221, 0x0307].contains v then some 6
  else if v == 0x0308 then some 7
  else if v == 0x0212 then some 8
  else if [0x0310, 0x0311, 0x0312, 0x0605].contains v then some 9
  else none

/-- Chunks of 4,096 bytes, at least one (R327). -/
def chunkCount (n : Nat) : Nat := max 1 (ceilDiv n 4096)

/-- The per-chunk term of a data verb by the algorithm of its key: `tdes` none while it is unknown, which
takes the lowest weight the verb can have (R324, R411). -/
def State.chunkTerm (s : State) (d : Bytes) (tdes : Option Bool) : Nat :=
  let v := dVerb d
  let sym := match tdes with
    | some true => s.ew 13
    | some false => s.ew 11
    | none => min (s.ew 11) (s.ew 13)
  if v == 0x0701 || v == 0x0702 || v == 0x0703 then
    -- MODE is the first inline byte: 3 is GCM (R333)
    (if byteAt d 0x30 == 3 then s.ew 12 else sym) * chunkCount (dInLen d)
  else if v == 0x0710 || v == 0x0711 then sym * chunkCount (dInLen d)
  else if v == 0x0801 || v == 0x0802 || v == 0x0803 then s.ew 14 * chunkCount (dInLen d)
  else if v == 0x0820 then s.ew 10 * chunkCount (fld d 0x34 4)
  else 0

/-- Verbs whose weight R326 caps at 800 µJ. -/
def dataVerb (v : Nat) : Bool := v / 256 == 7 || v / 256 == 8

/-- BNU operations: 0 private, 1 verify or public, 2 OAEP encrypt or ECDH, 3 key pair. -/
def bnuClass (op alg bits : Nat) : Nat :=
  if alg == 0x10 then
    if op == 3 then 28
    else
      let row := if bits ≤ 1024 then 0 else if bits ≤ 2048 then 1 else if bits ≤ 3072 then 2 else 3
      if row == 0 then (if op == 0 then 17 else 18)
      else 19 + 3 * (row - 1) + op
  else
    let idx := if op == 0 then 0 else op
    match alg with
    | 0x20 => 29 + idx
    | 0x23 => 33 + idx
    | 0x21 => 37 + idx
    | 0x24 => 41 + idx
    | 0x22 => 45 + idx
    | 0x28 => if op == 0 then 49 else if op == 1 then 50 else 51
    | 0x29 => if op == 2 then 52 else 53
    | _ => 54

/-- The weight fixed at acceptance (R411): from the descriptor, and from the algorithm of a pinned key A
(`alg`, `keyBits`) where a handle names one. -/
def State.weightAtAcceptance (s : State) (d : Bytes) (cls : Nat) (pinned : Option (Nat × Nat)) : Nat :=
  let v := dVerb d
  let fixed := match fixedClass v with
    | some n => s.ew n
    | none => 0
  -- EMV_MK_DERIVE into a TR-31 block weighs more (R283)
  let fixed := if v == 0x0601 && byteAt d 0x30 == 1 then s.ew 6 else fixed
  if cls == 0 then
    let tdes := pinned.map (fun p => p.1 == 1 || p.1 == 2)
    let w := fixed + s.chunkTerm d tdes + (if v == 0x0703 then s.ew 16 else 0)
    min w (if dataVerb v then 800000 else 1000000)
  else if cls == 1 then
    let bnu := match pinned with
      | some (alg, kb) =>
        if v == 0x0302 || v == 0x0306 || v == 0x0605 then s.ew (bnuClass 0 alg kb)
        else if v == 0x0303 then s.ew (bnuClass 1 alg kb)
        else if v == 0x0304 then s.ew (bnuClass 2 alg kb)
        else s.ew 54
      | none => s.ew 54
    min (fixed + bnu) 1000000
  else 0

end Sys2Proof.Machine
end

