-- ==== Sys2Proof/Machine/Clusters.lean ====
section
/-!
DEFINITION. The insides of a cluster: ingot fields, its key registers and the blocks its SBUs run and queue (R18,
R152–R160, R170), transient entries, and its BNU's commands, tenant keys and operand memory (R173–R186, R199).
-/
namespace Sys2Proof.Machine

/-! ## Ingot fields (R213–R215) -/

/-- Algorithm and length of an ingot (R213). -/
def ingotAlg (i : Bytes) : Nat := byteAt i 8
/-- KEY_BITS of an ingot. -/
def ingotBits (i : Bytes) : Nat := fld i 12 2
/-- FORM. -/
def ingForm (i : Bytes) : Nat := byteAt i 2
/-- TOTAL_LEN. -/
def ingTotal (i : Bytes) : Nat := fld i 4 2
/-- The owning slice. -/
def ingSlice (i : Bytes) : Nat := fld i 6 2 % 4096
/-- ATTR. -/
def ingAttr (i : Bytes) : Nat := byteAt i 9
/-- MODS. -/
def ingMods (i : Bytes) : Nat := byteAt i 10
/-- EXPORTABLE. -/
def ingExportable (i : Bytes) : Bool := bit (ingMods i) 0
/-- COUNTED. -/
def ingCounted (i : Bytes) : Bool := bit (ingMods i) 1
/-- VERIFY_ONLY. -/
def ingVerifyOnly (i : Bytes) : Bool := bit (ingMods i) 2
/-- INVERSE_CHECK. -/
def ingInverse (i : Bytes) : Bool := bit (ingMods i) 3
/-- TR31_USAGE, two characters. -/
def ingUsage (i : Bytes) : Nat := fld i 14 2
/-- TR31_MODE. -/
def ingMode (i : Bytes) : Nat := byteAt i 16
/-- GENERATION. -/
def ingGen (i : Bytes) : Nat := fld i 18 2
/-- COUNT_INDEX. -/
def ingCountIndex (i : Bytes) : Nat := fld i 20 4
/-- KEY_ID. -/
def ingKeyId (i : Bytes) : Nat := fld i 24 8
/-- NOT_BEFORE. -/
def ingNotBefore (i : Bytes) : Nat := fld i 32 8
/-- NOT_AFTER. -/
def ingNotAfter (i : Bytes) : Nat := fld i 40 8
/-- TAG: the last 16 bytes. -/
def ingTag (i : Bytes) : Bytes := sub i (ingTotal i - 16) 16
/-- PUB_LEN of the asymmetric form. -/
def ingPubLen (i : Bytes) : Nat := fld i 0x38 2
/-- WPRIV_LEN of the asymmetric form. -/
def ingWprivLen (i : Bytes) : Nat := fld i 0x3A 2
/-- The wrapped part of an ingot. -/
def wrappedPart (i : Bytes) : Bytes :=
  if ingForm i = 1 then sub i 0x38 (8 + ceilDiv (ingotBits i / 8) 8 * 8)
  else sub i (0x60 + ceilDiv (ingPubLen i) 8 * 8) (ingWprivLen i)

/-! ## Clusters -/

/-- Cores of logical cluster l are numbered 4 × l to 4 × l + 3. -/
def coreCluster (k : Nat) : Nat := k / 4

/-- Live values of a powered physical cluster. -/
def State.cluster (s : State) (p : Nat) : Cluster :=
  (s.fabric.clusters.find? (fun (x : Cluster) => x.phys == p)).getD { phys := p }

/-- Update a physical cluster. -/
def State.modCluster (s : State) (p : Nat) (f : Cluster → Cluster) : State :=
  { s with fabric.clusters := f (s.cluster p) :: s.fabric.clusters.filter (fun x => !(x.phys == p)) }

/-- The physical cluster behind a logical cluster, or one no cluster has. -/
def State.phys (s : State) (l : Nat) : Nat := (s.physOf l).getD 144

/-- Update a physical cluster that is listed; an unlisted one stays unlisted. -/
def State.onCluster (s : State) (p : Nat) (f : Cluster → Cluster) : State :=
  { s with fabric.clusters := s.fabric.clusters.map (fun (c : Cluster) => if c.phys = p then f c else c) }

/-- A cluster's key cache, operand SRAM, key registers, blocks and operand memory are zeroised; its counters stay (R20,
R31, R170, R200). -/
def Cluster.zeroised (c : Cluster) : Cluster :=
  { c with sbuKeys := [], keys := [], wraps := [], transients := [], sbuWork := List.replicate 4 {}, tenantKeys := [],
           transport := [], banks := [[], []], bnuQueue := [] }

/-- A cluster that loses power also loses its armed injections (R583). -/
def Cluster.gated (c : Cluster) : Cluster :=
  { c.zeroised with sbuInject := List.replicate 4 false, bnuInject := false, katDue := false, abortAt := none }

/-! ## SBU key registers (R154–R158) -/

/-- Even parity of a byte: the bit that makes its ones even (R155). -/
def evenParity (b : Byte) : Bool := ((List.range 8).filter (fun i => b.toNat.testBit i)).length % 2 == 1

/-- A key as a register holds it: a variant mask is XORed in, repeated for keys longer than 16 bytes (R156). -/
def withVariant (mask key : Bytes) : Bytes := if mask.isEmpty then key else xorB key (mask ++ mask)

/-- The final round key of an AES key, which any completed forward schedule or derivation pass leaves in its register
(R154); TDES has none. -/
def finalRoundKey (alg : Nat) (key : Bytes) : Bytes :=
  if 3 ≤ alg ∧ alg ≤ 5 then be 16 ((aesExpand key).getLastD 0) else []

/-- The SBU refuses to load a TDES key with K1 = K2, or with K2 = K3 in a three-key bundle, parity bits aside (R157). -/
def loadRefused (alg : Nat) (key : Bytes) : Bool :=
  let key := key.map (· ||| 1)
  (alg == 1 || alg == 2) && (sub key 0 8 == sub key 8 8 || (decide (key.length > 16) && sub key 8 8 == sub key 16 8))

/-- The register of its SBU that a load takes: the one that already holds the key of that entry, a free one, or the least
recently used of the four (R158). -/
def Cluster.regFor (c : Cluster) (k : SbuKey) : Nat :=
  let mine := c.sbuKeys.filter (fun (x : SbuKey) => x.sbu == k.sbu)
  match mine.find? (fun (x : SbuKey) => x.slice == k.slice && x.tag == k.tag && x.key == k.key) with
  | some x => x.reg
  | none => match (List.range 4).find? (fun r => !mine.any (fun (x : SbuKey) => x.reg == r)) with
    | some r => r
    | none => (mine.getLast?.map (fun (x : SbuKey) => x.reg)).getD 0

/-- A key is loaded into a register of an SBU and used for a block, which leaves its final round key cached (R154, R155,
R158). -/
def Cluster.load (c : Cluster) (k : SbuKey) : Cluster :=
  let r := c.regFor k
  let f := finalRoundKey k.alg k.key
  { c with sbuKeys := { k with reg := r, parity := k.key.map evenParity, final := f, finalRk := !f.isEmpty } ::
      c.sbuKeys.filter (fun (x : SbuKey) => !(x.sbu == k.sbu && x.reg == r)) }

/-! ## Blocks run and queued (R18, R159) -/

/-- The next block: a stalled core's call takes a free queue entry, and an idle SBU takes from its queue round-robin among
the cores that call it, one block per grant (R18, R159). -/
def SbuWork.step (w : SbuWork) : SbuWork :=
  match w.running with
  | some _ => { w with queue := (w.queue ++ w.stalled).take 2, stalled := (w.queue ++ w.stalled).drop 2 }
  | none =>
    match (List.range 4).find? (fun i => w.queue.contains ((w.last + 1 + i) % 4)) with
    | none => w
    | some i =>
      let c := (w.last + 1 + i) % 4
      let rest := w.queue.erase c ++ w.stalled
      { running := some c, last := c, queue := rest.take 2, stalled := rest.drop 2 }

/-- A core calls a block: it runs at once, is queued, or stalls its core while two are queued (R159). -/
def SbuWork.call (w : SbuWork) (core : Nat) : SbuWork :=
  let all := w.queue ++ w.stalled ++ [core]
  { w with queue := all.take 2, stalled := all.drop 2 }.step

/-- Every block of a core is done or given up. -/
def SbuWork.leave (w : SbuWork) (core : Nat) : SbuWork :=
  { w with running := if w.running = some core then none else w.running
           queue := w.queue.filter (fun c => !(c == core))
           stalled := w.stalled.filter (fun c => !(c == core)) }.step

/-- The cores whose blocks an SBU holds. -/
def SbuWork.cores (w : SbuWork) : List Nat := w.running.toList ++ w.queue ++ w.stalled

/-- The SBU a call of core `tc` of cluster p goes to (R18): its home SBU, or, where that is retired or busy serving a
borrower, another live one. DESIGN CHOICE (assumption log 21): of several others, the lowest-numbered idle one, else the
lowest-numbered. -/
def State.sbuFor (s : State) (p tc : Nat) : Nat :=
  let live := s.liveUnits p kindSBU
  let runs := fun (n : Nat) => ((s.cluster p).sbuWork.getD n {}).running
  let borrowed := match runs tc with
    | some k => k != tc
    | none => false
  if live.contains tc && !borrowed then tc
  else match live.find? (fun n => n != tc && (runs n).isNone) with
    | some n => n
    | none => (live.find? (fun n => n != tc)).getD tc

/-- A block of core `tc` is called in cluster p. -/
def State.callSbu (s : State) (p tc : Nat) : State :=
  let n := s.sbuFor p tc
  s.onCluster p (fun c => { c with sbuWork := modAt c.sbuWork n (fun w => w.call tc) })

/-- Blocks held by a retired SBU are returned without a result and reissued on another live one (R166). -/
def State.reissue (s : State) (p n : Nat) : State :=
  let back := ((s.cluster p).sbuWork.getD n {}).cores
  back.foldl (fun (s : State) tc => s.callSbu p tc)
    (s.onCluster p (fun c => { c with sbuWork := modAt c.sbuWork n (fun _ => {}) }))

/-- The SBU that holds a block of core `tc`, else the one its next call goes to. -/
def State.sbuOf (s : State) (p tc : Nat) : Nat :=
  ((List.range 4).find? (fun n => ((s.cluster p).sbuWork.getD n {}).cores.contains tc)).getD (s.sbuFor p tc)

/-- Block calls an item's core holds outstanding while it is processed: none for a verb without symmetric work, two for
a construction whose blocks do not depend on each other, else one (R159, R169). -/
def blockCalls (d : Bytes) : Nat :=
  let v := dVerb d
  let mode := byteAt d 0x30
  if !verbsS.contains v || v == 0x0801 || v == 0x0820 then 0
  else if (v == 0x0701 && (mode == 0 || mode == 2)) || (v == 0x0702 && mode ≤ 2) then 2 else 1

/-- An item that starts its processing calls its blocks. -/
def State.callBlocks (s : State) (it : Item) : State :=
  match it.executor with
  | some (.core k) =>
    (List.range (blockCalls it.desc)).foldl (fun (s : State) _ => s.callSbu (s.phys (coreCluster k)) (k % 4)) s
  | _ => s

/-- An item leaves its cluster: its blocks are done and its transient entries zeroed (R160). -/
def State.leaveCluster (s : State) (it : Item) : State :=
  match it.executor with
  | some (.core k) => s.onCluster (s.phys (coreCluster k)) (fun c => { c with
      sbuWork := c.sbuWork.map (fun w => w.leave (k % 4))
      transients := c.transients.filter (fun (t : Transient) => !(t.slot == it.slot)) })
  | _ => s

/-! ## The BNU (R173–R186, R199) -/

/-- The private part a command's ingot unwraps to on the private path, under the tenant key in its register (R174, R184). -/
def Cluster.clearPart (c : Cluster) (cmd : BnuCmd) (slice : Nat) : Bytes :=
  if cmd.ingot.isEmpty || cmd.ends == .size || cmd.ends == .corrupt then []
  else match c.tenantKeys.find? (fun (k : SliceKey) => k.slice == slice) with
    | none => []
    | some k => (kwpUnwrap k.key (wrappedPart cmd.ingot)).getD []

/-- The two banks as the commands fill them (R173, R174, R182): the executing command's with the clear private key, the
queued command's with wrapped keys and public operands alone; a bank of no command is zero. -/
def Cluster.fillBanks (c : Cluster) : Cluster :=
  let of := fun (x : Option BnuCmd) (clear : Bool) => match x with
    | none => []
    | some m => (m.ingot ++ m.operands ++ (if clear then c.clearPart m (ingSlice m.ingot) else [])).take 16384
  { c with banks := [of c.bnuQueue[0]? true, of c.bnuQueue[1]? false] }

/-- A command enters the BNU. Its slice's tenant wrap key is loaded into the least recently used of 16 registers where the
command needs it: it names an ingot, or makes one (R183, R184). -/
def Cluster.issue (c : Cluster) (m : BnuCmd) (slice : Nat) (wrapKey : Bytes) : Cluster :=
  let needs := !m.ingot.isEmpty || m.code == 1
  { c with
    bnuQueue := c.bnuQueue ++ [m]
    bnuRequests := c.bnuRequests + m.requests
    tenantKeys := if needs then
        (({ slice := slice, key := wrapKey } : SliceKey) :: c.tenantKeys.filter (fun (k : SliceKey) => !(k.slice == slice))).take 16
      else c.tenantKeys }.fillBanks

/-- The executing command ends: its bank is zeroed before the interrupt, and the queued command starts (R174, R182). -/
def Cluster.endCmd (c : Cluster) : Cluster :=
  { c with bnuQueue := c.bnuQueue.drop 1, bnuOps := wrap 32 (c.bnuOps + 1) }.fillBanks

/-- The BNU's commands of an item are aborted: both banks are zeroed, and a command that stays fetches its operands again
(R199). -/
def Cluster.abort (c : Cluster) (slot now : Nat) : Cluster :=
  let gone := (c.bnuQueue.filter (fun (m : BnuCmd) => m.slot == slot)).length
  if gone = 0 then c
  else { c with
    bnuQueue := c.bnuQueue.filter (fun (m : BnuCmd) => !(m.slot == slot))
    bnuOps := wrap 32 (c.bnuOps + gone), bnuAborts := sat 8 (c.bnuAborts + gone), abortAt := some now }.fillBanks

/-- A cluster forgets what it holds of a slice: keys, wrap entries and tenant keys, every SBU register that holds one of
them (R170, R230). -/
def Cluster.forget (c : Cluster) (n : Nat) : Cluster :=
  { c with sbuKeys := c.sbuKeys.filter (fun (k : SbuKey) => !(k.slice == n))
           keys := c.keys.filter (fun (k : CachedKey) => !(k.slice == n))
           wraps := c.wraps.filter (fun (k : SliceKey) => !(k.slice == n))
           tenantKeys := c.tenantKeys.filter (fun (k : SliceKey) => !(k.slice == n)) }

end Sys2Proof.Machine
end

