-- ==== Sys2Proof/Machine/Queues.lean ====
section
/-!
DEFINITION. Queue contexts, slots, fetching, completions and their flow control, MSI-X, the slice status
block and the draining of queues and slices (04_host_port_and_queues.md, R374–R382).
-/
namespace Sys2Proof.Machine

/-! ## Slices -/

/-- The record and runtime state of tenant slice n; an unlisted number is FREE. -/
def State.slice (s : State) (n : Nat) : Slice :=
  (s.slc.slices.find? (fun (x : Slice) => x.number == n)).getD { number := n }

/-- Update a tenant slice. -/
def State.modSlice (s : State) (n : Nat) (f : Slice → Slice) : State :=
  { s with slc.slices := f (s.slice n) :: s.slc.slices.filter (fun x => !(x.number == n)) }

/-- A slice is attached (R376, R374). -/
def State.sliceAttached (s : State) (n : Nat) : Bool :=
  if n = 0 then s.slc.slice0.attached else (s.slice n).attached

/-- A slice is detaching (R121). -/
def State.sliceDetaching (s : State) (n : Nat) : Bool :=
  if n = 0 then s.slc.slice0.detaching else (s.slice n).detaching

/-- MIN of a slice (R113). -/
def State.minOf (s : State) (n : Nat) : Nat := if n = 0 then 64 else (s.slice n).min

/-- CAP of a slice (R113). -/
def State.capOf (s : State) (n : Nat) : Nat := if n = 0 then 65536 else (s.slice n).cap

/-- WEIGHT of a slice (R132). -/
def State.weightOf (s : State) (n : Nat) : Nat := if n = 0 then 1024 else (s.slice n).weight

/-- Priority ceiling of a slice (R108); slice 0 may use priority 0. -/
def State.ceilingOf (s : State) (n : Nat) : Nat := if n = 0 then 0 else (s.slice n).ceiling

/-- The first vector and the number of vectors of a slice (R119). -/
def State.vectorsOf (s : State) (n : Nat) : Nat × Nat :=
  if n = 0 then (0, 64) else ((s.slice n).vecBase, (s.slice n).vecCount)

/-- Attached tenant slices. -/
def State.attachedTenants (s : State) : List Nat :=
  (s.slc.slices.filter (fun x => x.attached)).map (fun x => x.number)

/-- Attached slices, slice 0 included, in ascending order. -/
def State.attachedSlices (s : State) : List Nat :=
  (if s.slc.slice0.attached then [0] else []) ++ sortBy id s.attachedTenants

/-- A slice is active and attached: the hub fetches for it (R376). -/
def State.fetches (s : State) (n : Nat) : Bool :=
  s.sliceAttached n && !s.sliceDetaching n && (n == 0 || (s.slice n).state == 1)

/-! ## Items and slots -/

/-- The item in an in-flight slot. -/
def State.item (s : State) (slot : Nat) : Option Item :=
  s.tnd.items.find? (fun (x : Item) => x.slot == slot)

/-- Update the item in a slot. -/
def State.modItem (s : State) (slot : Nat) (f : Item → Item) : State :=
  { s with tnd.items := s.tnd.items.map (fun x => if x.slot = slot then f x else x) }

/-- Delay-list entries of an item leave their list (R146). -/
def notDelayOf (slot : Nat) (e : DelayEntry) : Bool :=
  match e.kind with
  | .notBefore k => !(k == slot)
  | .retry k => !(k == slot)
  | _ => true

/-- An in-flight slot is freed, with its delay-list entry (R113, R146). -/
def State.freeSlot (s : State) (slot : Nat) : State :=
  { s with
    tnd.items := s.tnd.items.filter (fun x => !(x.slot == slot))
    tnd.delays := s.tnd.delays.filter (notDelayOf slot) }

/-- Slots a slice holds: its items and its outstanding descriptor reads. -/
def State.held (s : State) (n : Nat) : Nat :=
  (s.tnd.items.filter (fun x => x.slice == n)).length +
    (s.queues.batches.filter (fun b => b.qid / 64 == n)).foldl (fun k b => k + b.count) 0

/-- Free in-flight slots. -/
def State.freeSlotCount (s : State) : Nat :=
  65536 - (s.tnd.items.length + s.queues.batches.foldl (fun k b => k + b.count) 0)

/-- Slots slice n may take (R113). -/
def State.slotsObtainable (s : State) (n : Nat) : Nat :=
  let owed := (s.attachedSlices.filter (fun t => !(t == n))).foldl (fun k t => k + (s.minOf t - s.held t)) 0
  min (s.capOf n - s.held n) (max (s.minOf n - s.held n) (s.freeSlotCount - owed))

/-- The lowest `k` slot numbers no item holds. -/
def State.newSlots (s : State) (k : Nat) : List Nat :=
  go (List.range (s.tnd.items.length + k)) k
where
  /-- The first `k` of the numbers that are free. -/
  go : List Nat → Nat → List Nat
    | [], _ => []
    | _ :: _, 0 => []
    | n :: r, k + 1 => if s.tnd.items.any (fun x => x.slot == n) then go r (k + 1) else n :: go r k

/-! ## Queue contexts (R102) -/

/-- Context of a queue; an unlisted queue is all zero. -/
def State.queue (s : State) (q : Nat) : QueueCtx :=
  (s.queues.ctxs.find? (fun (x : QueueCtx) => x.qid == q)).getD { qid := q }

/-- Replace a queue's context. -/
def State.setQueue (s : State) (c : QueueCtx) : State :=
  { s with queues.ctxs := c :: s.queues.ctxs.filter (fun x => !(x.qid == c.qid)) }

/-- Update a queue's context. -/
def State.modQueue (s : State) (q : Nat) (f : QueueCtx → QueueCtx) : State := s.setQueue (f (s.queue q))

/-- SQ size. -/
def QueueCtx.sqSize (c : QueueCtx) : Nat := 2 ^ c.sqLog2
/-- CQ size. -/
def QueueCtx.cqSize (c : QueueCtx) : Nat := 2 ^ c.cqLog2

/-- Unfetched entries (R103). -/
def QueueCtx.unfetched (c : QueueCtx) : Nat := (c.sqTail + c.sqSize - c.sqHead) % c.sqSize

/-- Completion entries the host has not consumed. -/
def QueueCtx.cqUsed (c : QueueCtx) : Nat := (c.cqTail + c.cqSize - c.cqHead) % c.cqSize

/-- The CQ is full (R102). -/
def QueueCtx.cqFull (c : QueueCtx) : Bool := c.cqUsed + 1 ≥ c.cqSize

/-- Items of a queue in flight, its outstanding reads included (INFLIGHT). -/
def State.inflight (s : State) (q : Nat) : Nat :=
  (s.tnd.items.filter (fun x => x.qid == q)).length +
    (s.queues.batches.filter (fun b => b.qid == q)).foldl (fun k b => k + b.count) 0

/-- Items of a queue fetched and not yet released (WINDOW; R117). -/
def State.window (s : State) (q : Nat) : Nat :=
  if (s.queue q).ordered then
    (s.tnd.items.filter (fun x => x.qid == q && x.heldOrder == none)).length +
      (s.queues.batches.filter (fun b => b.qid == q)).foldl (fun k b => k + b.count) 0
  else 0

/-- Parked completions of a queue (PARKED). -/
def State.parked (s : State) (q : Nat) : Nat := (s.queues.complBuf.filter (fun c => c.qid == q)).length

/-- Parked completions of a slice. -/
def State.parkedOf (s : State) (n : Nat) : Nat := (s.queues.complBuf.filter (fun c => c.qid / 64 == n)).length

/-- A slice has a held completion. -/
def State.hasHeld (s : State) (n : Nat) : Bool :=
  s.tnd.items.any (fun x => x.slice == n && x.heldOrder != none)

/-- The heads, tails, counters and ERR are set to 0 and CQ_PHASE to 1: ACTIVE (R105). -/
def activated (c : QueueCtx) : QueueCtx :=
  { c with sqTail := 0, sqHead := 0, cqTail := 0, cqHead := 0, phase := 1, state := 1, err := 0,
           fetched := 0, posted := 0 }

/-! ## Requests to host memory -/

/-- A read or a posted write of host memory, or a message: issued, or held in D3hot (R95), or dropped while the link is down (R121). -/
def State.hostWrite (s : State) (e : OutEvent) : State :=
  if !s.host.linkUp then s
  else if s.host.d3hot then { s with host.heldWrites := s.host.heldWrites ++ [e] }
  else s.emit e

/-! ## MSI-X (R118, R119) -/

/-- The vector's entries; an unlisted vector is masked, unmoderated, with nothing pending. -/
def State.vec (s : State) (v : Nat) : MsixVec :=
  (s.host.msix.find? (fun (x : MsixVec) => x.vector == v)).getD { vector := v }

/-- Replace a vector's entries. -/
def State.setVec (s : State) (x : MsixVec) : State :=
  { s with host.msix := x :: s.host.msix.filter (fun y => !(y.vector == x.vector)) }

/-- MSI-X is enabled and the function is not masked (R94, R118). -/
def State.msixOpen (s : State) : Bool := s.host.cfg.msixEnable && !s.host.cfg.functionMask

/-- A vector is unmasked: the message of a set PBA bit is sent (R119). -/
def State.unmask (s : State) (v : Nat) : State :=
  let x := s.vec v
  if x.pba && s.msixOpen then (s.setVec { x with masked := false, pba := false }).hostWrite (.msix v)
  else s.setVec { x with masked := false }

/-- The message of a vector is due: sent after the writes it announces, or its PBA bit set while it is masked; the count
restarts (R96, R119). -/
def State.fireVector (s : State) (v : Nat) : State :=
  let x := s.vec v
  if x.masked || !s.msixOpen then s.setVec { x with pending := 0, pba := true }
  else (s.setVec { x with pending := 0 }).hostWrite (.msix v)

/-- A notification for vector v is counted (R119). MAX_COUNT 0 and 1 both mean every notification, and
MAX_DELAY 0 no wait, so that the first one is due at once. -/
def State.notify (s : State) (v : Nat) : State :=
  let x := s.vec v
  let s := s.setVec { x with pending := x.pending + 1 }
  if x.pending + 1 ≥ max 1 x.maxCount || x.maxDelay == 0 then s.fireVector v else s

/-! ## Slice status block (R382) -/

/-- Counted-key records a slice holds. -/
def State.countedOf (s : State) (n : Nat) : Nat := (s.kst.counted.filter (fun c => c.slice == n)).length

/-- Hub entries a slice has pinned. -/
def State.pinsOf (s : State) (n : Nat) : Nat :=
  (s.kst.hubCache.filter (fun (e : HubEntry) => e.slice == n && e.pinned)).foldl (fun k e => k + e.count) 0

/-- The 128 bytes of the status block. -/
def State.statusBlock (s : State) (n seq : Nat) : Bytes :=
  let x := s.slice n
  let inForce := (x.lockouts.filter (fun l => l.2 * 1000000 > s.devUs)).length
  le 4 seq ++ le 1 x.state ++ le 1 (b2n x.attached + 2 * b2n x.stalled + 4 * b2n (x.mirrorPeer != [] )) ++
    le 2 x.generation ++ le 4 x.min ++ le 4 x.cap ++ le 4 (s.held n) ++ le 2 (s.parkedOf n) ++
    le 2 x.weight ++ le 1 x.ceiling ++ le 1 inForce ++ le 2 (s.pinsOf n) ++ le 4 (s.countedOf n) ++
    le 4 x.countQuota ++ le 4 x.notice ++ le 8 x.noticeTime ++ le 8 x.fetched ++ le 8 x.posted ++
    le 8 s.devUs ++ zeros 52 ++ le 4 seq

/-- The hub writes the status block of an attached slice (R382). -/
def State.writeStatus (s : State) (n : Nat) : State :=
  if n = 0 then s else
  let x := s.slice n
  if !x.attached then s else
  let seq := wrap 32 (x.statusSeq + 1)
  let s := s.modSlice n (fun y => { y with statusSeq := seq })
  s.hostWrite (.dmaWrite n x.statusAddr (s.statusBlock n seq))

/-- The slice's event vector announces a change of STATE or NOTICE (R380). -/
def State.sliceEvent (s : State) (n : Nat) : State :=
  if n ≠ 0 ∧ (s.slice n).attached then s.notify (s.slice n).vecBase else s

/-- A slice takes a state (and a notice): the record is changed through the commit buffer, the status block
written and the event vector raised (R375, R380, R382). -/
def State.setSliceState (s : State) (n st notice : Nat) (item : Option Nat) : State :=
  let old := s.slice n
  let s := s.modSlice n (fun x => { x with
    state := st
    notice := if notice = 0 then x.notice else notice
    noticeTime := if notice = 0 then x.noticeTime else s.devUs })
  let s := s.commit 256 (some (lineSlice n)) item [.slice n old]
  (s.writeStatus n).sliceEvent n

/-- STALLED_CQ is entered and left (R116). -/
def State.updateStall (s : State) (n : Nat) : State :=
  let was := if n = 0 then s.slc.slice0.stalled else (s.slice n).stalled
  let hold := s.hasHeld n
  let now := if s.parkedOf n ≥ 256 || hold then true
    else if s.parkedOf n = 0 && !hold then false else was
  if now = was then s
  else if n = 0 then { s with slc.slice0.stalled := now }
  else (s.modSlice n (fun x => { x with stalled := now })).writeStatus n

/-! ## Completions (R110–R117) -/

/-- The 32-byte completion entry of an item, PHASE and PARKED not set. -/
def entryOf (it : Item) : Bytes :=
  le 4 (dTag it.desc) ++ le 2 it.status ++ le 2 (4 * b2n it.retried) ++ le 4 it.outLen ++ le 4 it.detail ++
    fit 16 it.result

/-- PFLAGS bits or-ed into an entry. -/
def withPflags (e : Bytes) (f : Nat) : Bytes := sub e 0 6 ++ le 2 (fld e 6 2 + f) ++ sub e 8 24

/-- One completion entry is written to the CQ, which has room (R111). -/
def State.writeEntry (s : State) (q : Nat) (entry : Bytes) (notify : Bool) : State :=
  let c := s.queue q
  let s := s.hostWrite (.completion q (withPflags entry c.phase))
  let tail := (c.cqTail + 1) % c.cqSize
  let s := s.setQueue { c with cqTail := tail, phase := if tail = 0 then 1 - c.phase else c.phase,
                               posted := wrap 64 (c.posted + 1) }
  let n := q / 64
  let s := if n = 0 then s else s.modSlice n (fun x => { x with posted := wrap 64 (x.posted + 1) })
  if notify && c.intr then s.notify c.vector else s

/-- A completion becomes postable: parked, written, or held with its item (R115). -/
def State.post (s : State) (it : Item) : State :=
  let q := it.qid
  let c := s.queue q
  let order := s.tnd.postSeq
  let s := { s with tnd.postSeq := order + 1 }
  let behind := s.parked q > 0 || c.cqFull ||
    s.tnd.items.any (fun x => x.qid == q && x.heldOrder != none)
  let s :=
    if behind then
      if s.parkedOf it.slice < 256 && s.queues.complBuf.length < 8192 then
        let c : Completion := { qid := q, entry := entryOf it, notify := dNotify it.desc, order := order }
        let s : State := { s with queues.complBuf := s.queues.complBuf ++ [c] }
        s.freeSlot it.slot
      else s.modItem it.slot (fun x => { x with heldOrder := some order })
    else (s.writeEntry q (entryOf it) (dNotify it.desc)).freeSlot it.slot
  s.updateStall it.slice

/-- The oldest parked or held completion of a queue that has CQ room is written; `none` when there is none. -/
def State.writeOldest (s : State) (q : Nat) : Option State :=
  let c := s.queue q
  if c.cqFull then none else
  let parked := (s.queues.complBuf.filter (fun x => x.qid == q)).head?
  let held := (sortBy (fun (x : Item) => x.heldOrder.getD 0)
    (s.tnd.items.filter (fun x => x.qid == q && x.heldOrder != none))).head?
  let writeHeld := fun (it : Item) => (s.writeEntry q (entryOf it) (dNotify it.desc)).freeSlot it.slot
  match parked with
  | none => held.map writeHeld
  | some p =>
    match held.filter (fun it => decide (it.heldOrder.getD 0 < p.order)) with
    | some it => some (writeHeld it)
    | none =>
      let s' : State :=
        { s with queues.complBuf := s.queues.complBuf.filter (fun x => !(x.order == p.order && x.qid == q)) }
      some (s'.writeEntry q (withPflags p.entry 2) p.notify)

/-- Parked and held completions are written in order while the CQ has room (R115); `fuel` bounds them. -/
def State.writeWaiting (s : State) (q : Nat) : Nat → State
  | 0 => s
  | fuel + 1 =>
    match s.writeOldest q with
    | some s' => s'.writeWaiting q fuel
    | none => s

/-! ## Rounds of the ready lists (R125, R132) -/

/-- The list of a class S or A item: 2 × priority for class A, 2 × priority + 1 for class S. -/
def listOf (it : Item) : Nat := 2 * it.prio + (if it.cls = 1 then 0 else 1)

/-- READY items of a list and slice, in FIFO order (R125). -/
def State.fifo (s : State) (list n : Nat) : List Item :=
  sortBy (fun (x : Item) => x.fifo)
    (s.tnd.items.filter (fun x => x.state == .ready && decide (x.cls < 2) && listOf x == list && x.slice == n))

/-- Slices with an item READY on a list. -/
def State.slicesOn (s : State) (list : Nat) : List Nat :=
  ((sortBy (fun (x : Item) => x.fifo) (s.tnd.items.filter (fun x => x.state == .ready && decide (x.cls < 2) &&
    listOf x == list))).map (fun x => x.slice)).eraseDups

/-- The deficit of a slice on a list. -/
def State.deficit (s : State) (list n : Nat) : Int :=
  match s.tnd.deficits.find? (fun (d : Deficit) => d.list == list && d.slice == n) with
  | some d => d.value
  | none => 0

/-- Set a deficit. -/
def State.setDeficit (s : State) (list n : Nat) (v : Int) : State :=
  { s with tnd.deficits := { list := list, slice := n, value := v } ::
      s.tnd.deficits.filter (fun d => !(d.list == list && d.slice == n)) }

/-- The pointer arrives at a slice: its quantum, WEIGHT × 1,024 nJ, is added (R132). -/
def State.arrive (s : State) (list n : Nat) : State :=
  s.setDeficit list n (s.deficit list n + (s.weightOf n * 1024 : Nat))

/-- The slices of a list's round, the current slice first. -/
def State.round (s : State) (list : Nat) : List Nat :=
  match s.tnd.rounds.find? (fun (r : Round) => r.list == list) with
  | some r => r.slices
  | none => []

/-- Set a list's round. -/
def State.setRound (s : State) (list : Nat) (l : List Nat) : State :=
  { s with tnd.rounds := { list := list, slices := l } :: s.tnd.rounds.filter (fun r => !(r.list == list)) }

/-- A list's round follows its FIFOs: a slice whose FIFO is empty leaves with deficit 0, a slice that gained
an item joins before the pointer; the pointer arrives at a new current slice (R132). -/
def State.syncRound (s : State) (list : Nat) : State :=
  let on := s.slicesOn list
  let old := s.round list
  if on.isEmpty && old.isEmpty then s else
  let stay := old.filter (fun n => on.contains n)
  let new := stay ++ on.filter (fun n => !old.contains n)
  let s := (old.filter (fun n => !on.contains n)).foldl (fun s n => s.setDeficit list n 0) s
  let s := s.setRound list new
  match new.head? with
  | none => s
  | some n => if old.head? == some n then s else s.arrive list n

/-- Every round follows its FIFOs. -/
def State.syncRounds (s : State) : State := (List.range 16).foldl (fun s l => s.syncRound l) s

/-! ## Hub entries -/

/-- A hub entry is freed: its index is reused with a new UNIQ (R228). -/
def State.freeHub (s : State) (e : HubEntry) : State :=
  { s with kst.hubCache := s.kst.hubCache.filter (fun x => !(x.index == e.index))
           kst.uniq := assocSet s.kst.uniq e.index (wrap 16 (lookupD s.kst.uniq e.index 0 + 1)) }

/-! ## Draining (R105, R121, R378–R386) -/

/-- A queue that drained becomes DISABLED, or ACTIVE where an enable is held (R105, R24). -/
def State.queueDrained (s : State) (q : Nat) : State :=
  let c := s.queue q
  if (c.state = 2 ∨ c.state = 3) ∧ s.inflight q = 0 ∧ s.parked q = 0 then
    if c.state = 3 then s.setQueue (activated c) else s.setQueue { c with state := 0 }
  else s

/-- The parameters SLICE_ATTACH binds (R377), taken from its 64-byte input: the attach takes effect. -/
def State.bindSlice (s : State) (n : Nat) (input : Bytes) (item : Option Nat) : State :=
  let old := s.slice n
  let dflt := fun (v d : Nat) => if v = 0 then d else v
  let s := s.modSlice n (fun x => { x with
    pasid := bits (fld input 0 4) 0 20
    min := dflt (fld input 4 4) s.pat.minSlots
    cap := dflt (fld input 8 4) s.pat.capSlots
    weight := dflt (fld input 12 2) s.pat.weight
    ceiling := dflt (byteAt input 14) s.pat.prioCeiling
    vecBase := fld input 16 2
    vecCount := fld input 18 2
    countBase := fld input 20 4
    countQuota := fld input 24 4
    statusAddr := fld input 32 8
    hubKey := (kwpUnwrap s.sliceKey x.wrapped).getD []
    fetched := if x.attached then x.fetched else 0
    posted := if x.attached then x.posted else 0
    heldAttach := none
    attached := true })
  (s.commit 256 (some (lineSlice n)) item [.slice n old]).writeStatus n

/-- One kind of wait of an item is over. -/
def State.unwait (s : State) (slot : Nat) (w : Wait) : State :=
  s.modItem slot (fun x => { x with waits := x.waits.filter (fun v => !(v == w)) })

/-- A waiting item's drain is over; it still waits for the commit entry of what the drain left to do. -/
def State.drainOver (s : State) (slot : Nat) : State :=
  s.modItem slot (fun x => { x with
    waits := .commit :: x.waits.filter (fun v => !(v == Wait.drain || v == Wait.commit)) })

/-- Contexts of every queue of a slice are cleared (R121, R374). -/
def State.clearQueues (s : State) (n : Nat) : State :=
  { s with
    queues.ctxs := s.queues.ctxs.filter (fun x => !(x.qid / 64 == n))
    queues.complBuf := s.queues.complBuf.filter (fun x => !(x.qid / 64 == n))
    queues.batches := s.queues.batches.filter (fun x => !(x.qid / 64 == n)) }

/-- A slice's detachment has drained: DETACHED, a waiting SLICE_DETACH may finish, and a held attach takes
effect (R121, R377, R378). Slice 0 has no held attach; SLICE0_REATTACH attaches it again (R374). -/
def State.detachDone (s : State) (n : Nat) : State :=
  if s.tnd.items.any (fun x => x.slice == n) || !s.sliceDetaching n then s else
  let s := s.clearQueues n
  if n = 0 then { s with slc.slice0 := { s.slc.slice0 with attached := false, detaching := false, stalled := false } }
  else
    let held := (s.slice n).heldAttach
    let s := (s.slice n).detachItems.foldl (fun (s : State) i => s.unwait i .drain) s
    let s := s.modSlice n (fun x => { x with attached := false, detaching := false, stalled := false,
                                             hubKey := [], detachItems := [] })
    match held with
    | some (i, input) => (s.bindSlice n input (some i)).drainOver i
    | none => s

/-- What the key stores hold of a slice is zeroed: cluster caches, wrap and tenant-key entries, hub entries and
pins (R230). -/
def State.zeroSlice (s : State) (n : Nat) : State :=
  let s := (s.kst.hubCache.filter (fun (e : HubEntry) => e.slice == n)).foldl State.freeHub s
  { s with fabric.clusters := s.fabric.clusters.map (fun (c : Cluster) => c.forget n) }

/-- A delay entry is a PIN lockout timer of a slice. -/
def lockoutOf (n : Nat) (e : DelayEntry) : Bool :=
  match e.kind with
  | .pinLockout k _ => k == n
  | _ => false

/-- A slice's counted-key records, lockouts, failure counts and timers go, and its record becomes `x`, in one
commit entry (R308, R379, R390). -/
def State.eraseRecords (s : State) (n : Nat) (x : Slice) (item : Option Nat) : State :=
  let old := s.slice n
  let gone := s.kst.counted.filter (fun (c : CountedRec) => c.slice == n)
  let s := { (s.modSlice n (fun _ => x)).forgetCounts (fun i => gone.any (fun (c : CountedRec) => c.index == i)) with
    kst.counted := s.kst.counted.filter (fun (c : CountedRec) => !(c.slice == n))
    kst.pinFails := s.kst.pinFails.filter (fun (f : PinFail) => !(f.slice == n))
    tnd.delays := s.tnd.delays.filter (fun e => !lockoutOf n e) }
  s.commit (256 + 24 * gone.length) (some (lineSlice n)) item
    (gone.map (fun (c : CountedRec) => Undo.counted c.index (some c)) ++ [.slice n old])

/-- Step 4 of SLICE_DELETE: the slice's keys, guard-slot grants, queue contexts and records are erased (R379). -/
def State.eraseSlice (s : State) (n : Nat) (item : Option Nat) : State :=
  let s := (s.zeroSlice n).clearQueues n
  let s := { s with
    mea.slots := s.mea.slots.map (fun (g : GuardSlot) => { g with grants := g.grants.filter (fun k => !(k == n)) })
    slc.mbPending := s.slc.mbPending.filter (fun k => !(k == n)) }
  s.eraseRecords n { number := n } item

/-- A tenant slice comes into being: ACTIVE, detached, generation 1, with a new wrap key (R211, R212, R383). -/
def State.createSlice (s : State) (n item : Nat) : State :=
  let old := s.slice n
  let d := s.draw 32
  let s := d.2.modSlice n (fun _ => { number := n, state := 1, generation := 1, wrapped := kwpWrap d.2.sliceKey d.1 })
  s.commit 256 (some (lineSlice n)) (some item) [.slice n old]

/-- Requests that one change of a slice's record serves: the drain is over for each, and those after the first wait for a commit
entry of their own (R24, R39). -/
def State.drainsOver (s : State) (n : Nat) (is : List Nat) : State :=
  (is.drop 1).foldl (fun (s : State) i => s.commit 256 (some (lineSlice n)) (some i) []) (is.foldl State.drainOver s)

/-- The drain of a SLICE_DELETE is over: the slice is erased, and held SLICE_CREATEs take effect, as one (R24, R379). -/
def State.deleteDone (s : State) (n : Nat) : State :=
  let x := s.slice n
  let s := (s.eraseSlice n x.drainItem.head?).drainsOver n x.drainItem
  match x.heldCreate with
  | [] => s
  | i :: _ => (s.createSlice n i).drainsOver n x.heldCreate

/-- Parked and held completions of a slice in the order in which they became postable: queue, entry (R386). -/
def State.captured (s : State) (n : Nat) : List (Nat × Bytes) :=
  let buf := (s.queues.complBuf.filter (fun (c : Completion) => c.qid / 64 == n)).map
    (fun (c : Completion) => (c.order, c.qid % 64, c.entry))
  let held := (s.tnd.items.filter (fun (x : Item) => x.slice == n && x.heldOrder != none)).map
    (fun (x : Item) => (x.heldOrder.getD 0, x.qid % 64, entryOf x))
  (sortBy (fun (p : Nat × Nat × Bytes) => p.1) (buf ++ held)).map (fun p => p.2)

/-- Steps 4 and 5 of SLICE_FREEZE: completions are captured, pins zeroed, the state FROZEN (R386). -/
def State.freezeDone (s : State) (n : Nat) : State :=
  let x := s.slice n
  let s : State := s.modSlice n (fun x => { x with
    carried := some { x.carried.getD {} with completions := s.captured n }, drainItem := [], stalled := false })
  let s := { s with
    queues.complBuf := s.queues.complBuf.filter (fun c => !(c.qid / 64 == n))
    kst.pinFails := s.kst.pinFails.filter (fun (f : PinFail) => !(f.slice == n))
    tnd.items := s.tnd.items.filter (fun i => !(i.slice == n)) }
  let s := (s.kst.hubCache.filter (fun (e : HubEntry) => e.slice == n && e.pinned)).foldl State.freeHub s
  (s.setSliceState n 4 2 x.drainItem.head?).drainsOver n x.drainItem

/-- A slice being deleted or frozen goes on once no item of it is left unfinished and no descriptor read is
outstanding (R379, R386). -/
def State.sliceDrained (s : State) (n : Nat) : State :=
  if s.tnd.items.any (fun i => i.slice == n && i.heldOrder == none) || s.queues.batches.any (fun b => b.qid / 64 == n)
  then s
  else if (s.slice n).state = 2 then s.deleteDone n
  else if (s.slice n).state = 3 then s.freezeDone n
  else s

/-! ## The life of an item (R124, R139, R141) -/

/-- Earlier items of the same queue have all finished (R141). -/
def State.fenceOpen (s : State) (it : Item) : Bool :=
  !s.tnd.items.any (fun x => x.qid == it.qid && decide (x.seq < it.seq) && x.state != .finished)

/-- Fences of a queue are opened (R141). -/
def State.openFences (s : State) (q : Nat) : State :=
  { s with tnd.items := s.tnd.items.map (fun x =>
      if x.qid == q && x.state == .fenced && s.fenceOpen x then { x with state := .ready, readySince := s.m.now }
      else x) }

/-- The finished item at the release point of an ordered queue (R139). -/
def State.releasePoint (s : State) (q : Nat) : Option Item :=
  match (sortBy (fun (x : Item) => x.seq)
      (s.tnd.items.filter (fun x => x.qid == q && x.heldOrder == none))).head? with
  | some it => if it.state == .finished then some it else none
  | none => none

/-- Consecutive finished items at the release point are released (R139); `fuel` bounds them. -/
def State.releaseOrdered (s : State) (q : Nat) : Nat → State
  | 0 => s
  | fuel + 1 =>
    match s.releasePoint q with
    | some it => (s.post it).releaseOrdered q fuel
    | none => s

/-- After an item of a queue finished: fences, release, drains (R124, R139, R141, R105). -/
def State.afterFinish (s : State) (q : Nat) : State :=
  let s := s.openFences q
  let s := if (s.queue q).ordered then s.releaseOrdered q (s.tnd.items.length + 1) else s
  (((s.queueDrained q).sliceDrained (q / 64)).detachDone (q / 64)).syncRounds

/-- Withdrawn hub entries that no unfinished item accepted before the withdrawal still names are freed (R229). -/
def State.freeDrained (s : State) : State :=
  (s.kst.hubCache.filter (fun (e : HubEntry) => e.withdrawn &&
    !s.tnd.items.any (fun (x : Item) => x.state != .finished && (x.hubA == some e.index || x.hubB == some e.index)))).foldl
    State.freeHub s

/-- The counted-key records an item allocated whose commit entries have not reached MRAM. -/
def State.allocated (s : State) (slot : Nat) : List Nat :=
  let mine := fun (us : List Undo) => us.filterMap (fun u => match u with
    | .counted i none => some i
    | _ => none)
  ((s.per.waiting ++ s.per.journal).filter (fun (e : CommitEntry) => e.item == some slot)).flatMap (fun e => mine e.undo)
    ++ (s.per.lines.filter (fun (e : LineEntry) => e.item == some slot)).flatMap (fun e => mine e.undo)

/-- A verb that fails after all allocates nothing: its new records and their entries are withdrawn (R245). -/
def State.undoAlloc (s : State) (slot : Nat) : State :=
  let gone := s.allocated slot
  let keep := fun (e : CommitEntry) => !(e.item == some slot && e.undo.any (fun u => match u with
    | .counted _ none => true
    | _ => false))
  { s with kst.counted := s.kst.counted.filter (fun c => !gone.contains c.index)
           per.waiting := s.per.waiting.filter keep, per.journal := s.per.journal.filter keep }

/-- A slice no longer names an item that has ended. -/
def Slice.forget (x : Slice) (slot : Nat) : Slice :=
  let keep := fun (l : List Nat) => l.filter (fun i => !(i == slot))
  { x with drainItem := keep x.drainItem, heldCreate := keep x.heldCreate
           detachItems := x.detachItems.filter (fun i => !(i == slot))
           heldAttach := match x.heldAttach with
             | some (i, b) => if i = slot then none else some (i, b)
             | none => none }

/-- An item leaves its executor with what it holds there and elsewhere: its counted records, its PIN failure entries,
its places at the signer and the mirror, its blocks and transient entries, its BNU commands, which are aborted (R160,
R199). The hub entries it resolved at acceptance stay its own (R229). -/
def State.letGo (s : State) (slot : Nat) : State :=
  let s := match s.item slot with
    | some it => (if it.waits.contains Wait.bnu then s.undoAlloc slot else s).leaveCluster it
    | none => s
  let s := { s with
    kst.heldCounted := s.kst.heldCounted.filter (fun p => !(p.2 == slot))
    kst.pinHeld := s.kst.pinHeld.filter (fun p => !(p.2.2 == slot))
    mea.slots := s.mea.slots.map (fun (g : GuardSlot) => if g.user == some slot then { g with user := none } else g)
    mea.signerQueue := (s.mea.signerQueue.filter (fun i => !(i == slot))).drop
      (if s.mea.signerItem == some slot then 1 else 0)
    mea.signerItem := if s.mea.signerItem == some slot then
        (s.mea.signerQueue.filter (fun i => !(i == slot))).head?
      else s.mea.signerItem
    ngl.mirrorWaits := s.ngl.mirrorWaits.filter (fun w => !(w.item == slot))
    slc.slices := s.slc.slices.map (fun (x : Slice) => x.forget slot)
    fabric.clusters := s.fabric.clusters.map (fun (c : Cluster) => c.abort slot s.m.now) }
  s.modItem slot (fun x => { x with executor := none, cmds := [] })

/-- What an item holds is released, the hub entries it resolved at acceptance with it (R229). -/
def State.releaseHolds (s : State) (slot : Nat) : State :=
  ((s.letGo slot).modItem slot (fun x => { x with hubA := none, hubB := none })).freeDrained

/-- An item ends with a status: FINISHED, its completion posted or, in an ordered queue, left for its release
(R124). A completion that is to be discarded frees its slot at once (R121, R379). -/
def State.finishItem (s : State) (slot : Nat) : State :=
  match s.item slot with
  | none => s
  | some it =>
    let s := s.releaseHolds slot
    let s := { s with tnd.delays := s.tnd.delays.filter (notDelayOf slot) }
    let s :=
      if it.quiet then s.freeSlot slot
      else
        let s := s.modItem slot (fun x => { x with state := .finished, waits := [] })
        if (s.queue it.qid).ordered then s
        else match s.item slot with
          | some it' => s.post it'
          | none => s
    s.afterFinish it.qid

/-- An item ends with the given status and detail and no output (R140). -/
def State.endItem (s : State) (slot status detail : Nat) : State :=
  (s.modItem slot (fun x => { x with status := status, detail := detail, outLen := 0, result := [],
                                     output := [] })).finishItem slot

/-- Several items end alike. -/
def State.endItems (s : State) (slots : List Nat) (status detail : Nat) : State :=
  slots.foldl (fun s k => s.endItem k status detail) s

/-- Verbs that write their output progressively (R328): CBC, CTR and ECB encryption and decryption, GCM
encryption, P2PE. -/
def progressive (d : Bytes) : Bool :=
  let v := dVerb d
  (v == 0x0701) || (v == 0x0702 && byteAt d 0x30 != 3) || v == 0x0703

/-- The output of an item is written before its completion (R38, R96); an item whose completion is discarded writes
none. -/
def State.writeOutput (s : State) (it : Item) : State :=
  if it.output.isEmpty || it.quiet then s
  else s.hostWrite (.dmaWrite it.slice (dOutAddr it.desc) it.output)

/-- Bytes of a progressive item's output written once the writes of `k` chunks were issued in full: whole chunks of
4,096 bytes, and the tag of GCM encryption as a write of its own after the last (R328, R329). -/
def writtenBy (it : Item) (k : Nat) : Nat :=
  if !progressive it.desc then 0 else
  let tag := if dVerb it.desc = 0x0701 ∧ byteAt it.desc 0x30 = 3 then byteAt it.desc 0x31 else 0
  let body := it.output.length - tag
  if k > ceilDiv body 4096 then it.output.length else min (4096 * k) body

/-- A progressive item stopped once `k` chunks were written ends as ABORTED_PARTIAL with those bytes written and valid;
its RESULT, a drawn IV, as it stands (R334); one stopped before its first output write, and any other item, ends with the status and detail given (R20, R329). -/
def State.cutAt (s : State) (slot k detail before beforeDetail : Nat) : State :=
  match s.item slot with
  | none => s
  | some it =>
    let n := writtenBy it k
    if n > 0 then
      let s := s.writeOutput { it with output := it.output.take n }
      (s.modItem slot (fun x => { x with status := 0x0C02, detail := detail, outLen := n,
                                         output := [] })).finishItem slot
    else s.endItem slot before beforeDetail

/-- How far a progressive item under way has got: a free value, since no rule fixes the time of a chunk (assumption log
5); an item that has not begun has written nothing. -/
def State.progressOf (s : State) (slot : Nat) : State × Nat :=
  match s.item slot with
  | some it =>
    if it.state == .running && it.phase != .fetching && progressive it.desc && !it.output.isEmpty then
      ({ s with m.draws := s.m.draws + 1 }, Config.progress s.m.draws)
    else (s, 0)
  | none => (s, 0)

/-- An item is stopped by an event: ABORTED, or ABORTED_PARTIAL with DETAIL 0 for a progressive verb after its first
output write (R20, R29, R329). -/
def State.cutItem (s : State) (slot : Nat) : State :=
  match s.progressOf slot with
  | (s, k) => s.cutAt slot k 0 0x0C01 0

/-- Running items. -/
def State.running (s : State) : List Item := s.tnd.items.filter (fun x => x.state == .running)

/-- An item is removed without a completion (R121, R65). -/
def State.dropItem (s : State) (slot : Nat) : State :=
  match s.item slot with
  | none => s
  | some it => ((s.releaseHolds slot).freeSlot slot).afterFinish it.qid

/-- The detachment of one slice begins (R121): fetching stops; queued items, windows, parked and held
completions go without completions; class A items and items of the signer are aborted, the other running
items finish in silence. Class M and C items of slice 0 run to their end. -/
def State.beginDetach (s : State) (n : Nat) (stop : Bool) : State :=
  if !s.sliceAttached n then s else
  let held := (s.slice n).heldAttach
  let s := if n = 0 then { s with slc.slice0.detaching := true }
    else s.modSlice n (fun x => { x with detaching := true, heldAttach := none })
  let s := match held with
    | some (i, _) => s.modItem i (fun x => { x with status := 0x0C03, detail := 0, outLen := 0, result := []
                                                    output := [], waits := [] })
    | none => s
  let mine := s.tnd.items.filter (fun x => x.slice == n)
  let gone := mine.filter (fun x => x.state != .running ||
    (stop && (x.cls == 1 || x.waits.contains Wait.signer)))
  let s := { s with
    queues.complBuf := s.queues.complBuf.filter (fun c => !(c.qid / 64 == n))
    queues.batches := s.queues.batches.filter (fun b => !(b.qid / 64 == n)) }
  let s := { s with tnd.items := s.tnd.items.map (fun (x : Item) =>
    if x.slice == n then { x with quiet := true } else x) }
  ((gone.foldl (fun (s : State) (x : Item) => s.dropItem x.slot) s).sliceDrained n).detachDone n

end Sys2Proof.Machine
end

