-- ==== Sys2Proof/Machine/Links.lean ====
section
/-!
DEFINITION. The Ngueth link layer: ports, flits sent, rekeying, and the mirror updates a commit of a mirrored
slice sends to its peer (R394–R398, R403).
-/
namespace Sys2Proof.Machine

/-! ## Ports -/

/-- Port n; an unlisted port is DISABLED at its reset values. -/
def State.port (s : State) (n : Nat) : Port :=
  (s.ngl.ports.find? (fun (x : Port) => x.number == n)).getD { number := n }

/-- Update a port. -/
def State.modPort (s : State) (n : Nat) (f : Port → Port) : State :=
  { s with ngl.ports := f (s.port n) :: s.ngl.ports.filter (fun x => !(x.number == n)) }

/-- A port leaves its present state for `st`: keys, peer and lanes go, a transition out of UP is counted. -/
def Port.fall (p : Port) (st : Nat) : Port :=
  { p with state := st, domainMatch := false, lanes := 0, peer := [], nonce := [], ephPriv := 0, txKey := [],
           rxKey := [], txCount := 0, rxCount := 0, txSeq := 0, rxSeq := 0, ackSeq := 0, buffer := [], retryOf := 0,
           attestFailed := false, calDiff := none,
           downs := if p.state = 4 then wrap 32 (p.downs + 1) else p.downs }

/-- CRC-32 with polynomial 0x04C1_1DB7 (R394), in the reflected form with inverted start and end of IEEE 802.3
(PRESUMED, assumption log 13). -/
def crc32 (b : Bytes) : Nat :=
  (b.foldl (fun (c : Nat) x => (List.range 8).foldl (fun (c : Nat) _ =>
    if c % 2 = 1 then (c / 2) ^^^ 0xEDB88320 else c / 2) (c ^^^ x.toNat)) 0xFFFFFFFF) ^^^ 0xFFFFFFFF

/-- The direction bit of flits sent to a peer: 0 from the package with the lower serial (assumption log 13). -/
def State.direction (s : State) (p : Port) : Nat := if ofBE s.fuses.serial ≤ ofBE p.peer then 0 else 1

/-- Both keys re-derived from the current ones after 2^32 flits in a direction (R396). -/
def Port.rekey (p : Port) : Port :=
  if p.txCount < 2 ^ 32 ∧ p.rxCount < 2 ^ 32 then p
  else { p with txKey := kdfCtr p.txKey "NGUETH REKEY" [] 32, rxKey := kdfCtr p.rxKey "NGUETH REKEY" [] 32
                txCount := 0, rxCount := 0, rekeys := wrap 32 (p.rekeys + 1) }

/-- The 256 bytes of a flit a port sends (R394): the payload of an attested port is enciphered, its TAG covers
bytes 0x00–0xE7; during the handshake the TAG is zero. -/
def State.flitBytes (s : State) (p : Port) (type : Nat) (payload : Bytes) : Bytes :=
  let hdr := le 1 type ++ [0] ++ le 2 p.txSeq ++ le 2 ((p.rxSeq + 4095) % 4096) ++ le 1 payload.length ++ [0]
  let body := if p.state = 4 then gcmEnc p.txKey (be 4 (s.direction p) ++ be 8 p.txCount) hdr (fit 224 payload)
    else (fit 224 payload, zeros 16)
  let f := hdr ++ body.1 ++ body.2 ++ zeros 4
  f ++ le 4 (crc32 f)

/-- A flit is sent, kept for a retry, and counted (R395, R403). -/
def State.sendFlit (s : State) (n type : Nat) (payload : Bytes) : State :=
  let p := s.port n
  let f := s.flitBytes p type payload
  let s := s.modPort n (fun p => ({ p with
    txSeq := (p.txSeq + 1) % 4096, txCount := p.txCount + 1, tx := wrap 64 (p.tx + 1)
    buffer := ((p.txSeq, f) :: p.buffer).take 256 } : Port).rekey)
  s.emit (.flit n type f)

/-- A message is sent in as many flits as its payload takes. -/
def State.sendAll (s : State) (n type : Nat) (payload : Bytes) : State :=
  if payload.isEmpty then s.sendFlit n type []
  else (blocksOf 224 payload).foldl (fun (s : State) b => s.sendFlit n type b) s

/-- A port reaches its peer with the domain proved (R396). -/
def Port.matched (p : Port) : Bool := p.state == 4 && p.domainMatch

/-- The lowest port with DOMAIN_MATCH that reaches a peer. -/
def State.portTo (s : State) (peer : Bytes) : Option Nat :=
  (List.range 4).find? (fun n => (s.port n).matched && (s.port n).peer == peer)

/-! ## Mirror updates (R397, R398) -/

/-- A slice's record as another package gets it. -/
def State.copyOf (s : State) (n : Nat) : SliceCopy :=
  let x := s.slice n
  { slice := n, epoch := x.epoch, generation := x.generation, key := (kwpUnwrap s.sliceKey x.wrapped).getD []
    pasid := x.pasid, min := x.min, cap := x.cap, weight := x.weight, ceiling := x.ceiling, vecBase := x.vecBase
    vecCount := x.vecCount, countBase := x.countBase, countQuota := x.countQuota, statusAddr := x.statusAddr
    lockouts := x.lockouts }

/-- A slice's counted-key records as another package gets them: index, KEY_ID, LIMIT, COUNT. -/
def State.countedCopy (s : State) (n : Nat) : List (Nat × Nat × Nat × Nat) :=
  (sortBy (fun (c : CountedRec) => c.index) (s.kst.counted.filter (fun (c : CountedRec) => c.slice == n))).map
    (fun (c : CountedRec) => (c.index, c.keyId, c.limit, s.countNow c.index))

/-- The mirror update of a wait goes out again, or for the first time, on a port that reaches its peer. -/
def State.sendUpdate (s : State) (w : MirrorWait) : State :=
  let u : MirrorUpdate := if w.erase then { number := w.update, erase := true, record := { slice := w.slice } }
    else { number := w.update, record := s.copyOf w.slice, counted := s.countedCopy w.slice }
  match s.portTo w.peer with
  | some p => { (s.sendAll p 2 (Config.mirrorOctets u)) with
      ngl.mirrorWaits := s.ngl.mirrorWaits.map (fun (x : MirrorWait) => if x.update = w.update then { x with port := p } else x) }
  | none => s

/-- A mirror update of slice n for a peer: the item `slot` (65,536: none) waits for its acknowledgement. -/
def State.sendMirror (s : State) (n slot : Nat) (peer : Bytes) (erase : Bool) : State :=
  let num := s.ngl.updates + 1
  let w : MirrorWait := { slice := n, item := slot, peer := peer, erase := erase, port := 4, update := num }
  { s with ngl.updates := num, ngl.mirrorWaits := s.ngl.mirrorWaits ++ [w] }.sendUpdate w

/-- Updates that no port with DOMAIN_MATCH carries any more go out on one that reaches their peer. -/
def State.resendMirrors (s : State) : State :=
  (s.ngl.mirrorWaits.filter (fun (w : MirrorWait) => !((s.port w.port).matched && (s.port w.port).peer == w.peer))).foldl
    State.sendUpdate s

/-- A slice's effects go to a mirror: it is the ACTIVE owner of a mirrored slice. -/
def State.mirrored (s : State) (n : Nat) : Bool :=
  n != 0 && (s.slice n).state == 1 && !(s.slice n).mirrorPeer.isEmpty

/-- An item with a commit entry of a mirrored slice also waits until the peer has committed and acknowledged it
(R398). -/
def State.mirrorItem (s : State) (n slot : Nat) : State :=
  if !s.mirrored n then s
  else
    let again := s.ngl.mirrorWaits.any (fun (w : MirrorWait) => w.item == slot)
    let s := s.modItem slot (fun x => { x with waits := .mirror :: x.waits.filter (fun v => !(v == Wait.mirror)) })
    if again then s else s.sendMirror n slot (s.slice n).mirrorPeer false

end Sys2Proof.Machine
end

