-- ==== Sys2Proof/Machine/Tundish.lean ====
section
/-!
DEFINITION. The Tundish (05_tundish.md): ready lists, takes, deficit round-robin, locality, credit, delay
lists, executors, acceptance of descriptors; and the region accounts its dispatches touch (R406–R411).
-/
namespace Sys2Proof.Machine

/-! ## Regions and clusters -/

/-- Region g; an unlisted region is OFF at its reset values. -/
def State.region (s : State) (g : Nat) : Region :=
  (s.chl.regions.find? (fun (x : Region) => x.number == g)).getD { number := g }

/-- Update a region. -/
def State.modRegion (s : State) (g : Nat) (f : Region → Region) : State :=
  { s with chl.regions := f (s.region g) :: s.chl.regions.filter (fun x => !(x.number == g)) }

/-- Credit changed by an amount, kept within −10 mJ and 1 mJ; reaching the floor is logged (R408). -/
def State.addCredit (s : State) (g : Nat) (d : Int) : State :=
  let c := (s.region g).credit + d
  let s' := s.modRegion g (fun r => { r with credit := max (-10000000) (min 1000000 c) })
  if c ≤ -10000000 ∧ (s.region g).credit > -10000000 then s'.logEv 0x0402 (srcRegion g) 0xFFFF [] else s'

/-- A region takes items: ON, online and not thermally gated (R129, R417). -/
def State.regionTakes (s : State) (g : Nat) : Bool :=
  (s.region g).state == 2 && s.stage.online.contains g && !(s.region g).thermalGated

/-- Items running in logical cluster l. -/
def State.itemsIn (s : State) (l : Nat) : List Item :=
  s.running.filter (fun x => match x.executor with
    | some (.core k) => coreCluster k == l
    | _ => false)

/-- Items running in region g. -/
def State.itemsInRegion (s : State) (g : Nat) : List Item :=
  s.running.filter (fun x => match x.executor with
    | some (.core k) => k / 32 == g
    | _ => false)

/-- Class A items in a cluster. -/
def State.aItems (s : State) (l : Nat) : Nat := ((s.itemsIn l).filter (fun x => x.cls == 1)).length

/-- "A room": a live BNU and fewer than two class A items (R131). -/
def State.aRoom (s : State) (l : Nat) : Bool :=
  s.unitLive (s.phys l) kindBNU 0 && s.aItems l < 2

/-- A cluster under its spare's self-test takes nothing (R20). -/
def State.clusterUp (s : State) (l : Nat) : Bool :=
  s.present l && !s.fabric.spareTest.any (fun t => t.2 == l)

/-- An item is eligible on logical cluster l apart from credit (R129). -/
def State.eligible (s : State) (it : Item) (l : Nat) : Bool :=
  s.clusterUp l && s.regionTakes (l / 8) && (!(it.cls == 1) || s.aRoom l) &&
    (!needsDgu it.desc || s.unitLive (s.phys l) kindDGU 0)

/-- A unit kind is live in some present cluster (R138). -/
def State.hasCapacity (s : State) (kind : Nat) : Bool :=
  s.presentClusters.any (fun l => !(s.liveUnits (s.phys l) kind).isEmpty)

/-! ## Ticks and delay lists (R143–R148) -/

/-- Ticks since the last cold reset or re-pour (R143). -/
def State.tickNow (s : State) : Nat :=
  ((if s.tam.clockLost then s.tam.clockLostAt else s.m.now) - s.tnd.tick0) / 2 ^ s.pat.tickExp

/-- Entries of the item pool in use. -/
def State.itemEntries (s : State) : Nat := (s.tnd.delays.filter (fun e => !e.reserved)).length

/-- Reserved entries in use. -/
def State.reservedEntries (s : State) : Nat := (s.tnd.delays.filter (fun e => e.reserved)).length

/-- An entry is made for d ticks: it falls due at the boundary after d whole ticks (R143). -/
def State.addDelay (s : State) (list d : Nat) (reserved : Bool) (kind : DelayKind) : State :=
  { s with
    tnd.delays := s.tnd.delays ++
      [{ list := list, due := s.tickNow + d + 1, order := s.tnd.delaySeq, reserved := reserved, kind := kind }]
    tnd.delaySeq := s.tnd.delaySeq + 1 }

/-- An entry of a kind leaves its list. -/
def State.dropDelay (s : State) (k : DelayKind) : State :=
  { s with tnd.delays := s.tnd.delays.filter (fun e => !(e.kind == k)) }

/-- An entry of a kind is on a list. -/
def State.hasDelay (s : State) (k : DelayKind) : Bool := s.tnd.delays.any (fun e => e.kind == k)

/-- One entry is served before another: by due tick, then list, then insertion (R144). -/
def DelayEntry.before (a b : DelayEntry) : Bool :=
  decide (a.due < b.due) || (a.due == b.due && (decide (a.list < b.list) || (a.list == b.list && decide (a.order < b.order))))

/-- The due entry that is served next (R144). -/
def State.firstDue (s : State) : Option DelayEntry :=
  (s.tnd.delays.filter (fun (e : DelayEntry) => decide (e.due ≤ s.tickNow))).foldl (fun (best : Option DelayEntry) e =>
    match best with
    | some b => some (if e.before b then e else b)
    | none => some e) none

/-- The entry of a kind is due and its turn has come (R143, R144). -/
def State.servesNow (s : State) (k : DelayKind) : Bool :=
  match s.firstDue with
  | some e => e.kind == k && !s.tam.clockLost
  | none => false

/-! ## Picking (R130–R132) -/

/-- The locality record of a cluster. -/
def State.localKeys (s : State) (l : Nat) : List Nat := (s.tnd.locality.lookup l).getD []

/-- An item is key-local to a cluster (R130). -/
def State.keyLocal (s : State) (it : Item) (l : Nat) : Bool :=
  match it.keyIdent with
  | some i => (s.localKeys l).contains i
  | none => false

/-- The candidate of a slice's FIFO for cluster l (R130): of the first four eligible items, one passed over
four times, else the first key-local one, else the first. -/
def State.candidate (s : State) (list n l : Nat) : Option Item :=
  let four := ((s.fifo list n).filter (fun x => s.eligible x l)).take 4
  match four.find? (fun x => x.passed ≥ 4) with
  | some x => some x
  | none =>
    match four.find? (fun x => s.keyLocal x l) with
    | some x => some x
    | none => four.head?

/-- Arrivals of the pointer after which slice n's deficit covers its candidate on cluster l (R132). -/
def State.arrivalsNeeded (s : State) (list l n : Nat) : Nat :=
  match s.candidate list n l with
  | some x => ceilDiv ((x.weight : Int) - s.deficit list n).toNat (max 1 (s.weightOf n * 1024))
  | none => 0

/-- Moves of the pointer that any take can need: the round once for every arrival the neediest slice lacks. -/
def State.movesNeeded (s : State) (list l : Nat) : Nat :=
  (((s.round list).map (fun n => s.arrivalsNeeded list l n)).foldl max 0 + 2) * ((s.round list).length + 1)

/-- Deficit round-robin for one take (R132): the current slice's candidate once the deficit covers it; the
pointer moves past slices whose deficit does not, for as many `moves` as are needed. -/
def State.drrPick (s : State) (list l : Nat) : Nat → State × Option Item
  | 0 => (s, none)
  | fuel + 1 =>
    match s.round list with
    | [] => (s, none)
    | n :: rest =>
      match s.candidate list n l with
      | none => (s, none)
      | some x =>
        if (x.weight : Int) ≤ s.deficit list n then (s, some x)
        else
          let next := (rest ++ [n]).headD n
          ((s.setRound list (rest ++ [n])).arrive list next).drrPick list l fuel

/-- The first affordable candidate among the next eight slices of a list's round (R131). -/
def State.lighter (s : State) (list l : Nat) (credit : Int) : Option Item :=
  (((s.round list).drop 1).take 8).findSome? (fun n =>
    match s.candidate list n l with
    | some y => if (y.weight : Int) ≤ credit then some y else none
    | none => none)

/-- The MUST_RUN item of a priority, eligible on cluster l, with the earliest deferral start (R131). -/
def State.mustRunOldest (s : State) (p l : Nat) : Option Item :=
  (sortBy (fun (x : Item) => x.deferredSince.getD 0)
    (s.tnd.items.filter (fun x => x.state == .ready && decide (x.cls < 2) && x.prio == p && x.mustRun &&
      s.eligible x l))).head?

/-- One list of the decision (R131): its candidate, or a lighter item of the next eight slices. -/
def State.tryList (s : State) (list l : Nat) : State × Option Item :=
  let credit := (s.region (l / 8)).credit
  match s.drrPick list l (s.movesNeeded list l) with
  | (s, none) => (s, s.lighter list l credit)
  | (s, some x) =>
    if (x.weight : Int) ≤ credit then (s, some x)
    else
      let s := if x.deferredSince == none then
        s.modItem x.slot (fun y => { y with deferredSince := some s.m.now }) else s
      (s, s.lighter list l credit)

/-- The decision of R131 over the lists of priorities `ps`: the item to dispatch, if any. -/
def State.takeChoice (s : State) (l : Nat) : List Nat → State × Option Item
  | [] => (s, none)
  | p :: ps =>
    match s.mustRunOldest p l with
    | some m => (s, some m)
    | none =>
      let a := if s.aRoom l then s.tryList (2 * p) l else (s, none)
      match a with
      | (s, some x) => (s, some x)
      | (s, none) =>
        match s.tryList (2 * p + 1) l with
        | (s, some x) => (s, some x)
        | (s, none) => s.takeChoice l ps

/-! ## Dispatch and executors -/

/-- Verbs that take key A and key B. -/
def takesKeyA (v : Nat) : Bool :=
  !([0x0201, 0x0203, 0x0301, 0x0305, 0x0308, 0x0407, 0x0801, 0x0820, 0x0B01, 0x0B10, 0x0B12].contains v) &&
    ((v / 256 ≥ 2 && v / 256 ≤ 8) || v == 0x0B11 || v == 0x0140)

/-- Verbs that take key B (R237, R283). -/
def takesKeyB (v : Nat) : Bool :=
  [0x0211, 0x0212, 0x0311, 0x0401, 0x0402, 0x0403, 0x0404, 0x0405, 0x0406, 0x0601, 0x0604].contains v

/-- A key reference is an ingot address the device reads (R109). -/
def ingotAddr (r : Nat) : Bool := r != 0 && r < 2 ^ 63 && r % 8 == 0

/-- Length of the header of a pattern or firmware image, the first read of PATTERN_STAGE (R75, R89, R92). -/
def hdrLen (firmware : Bool) : Nat := if firmware then 64 else 128

/-- An item starts on an executor: its input and the first 128 bytes of its ingots are fetched, or it goes straight to
processing, and calls its blocks, where there is nothing to fetch (R100, R109, R120, R159). -/
def State.startItem (s : State) (slot : Nat) (e : Executor) : State :=
  match s.item slot with
  | none => s
  | some it =>
    let d := it.desc
    let a := takesKeyA (dVerb d) && ingotAddr (dKeyA d)
    let b := takesKeyB (dVerb d) && ingotAddr (dKeyB d)
    -- PATTERN_STAGE reads its header alone at first, ARCHIVE_WRITE nothing (R89, R553)
    let n := if dVerb d = 0x0130 then hdrLen (byteAt d 0x38 == 1) else if dVerb d = 0x0151 then 0 else dInLen d
    let fetch := n > 0 || a || b
    let s := s.modItem slot (fun x => { x with
      state := .running, executor := some e, age := s.m.now - x.readySince
      phase := if fetch then .fetching else .processing })
    let s := if n > 0 then s.hostWrite (.dmaRead it.slice (dInAddr d) n) else s
    let s := if a then s.hostWrite (.dmaRead it.slice (dKeyA d) 128) else s
    let s := if b then s.hostWrite (.dmaRead it.slice (dKeyB d) 128) else s
    if fetch then s else s.callBlocks { it with executor := some e }

/-- Items READY for an executor of classes M and C, in order of acceptance (R127). -/
def State.readyFor (s : State) (cls ctx : Nat) : List Item :=
  sortBy (fun (x : Item) => x.seq) (s.tnd.items.filter (fun x => x.state == .ready && x.cls == cls &&
    (match verbInfo (dVerb x.desc) with
      | some i => i.ctx == ctx
      | none => false)))

/-- Items running on an executor. -/
def State.onExecutor (s : State) (e : Executor) : Nat :=
  (s.running.filter (fun x => x.executor == some e && !x.waits.contains Wait.cards)).length

/-- Free executors of classes M and C take their next items (R126, R127): at most 8 on the hub manager
executor, one in each warden context; a context serves its M and C items in order of acceptance. `fuel`
bounds the starts. -/
def State.startExecutors (s : State) : Nat → State
  | 0 => s
  | fuel + 1 =>
    let hub := if s.onExecutor .hub < 8 then (s.readyFor 2 0).head? else none
    match hub with
    | some x => (s.startItem x.slot .hub).startExecutors fuel
    | none =>
      let short := if s.onExecutor .wardenShort < 1 then
          (sortBy (fun (x : Item) => x.seq) (s.readyFor 2 1 ++ s.readyFor 3 1)).head? else none
      match short with
      | some x => (s.startItem x.slot .wardenShort).startExecutors fuel
      | none =>
        let flash := if s.onExecutor .wardenFlash < 1 then (s.readyFor 2 2).head? else none
        match flash with
        | some x => (s.startItem x.slot .wardenFlash).startExecutors fuel
        | none => s

/-- `dispatch(x)` on core k (R131): deficit, credit and pool are debited, the key-A identity is recorded,
items before it in its FIFO that it overtook for locality are marked passed over, the idle timer ends. DESIGN CHOICE
(assumption log 21): R130 does not say whether a pick that ends without a dispatch passes items over; here only a dispatch
does. -/
def State.dispatch (s : State) (x : Item) (k : Nat) : State :=
  let l := coreCluster k
  let g := l / 8
  let list := listOf x
  let isLocal := s.keyLocal x l
  let before := if isLocal && !x.mustRun then
      ((((s.fifo list x.slice).filter (fun y => s.eligible y l)).take 4).takeWhile (fun y => !(y.slot == x.slot))).map
        (fun y => y.slot)
    else []
  let s := before.foldl (fun s b => s.modItem b (fun y => { y with passed := y.passed + 1 })) s
  let s := s.setDeficit list x.slice (s.deficit list x.slice - x.weight)
  let s := s.addCredit g (-(x.weight : Int))
  let s := s.modRegion g (fun r => { r with
    pool := r.pool + x.weight
    mustrunSince := r.mustrunSince || x.mustRun
    items := wrap 64 (r.items + 1)
    mustrun := if x.mustRun then wrap 32 (r.mustrun + 1) else r.mustrun })
  let s := match x.keyIdent with
    | some i => { s with tnd.locality := assocSet s.tnd.locality l ((i :: (s.localKeys l).filter (fun j => !(j == i))).take 64) }
    | none => s
  let s := { s with
    tnd.dispatches := wrap 64 (s.tnd.dispatches + 1)
    tnd.locals := if isLocal then wrap 64 (s.tnd.locals + 1) else s.tnd.locals
    tnd.blocked := s.tnd.blocked.filter (fun c => !(c == k)) }
  let s := s.dropDelay (.regionIdle g)
  let s := s.modItem x.slot (fun y => { y with deferredSince := none, mustRun := false, debited := x.weight })
  (s.startItem x.slot (.core k)).syncRounds

/-- Core k may take: dispatching runs, its cluster is present and its TC live, its region takes items, and it
holds no item (R128, R17). -/
def State.coreFree (s : State) (k : Nat) : Bool :=
  s.tnd.dispatching && !s.stage.fault && !s.halted && s.clusterUp (coreCluster k) && s.regionTakes (k / 32) &&
    s.unitLive (s.phys (coreCluster k)) kindTC (k % 4) &&
    !s.running.any (fun x => x.executor == some (.core k))

/-- ⌈IDLE_GATE_US ÷ tick⌉ ticks (R415). -/
def State.idleTicks (s : State) : Nat := ceilDiv (s.pat.idleGateUs * 4) (2 ^ s.pat.tickExp)

/-- A region's clusters lose power: key stores, BNU state and armed injections go, counters stay (R415,
R583). -/
def State.gateClusters (s : State) (g : Nat) : State :=
  { s with fabric.clusters := s.fabric.clusters.map (fun (c : Cluster) =>
      if physRegion c.phys == g then c.gated else c) }

/-- A region begins to drain (R415): it takes no items, its credit and pool are discarded, its clusters'
locality records and stores cleared. -/
def State.beginDrain (s : State) (g : Nat) : State :=
  let s := s.gateClusters g
  let s := s.modRegion g (fun r => { r with state := 3, op := 3, credit := 0, pool := 0, creditWas := 0,
                                            goodUpdates := 0, mustrunSince := false })
  let s := { s with
    tnd.locality := s.tnd.locality.filter (fun p => !(p.1 / 8 == g))
    tnd.blocked := s.tnd.blocked.filter (fun k => !(k / 32 == g)) }
  s.dropDelay (.regionIdle g)

/-- An ON region with no running item: drained at once when thermally gated (R417); else its idle timer is
armed when no READY item is eligible on it except for credit (R415). -/
def State.armIdle (s : State) (g : Nat) : State :=
  if (s.region g).state == 2 && s.stage.online.contains g && (s.itemsInRegion g).isEmpty then
    if (s.region g).thermalGated then s.beginDrain g
    else if !s.hasDelay (.regionIdle g) &&
      !(s.tnd.items.any (fun x => x.state == .ready && decide (x.cls < 2) &&
        ((List.range 8).any (fun i => s.eligible x (8 * g + i)))))
    then s.addDelay 0 s.idleTicks true (.regionIdle g)
    else s
  else s

/-- A take by core k (R131): the chosen item is dispatched, or the core blocks. -/
def State.take (s : State) (k : Nat) : State :=
  if !s.coreFree k then s else
  let s := s.syncRounds
  match s.takeChoice (coreCluster k) (List.range 8) with
  | (s, some x) => s.dispatch x k
  | (s, none) =>
    { s with tnd.blocked := s.tnd.blocked.filter (fun c => !(c == k)) ++ [k] }.armIdle (k / 32)

/-- Region g's credit covers an item, or the item needs none (R129, R134, R135). -/
def State.covers (s : State) (g : Nat) (it : Item) : Bool := decide ((it.weight : Int) ≤ (s.region g).credit) || it.mustRun

/-- Blocked cores where an item is eligible, its credit included, best first by the rules of R128. -/
def State.coresFor (s : State) (it : Item) : List Nat :=
  let cs := s.tnd.blocked.filter (fun k =>
    s.coreFree k && s.eligible it (coreCluster k) && s.covers (k / 32) it)
  let rank := fun (k : Nat) =>
    let l := coreCluster k
    let g := l / 8
    let far := if s.keyLocal it l then 0 else 1
    let poor := if (it.weight : Int) ≤ (s.region g).credit || it.mustRun then 0 else 1
    let waiting := (s.tnd.blocked.filter (fun c => c / 32 == g)).length
    ((far * 2 + poor) * 64 + waiting) * 1024 + k
  sortBy rank cs

/-- An item has become READY while cores are blocked: one of them is woken (R128). Class M and C items go to
their executors (R127). -/
def State.offerItem (s : State) (slot : Nat) : State :=
  match s.item slot with
  | none => s
  | some it =>
    if it.state != .ready then s
    else if it.cls ≥ 2 then s.startExecutors 16
    else match (s.coresFor it).head? with
      | some k => s.take k
      | none => s

/-- Every READY item is offered once (used after events that made several items READY). -/
def State.offerAll (s : State) : State :=
  (sortBy (fun (x : Item) => x.fifo) (s.tnd.items.filter (fun x => x.state == .ready))).foldl
    (fun s x => s.offerItem x.slot) (s.startExecutors 16)

/-- An item finishes and frees its core or executor, whose successors are started (R124, R127, R128). -/
def State.complete (s : State) (slot : Nat) : State :=
  match s.item slot with
  | none => s
  | some it =>
    let s := match it.executor with
      | some (.core k) =>
        let s := s.modCluster (s.phys (coreCluster k)) (fun c =>
          { c with tcItems := modAt c.tcItems (k % 4) (fun n => wrap 32 (n + 1)) })
        ((s.finishItem slot).armIdle (k / 32))
      | _ => s.finishItem slot
    s.offerAll

/-- An item ends with a status, and what it held is offered again. -/
def State.completeWith (s : State) (slot status detail : Nat) : State :=
  (s.modItem slot (fun x => { x with status := status, detail := detail, outLen := 0, result := [],
                                     output := [] })).complete slot

/-- A running item returns to a delay list for two ticks with its age kept (R147, R195, R16); where no entry
may be taken it stays RUNNING and tries again (RETRY_WAIT_POLL). -/
def State.retryItem (s : State) (slot : Nat) : State :=
  match s.item slot with
  | none => s
  | some it =>
    let pool := s.itemEntries < 64512
    if it.quiet then (s.dropItem slot).offerAll
    else if pool || s.reservedEntries < 960 then
      let s := (s.letGo slot).modItem slot (fun x => { x with
        state := .delayed, phase := .fetching, waits := [], input := [], keyA := [], keyB := [], faults := []
        status := 0, detail := 0, outLen := 0, result := [], output := [] })
      (s.addDelay it.prio 2 (!pool) (.retry slot)).offerAll
    else s

/-! ## Acceptance (R107–R109, R122) -/

/-- Verbs of class M that need no domain key, and so run while QUENCHED (R383, R475, R550). -/
def noDomainM (v : Nat) (d : Bytes) : Bool :=
  [0x0B02, 0x0B03, 0x0903, 0x0130, 0x0B13].contains v || (v == 0x0140 && byteAt d 0x39 == 1)

/-- Check 1 of R122: QUENCHED before LOCKED before STAGE_NOT_READY before LOG_FULL (R56, R63, R464, R475). It comes before
the verb is known (check 3), so a code no table lists meets each condition as a verb none of them exempts. -/
def State.checkDevice (s : State) (d : Bytes) (slice : Nat) : Option Nat :=
  let v := dVerb d
  match verbInfo v with
  | none =>
    if s.quenched then some 0x0B02 else if s.locked then some 0x0B01 else if !s.stage.verbs then some 0x0B04
    else if s.log.logFull && v / 256 != 0x0A then some 0x0B05 else none
  | some i =>
    let proof := (v == 0x0B10 || v == 0x0B12) && slice == 0
    let quench := s.quenched &&
      (if i.cls < 2 then !proof
       else if i.cls = 2 then !noDomainM v d
       else v == 0x0203)
    let lock := !s.quenched && s.locked &&
      (if i.cls < 2 then !proof
       else if i.cls = 2 then !([0x0B02, 0x0B03, 0x0903].contains v)
       else !([0x0A13, 0x0A14, 0x0A18, 0x0A02].contains v ||
         (v == 0x0A01 && [3, 4, 8].contains (byteAt d 0x38))))
    let stageNo := (!s.stage.verbs && v != 0x0130) ||
      (s.lcState == .provisioned && i.cls < 2 && !proof) ||
      ([0x0B10, 0x0B11, 0x0B12].contains v &&
        (s.lcState == .blank || s.lcState == .test || s.lcState == .manufactured))
    let full := s.log.logFull && !([0x0B01, 0x0B02, 0x0B03].contains v || v / 256 == 0x0A)
    if quench then some 0x0B02
    else if lock then some 0x0B01
    else if stageNo then some 0x0B04
    else if full then some 0x0B05 else none

/-- Effective priority of a class S or A item (R108). -/
def effPrio (d : Bytes) (queuePrio : Nat) : Nat := if dPrioOvr d then dPrioVal d else queuePrio

/-- Checks 1–5 of R122, made by the hub at acceptance: the status and detail of the first that fails. -/
def State.accept15 (s : State) (d : Bytes) (c : QueueCtx) : Option (Nat × Nat) :=
  let v := dVerb d
  let slice := c.qid / 64
  match s.checkDevice d slice with
  | some st => some (st, 0)
  | none =>
    if dFlags d / 256 ≠ 0 then some (0x0105, 3)
    else
      let light := match verbInfo v with
        | some i => decide (i.cls < 2)
        | none => true
      if light && dNotBefore d && (usesDelayBytes v || c.ordered) then some (0x0106, 0)
      else match verbInfo v with
        | none => some (0x0101, 0)
        | some i =>
          if s.pat.disabledVerbs.contains v then some (0x0102, 0)
          else if i.cls ≥ 2 && slice != 0 then some (0x0302, 0)
          else if v / 16 == 0x15 && !bit s.pat.fitted 0 then some (0x0302, 2)
          else if i.cls < 2 && effPrio d c.prio < s.ceilingOf slice then some (0x0301, 0)
          else if spanWraps d then some (0x010B, 0)
          else if !lenAllowed d then some (0x0108, 0)
          else none

/-- Check 6 of R122: delay-list space and capacity for the item's class. -/
def State.accept6 (s : State) (d : Bytes) (cls : Nat) : Option Nat :=
  if cls < 2 && dNotBefore d && s.itemEntries ≥ 64512 then some 0x0305
  else if cls = 1 && !s.hasCapacity kindBNU then some 0x0B08
  else if needsDgu d && !s.hasCapacity kindDGU then some 0x0B08
  else none

/-- A handle's fields (R228): slice, UNIQ, index; none where reserved bits are set. -/
def handleParts (r : Nat) : Option (Nat × Nat × Nat) :=
  if r ≥ 2 ^ 63 ∧ bits r 44 19 = 0 then some (bits r 32 12, bits r 16 16, bits r 0 16) else none

/-- The hub entry a handle names at acceptance: of the slice the handle names, pinned, not withdrawn, its UNIQ current
(R218, R228, R229). -/
def State.resolveHandle (s : State) (r : Nat) : Option HubEntry :=
  match handleParts r with
  | none => none
  | some (n, u, i) =>
    s.kst.hubCache.find? (fun (e : HubEntry) => e.index == i && e.slice == n && e.pinned && !e.withdrawn &&
      lookupD s.kst.uniq i 0 == u)

/-- The hub entry of key A for locality: the handle's, or the one that last came from the address (R130,
R219). -/
def State.localityEntry (s : State) (slice r : Nat) : Option Nat :=
  if r ≥ 2 ^ 63 then (s.resolveHandle r).map (fun e => e.index)
  else if r = 0 then none
  else (s.kst.hubCache.find? (fun (e : HubEntry) => e.slice == slice && e.lastAddr == r)).map (fun e => e.index)

/-- The replay ring's answer for a class M or C descriptor (R436, R437): completed before, or the same
request ID under another verb. -/
def State.replayAnswer (s : State) (d : Bytes) : Option (Nat × Nat × Nat × Bytes) :=
  match s.per.replay.find? (fun e => e.request == dRequest d &&
      s.replayHonoured coldScopeVerbs sessionScopeVerbs e) with
  | none => none
  | some e =>
    if e.verb = dVerb d then some (0x0001, e.status, e.outLen, e.result)
    else some (0x010A, 0x30, 0, [])

/-- The item a descriptor of a queue makes in a slot: READY, its weight and key identities known (R124, R130, R410). -/
def State.newItem (s : State) (slot q : Nat) (d : Bytes) : Item :=
  let cls := match verbInfo (dVerb d) with
    | some i => i.cls
    | none => 0
  let seq := s.tnd.seqNo
  let entry := s.resolveHandle (dKeyA d)
  let pinned := entry.map (fun e => (ingotAlg e.ingot, ingotBits e.ingot))
  { slot := slot, qid := q, slice := q / 64, seq := seq, fifo := seq, desc := d, cls := cls,
    prio := if cls ≥ 2 then 0 else effPrio d (s.queue q).prio, readySince := s.m.now,
    weight := s.weightAtAcceptance d cls pinned,
    keyIdent := if takesKeyA (dVerb d) then s.localityEntry (q / 64) (dKeyA d) else none,
    hubA := entry.map (fun e => e.index),
    hubB := (s.resolveHandle (dKeyB d)).map (fun e => e.index) }

/-- A PATTERN_STAGE in another slot was accepted and has not completed; a second completes at once (R90). DEDUCED: one that
waits for its executor counts as the first does (assumption log 15). -/
def State.stagePending (s : State) (slot : Nat) : Bool :=
  s.tnd.items.any (fun x => dVerb x.desc == 0x0130 && x.state != .finished && x.slot != slot)

/-- One descriptor is accepted into a slot: checked, then placed FINISHED, DELAYED, FENCED or READY. -/
def State.acceptItem (s : State) (slot : Nat) (q : Nat) (d : Bytes) : State :=
  let c := s.queue q
  let slice := q / 64
  let it := s.newItem slot q d
  let cls := it.cls
  let s := { s with tnd.items := s.tnd.items ++ [it], tnd.seqNo := s.tnd.seqNo + 1 }
  let st := (s.slice slice).state
  let reject : Option (Nat × Nat × Nat × Bytes) :=
    -- in flight when the device fault state was set (R30); fetched by a queue that has begun to drain, or by a slice
    -- being deleted (R105, R376)
    if s.stage.fault then some (0x0C01, 0, 0, [])
    else if c.state = 2 ∨ c.state = 3 ∨ (slice ≠ 0 ∧ st = 2) then some (0x0C03, 0, 0, [])
    else if slice ≠ 0 ∧ st = 8 then some (0x0E06, 0, 0, [])
    else match s.accept15 d c with
      | some (a, b) => some (a, b, 0, [])
      | none =>
        let before := if cls ≥ 2 then s.replayAnswer d else none
        match before with
        | some r => some r
        | none =>
          match s.accept6 d cls with
          | some a => some (a, 0, 0, [])
          | none =>
            if dVerb d = 0x0130 ∧ s.stagePending slot then some (0x0B06, 0, 0, [])
            else if dVerb d / 16 = 0x15 ∧ !s.cards.sdPresent then some (0x0D04, 1, 0, [])
            else none
  match reject with
  | some (a, b, n, r) =>
    let s := if a = 1 then { s with per.replayHits := wrap 16 (s.per.replayHits + 1) } else s
    (s.modItem slot (fun x => { x with status := a, detail := b, outLen := n, result := r })).finishItem slot
  | none =>
    if cls < 2 && dNotBefore d then
      let ticks := if dDelay d = 0 then 2 ^ 32 else dDelay d
      (s.modItem slot (fun x => { x with state := .delayed })).addDelay it.prio ticks false (.notBefore slot)
    else if dFence d && !s.fenceOpen it then s.modItem slot (fun x => { x with state := .fenced })
    else (s.syncRounds).offerItem slot

/-- A delayed item whose NOT_BEFORE fell due becomes FENCED or READY (R146). -/
def State.undelay (s : State) (slot : Nat) : State :=
  match s.item slot with
  | none => s
  | some it =>
    if it.state != .delayed then s
    else if dFence it.desc && !s.fenceOpen it then s.modItem slot (fun x => { x with state := .fenced })
    else ((s.modItem slot (fun x => { x with state := .ready, readySince := s.m.now })).syncRounds).offerItem slot

/-- Items that lost the capacity of their class finish with NO_CAPACITY (R138). -/
def State.dropNoCapacity (s : State) : State :=
  let a := s.hasCapacity kindBNU
  let g := s.hasCapacity kindDGU
  let gone := s.tnd.items.filter (fun x => (x.state == .ready || x.state == .fenced || x.state == .delayed) &&
    ((x.cls == 1 && !a) || (needsDgu x.desc && !g)))
  gone.foldl (fun s x => s.endItem x.slot 0x0B08 0) s

end Sys2Proof.Machine
end

