-- ==== Sys2Proof/Machine/HostPort.lean ====
section
/-!
DEFINITION. The host port: bad accesses, doorbells, fetching and arrival of descriptors, MSI-X, the queue
administration window, the mailbox, and the power states of the function
(04_host_port_and_queues.md, R95–R119, R380).
-/
namespace Sys2Proof.Machine

/-! ## Accesses (R97) -/

/-- BAR_BAD_ACCESS: a read completes with all ones, a write is discarded; the access is counted, with the
BAR (0 BAR0, 1 BAR2, 2 BAR4), and recorded (R97, R151). -/
def execBarBadAccess (bar addr : Nat) (write : Bool) (s : State) : Host.Outcome State Fault Refusal :=
  .next (if !s.hostUp then s else
    let s := if write then s else s.emit (.mmioData addr 0xFFFFFFFF)
    ({ s with tnd.badAccess := wrap 24 (s.tnd.badAccess + 1), tnd.badBar := bar % 4 }).logH 0x0304 [])

/-! ## Doorbells (R98, R99, R103) -/

/-- A doorbell half that is not acted on sets DB_IGNORED and nothing else (R99). -/
def QueueCtx.ignored (c : QueueCtx) : QueueCtx := { c with err := c.err ||| 8 }

/-- The queue enters ERROR with an ERR bit (R103). -/
def QueueCtx.toError (c : QueueCtx) (errBit : Nat) : QueueCtx := { c with state := 4, err := c.err ||| errBit }

/-- A write of SQ_TAIL is acted on while the slice is attached and the queue ACTIVE (R99, R103). -/
def State.ringTail (s : State) (q v : Nat) : State :=
  s.modQueue q (fun c =>
    if !s.sliceAttached (q / 64) || c.state != 1 then c.ignored
    else if v ≥ c.sqSize then c.toError 1
    else { c with sqTail := v })

/-- A CQ_HEAD lies in the span from the last CQ_HEAD to CQ_TAIL (R103). -/
def QueueCtx.headOk (c : QueueCtx) (v : Nat) : Bool :=
  v < c.cqSize && (v + c.cqSize - c.cqHead) % c.cqSize ≤ c.cqUsed

/-- A write of CQ_HEAD is acted on in every state but DISABLED; parked and held completions follow (R99, R103, R115). -/
def State.ringHead (s : State) (q v : Nat) : State :=
  let c := s.queue q
  if !s.sliceAttached (q / 64) || c.state == 0 then s.setQueue c.ignored
  else if !c.headOk v then
    s.setQueue (if c.state = 1 then c.toError 4 else { c with err := c.err ||| 4 })
  else
    let s := s.setQueue { c with cqHead := v }
    ((s.writeWaiting q 65536).updateStall (q / 64)).queueDrained q

/-- DOORBELL_SQ_TAIL: of an 8-byte write the upper half, CQ_HEAD, is applied first (R98, R103). -/
def execDoorbellSqTail (qid : Nat) (write : DoorbellWrite) (s : State) : Host.Outcome State Fault Refusal :=
  .next (if !s.hostUp then s else
    let q := qid % 262144
    let s := match write.head with
      | some h => s.ringHead q (h % 65536)
      | none => s
    s.ringTail q (write.tail % 65536))

/-- DOORBELL_CQ_HEAD (R103). -/
def execDoorbellCqHead (qid head : Nat) (s : State) : Host.Outcome State Fault Refusal :=
  .next (if !s.hostUp then s else s.ringHead (qid % 262144) (head % 65536))

/-- MB_NOTIFY: the slice joins the pending set and SLC_MB_VECTOR is raised, once until it is read (R380);
page 0 has none (R582). -/
def execMbNotify (slice : Nat) (s : State) : Host.Outcome State Fault Refusal :=
  .next (if !s.hostUp || slice == 0 || !s.sliceAttached slice || s.slc.mbPending.contains slice then s
    else { s with slc.mbPending := s.slc.mbPending ++ [slice] }.notify s.slc.mbVector)

/-- SLC_MB_NEXT is read: the slice that has waited longest leaves the pending set (R380, R402). -/
def execSlcMbNextRead (s : State) : Host.Outcome State Fault Refusal :=
  .next (if !s.hostUp then s else
    match s.slc.mbPending with
    | [] => s.emit (.mmioData 0x0060044 0)
    | n :: r => ({ s with slc.mbPending := r }).emit (.mmioData 0x0060044 (n + 2 ^ 31)))

/-- SLC_NOTIFY: the event vector of the named attached tenant slice is raised (R380, R402). -/
def execSlcNotifyWrite (slice : Nat) (s : State) : Host.Outcome State Fault Refusal :=
  .next (
    let n := slice % 4096
    if s.hostUp && n != 0 && (s.slice n).attached then s.notify (s.slice n).vecBase else s)

/-! ## Fetching (R56, R114) -/

/-- The order in which a round robin visits a list of numbers after the last one served. -/
def afterLast (l : List Nat) (last : Nat) : List Nat :=
  l.filter (fun n => n > last) ++ l.filter (fun n => n ≤ last)

/-- The number of descriptors the next batch of a queue takes (R114); before verbs are accepted only queue 0
of slice 0 is served (R56). -/
def State.batchSize (s : State) (q : Nat) : Nat :=
  let c := s.queue q
  if c.state != 1 || s.queues.batches.any (fun b => b.qid == q) || (!s.stage.verbs && q != 0) then 0 else
  let n := min (min (min c.unfetched (c.sqSize - c.sqHead)) 16) (s.slotsObtainable (q / 64))
  if c.ordered then min n (1024 - s.window q) else n

/-- The queue the hub serves in a visit of slice n, with its batch: the first ACTIVE queue after the last one
served that yields descriptors (R114). -/
def State.visit (s : State) (n : Nat) : Option (Nat × Nat) :=
  let stalled := if n = 0 then s.slc.slice0.stalled else (s.slice n).stalled
  if stalled || !s.fetches n then none else
  let all := (List.range 64).map (fun i => 64 * n + i)
  let order := match s.queues.rrQueue.lookup n with
    | some last => afterLast all last
    | none => all
  order.findSome? (fun q => if s.batchSize q > 0 then some (q, s.batchSize q) else none)

/-- The hub may fetch: port up, D0, not halted, from stage Hub, no device fault (R30, R56, R95). -/
def State.mayFetch (s : State) : Bool :=
  s.hostUp && !s.host.d3hot && s.fromHub && !s.stage.fault

/-- FETCH_BATCH: the next slice in round robin whose visit yields a batch takes its slots, and the read is
issued (R113, R114). -/
def execFetchBatch (s : State) : Host.Outcome State Fault Refusal :=
  .next (if !s.mayFetch then s else
    match (afterLast s.attachedSlices s.queues.rrSlice).findSome? (fun n => (s.visit n).map (fun b => (n, b))) with
    | none => s
    | some (n, q, k) =>
      let c := s.queue q
      let s := s.setQueue { c with sqHead := (c.sqHead + k) % c.sqSize }
      let s : State := { s with
        queues.batches := s.queues.batches ++ [{ qid := q, count := k, head := c.sqHead }]
        queues.rrSlice := n
        queues.rrQueue := assocSet s.queues.rrQueue n q }
      s.emit (.dmaRead n (c.sqBase + 64 * c.sqHead) (64 * k)))

/-- A descriptor read faulted: its slots are returned and the queue enters ERROR with SQ_READ_FAULT (R101). DESIGN CHOICE
(assumption log 23): a queue that is no longer ACTIVE by then keeps its state and its ERR. -/
def State.batchFault (s : State) (q : Nat) : State :=
  let c := s.queue q
  ((s.setQueue (if c.state = 1 then c.toError 2 else c)).queueDrained q).detachDone (q / 64)

/-- DESCRIPTOR_ARRIVAL: the descriptors of a queue's outstanding batch are accepted in ring order (R114,
R122), or the read faulted (R101). -/
def execDescriptorArrival (qid : Nat) (fault : Bool) (descs : List Bytes) (s : State) :
    Host.Outcome State Fault Refusal :=
  .next (s.clocked <| match s.queues.batches.find? (fun b => b.qid == qid) with
    | none => s
    | some b =>
      let s := { s with queues.batches := s.queues.batches.filter (fun x => !(x.qid == qid)) }
      if fault then s.batchFault qid
      else
        let ds := (descs ++ List.replicate (b.count - descs.length) []).take b.count
        let s := s.modQueue qid (fun c => { c with fetched := wrap 64 (c.fetched + b.count) })
        let s := if qid / 64 = 0 then s
          else s.modSlice (qid / 64) (fun x => { x with fetched := wrap 64 (x.fetched + b.count) })
        let s := (ds.zip (s.newSlots b.count)).foldl (fun s p => s.acceptItem p.2 qid (fit 64 p.1)) s
        s.queueDrained qid)

/-! ## MSI-X (R118, R119) -/

/-- MSIX_DELAY_EXPIRE: MAX_DELAY has passed since the first pending notification (R119). -/
def execMsixDelayExpire (vector : Nat) (s : State) : Host.Outcome State Fault Refusal :=
  .next (s.clocked <| if (s.vec vector).pending > 0 then s.fireVector vector else s)

/-- MSIX_VECTOR_UNMASK: a set PBA bit clears and the message is sent (R119). -/
def execMsixVectorUnmask (vector : Nat) (s : State) : Host.Outcome State Fault Refusal :=
  .next (if !s.hostUp || vector ≥ 2048 then s else s.unmask vector)

/-! ## Queue administration window (R105, R106) -/

/-- The context image of R102 in bytes. -/
def State.contextImage (s : State) (q : Nat) : Bytes :=
  let c := s.queue q
  le 8 c.sqBase ++ le 8 c.cqBase ++ le 1 c.sqLog2 ++ le 1 c.cqLog2 ++ le 1 c.prio ++
    le 1 (b2n c.ordered + 2 * b2n c.intr) ++ le 2 c.vector ++ zeros 2 ++ le 2 c.sqTail ++ le 2 c.sqHead ++
    le 2 c.cqTail ++ le 2 c.cqHead ++ le 1 c.phase ++ le 1 c.state ++ le 2 c.err ++ le 4 (s.inflight q) ++
    le 2 (s.window q) ++ le 2 (s.parked q) ++ zeros 4 ++ le 8 c.fetched ++ le 8 c.posted

/-- The 64 bytes QAW_DATA holds. -/
def State.qawImage (s : State) : Bytes := ((s.queues.qawData).map (fun w => le 4 w)).flatten

/-- Configuration fields in their ranges (R102, R106). -/
def State.configOk (s : State) (n : Nat) (c : QueueCtx) : Bool :=
  let v := s.vectorsOf n
  c.sqBase % 64 == 0 && c.cqBase % 32 == 0 && 4 ≤ c.sqLog2 && c.sqLog2 ≤ 16 && 4 ≤ c.cqLog2 &&
    c.cqLog2 ≤ 16 && s.ceilingOf n ≤ c.prio && c.prio ≤ 7 && v.1 ≤ c.vector && c.vector < v.1 + v.2

/-- The command's outcome in QAW_STATUS: CAUSE, 0 when it was not refused, and the state after. -/
def State.qawDone (s : State) (cause : Nat) : State :=
  { s with queues.qawRefused := cause != 0, queues.qawCause := cause,
           queues.qawState := (s.queue s.queues.qawSelect).state }

/-- What refuses any command on the selected queue: the slice does not exist (1), or a queue other than
queue 0 of slice 0 before stage Full (7); and, for WRITE and ENABLE, a slice not attached (2). -/
def State.qawCauseOf (s : State) (needAttached : Bool) : Nat :=
  let q := s.queues.qawSelect
  let n := q / 64
  if n ≠ 0 ∧ (s.slice n).state = 0 then 1
  else if s.stage.stage ≠ .full ∧ q ≠ 0 then 7
  else if needAttached && (!s.sliceAttached n || s.sliceDetaching n) then 2 else 0

/-- A QAW command: refused with a cause, or carried out. -/
def State.qaw (s : State) (needAttached : Bool) (f : State → Nat × State) : State :=
  if !s.hostUp || !s.fromHub then s else
  let c := s.qawCauseOf needAttached
  if c ≠ 0 then s.qawDone c
  else
    let r := f s
    r.2.qawDone r.1

/-- QAW_READ: the context is copied to QAW_DATA (R106). -/
def execQawRead (s : State) : Host.Outcome State Fault Refusal :=
  .next (s.qaw false (fun s => (0,
    let img := s.contextImage s.queues.qawSelect
    { s with queues.qawData := (List.range 16).map (fun i => fld img (4 * i) 4) })))

/-- QAW_WRITE: the configuration fields of a DISABLED queue are checked and copied (R106). -/
def execQawWrite (s : State) : Host.Outcome State Fault Refusal :=
  .next (s.qaw true (fun s =>
    let q := s.queues.qawSelect
    let c := s.queue q
    let d := s.qawImage
    let c' := { c with sqBase := fld d 0 8, cqBase := fld d 8 8, sqLog2 := byteAt d 0x10, cqLog2 := byteAt d 0x11,
                       prio := byteAt d 0x12, ordered := bit (byteAt d 0x13) 0, intr := bit (byteAt d 0x13) 1,
                       vector := fld d 0x14 2 }
    if c.state ≠ 0 then (3, s)
    else if byteAt d 0x13 ≥ 4 || !s.configOk (q / 64) c' then (4, s)
    else (0, s.setQueue c')))

/-- QAW_ENABLE: a DISABLED queue is initialised to ACTIVE; of a DRAINING one the enable is held (R105, R24). -/
def execQawEnable (s : State) : Host.Outcome State Fault Refusal :=
  .next (s.qaw true (fun s =>
    let q := s.queues.qawSelect
    let c := s.queue q
    if c.state = 1 ∨ c.state = 4 then (5, s)
    else if !s.configOk (q / 64) c then (4, s)
    else if c.state = 0 then (0, s.setQueue (activated c))
    else (0, s.setQueue { c with state := 3 })))

/-- Items of a queue that are DELAYED, FENCED or READY (R149). -/
def State.waitingOf (s : State) (q : Nat) : List Nat :=
  (s.tnd.items.filter (fun x => x.qid == q && (x.state == .delayed || x.state == .fenced ||
    x.state == .ready))).map (fun x => x.slot)

/-- QAW_DISABLE: fetching stops, waiting items finish with CANCELLED, and the queue drains; a held enable is
dropped (R105, R149). -/
def execQawDisable (s : State) : Host.Outcome State Fault Refusal :=
  .next (s.qaw false (fun s =>
    let q := s.queues.qawSelect
    let c := s.queue q
    if c.state = 1 ∨ c.state = 4 ∨ c.state = 3 then
      let s := s.setQueue { c with state := 2 }
      let s := s.endItems (s.waitingOf q) 0x0C03 0
      (0, (s.queueDrained q).offerAll)
    else (0, s)))

/-- QAW_RESET_ERROR: ERROR to ACTIVE; ERR cleared, SQ_HEAD kept, SQ_TAIL set to SQ_HEAD (R105). -/
def execQawResetError (s : State) : Host.Outcome State Fault Refusal :=
  .next (s.qaw false (fun s =>
    let c := s.queue s.queues.qawSelect
    if c.state = 4 then (0, s.setQueue { c with state := 1, err := 0, sqTail := c.sqHead }) else (6, s)))

/-! ## Power states (R95) -/

/-- The function is in D3hot: fetching and DMA stop (R95). -/
def State.toD3hot (s : State) : State := { s with host.d3hot := true }

/-- The function returns to D0: held requests are issued, in order, and nothing is reset (R95). -/
def State.toD0 (s : State) : State :=
  { s with host.d3hot := false, host.heldWrites := [] }.emitAll s.host.heldWrites

/-- PM_D3HOT_ENTRY (R95). -/
def execPmD3hotEntry (s : State) : Host.Outcome State Fault Refusal := .next (if s.hostUp then s.toD3hot else s)

/-- PM_D0_RETURN (R95). -/
def execPmD0Return (s : State) : Host.Outcome State Fault Refusal :=
  .next (if s.hostUp && s.host.d3hot then s.toD0 else s)

end Sys2Proof.Machine
end

