-- ==== Sys2Proof/Machine/Units.lean ====
section
/-!
DEFINITION. Units in operation: ECC errors, check mismatches, retirement, cluster failure and substitution,
die links, hub memories, the entropy source, and the rows of these events (R14–R30, R164–R166, R179,
R194–R195, R352, R356, R577, R580).
-/
namespace Sys2Proof.Machine

/-! ## Clusters (R19, R20) -/

/-- The logical cluster a physical cluster carries. -/
def State.logicalOf (s : State) (p : Nat) : Option Nat :=
  (List.range 8).findSome? (fun i =>
    let l := 8 * physRegion p + i
    if s.physOf l == some p then some l else none)

/-- A cluster is powered and its window live: it carries a present logical cluster, or is a spare under its
self-test, in a usable region that is ON on an online die (R572). -/
def State.clusterLit (s : State) (p : Nat) : Bool :=
  let g := physRegion p
  decide (p < 144) && s.liveRegions.contains g && (s.region g).state == 2 &&
    ((match s.logicalOf p with
      | some l => s.present l
      | none => false) || s.fabric.spareTest.any (fun t => t.1 == p))

/-- Items running in a logical cluster end as aborts (R20). What they hold of the BNU goes with it. -/
def State.abortItemsIn (s : State) (l : Nat) : State :=
  (s.itemsIn l).foldl (fun (s : State) x => s.cutItem x.slot) s

/-- A spare is powered and tested for logical cluster l where its region is ON; where it is not, the
substitution waits for the next wake; without a spare the logical cluster is absent (R20). -/
def State.substitute (s : State) (l : Nat) : State :=
  match (s.spares (l / 8)).head? with
  | none => s.setSlot l none
  | some k =>
    if (s.region (l / 8)).state == 2 then
      { s with fabric.spareTest := s.fabric.spareTest ++ [(physNo (l / 32) (l / 8 % 4) k, l)] }
    else { s with fabric.subst := s.fabric.subst ++ [(l, k)] }

/-- A physical cluster fails in operation (R19, R20): cause 1 all TCs, 2 all SBUs, 3 an uncorrectable SRAM
error. -/
def State.failCluster (s : State) (p cause : Nat) : State :=
  if !s.posUsable (physRegion p) (physPos p) then s else
  let l := s.logicalOf p
  let s := match l with
    | some l => { s.abortItemsIn l with tnd.locality := assocDel s.tnd.locality l,
                                        tnd.blocked := s.tnd.blocked.filter (fun k => !(coreCluster k == l)) }
    | none => s
  let s := s.modCluster p Cluster.gated
  let s := s.logEv 0x020A (srcCluster p) 0xFFFF (le 1 cause ++ [0])
  let s := s.retirePosition p
  let s := match l with
    | some l => s.substitute l
    | none => { s with fabric.spareTest := s.fabric.spareTest.filter (fun t => !(t.1 == p)) }
  s.dropNoCapacity.offerAll

/-- After a unit was retired: its cluster fails when it was the last TC or SBU (R16, R166). -/
def State.checkCluster (s : State) (p : Nat) : State :=
  if (s.liveUnits p kindTC).isEmpty then s.failCluster p 1
  else if (s.liveUnits p kindSBU).isEmpty then s.failCluster p 2
  else s.dropNoCapacity

/-! ## SBU mismatches (R162–R166, R172) -/

/-- The compare cycle finds a difference: in duplicate mode B's result is not A's, in inverse-check mode it is not the
block's input (R162); or the register's parity is wrong (R164). -/
def mismatched (f : SbuFault) (inverse : Bool) : Bool := f.parity || f.b != (if inverse then f.input else f.a)

/-- The key register a block used: the one named, or, where it holds no key, its SBU's most recently used one. -/
def Cluster.regOf (c : Cluster) (f : SbuFault) : SbuKey :=
  let mine := c.sbuKeys.filter (fun (k : SbuKey) => k.sbu == f.sbu)
  ((mine.find? (fun (k : SbuKey) => k.reg == f.reg)).orElse (fun _ => mine.head?)).getD {}

/-- The payload of SBU_MISMATCH (R164). -/
def sbuPayload (alg direction : Nat) (inverse parity : Bool) (retry flags retrySbu : Nat) : Bytes :=
  le 1 alg ++ le 1 direction ++ le 1 (b2n inverse) ++ le 1 (b2n parity) ++ le 1 retry ++ le 1 flags ++ le 1 retrySbu

/-- A mismatch of SBU n of cluster p counts; unless injected it is a strike, and the third within 24 hours retires the
SBU: its blocks are reissued elsewhere, its key registers zeroed (R166, R171, R172). -/
def State.sbuStrike (s : State) (p n : Nat) (injected : Bool) : State :=
  let s := s.modCluster p (fun c => { c with sbuMismatch := modAt c.sbuMismatch n (fun k => sat 8 (k + 1)) })
  if injected then s
  else
    let third := (s.strikesOf p kindSBU n).length ≥ 2
    let s := s.addStrike p kindSBU n
    if third then
      let s := ((s.retireUnit p kindSBU n).reissue p n).modCluster p (fun c =>
        { c with sbuKeys := c.sbuKeys.filter (fun k => !(k.sbu == n)) })
      (s.logEv 0x0203 (srcUnit p kindSBU n) 0xFFFF []).dropNoCapacity
    else s

/-- How the blocks of an item went on: `outcome` 0 the item continues, 1 a retry failed too, 2 no other SBU was live;
`retried`: some block was retried (R165). -/
structure BlockEnd where
  /-- the state after them -/
  st : State
  /-- 0, 1 or 2 -/
  outcome : Nat := 0
  /-- a retry ran -/
  retried : Bool := false

/-- One block of an item on cluster p whose checks may have failed: unless they passed, it is retried in inverse-check mode
on another live SBU, which loads the same key, or fails the item (R163–R165). A retry that reaches an armed SBU mismatches
too (R172). DESIGN CHOICE (assumption log 21): of several other live SBUs the retry takes the one the report names, else the
lowest-numbered. -/
def State.sbuFault (s : State) (p : Nat) (dInv : Bool) (f : SbuFault) (injected : Bool) : BlockEnd :=
  let k := (s.cluster p).regOf f
  let inverse := dInv || k.inverse
  if !(s.liveUnits p kindSBU).contains f.sbu || !(injected || mismatched f inverse) then { st := s } else
  let record := fun (s : State) (sbu : Nat) (inv parity : Bool) (retry flags r : Nat) =>
    s.logEv 0x0202 (srcUnit p kindSBU sbu) 0xFFFF (sbuPayload k.alg f.direction inv parity retry flags r)
  let s := if f.parity then s.modCluster p (fun c => { c with
      sbuKeys := c.sbuKeys.filter (fun (x : SbuKey) => !(x.sbu == f.sbu && x.reg == k.reg)) }) else s
  let others := (s.liveUnits p kindSBU).filter (fun n => !(n == f.sbu))
  match others with
  | [] => { st := (record s f.sbu inverse f.parity 2 (b2n injected) 0xFF).sbuStrike p f.sbu injected, outcome := 2 }
  | first :: _ =>
    let r := if others.contains f.retrySbu then f.retrySbu else first
    let armed := (s.cluster p).sbuInject.getD r false
    let s := s.modCluster p (fun c => { c.load { k with sbu := r } with sbuInject := modAt c.sbuInject r (fun _ => false) })
    if f.retryFails || armed then
      let s := record s f.sbu inverse f.parity 1 (b2n injected) r
      let s := s.modCluster p (fun c => { c with sbuRetryFail := modAt c.sbuRetryFail r (fun k => sat 8 (k + 1)) })
      let s := record (s.sbuStrike p f.sbu injected) r true false 3 (b2n armed) 0xFF
      { st := s.sbuStrike p r armed, outcome := 1, retried := true }
    else
      let s := record s f.sbu inverse f.parity 0 (b2n injected) r
      let s := s.modCluster p (fun c => { c with sbuRetryOk := modAt c.sbuRetryOk r (fun k => sat 8 (k + 1)) })
      { st := s.sbuStrike p f.sbu injected, retried := true }

/-- The suspect blocks of a report one after another, until one fails the item. -/
def State.sbuFaults (s : State) (p : Nat) (dInv : Bool) : List (SbuFault × Bool) → BlockEnd
  | [] => { st := s }
  | f :: r =>
    let e := s.sbuFault p dInv f.1 f.2
    if e.outcome ≠ 0 then e
    else
      let rest := e.st.sbuFaults p dInv r
      { rest with retried := e.retried || rest.retried }

/-- SBUs whose armed mismatch the report's blocks reach: the first block each ran has it forced in datapath B (R171,
R172). DESIGN CHOICE (assumption log 21): its retry is asked of SBU (n + 1) mod 4. -/
def injectedFaults (c : Cluster) (u : UnitReport) : List (SbuFault × Bool) :=
  ((List.range 4).filter (fun n => c.sbuInject.getD n false && decide (u.blocks.getD n 0 > 0))).map (fun n =>
    let at_ := u.first.getD n (0, 0)
    ({ sbu := n, reg := at_.1, direction := at_.2, retrySbu := (n + 1) % 4 }, true))

/-- What the SBUs of cluster p did for an item: the blocks of live SBUs counted, each arm cleared as its block runs, armed
and reported mismatches handled (R165, R166, R171). -/
def State.sbuReport (s : State) (p : Nat) (dInv : Bool) (u : UnitReport) : BlockEnd :=
  let live := s.liveUnits p kindSBU
  let u := { u with blocks := (List.range 4).map (fun n => if live.contains n then u.blocks.getD n 0 else 0) }
  let inj := injectedFaults (s.cluster p) u
  let s := s.modCluster p (fun c => { c with
    sbuBlocks := List.zipWith (fun a b => wrap 32 (a + b)) c.sbuBlocks u.blocks
    sbuInject := c.sbuInject.zipIdx.map (fun a => a.1 && !decide (u.blocks.getD a.2 0 > 0)) })
  s.sbuFaults p dInv (inj ++ u.faults.map (fun f => (f, false)))

/-! ## BNU retirement (R194, R195) -/

/-- The counted uses an unfinished item has placed are taken back before it is returned: a returned item has placed no
commit entry, and R231 asks for the use only by the completion (R17, R231; DEDUCED, assumption log 21). The item held the
records all the while. -/
def State.takeBackUses (s : State) (slot : Nat) : State :=
  match s.item slot with
  | none => s
  | some it =>
    let s := it.counted.foldl (fun (s : State) i => (s.putCount i (s.countNow i - 1)).getD s) s
    s.modItem slot (fun x => { x with counted := [], committed := false })

/-- The BNU of a cluster is retired: the queued command returns to the Tundish without executing, then operand memory,
tenant-key and transport-key registers are zeroed, then the record (R195, R200). -/
def State.retireBnu (s : State) (p : Nat) : State :=
  let back := ((s.cluster p).bnuQueue.map (fun (m : BnuCmd) => m.slot)).eraseDups
  let s := (s.retireUnit p kindBNU 0).modCluster p (fun c => { c with bnuQueue := [] })
  let s := back.foldl (fun (s : State) i => (s.takeBackUses i).retryItem i) s
  let s := s.modCluster p (fun c => { c with tenantKeys := [], transport := [], banks := [[], []] })
  (s.logEv 0x0205 (srcUnit p kindBNU 0) 0xFFFF []).dropNoCapacity

/-- An invariant failure of a cluster's BNU, whose command has ended: recorded with the command and the failing check;
unless injected it is a strike, and the second within 24 hours retires the BNU (R194, R195, R202). -/
def State.bnuInvariant (s : State) (p command check : Nat) (injected : Bool) : State :=
  let s := s.modCluster p (fun c => { c with bnuInvariant := sat 8 (c.bnuInvariant + 1) })
  let s := s.logEv 0x0204 (srcUnit p kindBNU 0) 0xFFFF (le 1 command ++ le 1 check ++ le 1 (b2n injected))
  if injected then s
  else
    let second := !(s.strikesOf p kindBNU 0).isEmpty
    let s := s.addStrike p kindBNU 0
    if second then s.retireBnu p else s

/-! ## Bring-up order (R61) -/

/-- The order in which regions come online (R61). -/
def bringUpOrder : List Nat := [0, 4, 8, 12, 1, 5, 9, 13, 2, 6, 10, 14, 3, 7, 11, 15]

/-- The next region of the order that is usable and not online (R61). -/
def State.nextBringUp (s : State) : Option Nat :=
  bringUpOrder.find? (fun g => s.liveRegions.contains g && !s.stage.online.contains g)

/-- The next region starts its bring-up: it wakes (R61). -/
def State.startBringUp (s : State) : State :=
  match s.nextBringUp with
  | none => { s with stage.bringing := none }
  | some g => ({ s with stage.bringing := some g }).modRegion g (fun r => { r with
      state := 1, bringup := 1, wakes := wrap 16 (r.wakes + 1) })

/-- The next region starts its bring-up; after the last one every usable region is online (R61, R66). -/
def State.bringNext (s : State) : State :=
  let s := s.startBringUp
  if s.stage.bringing.isNone && s.stage.verbs && !s.stage.fullcap then
    { s with stage.fullcap := true, stage.tFullcap := (s.m.now - s.stage.t0) / 4 }
  else s

/-! ## Dies (R27–R30) -/

/-- A transaction die goes offline (R29): its items end as ABORTED, its clusters are zeroed, its regions and
capacity are withdrawn. -/
def State.dieOffline (s : State) (d : Nat) : State :=
  if s.dieOff d then s else
  let mine := s.running.filter (fun x => match x.executor with
    | some (.core k) => k / 128 == d
    | _ => false)
  let s := { s with
    stage.dieOffline := s.stage.dieOffline ++ [d]
    stage.online := s.stage.online.filter (fun g => !(g / 4 == d))
    tnd.blocked := s.tnd.blocked.filter (fun k => !(k / 128 == d))
    fabric.spareTest := s.fabric.spareTest.filter (fun t => !(t.2 / 32 == d))
    fabric.clusters := s.fabric.clusters.map (fun (c : Cluster) => if c.phys / 36 == d then c.gated else c) }
  let s := (List.range 4).foldl (fun (s : State) r =>
    (s.modRegion (4 * d + r) (fun x => { x with state := 0, op := 3 })).dropDelay (.regionIdle (4 * d + r))) s
  let s := s.modLink d (fun l => { l with state := 3 })
  let s := (mine.foldl (fun (s : State) x => s.cutItem x.slot) s).emit (.zeroise d)
  let s := (s.logEv 0x0302 (srcDie d) 0xFFFF (le 1 d)).dropNoCapacity
  -- a region of the die that was coming online is skipped (R61)
  let s := match s.stage.bringing with
    | some g => if g / 4 == d then s.bringNext else s
    | none => s
  s.offerAll

/-- The device fault state (R30, R577): every item in flight ends as ABORTED and fetching stops. -/
def State.deviceFault (s : State) (cause die memory : Nat) : State :=
  if s.stage.fault then s else
  let s := { s with stage.fault := true, stage.faultCause := cause, gds.faultDie := die, gds.faultMemory := memory }
  let live := (s.tnd.items.filter (fun x => x.state != .finished)).map (fun x => x.slot)
  live.foldl (fun (s : State) k => s.cutItem k) (s.alert 2)

/-- The G-H link fails (R30): the warden records it directly. -/
def State.ghFail (s : State) : State :=
  if s.ghFailed then s else
  ((s.modLink 4 (fun l => { l with state := 3 })).deviceFault 1 5 0).logG 0x0303 []

/-! ## Rows: transaction cores and clusters -/

/-- TC_ECC_CORRECTED: corrected in place and recorded (R16). -/
def execTcEccCorrected (core : Nat) (s : State) : Host.Outcome State Fault Refusal :=
  .next (s.clocked <| s.logEv 0x0209 (srcUnit (s.phys (coreCluster core)) kindTC (core % 4)) 0xFFFF [])

/-- The item of a core stopped by an uncorrectable register-file error, once the writes of `written` chunks of its output
were issued: returned to a delay list when it has written nothing and placed no commit entry, else failed (R16, R329). -/
def State.tcItemStops (s : State) (core written : Nat) : State :=
  match s.running.find? (fun x => x.executor == some (.core core)) with
  | none => s
  | some it =>
    if writtenBy it written = 0 && !it.committed then
      (s.modItem it.slot (fun x => { x with retried := true })).retryItem it.slot
    else s.cutAt it.slot written 0x0C04 0x0C04 2

/-- TC_ECC_UNCORRECTABLE: the item stops, the error is recorded, and the second within 24 hours retires the
core (R16). -/
def execTcEccUncorrectable (core written : Nat) (s : State) : Host.Outcome State Fault Refusal :=
  .next (s.clocked <|
    let p := s.phys (coreCluster core)
    let n := core % 4
    if !s.unitLive p kindTC n || !s.clusterLit p then s else
    let s := s.tcItemStops core written
    let s := s.logEv 0x020D (srcUnit p kindTC n) 0xFFFF []
    let second := !(s.strikesOf p kindTC n).isEmpty
    let s := s.addStrike p kindTC n
    let s := if second then
        let s := { s.retireUnit p kindTC n with tnd.blocked := s.tnd.blocked.filter (fun k => !(k == core)) }
        (s.logEv 0x020E (srcUnit p kindTC n) 0xFFFF []).checkCluster p
      else s
    s.offerAll)

/-- CLUSTER_SRAM_ECC: a corrected error is counted and recorded; an uncorrectable one fails the cluster (R19,
R20, R581). -/
def execClusterSramEcc (phys : Nat) (keyCache uncorrectable : Bool) (s : State) :
    Host.Outcome State Fault Refusal :=
  .next (s.clocked <| if !s.clusterLit phys then s
    else if uncorrectable then s.failCluster phys 3
    else
      let s := s.modCluster phys (fun c =>
        if keyCache then { c with eccKeyCache := sat 16 (c.eccKeyCache + 1) }
        else { c with eccOperand := sat 16 (c.eccOperand + 1) })
      s.logEv 0x0209 (srcCluster phys) 0xFFFF [])

/-- SPARE_SELFTEST_COMPLETE: a spare that passed is mapped to the failed logical number; the map is used, and dispatch
resumes, once its commit entry is accepted (R20, R22). DESIGN CHOICE (assumption log 20): one that failed, of which R20 says
nothing, is retired and the region's next spare, if any, is tried. -/
def execSpareSelftestComplete (logical : Nat) (pass : Bool) (s : State) : Host.Outcome State Fault Refusal :=
  .next (s.clocked <| match s.fabric.spareTest.find? (fun t => t.2 == logical) with
    | none => s
    | some t =>
      let s := { s with fabric.spareTest := s.fabric.spareTest.filter (fun x => !(x.2 == logical)) }
      if pass then { s with fabric.spareTest := t :: s.fabric.spareTest }.setSlot logical (some (physPos t.1))
      else ((s.retirePosition t.1).substitute logical).dropNoCapacity)

/-- BNU_DRBG_RESEED: after 65,536 generate requests or 1 s the BNU's DRBG takes a new seed, while the device DRBG serves
(R179, R356). -/
def execBnuDrbgReseed (phys : Nat) (s : State) : Host.Outcome State Fault Refusal :=
  .next (s.clocked <|
    let c := s.cluster phys
    let due := decide (c.bnuRequests ≥ 65536) || decide (s.m.now - c.bnuReseeded ≥ 4000000)
    if s.clusterLit phys && s.mea.rngHealthy && due then
      (s.modCluster phys (fun c => { c with bnuReseeded := s.m.now, bnuRequests := 0 }))
    else s)

/-- A digest item runs in a cluster. -/
def State.dguBusy (s : State) (p : Nat) : Bool :=
  match s.logicalOf p with
  | some l => (s.itemsIn l).any (fun x => needsDgu x.desc)
  | none => false

/-- DGU_KAT_DUE: the known-answer test runs when the DGU is idle; a DGU that fails is retired (R352). -/
def execDguKatDue (phys : Nat) (pass : Bool) (s : State) : Host.Outcome State Fault Refusal :=
  .next (s.clocked <| if !s.clusterLit phys || !s.unitLive phys kindDGU 0 then s
    else if s.dguBusy phys then s.modCluster phys (fun c => { c with katDue := true })
    else
      let s := s.modCluster phys (fun c => { c with katDue := false, dguKats := if pass then sat 24 (c.dguKats + 1) else c.dguKats })
      if pass then s
      else ((s.retireUnit phys kindDGU 0).logEv 0x0208 (srcUnit phys kindDGU 0) 0xFFFF []).dropNoCapacity)

/-- A cluster's test injections are open: TEST_UNLOCKED or RETURNED, the window lit (R171, R201, R583). -/
def State.mayInject (s : State) (p : Nat) : Bool :=
  s.hostUp && s.clusterLit p && (s.lcState == .testUnlocked || s.lcState == .returned)

/-- CLU_SBU_INJECT: writing 1 arms, writing 0 leaves (R171). -/
def execCluSbuInjectWrite (phys mask : Nat) (s : State) : Host.Outcome State Fault Refusal :=
  .next (if s.mayInject phys then
      s.modCluster phys (fun c => { c with sbuInject := c.sbuInject.zipIdx.map (fun a => a.1 || bit mask a.2) })
    else s)

/-- CLU_BNU_INJECT: writing 1 arms (R201). -/
def execCluBnuInjectWrite (phys value : Nat) (s : State) : Host.Outcome State Fault Refusal :=
  .next (if s.mayInject phys && bit value 0 then s.modCluster phys (fun c => { c with bnuInject := true }) else s)

/-- BNU_KEYGEN_LONG: an RSA key generation has run for 1 s; the search goes on (R198). -/
def execBnuKeygenLong (slot : Nat) (s : State) : Host.Outcome State Fault Refusal :=
  .next (s.clocked <| match s.item slot with
    | some it =>
      match it.executor with
      | some (.core k) =>
        let p := s.phys (coreCluster k)
        if it.waits.contains Wait.bnu && dVerb it.desc == 0x0301 && ((s.cluster p).bnuQueue.head?.map (fun (m : BnuCmd) => m.slot)) == some slot then
          s.logEv 0x0207 (srcUnit p kindBNU 0) 0xFFFF []
        else s
      | _ => s
    | none => s)

/-! ## Rows: links and hub memories -/

/-- The 80 bits before the CRC's place and the payload as the CRC covers them: type and sequence number in 16 bits, then the
64 bytes. DESIGN CHOICE (assumption log 13): R27 gives the fields and the polynomial, not their order; the CRC starts at 0 and
is not reflected. -/
def flitCovered (f : LinkFlit) : Bytes := be 2 (f.type % 16 * 4096 + f.seq % 4096) ++ fit 64 f.payload

/-- The flit's CRC-16 is right (R27). -/
def flitIntact (f : LinkFlit) : Bool := f.crc == crcLeft 16 0x1021 (flitCovered f)

/-- DIE_LINK_FLIT_ERROR: the flit is dropped and a retry requested; the link fails after eight failed
retries of one flit or more than 1,024 retries within 1 s (R27, R29, R30). A flit whose CRC is right and whose sequence
number is the one expected is no error. `again`: the same flit failed its retry. -/
def execDieLinkFlitError (link : Nat) (arrival : LinkArrival) (again : Bool) (s : State) :
    Host.Outcome State Fault Refusal :=
  .next (s.clocked <|
    let l := s.fabric.links.getD link {}
    let intact := flitIntact arrival.flit
    let outOfSequence := intact && arrival.flit.seq != arrival.expected
    if link ≥ 5 || l.state != 2 || (intact && !outOfSequence) then s else
    let recent := s.m.now :: l.recent.filter (fun t => decide (s.m.now - t < 4000000))
    let s := (s.modLink link (fun l => { l with
      retries := wrap 32 (l.retries + 1)
      crcErr := if outOfSequence then l.crcErr else wrap 32 (l.crcErr + 1)
      seqErr := if outOfSequence then wrap 32 (l.seqErr + 1) else l.seqErr
      consecutive := if again then l.consecutive + 1 else 0
      recent := recent })).emit (.linkRetry link (arrival.expected % 4096))
    let l := s.fabric.links.getD link {}
    let src := if link < 4 then srcDie link else srcHub
    let s := if l.retries % 100 = 0 then s.logEv 0x0301 src 0xFFFF (le 1 link) else s
    if l.consecutive ≥ 8 || recent.length > 1024 then
      if link = 4 then s.ghFail else s.dieOffline link
    else s)

/-- HUB_MEMORY_ECC: a corrected error is counted; an uncorrectable one sets the device fault state (R577). -/
def execHubMemoryEcc (memory : Nat) (uncorrectable : Bool) (s : State) : Host.Outcome State Fault Refusal :=
  .next (s.clocked <| if memory ≥ 6 || !s.fromHub then s
    else if uncorrectable then
      ({ s with gds.hmemUnc := modAt s.gds.hmemUnc memory (fun n => sat 32 (n + 1)) }).deviceFault 2 4 memory
    else { s with gds.hmemCorr := modAt s.gds.hmemCorr memory (fun n => sat 32 (n + 1)) })

/-- PLL_LOCK_LOSS: a region's PLL (0 core, 1 block, 2 big-number) loses lock (R580). -/
def execPllLockLoss (region pll : Nat) (s : State) : Host.Outcome State Fault Refusal :=
  .next (s.clocked <| if region < 16 && pll < 3 && (s.region region).pllLock.getD pll false then
      s.modRegion region (fun r => { r with pllLock := r.pllLock.set pll false,
                                            lockLosses := sat 16 (r.lockLosses + 1) })
    else s)

/-! ## Rows: entropy source (R355, R356) -/

/-- ENTROPY_HEALTH_FAIL: RNG_FAILED, and the device DRBG stops (R356). -/
def execEntropyHealthFail (s : State) : Host.Outcome State Fault Refusal :=
  .next (if s.stage.stage == .hold || s.mea.rngDead || s.mea.rngFailed then s
    else ({ s with mea.rngHealthy := false, mea.rngFailed := true, mea.rngConsec := 0,
                   mea.rngFails := wrap 32 (s.mea.rngFails + 1), mea.rngReseed := true }).logG 0x0702 [])

/-- RNG_RETEST_DUE: the start-up test is repeated; the sixteenth failure in a row makes the source RNG_DEAD
until cold reset (R356). -/
def execRngRetestDue (pass : Bool) (s : State) : Host.Outcome State Fault Refusal :=
  .next (if !s.mea.rngFailed then s
    else if pass then
      { s with mea.rngFailed := false, mea.rngHealthy := true, mea.rngConsec := 0, mea.rngReseed := false }
    else
      let n := s.mea.rngConsec + 1
      let s := { s with mea.rngConsec := n, mea.rngFails := wrap 32 (s.mea.rngFails + 1) }
      if n ≥ 16 then ({ s with mea.rngFailed := false, mea.rngDead := true }).logG 0x0703 [] else s)

end Sys2Proof.Machine
end

