-- ==== Sys2Proof/Machine/Items.lean ====
section
/-!
DEFINITION. The life of an item on its executor: takes, fetched input, BNU and signer completions, commit
acknowledgements, finishing, promotion, ageing and the delay entries that fall due
(R120, R124, R131, R135, R137, R146–R148, R186, R365). The verbs themselves have rows of their own: an
item is processed by the row of its verb once its input has arrived (assumption log 8).
-/
namespace Sys2Proof.Machine

/-- A running item, none where the slot holds no running item. -/
def State.runningItem (s : State) (slot : Nat) : Option Item :=
  match s.item slot with
  | some it => if it.state == .running then some it else none
  | none => none

/-- One wait of an item is over. -/
def State.doneWaiting (s : State) (slot : Nat) (w : Wait) : State :=
  s.modItem slot (fun x => { x with waits := x.waits.erase w })

/-- The result of a running item is known: it waits for `waits`, then finishes (ITEM_FINISH). A failure has no
output and no result unless given (R110). An item that changed records of a mirrored slice waits for the mirror as
well (R398). -/
def State.settle (s : State) (slot status detail outLen : Nat) (result output : Bytes) (waits : List Wait) : State :=
  let s := s.modItem slot (fun x => { x with status := status, detail := detail, outLen := outLen, result := result,
                                             output := output, waits := waits, phase := .waiting })
  match s.item slot with
  | some it => if waits.contains Wait.commit || !it.counted.isEmpty then s.mirrorItem it.slice slot else s
  | none => s

/-- The replay entry of a class M or C item that reached check 12, in the commit entry of its effect (R436). -/
def State.commitReplay (s : State) (it : Item) (status outLen : Nat) (result : Bytes) (size : Nat) (line : Option Nat)
    (undo : List Undo) : State :=
  let old := s.per.replay
  let at_ := lineReplay s.replayPlace
  let s := s.addReplay { request := dRequest it.desc, verb := dVerb it.desc, status := status, outLen := outLen
                         result := result }
  s.commit (size + 32) (some (line.getD at_)) (some it.slot) (undo ++ [.replay old])

/-- The outcome of a class M or C item at check 12: replay entry, commit, result and output (R39, R436). -/
def State.finishM (s : State) (it : Item) (status detail : Nat) (result output : Bytes) (size : Nat) (line : Option Nat)
    (undo : List Undo) (waits : List Wait := []) : State :=
  (s.commitReplay it status output.length result size line undo).settle it.slot status detail output.length result output
    (.commit :: waits)

/-- TAKE (R131). -/
def execTake (core : Nat) (s : State) : Host.Outcome State Fault Refusal := .next (s.take core)

/-- The physical cluster an item runs in. -/
def State.physOfItem (s : State) (it : Item) : Nat :=
  match it.executor with
  | some (.core k) => s.phys (coreCluster k)
  | _ => 144

/-- A signature is asked of the warden's signer, which serves one at a time in order (R365). -/
def State.askSigner (s : State) (slot : Nat) : State :=
  if s.mea.signerItem == none then { s with mea.signerItem := some slot }
  else { s with mea.signerQueue := s.mea.signerQueue ++ [slot] }

/-- SIGNER_COMPLETE: the signature in progress is made and the next begins (R365). -/
def execSignerComplete (s : State) : Host.Outcome State Fault Refusal :=
  .next (match s.mea.signerItem with
    | none => s
    | some i =>
      let s := s.doneWaiting i .signer
      { s with mea.statements := wrap 32 (s.mea.statements + 1)
               mea.signerItem := s.mea.signerQueue.head?
               mea.signerQueue := s.mea.signerQueue.drop 1 })

/-- ITEM_FINISH: an item that waits for nothing more writes its output and finishes (R38, R39, R124). -/
def execItemFinish (slot : Nat) (s : State) : Host.Outcome State Fault Refusal :=
  .next (s.clocked <| match s.runningItem slot with
    | none => s
    | some it =>
      if it.phase == .waiting && it.waits.isEmpty then (s.writeOutput it).complete slot else s)

/-! ## Promotion and ageing (R135, R137) -/

/-- MUST_RUN_PROMOTE: the deferral clock of a READY item has reached DEFER_US (R135). -/
def execMustRunPromote (slot : Nat) (s : State) : Host.Outcome State Fault Refusal :=
  .next (s.clocked <| match s.item slot with
    | none => s
    | some it =>
      let isDue := match it.deferredSince with
        | some t => decide (s.m.now - t ≥ 4 * s.pat.deferUs)
        | none => false
      if it.state == .ready && isDue && !it.mustRun then
        ({ s.modItem slot (fun x => { x with mustRun := true }) with
          tnd.promoted := wrap 32 (s.tnd.promoted + 1) }).offerItem slot
      else s)

/-- AGE_PROMOTE: READY for 5 ms: to the tail of its slice's FIFO one priority higher, within the ceiling
(R137). -/
def execAgePromote (slot : Nat) (s : State) : Host.Outcome State Fault Refusal :=
  .next (s.clocked <| match s.item slot with
    | none => s
    | some it =>
      if it.state == .ready && decide (it.cls < 2) && decide (it.prio > s.ceilingOf it.slice) &&
        decide (s.m.now - it.readySince ≥ 20000) then
        let n := s.tnd.seqNo
        let s := { s.modItem slot (fun x => { x with prio := x.prio - 1, fifo := n, readySince := s.m.now }) with
          tnd.seqNo := n + 1, tnd.aged := wrap 32 (s.tnd.aged + 1) }
        s.syncRounds.offerItem slot
      else s)

/-! ## Delay entries that fall due (R146–R148) -/

/-- NOT_BEFORE_DUE (R146). -/
def execNotBeforeDue (slot : Nat) (s : State) : Host.Outcome State Fault Refusal :=
  .next (if s.servesNow (.notBefore slot) then (s.dropDelay (.notBefore slot)).undelay slot else s)

/-- RETRY_DUE: the item is READY again with the age it had when it was dispatched (R137, R147). -/
def execRetryDue (slot : Nat) (s : State) : Host.Outcome State Fault Refusal :=
  .next (if s.servesNow (.retry slot) then
      (((s.dropDelay (.retry slot)).modItem slot (fun x =>
        if x.state == .delayed then { x with state := .ready, readySince := s.m.now - x.age } else x)).syncRounds).offerItem slot
    else s)

/-- An item whose resource another running item holds returns to a delay list, or stays RUNNING where no
entry is free (R147). -/
def State.contend (s : State) (slot : Nat) : State :=
  if s.itemEntries < 64512 || s.reservedEntries < 960 then s.retryItem slot
  else s.modItem slot (fun x => { x with phase := .waiting, waits := [.resource] })

/-- RETRY_WAIT_POLL: after two ticks the waiting item takes a delay entry that has become free, or tries its
resource again (R147). -/
def execRetryWaitPoll (slot : Nat) (s : State) : Host.Outcome State Fault Refusal :=
  .next (s.clocked <| match s.runningItem slot with
    | none => s
    | some it =>
      if it.waits.contains Wait.resource then
        (s.modItem slot (fun x => { x with phase := .processing, waits := [] })).retryItem slot
      else s)

/-- A lockout leaves a slice record through the commit buffer (R148, R304, R307). -/
def State.dropLockout (s : State) (n : Nat) (tag : Bytes) (item : Option Nat) : State :=
  let old := s.slice n
  let s := s.modSlice n (fun x => { x with lockouts := x.lockouts.filter (fun l => !(l.1 == tag)) })
  s.commit 256 (if n = 0 then none else some (lineSlice n)) item [.slice n old]

/-- A delay of some µs in whole ticks, rounded up (R143). -/
def State.ticksOf (s : State) (us : Nat) : Nat := max 1 (ceilDiv (us * 4) (2 ^ s.pat.tickExp))

/-- The timer entry of a lockout on delay list 7, unless its time exceeds the longest delay of 2^32 ticks or
no item entry is free (R148, R305). -/
def State.armLockout (s : State) (n : Nat) (tag : Bytes) (us : Nat) : State :=
  let d := s.ticksOf us
  if d ≤ 2 ^ 32 && decide (s.itemEntries < 64512) then s.addDelay 7 d false (.pinLockout n tag) else s

/-- PIN_LOCKOUT_TIMER_DUE (R148). -/
def execPinLockoutTimerDue (slice : Nat) (tag : Bytes) (s : State) : Host.Outcome State Fault Refusal :=
  .next (if s.servesNow (.pinLockout slice tag) && !s.kst.pinHeld.any (fun p => p.1 == slice && p.2.1 == tag) then
      let s := s.dropDelay (.pinLockout slice tag)
      if (s.slice slice).lockouts.any (fun l => l.1 == tag) then s.dropLockout slice tag none else s
    else s)

end Sys2Proof.Machine
end

