-- ==== Sys2Proof/Machine/Chill.lean ====
section
/-!
DEFINITION. Chill: the update of every 10 µs, credit and pools, operating points, wakes, drains and thermal
gates (14_chill_governor.md).
-/
namespace Sys2Proof.Machine

/-- PPL_EFF in 0.1 W (R404). -/
def State.pplEff (s : State) : Nat :=
  if s.chl.pplCap ≠ 0 ∧ s.chl.pplCap < s.pat.ppl then s.chl.pplCap else s.pat.ppl

/-- The fastest operating point OP_CAP allows; 3 acts as 2 (R419). -/
def State.opCapEff (s : State) : Nat := min s.chl.opCap 2

/-- The fastest operating point a measured rail voltage in mV allows: OP1 below 0.76 V, OP2 below 0.72 V; a cap lifts only
once the voltage exceeds its threshold by 10 mV (R592). -/
def voltCapOf (was mv : Nat) : Nat :=
  if mv < 720 || (decide (was ≥ 2) && decide (mv < 730)) then 2
  else if mv < 760 || (decide (was ≥ 1) && decide (mv < 770)) then 1
  else 0

/-- The fastest operating point OP_CAP and the rail voltage allow a region (R413, R592). -/
def State.opCapOf (s : State) (g : Nat) : Nat := max s.opCapEff (s.region g).voltCap

/-- Regions that are ON, those in bring-up included (R406). -/
def State.regionsOn (s : State) : List Nat := s.liveRegions.filter (fun g => (s.region g).state == 2)

/-- THROTTLE_C in 0.25 °C. -/
def State.throttleQ (s : State) : Int := (4 * s.pat.throttleC : Nat)

/-- The thermal factor of a hottest temperature (0.25 °C) as a fraction (R406); 105 °C is 420. -/
def State.factorOf (s : State) (t : Int) : Nat × Nat :=
  let d := (420 - s.throttleQ).toNat
  if t < s.throttleQ then (1, 1)
  else if t ≥ 420 || d == 0 then (0, 1)
  else ((420 - t).toNat, d)

/-- The accrual A_r in nJ for a region of a given hottest temperature, with N regions ON; the division rounds
down (R406). -/
def State.accrual (s : State) (t : Int) (n staticMw : Nat) : Nat :=
  let f := s.factorOf t
  f.1 * (s.pplEff * 100 - staticMw) * 10 / (f.2 * max 1 n)

/-- Weights of the items running in a region (R_r of R407). -/
def State.runningWeight (s : State) (g : Nat) : Nat := (s.itemsInRegion g).foldl (fun w x => w + x.debited) 0

/-- Reconciliation of one region (R407); a region with a failed sensor by its debited weights alone (R414). -/
def State.reconcile (s : State) (g m : Nat) : State :=
  let r := s.region g
  let rr := s.runningWeight g
  if r.sensorFail then s.modRegion g (fun r => { r with pool := min r.pool rr })
  else
    let s := if m ≤ r.pool then s.modRegion g (fun r => { r with pool := r.pool - m })
      else (s.modRegion g (fun r => { r with pool := 0 })).addCredit g (-((m - r.pool : Nat) : Int))
    let p := (s.region g).pool
    if p > rr then (s.modRegion g (fun r => { r with pool := rr })).addCredit g ((p - rr : Nat) : Int) else s

/-- A region steps down to an operating point: counted and recorded (R413). -/
def State.stepDown (s : State) (g op : Nat) : State :=
  let r := s.region g
  if r.op ≥ op then s else
  let s := s.modRegion g (fun r => { r with op := op, lastOp := op, stepdowns := wrap 16 (r.stepdowns + 1) })
  ({ s with chl.stepdowns := wrap 32 (s.chl.stepdowns + 1) }).logEv 0x0403 (srcRegion g) 0xFFFF []

/-- The operating-point decisions for an ON region (R413). -/
def State.opDecision (s : State) (g : Nat) : State :=
  let r := s.region g
  let good := if r.credit ≥ 500000 && !r.mustrunSince then min 10 (r.goodUpdates + 1) else 0
  let s := s.modRegion g (fun r => { r with goodUpdates := good })
  let fastest := max (s.opCapOf g) (if r.sensorFail then 1 else 0)
  let s :=
    if r.hottest ≥ 420 then s.stepDown g 2
    else if r.mustrunSince || decide (r.credit < 0) then s.stepDown g (min 2 (r.op + 1))
    else if good ≥ 10 && decide (r.hottest < s.throttleQ) && decide (r.op > fastest) then
      s.modRegion g (fun r => { r with op := r.op - 1, lastOp := r.op - 1 })
    else s
  (s.stepDown g fastest).modRegion g (fun r => { r with mustrunSince := false })

/-- The telemetry of a region enters its registers; a newly failed sensor is recorded (R414). -/
def State.readRegion (s : State) (g : Nat) (x : RegionSense) : State :=
  let hot := x.sensors.foldl max (x.sensors.headD 100)
  let f := s.factorOf hot
  let fresh := !x.sensorOk && !(s.region g).sensorFail
  let s := s.modRegion g (fun r => { r with
    hottest := hot, sensors := x.sensors.map (fun t => t / 4)
    factor := f.1 * 128 / f.2
    dynMw := if r.state == 2 then x.dynamicNj / 10 else 0
    leakMw := x.leakMw
    energyNj := r.energyNj + x.dynamicNj + x.leakMw * 10
    sensorFail := r.sensorFail || !x.sensorOk
    timeOp := if r.state == 2 then modAt r.timeOp r.op (fun n => n + 1) else r.timeOp })
  if fresh then s.logEv 0x0404 (srcRegion g) 0xFFFF [] else s

/-- Thermal gating and its end (R417): 108 °C is 432, 95 °C is 380. -/
def State.thermalGate (s : State) (g : Nat) : State :=
  let r := s.region g
  if r.hottest ≥ 432 && r.state == 2 && !r.thermalGated then
    let s := (s.stepDown g 2).modRegion g (fun r => { r with thermalGated := true })
    let s := ({ s with chl.thermalGates := wrap 32 (s.chl.thermalGates + 1) }).logEv 0x0405 (srcRegion g) 0xFFFF []
    s.armIdle g
  else if r.thermalGated && decide (r.hottest ≤ 380) && r.state != 2 then
    s.modRegion g (fun r => { r with thermalGated := false })
  else s

/-- One region's part of an update (R405); the rail of its die caps its operating point (R592). -/
def State.updateRegion (s : State) (sense : ChillSense) (n : Nat) (g : Nat) : State :=
  let x := sense.regions.getD g {}
  let s := s.readRegion g x
  let s := if sense.railMv.isEmpty then s else
    s.modRegion g (fun r => { r with voltCap := voltCapOf r.voltCap (sense.railMv.getD (g / 4) 0) })
  if (s.region g).state == 2 then
    let s := s.reconcile g x.dynamicNj
    let s := s.addCredit g ((s.accrual (s.region g).hottest n sense.staticMw : Nat) : Int)
    (s.opDecision g).thermalGate g
  else s.thermalGate g

/-- READY items of a class that have waited 10 µs while no blocked core of an ON region could take them but
for credit (R136). -/
def State.demand (s : State) (cls : Nat) : Bool :=
  s.tnd.items.any (fun x => x.state == .ready && x.cls == cls && decide (s.m.now - x.readySince ≥ 40) &&
    (s.coresFor x).isEmpty)

/-- A region starts to wake, or holds its wake behind a drain (R415, R416, R24). -/
def State.wakeRegion (s : State) (g : Nat) (classA : Bool) : State :=
  if (s.region g).state == 3 then s.modRegion g (fun r => { r with state := 4, wakeClassA := some classA })
  else
    let s := s.modRegion g (fun r => { r with state := 1, wakeClassA := some classA, wakes := wrap 16 (r.wakes + 1) })
    { s with chl.wakes := wrap 32 (s.chl.wakes + 1) }

/-- The wake candidate of an update (R416): OFF or DRAINING, not thermally gated, on a die where no wake
started at this update; the coolest, then the lowest. -/
def State.wakeCandidate (s : State) (dies : List Nat) : Option Nat :=
  (sortBy (fun g => ((s.region g).hottest + 4000).toNat * 16 + g)
    (s.liveRegions.filter (fun g => s.stage.online.contains g && ((s.region g).state == 0 || (s.region g).state == 3) &&
      !(s.region g).thermalGated && !dies.contains (g / 4)))).head?

/-- The demand of one class is served (R416). `dies` are those where a wake started at this update. -/
def State.serveDemand (s : State) (classA : Bool) (staticMw : Nat) (dies : List Nat) : State × List Nat :=
  if !s.demand (if classA then 1 else 0) then (s, dies)
  else if s.liveRegions.any (fun g => ((s.region g).state == 1 || (s.region g).state == 4) &&
      (s.region g).wakeClassA == some classA) then (s, dies)
  else
    let n := s.regionsOn.length
    let budget := decide ((s.pplEff * 100 - staticMw) / (n + 1) ≥ 1000) || n == 0
    match s.wakeCandidate dies with
    | some g => if budget then (s.wakeRegion g classA, dies ++ [g / 4]) else (s, dies)
    | none => (s, dies)

/-- Work is offered again to the blocked cores of a region whose credit changed (R136). -/
def State.reoffer (s : State) (g : Nat) : State :=
  let r := s.region g
  if r.credit = r.creditWas then s else
  let s := s.modRegion g (fun r => { r with creditWas := r.credit })
  (s.tnd.blocked.filter (fun k => k / 32 == g)).foldl (fun s k => s.take k) s

/-- The package figures of an update (R406, R419, R577). -/
def State.packageFigures (s : State) (x : ChillSense) : State :=
  let on := s.liveRegions.filter (fun g => [1, 2, 3].contains (s.region g).state)
  let top := (sortBy (fun g => (100000 - (s.region g).hottest).toNat) on).head?
  let win := (x.packageMw :: s.chl.powerWindow).take 100
  let high := decide (x.staticMw ≥ s.pplEff * 100)
  let was := s.chl.staticOver
  let s := { s with
    chl.pStatic := min 0xFFFF (x.staticMw / 100)
    chl.powerWindow := win
    chl.pkgPower := min 0xFFFF (win.foldl (· + ·) 0 / (win.length * 100))
    chl.staticOver := high
    chl.hottest := match top with
      | some g => (s.region g).hottest
      | none => x.temps.foldl max (x.temps.headD 0)
    chl.hottestRegion := top.getD 0
    chl.noRegion := top.isNone
    chl.energyNj := s.chl.energyNj + x.packageMw * 10
    gds.temps := (x.temps ++ [0, 0, 0, 0, 0]).take 5
    gds.railMv := if x.railMv.isEmpty then s.gds.railMv else x.railMv.take 14
    gds.railMa := if x.railMa.isEmpty then s.gds.railMa else x.railMa.take 14
    gds.sysclkKhz := x.sysclkKhz, gds.guardKhz := x.guardKhz, gds.refclk := x.refclk }
  if high && !was then s.logH 0x0401 [] else s

/-- Some region is throttled or thermally gated (R414, R419). -/
def State.throttling (s : State) : Bool :=
  s.liveRegions.any (fun g => (s.region g).thermalGated || decide ((s.region g).factor < 128 ∧ (s.region g).state = 2))

/-- CHILL_UPDATE (R405). -/
def execChillUpdate (sense : ChillSense) (s : State) : Host.Outcome State Fault Refusal :=
  .next (if !s.chl.updating || s.halted then s else
    let s := s.packageFigures sense
    let n := s.regionsOn.length
    let s := (List.range 16).foldl (fun s g =>
      if s.liveRegions.contains g then s.updateRegion sense n g else s) s
    let s := if s.throttling then s.alert 16 else s
    let a := s.serveDemand true sense.staticMw []
    let b := a.1.serveDemand false sense.staticMw a.2
    let s := b.1
    let s := { s with tnd.wakeDemand := s.demand 0 || s.demand 1, tnd.wakeA := s.demand 1 }
    s.liveRegions.foldl (fun s g => s.reoffer g) s)

/-- Pending substitutions of a region are applied at its wake (R20). -/
def State.applySubst (s : State) (g : Nat) : State :=
  let mine := s.fabric.subst.filter (fun p => p.1 / 8 == g)
  let s := { s with fabric.subst := s.fabric.subst.filter (fun p => !(p.1 / 8 == g)) }
  mine.foldl (fun s p => s.setSlot p.1 (some p.2)) s

/-- The clusters of a region come up: transport keys delivered, BNU DRBGs instantiated (R61, R179, R415). -/
def State.lightClusters (s : State) (g : Nat) : State :=
  (List.range 8).foldl (fun s i =>
    let l := 8 * g + i
    if s.present l then
      s.modCluster (s.phys l) (fun c => { c with transport := s.transportKey l, bnuReseeded := s.m.now, bnuRequests := 0 })
    else s) s

/-- A region is ON with credit A_r and an empty pool (R408, R415). -/
def State.regionOn (s : State) (g : Nat) : State :=
  let s := s.applySubst g
  let s := s.modRegion g (fun r => { r with state := 2 })
  let a := s.accrual (s.region g).hottest s.regionsOn.length (s.chl.pStatic * 100)
  let op := max (s.region g).lastOp (s.opCapOf g)
  (s.modRegion g (fun r => { r with credit := min 1000000 (a : Int), creditWas := 0, pool := 0, op := op, lastOp := op,
                                    wakeClassA := none, pllLock := [true, true, true] })).lightClusters g

/-- REGION_WAKE_COMPLETE (R415). -/
def execRegionWakeComplete (region : Nat) (s : State) : Host.Outcome State Fault Refusal :=
  .next (s.clocked <| if s.liveRegions.contains region && (s.region region).state == 1 then (s.regionOn region).offerAll else s)

/-- REGION_DRAIN_COMPLETE: OFF, or the held wake starts (R415, R24). -/
def execRegionDrainComplete (region : Nat) (s : State) : Host.Outcome State Fault Refusal :=
  .next (s.clocked <|
    let r := s.region region
    if !(r.state == 3 || r.state == 4) then s else
    let s := { s.modRegion region (fun r => { r with pllLock := [false, false, false] }) with
      chl.gates := wrap 32 (s.chl.gates + 1) }
    if r.state = 4 then
      let s := s.modRegion region (fun r => { r with state := 1, wakes := wrap 16 (r.wakes + 1) })
      { s with chl.wakes := wrap 32 (s.chl.wakes + 1) }
    else s.modRegion region (fun r => { r with state := 0 }))

/-- REGION_IDLE_TIMER_DUE (R415). -/
def execRegionIdleTimerDue (region : Nat) (s : State) : Host.Outcome State Fault Refusal :=
  .next (s.clocked <| if s.servesNow (.regionIdle region) then
      let s := s.dropDelay (.regionIdle region)
      if (s.region region).state == 2 && (s.itemsInRegion region).isEmpty then s.beginDrain region else s
    else s)

/-- A running item's true weight is known (R411): the difference is debited from its region's credit and added
to its pool, or refunded. -/
def State.trueWeight (s : State) (slot w : Nat) : State :=
  match s.item slot with
  | none => s
  | some it =>
    match it.executor with
    | some (.core k) =>
      let g := k / 32
      let w := min w 1000000
      let s := s.addCredit g ((it.debited : Int) - (w : Int))
      let s := s.modRegion g (fun r => { r with pool := r.pool + w - it.debited })
      s.modItem slot (fun x => { x with weight := w, debited := w })
    | _ => s

end Sys2Proof.Machine
end

