-- ==== Sys2Proof/Machine/Des.lean ====
section
/-!
DEFINITION. DES and TDES (SP 800-67), the retail MAC (ISO/IEC 9797-1 algorithm 3). The manual names the
standards and not their tables; the tables are PRESUMED from the standards (assumption log 4).
Blocks and keys are worked as numbers, bit 1 of the standard being the most significant bit.
-/
namespace Sys2Proof.Machine

/-- The bits of a `w`-bit number chosen by a table of positions counted from 1 at the top. -/
def desPick (w : Nat) (t : List Nat) (v : Nat) : Nat :=
  t.foldl (fun a p => 2 * a + b2n (v.testBit (w - p))) 0

/-- Initial permutation: rows of one bit position across the bytes. -/
def desIP : List Nat :=
  ([58, 60, 62, 64, 57, 59, 61, 63].map (fun r => (List.range 8).map (fun j => r - 8 * j))).flatten

/-- Final permutation: the inverse of the initial one. -/
def desFP : List Nat := (List.range 64).map (fun i => desIP.idxOf (i + 1) + 1)

/-- Expansion of a half block to 48 bits. -/
def desE : List Nat :=
  ((List.range 8).map (fun r => (List.range 6).map (fun j => (4 * r + j + 31) % 32 + 1))).flatten

/-- Permutation after the S-boxes. -/
def desP : List Nat :=
  [16, 7, 20, 21, 29, 12, 28, 17, 1, 15, 23, 26, 5, 18, 31, 10,
   2, 8, 24, 14, 32, 27, 3, 9, 19, 13, 30, 6, 22, 11, 4, 25]

/-- Permuted choice 1. -/
def desPC1 : List Nat :=
  [57, 49, 41, 33, 25, 17, 9, 1, 58, 50, 42, 34, 26, 18, 10, 2, 59, 51, 43, 35, 27, 19, 11, 3, 60,
   52, 44, 36, 63, 55, 47, 39, 31, 23, 15, 7, 62, 54, 46, 38, 30, 22, 14, 6, 61, 53, 45, 37, 29,
   21, 13, 5, 28, 20, 12, 4]

/-- Permuted choice 2. -/
def desPC2 : List Nat :=
  [14, 17, 11, 24, 1, 5, 3, 28, 15, 6, 21, 10, 23, 19, 12, 4, 26, 8, 16, 7, 27, 20, 13, 2, 41, 52,
   31, 37, 47, 55, 30, 40, 51, 45, 33, 48, 44, 49, 39, 56, 34, 53, 46, 42, 50, 36, 29, 32]

/-- The eight S-boxes, each as 64 hexadecimal digits: four rows of sixteen. -/
def desS : List Nat :=
  [0xE4D12FB83A6C59070F74E2D1A6CB953841E8D62BFC973A50FC8249175B3EA06D,
   0xF18E6B34972DC05A3D47F28EC01A69B50E7BA4D158C6932FD8A13F42B67C05E9,
   0xA09E63F51DC7B428D709346A285ECBF1D6498F30B12C5AE71AD069874FE3B52C,
   0x7DE3069A1285BC4FD8B56F03472C1AE9A690CB7DF13E52843F06A1D8945BC72E,
   0x2C417AB6853FD0E9EB2C47D150FA3986421BAD78F9C5630EB8C71E2D6F09A453,
   0xC1AF92680D34E75BAF427C9561DE0B389EF528C3704A1DB6432C95FABE17608D,
   0x4B2EF08D3C975A61D0B7491AE35C2F8614BDC37EAF6805926BD814A7950FE23C,
   0xD2846FB1A93E50C71FD8A374C56B0E927B419CE206ADF35821E74A8DFC90356B]

/-- S-box `i` of a 6-bit group: the outer bits choose the row, the inner ones the column. -/
def desSbox (i g : Nat) : Nat :=
  let row := 2 * (g / 32 % 2) + g % 2
  let col := g / 2 % 16
  desS.getD i 0 / 16 ^ (63 - (16 * row + col)) % 16

/-- The round function. -/
def desF (r k : Nat) : Nat :=
  let x := desPick 32 desE r ^^^ k
  desPick 32 desP
    ((List.range 8).foldl (fun a i => 16 * a + desSbox i (x / 64 ^ (7 - i) % 64)) 0)

/-- Left rotation of a 28-bit half key. -/
def rot28 (v n : Nat) : Nat := (v * 2 ^ n + v / 2 ^ (28 - n)) % 2 ^ 28

/-- The sixteen round keys of an 8-byte key; parity bits are not used. -/
def desKeys (key : Bytes) : List Nat :=
  let cd := desPick 64 desPC1 (ofBE key)
  let sh := [1, 1, 2, 2, 2, 2, 2, 2, 1, 2, 2, 2, 2, 2, 2, 1]
  (sh.foldl (fun (p : Nat × Nat × List Nat) n =>
    let c := rot28 p.1 n; let d := rot28 p.2.1 n
    (c, d, p.2.2 ++ [desPick 56 desPC2 (c * 2 ^ 28 + d)])) (cd / 2 ^ 28, cd % 2 ^ 28, [])).2.2

/-- DES of one 8-byte block with round keys in the order given. -/
def desBlock (ks : List Nat) (b : Bytes) : Bytes :=
  let v := desPick 64 desIP (ofBE b)
  let r := ks.foldl (fun (p : Nat × Nat) k => (p.2, p.1 ^^^ desF p.2 k)) (v / 2 ^ 32, v % 2 ^ 32)
  be 8 (desPick 64 desFP (r.2 * 2 ^ 32 + r.1))

/-- The three DES keys of a TDES key of 8, 16 or 24 bytes. -/
def tdesParts (key : Bytes) : Bytes × Bytes × Bytes :=
  match key.length with
  | 24 => (sub key 0 8, sub key 8 8, sub key 16 8)
  | 16 => (sub key 0 8, sub key 8 8, sub key 0 8)
  | _ => (fit 8 key, fit 8 key, fit 8 key)

/-- TDES encryption of one 8-byte block: E(K3, D(K2, E(K1, b))). -/
def tdesEnc (key b : Bytes) : Bytes :=
  let p := tdesParts key
  desBlock (desKeys p.2.2) (desBlock (desKeys p.2.1).reverse (desBlock (desKeys p.1) b))

/-- TDES decryption of one 8-byte block. -/
def tdesDec (key b : Bytes) : Bytes :=
  let p := tdesParts key
  desBlock (desKeys p.1).reverse (desBlock (desKeys p.2.1) (desBlock (desKeys p.2.2).reverse b))

/-- CMAC over TDES. -/
def cmacTdes (key m : Bytes) : Bytes := cmacWith (tdesEnc key) 8 m

/-- ISO/IEC 9797-1 MAC algorithm 3 over DES with a double-length key, on a message already padded. -/
def retailMac (key m : Bytes) : Bytes :=
  let k1 := desKeys (sub key 0 8)
  let h := (blocksOf 8 m).foldl (fun c b => desBlock k1 (xorB c b)) (zeros 8)
  desBlock k1 (desBlock (desKeys (sub key 8 8)).reverse h)

/-- Every byte of a DES key given odd parity. -/
def oddParity (k : Bytes) : Bytes :=
  k.map (fun b =>
    let ones := (List.range 8).foldl (fun n i => if i > 0 ∧ b.getLsbD i then n + 1 else n) 0
    if ones % 2 = 0 then b ||| 1 else b &&& 0xFE)

end Sys2Proof.Machine
end

