-- ==== Sys2Proof/Machine/Ec.lean ====
section
/-!
DEFINITION. Modular arithmetic, elliptic curves over prime fields, ECDSA, and RSA's modular power. The
manual names the curves and standards; the domain parameters are PRESUMED from them (assumption log 4).
-/
namespace Sys2Proof.Machine

/-- `b ^ e mod m`, by the bits of the exponent (`fuel` is their number). -/
def powModAux (m : Nat) : Nat → Nat → Nat → Nat → Nat
  | 0, _, _, acc => acc
  | fuel + 1, b, e, acc =>
    powModAux m fuel (b * b % m) (e / 2) (if e % 2 = 1 then acc * b % m else acc)

/-- `b ^ e mod m`. -/
def powMod (b e m : Nat) : Nat := powModAux m (Nat.log2 e + 1) (b % m) e (1 % m)

/-- One step of the extended Euclidean algorithm. -/
def invModAux : Nat → Int → Int → Int → Int → Int
  | 0, _, _, x, _ => x
  | fuel + 1, a, b, x, y => if b = 0 then x else invModAux fuel b (a % b) y (x - a / b * y)

/-- Inverse modulo `m` of a number prime to it. -/
def invMod (a m : Nat) : Nat :=
  (invModAux (2 * Nat.log2 m + 4) (a % m : Nat) m 1 0 % m).toNat

/-- A short Weierstrass curve over a prime field. -/
structure Curve where
  /-- field prime -/
  p : Nat
  /-- coefficient a -/
  a : Nat
  /-- coefficient b -/
  b : Nat
  /-- generator x -/
  gx : Nat
  /-- generator y -/
  gy : Nat
  /-- order of the generator -/
  n : Nat
  /-- bytes of a coordinate -/
  len : Nat
  deriving DecidableEq, Repr

/-- An affine point, none at infinity. -/
abbrev Pt := Option (Nat × Nat)

/-- NIST P-256. -/
def p256 : Curve :=
  { p := 0xffffffff00000001000000000000000000000000ffffffffffffffffffffffff
    a := 0xffffffff00000001000000000000000000000000fffffffffffffffffffffffc
    b := 0x5ac635d8aa3a93e7b3ebbd55769886bc651d06b0cc53b0f63bce3c3e27d2604b
    gx := 0x6b17d1f2e12c4247f8bce6e563a440f277037d812deb33a0f4a13945d898c296
    gy := 0x4fe342e2fe1a7f9b8ee7eb4a7c0f9e162bce33576b315ececbb6406837bf51f5
    n := 0xffffffff00000000ffffffffffffffffbce6faada7179e84f3b9cac2fc632551
    len := 32 }

/-- NIST P-384. -/
def p384 : Curve :=
  { p := 2 ^ 384 - 2 ^ 128 - 2 ^ 96 + 2 ^ 32 - 1
    a := 2 ^ 384 - 2 ^ 128 - 2 ^ 96 + 2 ^ 32 - 4
    b := 0xb3312fa7e23ee7e4988e056be3f82d19181d9c6efe8141120314088f5013875ac656398d8a2ed19d2a85c8edd3ec2aef
    gx := 0xaa87ca22be8b05378eb1c71ef320ad746e1d3b628ba79b9859f741e082542a385502f25dbf55296c3a545e3872760ab7
    gy := 0x3617de4a96262c6f5d9e98bf9292dc29f8f41dbd289a147ce9da3113b5f0b8c00a60b1ce1d7e819d7a431d7c90ea0e5f
    n := 0xffffffffffffffffffffffffffffffffffffffffffffffffc7634d81f4372ddf581a0db248b0a77aecec196accc52973
    len := 48 }

/-- NIST P-521. -/
def p521 : Curve :=
  { p := 2 ^ 521 - 1
    a := 2 ^ 521 - 4
    b := 0x0051953eb9618e1c9a1f929a21a0b68540eea2da725b99b315f3b8b489918ef109e156193951ec7e937b1652c0bd3bb1bf073573df883d2c34f1ef451fd46b503f00
    gx := 0x00c6858e06b70404e9cd9e3ecb662395b4429c648139053fb521f828af606b4d3dbaa14b5e77efe75928fe1dc127a2ffa8de3348b3c1856a429bf97e7e31c2e5bd66
    gy := 0x011839296a789a3bc0045c8a5fb42c7d1bd998f54449579b446817afbd17273e662c97ee72995ef42640c550b9013fad0761353c7086a272c24088be94769fd16650
    n := 2 ^ 521 - 2 ^ 264 + 0xfa51868783bf2f966b7fcc0148f709a5d03bb5c9b8899c47aebb6fb71e91386409
    len := 66 }

/-- brainpoolP256r1 (RFC 5639). -/
def bp256 : Curve :=
  { p := 0xa9fb57dba1eea9bc3e660a909d838d726e3bf623d52620282013481d1f6e5377
    a := 0x7d5a0975fc2c3057eef67530417affe7fb8055c126dc5c6ce94a4b44f330b5d9
    b := 0x26dc5c6ce94a4b44f330b5d9bbd77cbf958416295cf7e1ce6bccdc18ff8c07b6
    gx := 0x8bd2aeb9cb7e57cb2c4b482ffc81b7afb9de27e1e3bd23c23a4453bd9ace3262
    gy := 0x547ef835c3dac4fd97f8461a14611dc9c27745132ded8e545c1d54c72f046997
    n := 0xa9fb57dba1eea9bc3e660a909d838d718c397aa3b561a6f7901e0e82974856a7
    len := 32 }

/-- brainpoolP384r1 (RFC 5639). -/
def bp384 : Curve :=
  { p := 0x8cb91e82a3386d280f5d6f7e50e641df152f7109ed5456b412b1da197fb71123acd3a729901d1a71874700133107ec53
    a := 0x7bc382c63d8c150c3c72080ace05afa0c2bea28e4fb22787139165efba91f90f8aa5814a503ad4eb04a8c7dd22ce2826
    b := 0x04a8c7dd22ce28268b39b55416f0447c2fb77de107dcd2a62e880ea53eeb62d57cb4390295dbc9943ab78696fa504c11
    gx := 0x1d1c64f068cf45ffa2a63a81b7c13f6b8847a3e77ef14fe3db7fcafe0cbd10e8e826e03436d646aaef87b2e247d4af1e
    gy := 0x8abe1d7520f9c2a45cb1eb8e95cfd55262b70b29feec5864e19c054ff99129280e4646217791811142820341263c5315
    n := 0x8cb91e82a3386d280f5d6f7e50e641df152f7109ed5456b31f166e6cac0425a7cf3ab6af6b7fc3103b883202e9046565
    len := 48 }

/-- A point lies on the curve. -/
def Curve.on (c : Curve) (x y : Nat) : Bool :=
  x < c.p && y < c.p && y * y % c.p == (x * x % c.p * x + c.a * x + c.b) % c.p

/-- A point in Jacobian coordinates X, Y, Z, reduced: the affine (X ÷ Z², Y ÷ Z³); the identity where Z is 0. -/
abbrev JPt := Nat × Nat × Nat

/-- A point in Jacobian coordinates. -/
def toJacobian (P : Pt) : JPt :=
  match P with
  | none => (1, 1, 0)
  | some q => (q.1, q.2, 1)

/-- The affine point of Jacobian coordinates. -/
def Curve.affine (c : Curve) (P : JPt) : Pt :=
  if P.2.2 = 0 then none
  else
    let i := invMod P.2.2 c.p
    let ii := i * i % c.p
    some (P.1 * ii % c.p, P.2.1 * ii % c.p * i % c.p)

/-- Double of a point. -/
def Curve.double (c : Curve) (P : JPt) : JPt :=
  let p := c.p
  if P.2.2 = 0 ∨ P.2.1 = 0 then (1, 1, 0)
  else
    let yy := P.2.1 * P.2.1 % p
    let s := 4 * P.1 * yy % p
    let zz := P.2.2 * P.2.2 % p
    let m := (3 * P.1 * P.1 + c.a * (zz * zz % p)) % p
    let x := (m * m + 2 * p - 2 * s) % p
    (x, (m * (s + p - x) + 8 * p * p - 8 * yy * yy) % p, 2 * P.2.1 * P.2.2 % p)

/-- Sum of two points. -/
def Curve.add (c : Curve) (P Q : JPt) : JPt :=
  let p := c.p
  if P.2.2 = 0 then Q
  else if Q.2.2 = 0 then P
  else
    let z1 := P.2.2 * P.2.2 % p
    let z2 := Q.2.2 * Q.2.2 % p
    let u1 := P.1 * z2 % p
    let s1 := P.2.1 * z2 % p * Q.2.2 % p
    let h := (Q.1 * z1 + p - u1) % p
    let r := (Q.2.1 * z1 % p * P.2.2 + p - s1) % p
    if h = 0 then (if r = 0 then c.double P else (1, 1, 0))
    else
      let hh := h * h % p
      let v := u1 * hh % p
      let w := hh * h % p
      let x := (r * r + 3 * p - w - 2 * v) % p
      (x, (r * (v + p - x) + p * p - s1 * w) % p, P.2.2 * Q.2.2 % p * h % p)

/-- Scalar multiple, by the bits of the scalar. -/
def Curve.mulAux (c : Curve) : Nat → Nat → JPt → JPt → JPt
  | 0, _, _, acc => acc
  | fuel + 1, k, P, acc =>
    c.mulAux fuel (k / 2) (c.double P) (if k % 2 = 1 then c.add acc P else acc)

/-- Scalar multiple of a point, in Jacobian coordinates. -/
def Curve.mulJ (c : Curve) (k : Nat) (P : Pt) : JPt := c.mulAux (Nat.log2 k + 1) k (toJacobian P) (1, 1, 0)

/-- Scalar multiple of a point. -/
def Curve.mul (c : Curve) (k : Nat) (P : Pt) : Pt := c.affine (c.mulJ k P)

/-- The generator. -/
def Curve.g (c : Curve) : Pt := some (c.gx, c.gy)

/-- The integer a digest stands for: its leftmost bits up to the order's length (FIPS 186-5). -/
def Curve.digestInt (c : Curve) (h : Bytes) : Nat :=
  let z := ofBE h
  let nb := Nat.log2 c.n + 1
  if 8 * h.length > nb then z / 2 ^ (8 * h.length - nb) else z

/-- ECDSA verification of (r, s) over a digest under the public point (FIPS 186-5). -/
def Curve.verify (c : Curve) (qx qy : Nat) (h : Bytes) (r s : Nat) : Bool :=
  if r = 0 ∨ s = 0 ∨ r ≥ c.n ∨ s ≥ c.n ∨ !c.on qx qy then false
  else
    let w := invMod s c.n
    let z := c.digestInt h
    match c.affine (c.add (c.mulJ (z * w % c.n) c.g) (c.mulJ (r * w % c.n) (some (qx, qy)))) with
    | none => false
    | some (x, _) => x % c.n == r

/-- ECDSA signature (r, s) of a digest with private scalar d and per-message scalar k (FIPS 186-5). -/
def Curve.sign (c : Curve) (d k : Nat) (h : Bytes) : Nat × Nat :=
  match c.mul k c.g with
  | none => (0, 0)
  | some (x, _) =>
    let r := x % c.n
    (r, invMod k c.n * (c.digestInt h + r * d) % c.n)

/-- r ‖ s as two coordinates, big-endian. -/
def Curve.sigBytes (c : Curve) (rs : Nat × Nat) : Bytes := be c.len rs.1 ++ be c.len rs.2

/-- The uncompressed point 0x04 ‖ X ‖ Y of a scalar. -/
def Curve.pubBytes (c : Curve) (d : Nat) : Bytes :=
  match c.mul d c.g with
  | none => [0]
  | some (x, y) => [4] ++ be c.len x ++ be c.len y

/-- The Weierstrass curve of an algorithm code (R216). -/
def curveOf (alg : Nat) : Option Curve :=
  match alg with
  | 0x20 => some p256 | 0x21 => some p384 | 0x22 => some p521
  | 0x23 => some bp256 | 0x24 => some bp384 | _ => none

/-- A point given as octets: uncompressed, or compressed where X has a square root (R178, R188); none where it
is not a point of the curve. Every field prime here is 3 modulo 4. -/
def Curve.decodePoint (c : Curve) (b : Bytes) : Option (Nat × Nat) :=
  let x := ofBE (sub b 1 c.len)
  if byteAt b 0 = 4 ∧ b.length = 1 + 2 * c.len then
    let y := ofBE (sub b (1 + c.len) c.len)
    if c.on x y then some (x, y) else none
  else if (byteAt b 0 = 2 ∨ byteAt b 0 = 3) ∧ b.length = 1 + c.len then
    let y := powMod (x * x % c.p * x + c.a * x + c.b) ((c.p + 1) / 4) c.p
    let y := if y % 2 = byteAt b 0 % 2 then y else c.p - y
    if c.on x y then some (x, y) else none
  else none

/-- Rejection sampling of RFC 6979 over HMAC, from key and value registers; 0 where `fuel` tries are all rejected, which the
BNU meets as a nonce that comes out 0. -/
def nonceLoop (hm : Bytes → Bytes → Bytes) (len n : Nat) : Nat → Bytes → Bytes → Nat
  | 0, _, _ => 0
  | fuel + 1, k, v =>
    let v1 := hm k v
    let v2 := hm k v1
    let t := if len ≤ v1.length then v1 else v1 ++ v2
    let last := if len ≤ v1.length then v1 else v2
    let bits := Nat.log2 n + 1
    let c := ofBE (t.take len) / 2 ^ (8 * len - bits)
    if 1 ≤ c ∧ c < n then c
    else
      let k2 := hm k (last ++ [0])
      nonceLoop hm len n fuel k2 (hm k2 last)

/-- The ECDSA nonce: RFC 6979 with `extra` as additional input (R179). -/
def Curve.nonce (c : Curve) (hm : Bytes → Bytes → Bytes) (hl d : Nat) (h extra : Bytes) : Nat :=
  let v : Bytes := List.replicate hl 1
  let m := be c.len d ++ be c.len (c.digestInt h % c.n) ++ extra
  let k := hm (zeros hl) (v ++ [0] ++ m)
  let v := hm k v
  let k := hm k (v ++ [1] ++ m)
  nonceLoop hm c.len c.n (2 ^ 64) k (hm k v)

/-! ## Curve25519 and Edwards25519 (RFC 7748, RFC 8032) -/

/-- The field prime 2²⁵⁵ − 19. -/
def p25519 : Nat := 2 ^ 255 - 19

/-- The order of the Edwards25519 base point. -/
def l25519 : Nat := 2 ^ 252 + 27742317777372353535851937790883648493

/-- One step of the Montgomery ladder on (x2 : z2), (x3 : z3) with the base u (RFC 7748). -/
def ladderStep (u : Nat) (s : (Nat × Nat) × (Nat × Nat)) (b : Bool) : (Nat × Nat) × (Nat × Nat) :=
  let p := p25519
  let s := if b then (s.2, s.1) else s
  let x2 := s.1.1
  let z2 := s.1.2
  let x3 := s.2.1
  let z3 := s.2.2
  let a := (x2 + z2) % p
  let aa := a * a % p
  let bb0 := (x2 + p - z2) % p
  let bb := bb0 * bb0 % p
  let e := (aa + p - bb) % p
  let c := (x3 + z3) % p
  let d := (x3 + p - z3) % p
  let da := d * a % p
  let cb := c * bb0 % p
  let y3 := (da + cb) * (da + cb) % p
  let w3 := (da + p - cb) * (da + p - cb) % p * u % p
  let r := ((aa * bb % p, e * (aa + 121665 * e) % p), (y3, w3))
  if b then (r.2, r.1) else r

/-- X25519 of a 32-byte scalar and u-coordinate, its top bit masked and the value reduced (R178). -/
def x25519 (k u : Bytes) : Bytes :=
  let k := ofLE (fit 32 k)
  let k := k - k % 8
  let k := k % 2 ^ 254 + 2 ^ 254
  let u := ofLE (fit 32 u) % 2 ^ 255 % p25519
  let r := (List.range 255).reverse.foldl (fun s i => ladderStep u s (k.testBit i)) ((1, 0), (u, 1))
  le 32 (r.1.1 * powMod r.1.2 (p25519 - 2) p25519 % p25519)

/-- u is the coordinate of a point of order 1, 2, 4 or 8 on Curve25519 or its twist: the result of multiplying
by 8 is the identity or a point of order 2 at most (R188). -/
def lowOrderU (u : Bytes) : Bool :=
  let u := ofLE (fit 32 u) % 2 ^ 255 % p25519
  [0, 1, p25519 - 1, 325606250916557431795983626356110631294008115727848805560023387167927233504,
    39382357235489614581723060781553021112529911719440698176882885853963445705823].contains u

/-- The Edwards coefficient d = −121665 ÷ 121666. -/
def d25519 : Nat := (p25519 - 121665) * invMod 121666 p25519 % p25519

/-- A point of Edwards25519 in projective coordinates X, Y, Z. -/
abbrev EdPt := Nat × Nat × Nat

/-- Sum of two Edwards points (RFC 8032, projective). -/
def edAdd (a b : EdPt) : EdPt :=
  let p := p25519
  let z := a.2.2 * b.2.2 % p
  let zz := z * z % p
  let c := a.1 * b.1 % p
  let d := a.2.1 * b.2.1 % p
  let e := d25519 * c % p * d % p
  let f := (zz + p - e) % p
  let g := (zz + e) % p
  let x := z * f % p * (((a.1 + a.2.1) * (b.1 + b.2.1) + 2 * p * p - c - d) % p) % p
  (x, z * g % p * ((d + c) % p) % p, f * g % p)

/-- Scalar multiple of an Edwards point. -/
def edMulAux : Nat → Nat → EdPt → EdPt → EdPt
  | 0, _, _, acc => acc
  | fuel + 1, k, q, acc => edMulAux fuel (k / 2) (edAdd q q) (if k % 2 = 1 then edAdd acc q else acc)

/-- Scalar multiple of an Edwards point. -/
def edMul (k : Nat) (q : EdPt) : EdPt := edMulAux (Nat.log2 k + 1) k q (0, 1, 1)

/-- The encoding of an Edwards point. -/
def edEncode (a : EdPt) : Bytes :=
  let zi := powMod a.2.2 (p25519 - 2) p25519
  let x := a.1 * zi % p25519
  let y := a.2.1 * zi % p25519
  le 32 (y + (x % 2) * 2 ^ 255)

/-- The point an encoding stands for; none where it does not decode or y is at or above p (R188). -/
def edDecode (b : Bytes) : Option EdPt :=
  let p := p25519
  let v := ofLE (fit 32 b)
  let y := v % 2 ^ 255
  if y ≥ p then none
  else
    let u := (y * y + p - 1) % p
    let w := (d25519 * (y * y % p) + 1) % p
    let x2 := u * powMod w (p - 2) p % p
    let x := powMod x2 ((p + 3) / 8) p
    let x := if x * x % p = x2 then x else x * powMod 2 ((p - 1) / 4) p % p
    if x * x % p ≠ x2 then none
    else if x = 0 ∧ v ≥ 2 ^ 255 then none
    else some (if x % 2 = v / 2 ^ 255 then x else p - x, y, 1)

/-- The base point: y = 4 ÷ 5, x even. -/
def edBase : EdPt := (edDecode (le 32 (4 * invMod 5 p25519 % p25519))).getD (0, 1, 1)

/-- The identity, whatever its Z. -/
def edZero (a : EdPt) : Bool := a.1 % p25519 == 0 && a.2.1 % p25519 == a.2.2 % p25519

/-- A point of small order: eight times it is the identity. -/
def edSmall (a : EdPt) : Bool := edZero (edMul 8 a)

/-- The secret scalar and prefix of a seed (RFC 8032). -/
def edSecret (seed : Bytes) : Nat × Bytes :=
  let h := sha512 (fit 32 seed)
  let a := ofLE (h.take 32)
  let a := (a - a % 8) % 2 ^ 254 + 2 ^ 254
  (a, h.drop 32)

/-- The public key of a seed. -/
def edPublic (seed : Bytes) : Bytes := edEncode (edMul (edSecret seed).1 edBase)

/-- Ed25519 signature (RFC 8032). -/
def edSign (seed m : Bytes) : Bytes :=
  let s := edSecret seed
  let pub := edPublic seed
  let r := ofLE (sha512 (s.2 ++ m)) % l25519
  let R := edEncode (edMul r edBase)
  let h := ofLE (sha512 (R ++ pub ++ m)) % l25519
  R ++ le 32 ((r + h * s.1) % l25519)

/-- Ed25519 verification past the edge checks: S·B = R + h·A (RFC 8032). -/
def edVerify (A R : EdPt) (pub sig m : Bytes) : Bool :=
  let S := ofLE (sub sig 32 32)
  let h := ofLE (sha512 (sub sig 0 32 ++ pub ++ m)) % l25519
  edEncode (edMul S edBase) == edEncode (edAdd R (edMul h A))

end Sys2Proof.Machine
end

