-- ==== Sys2Proof/Machine/Rsa.lean ====
section
/-!
DEFINITION. RSA encodings of RFC 8017 as the BNU makes them (R175, R177, R190), over SHA-1 and SHA-2.
-/
namespace Sys2Proof.Machine

/-- The hash of a HASH code of R270: 1 SHA-256, 2 SHA-384, 3 SHA-512, 4 SHA-1. -/
def hashOf (h : Nat) (m : Bytes) : Bytes :=
  match h with
  | 1 => sha256 m | 2 => sha384 m | 3 => sha512 m | 4 => sha1 m | _ => []

/-- Length of a HASH code's digest. -/
def hashBytes (h : Nat) : Nat :=
  match h with
  | 1 => 32 | 2 => 48 | 3 => 64 | 4 => 20 | _ => 0

/-- HMAC with a HASH code of R270. -/
def hmacOf (h : Nat) (key m : Bytes) : Bytes :=
  match h with
  | 1 => hmacWith sha256 64 key m
  | 2 => hmacWith sha384 128 key m
  | 3 => hmacWith sha512 128 key m
  | 4 => hmacWith sha1 64 key m
  | _ => []

/-- DigestInfo prefix of a HASH code (RFC 8017). -/
def digestInfo (h : Nat) : Bytes :=
  match h with
  | 1 => [0x30, 0x31, 0x30, 0x0d, 0x06, 0x09, 0x60, 0x86, 0x48, 0x01, 0x65, 0x03, 0x04, 0x02, 0x01, 0x05, 0x00,
          0x04, 0x20]
  | 2 => [0x30, 0x41, 0x30, 0x0d, 0x06, 0x09, 0x60, 0x86, 0x48, 0x01, 0x65, 0x03, 0x04, 0x02, 0x02, 0x05, 0x00,
          0x04, 0x30]
  | 3 => [0x30, 0x51, 0x30, 0x0d, 0x06, 0x09, 0x60, 0x86, 0x48, 0x01, 0x65, 0x03, 0x04, 0x02, 0x03, 0x05, 0x00,
          0x04, 0x40]
  | 4 => [0x30, 0x21, 0x30, 0x09, 0x06, 0x05, 0x2b, 0x0e, 0x03, 0x02, 0x1a, 0x05, 0x00, 0x04, 0x14]
  | _ => []

/-- EMSA-PKCS1-v1_5 of a digest in k bytes. -/
def emsaPkcs1 (h k : Nat) (dig : Bytes) : Bytes :=
  let t := digestInfo h ++ dig
  [0, 1] ++ List.replicate (k - 3 - t.length) 0xFF ++ [0] ++ t

/-- MGF1. -/
def mgf1 (h : Nat) (seed : Bytes) (n : Nat) : Bytes :=
  (((List.range (ceilDiv n (max 1 (hashBytes h)))).map (fun i => hashOf h (seed ++ be 4 i))).flatten).take n

/-- EMSA-PSS of a digest with a salt, in emBits bits. -/
def emsaPss (h emBits : Nat) (dig salt : Bytes) : Bytes :=
  let emLen := ceilDiv emBits 8
  let hh := hashOf h (zeros 8 ++ dig ++ salt)
  let db := zeros (emLen - salt.length - hh.length - 2) ++ [1] ++ salt
  let m := xorB db (mgf1 h hh db.length)
  let m := match m with
    | b :: r => (b &&& BitVec.ofNat 8 (2 ^ (8 - (8 * emLen - emBits)) - 1)) :: r
    | [] => []
  m ++ hh ++ [0xBC]

/-- EMSA-PSS verification of an encoded message. -/
def pssVerify (h emBits saltLen : Nat) (dig em : Bytes) : Bool :=
  let hl := hashBytes h
  let emLen := ceilDiv emBits 8
  if emLen < hl + saltLen + 2 then false
  else
    let masked := em.take (emLen - hl - 1)
    let hh := sub em (emLen - hl - 1) hl
    let db := xorB masked (mgf1 h hh masked.length)
    let db := match db with
      | b :: r => (b &&& BitVec.ofNat 8 (2 ^ (8 - (8 * emLen - emBits)) - 1)) :: r
      | [] => []
    let pad := emLen - hl - saltLen - 2
    byteAt em (emLen - 1) == 0xBC && decide (byteAt em 0 < 2 ^ (8 - (8 * emLen - emBits))) &&
      (db.take pad).all (· == 0) && byteAt db pad == 1 &&
      hh == hashOf h (zeros 8 ++ dig ++ sub db (pad + 1) saltLen)

/-- RSAES-OAEP encoding of a message with a seed. -/
def oaepEncode (h k : Nat) (label m seed : Bytes) : Bytes :=
  let hl := hashBytes h
  let db := hashOf h label ++ zeros (k - m.length - 2 * hl - 2) ++ [1] ++ m
  let mdb := xorB db (mgf1 h seed db.length)
  [0] ++ xorB seed (mgf1 h mdb hl) ++ mdb

/-- What follows the zero padding and its 0x01 separator. -/
def afterOne : Bytes → Option Bytes
  | [] => none
  | b :: r => if b = 0 then afterOne r else if b = 1 then some r else none

/-- RSAES-OAEP decoding (R190). -/
def oaepDecode (h k : Nat) (label em : Bytes) : Option Bytes :=
  let hl := hashBytes h
  let ms := sub em 1 hl
  let mdb := sub em (1 + hl) (k - hl - 1)
  let seed := xorB ms (mgf1 h mdb hl)
  let db := xorB mdb (mgf1 h seed mdb.length)
  if byteAt em 0 = 0 ∧ db.take hl = hashOf h label then afterOne (db.drop hl) else none

end Sys2Proof.Machine
end

