-- ==== Sys2Proof/Machine/Keys.lean ====
section
/-!
DEFINITION. Ingots, key references and their checks, the key caches, counted keys, templates and created ingots,
tickets, and the common frame of every verb's meaning (R38, R39, R122, R206–R233, R239–R251).
-/
namespace Sys2Proof.Machine

/-! ## The frame of a verb (R122) -/

/-- A key that passed its checks. -/
structure KeyVal where
  /-- the ingot -/
  ingot : Bytes := []
  /-- the symmetric key, or the private part -/
  key : Bytes := []
  /-- it came by address -/
  byAddr : Bool := true
  /-- the address -/
  addr : Nat := 0
  /-- the counted-key record whose use it takes -/
  record : Option Nat := none
  deriving DecidableEq, Repr

/-- Why a verb stops: a status with its detail and OUT_LEN, a status of a class M or C verb at check 12, a resource to wait
for, a search that is not over after the model's number of tries and goes on at the next row with fresh draws; or one of
these after step 8 of R218 passed for some keys (R122, R147, R219, R436). -/
inductive Stop where
  | fail (status detail outLen : Nat)
  | late (status detail : Nat)
  | wait
  | again (draws : Nat)
  | keyed (keys : List KeyVal) (why : Stop)
  deriving DecidableEq, Repr

/-- The result of checks that may stop a verb. -/
abbrev Chk (α : Type) := Except Stop α

/-- A verb stops with a status. -/
def stop {α : Type} (status detail : Nat) : Chk α := .error (.fail status detail 0)

/-- A check: where the condition fails the verb stops. -/
def ensure (c : Bool) (status detail : Nat) : Chk Unit := if c then .ok () else stop status detail

/-- A check of a class M or C verb that belongs to check 12 (R122, R436). -/
def ensureLate (c : Bool) (status detail : Nat) : Chk Unit := if c then .ok () else .error (.late status detail)

/-- A verb waits for a resource (R147). -/
def waitFor {α : Type} : Chk α := .error .wait

/-- The checks after step 8 of R218: where one fails, the keys are installed all the same (R219). -/
def keyed {α : Type} (ks : List KeyVal) (rest : Chk α) : Chk α := rest.mapError (Stop.keyed ks)

/-- The clock of an item's executor has stopped: cores and hub need SYSCLK, the warden does not (R40, R43). -/
def State.stuck (s : State) (it : Item) : Bool :=
  s.tam.clockLost && !(it.executor == some .wardenShort || it.executor == some .wardenFlash)

/-- The running item of a slot whose input has arrived and whose verb is `v`. -/
def State.verbItem (s : State) (slot v : Nat) : Option Item :=
  match s.runningItem slot with
  | some it => if it.phase == .processing && dVerb it.desc == v && !s.stuck it then some it else none
  | none => none

/-! ## Check 9: inline parameters and segments (R240, R243) -/

/-- The offset of the first non-zero inline byte outside the named ranges; DELAY's bytes count as named when
NOT_BEFORE is set on a class S or A verb, the request ID's on a class M or C verb (R107, R240). -/
def reservedInline (it : Item) (named : List (Nat × Nat)) : Option Nat :=
  let named := if it.cls < 2 then (if dNotBefore it.desc then (0x3C, 4) :: named else named)
    else (0x30, 8) :: named
  ((List.range 16).map (· + 0x30)).find? (fun o =>
    byteAt it.desc o != 0 && !named.any (fun r => r.1 ≤ o && o < r.1 + r.2))

/-- Unnamed inline bytes are zero (R240). -/
def checkInline (it : Item) (named : List (Nat × Nat)) : Chk Unit :=
  match reservedInline it named with
  | some o => stop 0x0105 o
  | none => .ok ()

/-- The walk of a segmented input (R243): the offset and length of each segment's data; stops at a LEN that
overruns, or at the last LEN where the segments end short. -/
def walkSegments (input : Bytes) (n : Nat) : Nat → Nat → Nat → Chk (List (Nat × Nat))
  | 0, off, last => if off = n then .ok [] else stop 0x0103 last
  | k + 1, off, _ =>
    if off + 4 > n then stop 0x0103 off
    else
      let len := fld input off 4
      let next := off + 4 + ceilDiv len 4 * 4
      if next > n then stop 0x0103 off
      else (walkSegments input n k next off).map ((off + 4, len) :: ·)

/-- The content pass over one segment: its length in range, its padding zero (R243). -/
def segmentOk (input : Bytes) (seg : Nat × Nat) (inRange : Nat → Bool) : Chk Unit := do
  ensure (inRange seg.2) 0x0108 0
  match (List.range (ceilDiv seg.2 4 * 4 - seg.2)).find? (fun i => byteAt input (seg.1 + seg.2 + i) != 0) with
  | some i => stop 0x0105 (0x10000 + seg.1 + seg.2 + i)
  | none => pure ()

/-- The segments of an input against their stated lengths: offset and bytes of each (R243). -/
def segmentsBy (it : Item) (oks : List (Nat → Bool)) : Chk (List (Nat × Bytes)) := do
  let segs ← walkSegments it.input (dInLen it.desc) oks.length 0 0
  (segs.zip oks).forM (fun p => segmentOk it.input p.1 p.2)
  pure (segs.map (fun g => (g.1, sub it.input g.1 g.2)))

/-- A length in a closed range. -/
def within (lo hi n : Nat) : Bool := decide (lo ≤ n) && decide (n ≤ hi)

/-- The segments of an input against closed ranges of their lengths (R243). -/
def segments (it : Item) (ranges : List (Nat × Nat)) : Chk (List (Nat × Bytes)) :=
  segmentsBy it (ranges.map (fun r => within r.1 r.2))

/-- Check 10 of R122. -/
def checkRoom (it : Item) (n : Nat) : Chk Unit :=
  if dOutCap it.desc < n then .error (.fail 0x0104 0 n) else .ok ()

/-- Check 11 of R122, for a verb with a persistent effect (R433). -/
def State.checkRiser (s : State) (persistent : Bool) : Chk Unit := ensure (!(persistent && s.per.persistUnsafe)) 0x0B03 0

/-! ## Ingot fields (R213–R215) -/

/-- PUBLIC of the asymmetric form. -/
def ingPublic (i : Bytes) : Bytes := sub i 0x60 (ingPubLen i)
/-- KCV, or bytes 0–4 of FINGERPRINT. -/
def ingCheck (i : Bytes) : Bytes := if ingForm i = 1 then sub i 0x60 5 else sub i 0x40 5

/-- Two ASCII characters as the field that stores them. -/
def usage (t : String) : Nat := ofLE (ascii t)

/-- An ASCII character as its byte. -/
def chr (c : Char) : Nat := c.toNat

/-! ## Algorithms (R216, R225) -/

/-- TDES codes. -/
def isTdes (alg : Nat) : Bool := alg == 1 || alg == 2
/-- AES codes. -/
def isAes (alg : Nat) : Bool := 3 ≤ alg && alg ≤ 5
/-- Symmetric codes. -/
def isSym (alg : Nat) : Bool := 1 ≤ alg && alg ≤ 6
/-- The five Weierstrass curves. -/
def isWeier (alg : Nat) : Bool := 0x20 ≤ alg && alg ≤ 0x24
/-- Asymmetric codes. -/
def isAsym (alg : Nat) : Bool := alg == 0x10 || isWeier alg || alg == 0x28 || alg == 0x29

/-- KEY_BITS an ALG's row allows (R216). -/
def bitsAllowed (alg kb : Nat) : Bool :=
  match alg with
  | 1 => kb == 128 | 2 => kb == 192 | 3 => kb == 128 | 4 => kb == 192 | 5 => kb == 256
  | 6 => 128 ≤ kb && kb ≤ 256 && kb % 8 == 0
  | 0x10 => 512 ≤ kb && kb ≤ 4096 && kb % 8 == 0
  | 0x20 => kb == 256 | 0x21 => kb == 384 | 0x22 => kb == 521 | 0x23 => kb == 256 | 0x24 => kb == 384
  | 0x28 => kb == 255 | 0x29 => kb == 255
  | _ => false

/-- Strength in bits (R225); RSA lengths between the stated ones take the row below. -/
def strength (alg kb : Nat) : Nat :=
  match alg with
  | 1 => 80 | 2 => 112 | 3 => 128 | 4 => 192 | 5 => 256 | 6 => min kb 256
  | 0x10 => if kb ≥ 4096 then 152 else if kb ≥ 3072 then 128 else if kb ≥ 2048 then 112 else 80
  | 0x20 => 128 | 0x23 => 128 | 0x28 => 128 | 0x29 => 128 | 0x21 => 192 | 0x24 => 192 | 0x22 => 256
  | _ => 0

/-- The attribute a usage, mode and algorithm form a row of R226 for; mode B of D0 and P0 gives ENC and a split
pair; none where they form no row. -/
def rowAttr (alg us mode : Nat) : Option Nat :=
  let ta := isTdes alg || isAes alg
  let pick := fun (ok : Bool) (modes : String) (attr : Nat) =>
    if ok && modes.toList.any (fun c => chr c == mode) then some attr else none
  let u := fun (t : String) => us == usage t
  if u "B0" || u "B1" || u "E0" || u "E1" || u "E2" || u "E3" || u "E4" || u "E6" then pick ta "X" 8
  else if u "C0" || u "M1" || u "M6" then pick ta "CGV" 1
  else if u "M0" || u "M3" || u "V1" || u "V2" then pick (isTdes alg) "CGV" 1
  else if u "M7" then pick (alg == 6) "CGV" 1
  else if u "D0" || u "P0" then (if mode = chr 'D' then pick ta "D" 2 else pick ta "EB" 1)
  else if u "K0" || u "K1" then pick ta "EDB" 4
  else if u "D1" then pick (alg == 0x10) "D" 2
  else if u "K2" then pick (alg == 0x10) "D" 4
  else if u "K3" then pick (isWeier alg || alg == 0x29) "X" 8
  else if u "S0" || u "S2" then pick (alg == 0x10 || isWeier alg || alg == 0x28) "S" 1
  else if u "S1" then pick (alg == 0x10 || isWeier alg) "S" 1
  else none

/-- The row creates a split pair (R226, R247). -/
def splits (us mode : Nat) : Bool := mode == chr 'B' && (us == usage "D0" || us == usage "P0")

/-- KCV of a symmetric key (R217). -/
def kcvOf (alg : Nat) (key : Bytes) : Bytes :=
  if isTdes alg then (tdesEnc key (zeros 8)).take 3 ++ [0, 0]
  else if isAes alg then (cmacAes key (zeros 16)).take 5
  else (hmacWith sha256 64 key (zeros 16)).take 5

/-- Odd parity in every byte (R217). -/
def parityOk (key : Bytes) : Bool := oddParity key == key

/-- K1 ≠ K2, and K2 ≠ K3 in a three-key bundle (R217). -/
def tdesDistinct (key : Bytes) : Bool :=
  sub key 0 8 != sub key 8 8 && (key.length ≤ 16 || sub key 8 8 != sub key 16 8)

/-! ## Wrap keys and generations (R211, R212) -/

/-- The tenant wrap key of an attached slice; slice 0's is a free value (assumption log 7). -/
def State.wrapKey (s : State) (n : Nat) : Bytes :=
  if n = 0 then fit 32 (Config.slice0WrapKey s.domainRoot) else (s.slice n).hubKey

/-- The generation of a slice: 1 for slice 0. -/
def State.genOf (s : State) (n : Nat) : Nat := if n = 0 then 1 else (s.slice n).generation

/-! ## Resolving a key reference (R218, R219, R229) -/

/-- What a verb asks of one of its keys. -/
structure KeyNeed where
  /-- 0 key A, 1 key B -/
  which : Nat := 0
  /-- the steps of R218 it passes -/
  steps : List Nat := [1, 2, 3, 4, 5, 6, 7, 8]
  /-- step 3 unwraps; otherwise an asymmetric ingot's TAG alone is verified -/
  deep : Bool := true
  /-- step 5: ALG and KEY_BITS suit -/
  suit : Nat → Nat → Bool := fun _ _ => true
  /-- step 5: ALG suits the recorded usage, where a verb's table says so (R339) -/
  suitUsage : Bytes → Bool := fun _ => true
  /-- step 6: the status and detail where the use is not permitted -/
  use : Bytes → Option (Nat × Nat) := fun _ => none
  /-- step 8 consumes a use (R239, R284) -/
  counts : Bool := true

/-- The reference of key A or B. -/
def keyRef (it : Item) (which : Nat) : Nat := if which = 0 then dKeyA it.desc else dKeyB it.desc

/-- The hub entry resolved for a handle at acceptance (R229). -/
def State.hubOf (s : State) (it : Item) (which : Nat) : Option HubEntry :=
  match (if which = 0 then it.hubA else it.hubB) with
  | none => none
  | some i => s.kst.hubCache.find? (fun (e : HubEntry) => e.index == i &&
      (handleParts (keyRef it which)).map (fun p => p.2.1) == some (lookupD s.kst.uniq i 0))

/-- The ingot a reference names: the entry's, or the bytes fetched. -/
def State.ingotOf (s : State) (it : Item) (which : Nat) : Bytes :=
  if keyRef it which ≥ 2 ^ 63 then
    match s.hubOf it which with
    | some e => e.ingot
    | none => []
  else if which = 0 then it.keyA else it.keyB

/-- Step 1 of R218. -/
def State.refOk (s : State) (it : Item) (which : Nat) : Bool :=
  let r := keyRef it which
  if r ≥ 2 ^ 63 then (handleParts r).isSome && (s.hubOf it which).isSome
  else r != 0 && r % 8 == 0

/-- The common header and lengths of an ingot are well formed (step 3 of R218, R213–R216, R220). -/
def ingotShape (i : Bytes) : Bool :=
  let alg := ingotAlg i
  let attr := ingAttr i
  let sym := ingForm i == 1
  fld i 0 2 == 0x4749 && byteAt i 3 == 1 && ((sym && isSym alg) || (ingForm i == 2 && isAsym alg)) &&
    (if sym then ingTotal i == 128 && zeroAtB i 0x65 11
     else 184 ≤ ingTotal i && ingTotal i ≤ 1952 && ingTotal i % 8 == 0 && ingWprivLen i % 8 == 0 &&
       ingTotal i == 96 + ceilDiv (ingPubLen i) 8 * 8 + ingWprivLen i + 16 && zeroAtB i 0x3C 4) &&
    ingTotal i ≤ i.length && fld i 6 2 < 4096 && bitsAllowed alg (ingotBits i) &&
    [1, 2, 4, 8].contains attr && ingMods i < 16 &&
    (!ingVerifyOnly i || (attr == 1 && sym)) && (!ingInverse i || sym) &&
    (if ingCounted i then ingCountIndex i < 65536 else ingCountIndex i == 0xFFFFFFFF)
where
  /-- Every byte of a range is zero. -/
  zeroAtB (d : Bytes) (off n : Nat) : Bool := (sub d off n).all (· == 0)

/-- The TAG verifies under a wrap key. -/
def tagOk (wk i : Bytes) : Bool := cmacAes wk (i.take (ingTotal i - 16)) == ingTag i

/-- The content checks of an asymmetric private part (R184). -/
def contentOk (i priv : Bytes) : Bool :=
  let pub := ingPublic i
  let fp := sha256 pub == sub i 0x40 32
  let alg := ingotAlg i
  if alg = 0x10 then
    let h := ingotBits i / 16
    let n := ofBE (sub pub 0 (ingotBits i / 8))
    let p := ofBE (sub priv 0 h)
    let q := ofBE (sub priv h h)
    fp && priv.length == 5 * h && p * q == n && decide (p > 1) && ofBE (sub priv (4 * h) h) * q % p == 1
  else match curveOf alg with
    | some c =>
      let d := ofBE priv
      fp && priv.length == c.len && decide (1 ≤ d) && decide (d < c.n)
    | none => fp && priv.length == 32

/-- The public exponent of an RSA ingot obeys R176: odd, and 3 ≤ e < 2^256. -/
def rsaExponentOk (i : Bytes) : Bool :=
  ingotAlg i != 0x10 ||
    (let e := ofBE ((ingPublic i).drop (ingotBits i / 8 + 1))
     e % 2 == 1 && decide (3 ≤ e) && decide (e < 2 ^ 256))

/-- The physical cluster an item runs in; none for a verb the hub or the warden executes. -/
def State.clusterOf (s : State) (it : Item) : Option Nat :=
  match it.executor with
  | some (.core k) => some (s.phys (coreCluster k))
  | _ => none

/-- A symmetric ingot's entry in the cluster key cache, or else in the hub key cache, found by slice and TAG
(steps 2 and 3 of R219): the ingot it was verified from and the key. -/
def State.cachedKey (s : State) (it : Item) (i : Bytes) : Option (Bytes × Bytes) :=
  if ingForm i ≠ 1 then none else
  let inCluster := match s.clusterOf it with
    | some p => (s.cluster p).keys.find? (fun (x : CachedKey) => x.slice == it.slice && ingTag x.ingot == ingTag i)
    | none => none
  match inCluster with
  | some x => some (x.ingot, x.key)
  | none => (s.kst.hubCache.find? (fun (e : HubEntry) => e.slice == it.slice && e.count == 1 && ingTag e.ingot == ingTag i)).map
      (fun (e : HubEntry) => (e.ingot, e.key))

/-- Step 3 of R218: the unwrapped key, none where the ingot is corrupt. On a cache hit the presented header is
compared with the cached one, and the TAG is not computed again (R219). -/
def State.openIngot (s : State) (it : Item) (deep : Bool) (i : Bytes) : Option Bytes :=
  let wk := s.wrapKey it.slice
  match s.cachedKey it i with
  | some c => if i.take 56 == c.1.take 56 && decide (ingGen i ≤ s.genOf it.slice) then some c.2 else none
  | none =>
  if !(ingotShape i && tagOk wk i && decide (ingGen i ≤ s.genOf it.slice)) then none
  else if ingForm i = 2 ∧ !deep then some []
  else match kwpUnwrap wk (wrappedPart i) with
    | none => none
    | some k =>
      if ingForm i = 1 then (if k.length == ingotBits i / 8 then some k else none)
      else if contentOk i k then some k else none

/-- Step 7 of R218 (R233): the status and detail outside the validity window. -/
def State.windowCheck (s : State) (i : Bytes) : Option (Nat × Nat) :=
  if ingNotBefore i = 0 ∧ ingNotAfter i = 0 then none
  else match s.calendar with
    | none => some (0x0207, 1)
    | some t =>
      if t < ingNotBefore i then some (0x0207, 0)
      else if ingNotAfter i ≠ 0 ∧ t ≥ ingNotAfter i then some (0x0206, 0)
      else none

/-- The counted-key record an ingot names, where it agrees with it (step 1 of R231). -/
def State.recordOf (s : State) (slice : Nat) (i : Bytes) : Option CountedRec :=
  s.kst.counted.find? (fun (c : CountedRec) => c.index == ingCountIndex i && c.slice == slice &&
    c.keyId == ingKeyId i && c.check == s.countCheckOf c c.count)

/-- Another running item holds a counted-key record (R231). -/
def State.recordHeld (s : State) (idx slot : Nat) : Bool :=
  s.kst.heldCounted.any (fun p => p.1 == idx && p.2 != slot)

/-- Step 8 of R218 (R231); a verb that consumes the use also needs a counter-area entry (R422). -/
def State.countCheck (s : State) (it : Item) (n : KeyNeed) (i : Bytes) : Chk Unit :=
  if !ingCounted i then .ok ()
  else match s.recordOf it.slice i with
    | none => stop 0x0208 1
    | some c =>
      let now := s.countNow c.index
      if now ≥ c.limit then stop 0x0208 0
      else if n.counts && (s.recordHeld c.index it.slot || (s.putCount c.index (now + 1)).isNone) then waitFor
      else .ok ()

/-- One step of R218 for one key. Steps after the first are not made on an ingot whose read faulted (check 8
decides, R122). -/
def State.keyStep (s : State) (it : Item) (step : Nat) (n : KeyNeed) : Chk Unit :=
  let i := s.ingotOf it n.which
  let r := keyRef it n.which
  if !n.steps.contains step then .ok ()
  else if step = 1 then ensure (s.refOk it n.which) 0x0201 n.which
  else if r < 2 ^ 63 && it.faults.contains (1 + n.which) then .ok ()
  else match step with
    | 2 =>
      let owner := match handleParts r with
        | some p => p.1
        | none => ingSlice i
      ensure (owner == it.slice) 0x0203 0
    | 3 => ensure (s.openIngot it n.deep i).isSome 0x0202 0
    | 4 => ensure (decide (ingGen i ≥ s.genOf it.slice)) 0x0209 0
    | 5 => ensure (n.suit (ingotAlg i) (ingotBits i) && n.suitUsage i && (!n.deep || rsaExponentOk i)) 0x0205 0
    | 6 => match n.use i with
      | some e => stop e.1 e.2
      | none => .ok ()
    | 7 => match s.windowCheck i with
      | some e => stop e.1 e.2
      | none => .ok ()
    | _ => s.countCheck it n i

/-- Check 7 of R122: the steps of R218 in order, each for key A and then key B. -/
def State.checkKeys (s : State) (it : Item) (needs : List KeyNeed) : Chk (List KeyVal) := do
  [1, 2, 3, 4, 5, 6, 7, 8].forM (fun st => needs.forM (fun n => s.keyStep it st n))
  pure (needs.map (fun n =>
    let i := s.ingotOf it n.which
    let r := keyRef it n.which
    { ingot := (((s.cachedKey it i).map (fun c => c.1)).getD i).take (ingTotal i), key := (s.openIngot it n.deep i).getD [], byAddr := decide (r < 2 ^ 63), addr := r
      record := if n.counts && n.steps.contains 8 && ingCounted i then some (ingCountIndex i) else none }))

/-- Check 8 of R122: what the item reads was read (R101). -/
def checkFetch (it : Item) (usesInput : Bool) (needs : List KeyNeed) : Chk Unit :=
  let wanted := (if usesInput then [0] else []) ++
    (needs.filter (fun n => keyRef it n.which < 2 ^ 63)).map (fun n => 1 + n.which) ++ [3]
  match wanted.find? (fun w => it.faults.contains w) with
  | some w => stop 0x0107 w
  | none => .ok ()

/-- Checks 7 and 8: the keys of a verb, then its fetches. -/
def State.prologue (s : State) (it : Item) (needs : List KeyNeed) (usesInput : Bool := true) : Chk (List KeyVal) := do
  let ks ← s.checkKeys it needs
  keyed ks (checkFetch it (usesInput && decide (dInLen it.desc > 0)) needs)
  pure ks

/-- A reference the verb's inline parameters declare absent is zero (R218). -/
def checkAbsent (it : Item) (which detail : Nat) : Chk Unit := ensure (keyRef it which == 0) 0x010A detail

/-! ## Uses (R219–R222) -/

/-- Step 6 for a use: the attribute, one of the usages, one of the modes. -/
def useOf (attr : Nat) (usages : List String) (modes : String) (i : Bytes) : Option (Nat × Nat) :=
  if ingAttr i == attr && usages.any (fun u => usage u == ingUsage i) &&
      modes.toList.any (fun c => chr c == ingMode i) then none
  else some (0x0204, 0)

/-- Step 6 for a use that generates with an ENC key: VERIFY_ONLY, and mode V, which is the same thing, have their own status
(R221, R222). -/
def useGenerate (usages : List String) (i : Bytes) : Option (Nat × Nat) :=
  if !(ingAttr i == 1 && usages.any (fun u => usage u == ingUsage i)) then some (0x0204, 0)
  else if ingVerifyOnly i || ingMode i == chr 'V' then some (0x020B, 0)
  else if ingMode i == chr 'C' || ingMode i == chr 'G' then none else some (0x0204, 0)

/-- Step 6 for a use that verifies with an ENC key: mode G forbids it (R222). -/
def useVerify (usages : List String) (i : Bytes) : Option (Nat × Nat) :=
  if ingAttr i == 1 && usages.any (fun u => usage u == ingUsage i) &&
      (ingMode i == chr 'C' || ingMode i == chr 'V') then none
  else some (0x0204, 0)

/-! ## Caches (R155, R158, R219, R228) -/

/-- Entries the hub key cache has in use. -/
def State.hubUsed (s : State) : Nat := s.kst.hubCache.foldl (fun n e => n + e.count) 0

/-- Entries pinned. -/
def State.hubPinned (s : State) : Nat :=
  (s.kst.hubCache.filter (fun (e : HubEntry) => e.pinned)).foldl (fun n e => n + e.count) 0

/-- The lowest run of `n` free entries. -/
def State.freeRun (s : State) (n : Nat) : Option Nat :=
  go (sortBy (fun (e : HubEntry) => e.index) s.kst.hubCache) 0
where
  /-- Past the entries in use, in index order. -/
  go : List HubEntry → Nat → Option Nat
    | [], at_ => if at_ + n ≤ 65536 then some at_ else none
    | e :: r, at_ => if at_ + n ≤ e.index then some at_ else go r (e.index + e.count)

/-- Room for `n` hub entries in a run: unpinned entries are evicted, least recently used first (R228). `fuel`
bounds the evictions. -/
def State.makeRoom (s : State) (n : Nat) : Nat → State × Option Nat
  | 0 => (s, s.freeRun n)
  | fuel + 1 =>
    match s.freeRun n with
    | some i => (s, some i)
    | none =>
      match (s.kst.hubCache.filter (fun (e : HubEntry) => !e.pinned && !e.withdrawn)).getLast? with
      | none => (s, none)
      | some e => (s.freeHub e).makeRoom n fuel

/-- The slice's wrap entry is used in the item's cluster: one entry per slice, at most 16, and a key register of the SBU
that serves the core (R219, R228). -/
def State.useWrap (s : State) (it : Item) : State :=
  match it.executor with
  | some (.core n) =>
    let p := s.physOfItem it
    let wk := s.wrapKey it.slice
    let sbu := s.sbuOf p (n % 4)
    s.modCluster p (fun c =>
      Cluster.load { c with
          wraps := (({ slice := it.slice, key := wk } : SliceKey) :: c.wraps.filter (fun (k : SliceKey) => !(k.slice == it.slice))).take 16 }
        { sbu := sbu, slice := it.slice, tag := [], key := wk, alg := 5 })
  | _ => s

/-- References of an item that miss both caches when they are looked up, after steps 1 and 2 of R218: symmetric ingots by
address that were fetched (R219, R236). -/
def State.missesOf (s : State) (it : Item) : Nat :=
  let takes := (if takesKeyA (dVerb it.desc) then [0] else []) ++ (if takesKeyB (dVerb it.desc) then [1] else [])
  let mine := takes.filter (fun w => keyRef it w != 0)
  let passed := mine.all (fun w => s.refOk it w && (it.faults.contains (1 + w) || keyRef it w ≥ 2 ^ 63 ||
    ingSlice (s.ingotOf it w) == it.slice))
  if passed then (mine.filter (fun w => decide (keyRef it w < 2 ^ 63) && !it.faults.contains (1 + w) &&
    ingForm (s.ingotOf it w) == 1 && (s.cachedKey it (s.ingotOf it w)).isNone)).length
  else 0

/-- So many references of an item missed both caches: they are counted, and the slice's wrap entry is loaded (R219, R236). -/
def State.missed (s : State) (it : Item) (n : Nat) : State :=
  if n = 0 then s else { s with kst.missCount := wrap 64 (s.kst.missCount + n) }.useWrap it

/-- An item's references are looked up (R219). -/
def State.lookUp (s : State) (it : Item) : State := s.missed it (s.missesOf it)

/-- Entries a key takes in a cluster key cache: its own and one for each hash whose HMAC states it keeps (R343). -/
def CachedKey.entries (k : CachedKey) : Nat := 1 + k.states.length

/-- The leading keys, most recently used first, that so many entries hold. -/
def keysWithin : Nat → List CachedKey → List CachedKey
  | _, [] => []
  | n, k :: l => if k.entries ≤ n then k :: keysWithin (n - k.entries) l else []

/-- Symmetric keys of a cluster key cache, most recently used first, as many as it holds beside the wrap and transient
entries; an evicted entry leaves the key registers that hold it (R170, R228). -/
def Cluster.withKeys (c : Cluster) (l : List CachedKey) : Cluster :=
  let held := keysWithin 1968 l
  let gone := l.drop held.length
  { c with keys := held
           sbuKeys := c.sbuKeys.filter (fun (k : SbuKey) =>
             !gone.any (fun (x : CachedKey) => x.slice == k.slice && ingTag x.ingot == k.tag)) }

/-- A symmetric key enters the key cache of its item's cluster, most recently used first (R219). -/
def State.installIn (s : State) (it : Item) (k : KeyVal) : State :=
  if ingForm k.ingot ≠ 1 then s else
  match s.clusterOf it with
  | none => s
  | some p => s.modCluster p (fun c =>
      let here := fun (x : CachedKey) => x.slice == it.slice && ingTag x.ingot == ingTag k.ingot
      let old := (c.keys.find? here).getD {}
      c.withKeys ({ slice := it.slice, ingot := k.ingot, key := k.key, states := old.states } ::
        c.keys.filter (fun x => !here x)))

/-- The HMAC states of a key under a hash enter a further entry of its cluster's key cache on the first use (R343). -/
def State.keepStates (s : State) (it : Item) (k : KeyVal) (h : Nat) (states : List (List Nat)) : State :=
  s.modCluster (s.physOfItem it) (fun c => c.withKeys (c.keys.map (fun (x : CachedKey) =>
    if x.slice == it.slice && ingTag x.ingot == ingTag k.ingot && !x.states.any (fun e => e.1 == h) then
      { x with states := (h, states) :: x.states } else x)))

/-- A symmetric key by address enters both caches, most recently used first; one by handle enters its cluster's (R219). -/
def State.installKey (s : State) (it : Item) (k : KeyVal) : State :=
  if ingForm k.ingot ≠ 1 then s else
  let tag := ingTag k.ingot
  let s := s.installIn it k
  if !k.byAddr then s else
  match s.kst.hubCache.find? (fun (e : HubEntry) => e.slice == it.slice && ingTag e.ingot == tag) with
  | some e =>
    { s with kst.hubCache := { e with lastAddr := k.addr } :: s.kst.hubCache.filter (fun x => !(x.index == e.index)) }
  | none =>
    match s.makeRoom 1 65536 with
    | (s, none) => s
    | (s, some i) =>
      { s with kst.hubCache := { index := i, slice := it.slice, ingot := k.ingot, key := k.key, lastAddr := k.addr } ::
                 s.kst.hubCache }

/-- A key is loaded into a key register of the SBU that serves the item's core, from the cluster key-cache entry of its
ingot, under a variant mask where there is one; the blocks that follow leave its final round key cached. Only the ingot's modifier forces inverse checking
(R154, R155, R158, R163). -/
def State.loadVariant (s : State) (it : Item) (k : KeyVal) (mask : Bytes) : State :=
  match it.executor with
  | some (.core n) =>
    let p := s.physOfItem it
    s.modCluster p (fun c => c.load { sbu := s.sbuOf p (n % 4), slice := it.slice, tag := ingTag k.ingot
                                      key := withVariant mask k.key, alg := ingotAlg k.ingot, inverse := ingInverse k.ingot })
  | _ => s

/-- The same without a variant. -/
def State.loadSbu (s : State) (it : Item) (k : KeyVal) : State := s.loadVariant it k []

/-- A derived or unwrapped key takes a transient entry of the item's core, which holds 16, and from it a key register, under
a variant mask where the verb applies one; the SBU refuses a TDES key of equal parts (R156, R157, R160). -/
def State.loadWork (s : State) (it : Item) (alg : Nat) (key : Bytes) (mask : Bytes := []) : State :=
  match it.executor with
  | some (.core n) =>
    let p := s.physOfItem it
    s.modCluster p (fun c =>
      let mine := c.transients.filter (fun (t : Transient) => t.slot == it.slot)
      let c := { c with
          transients := if mine.length < 16 then c.transients ++ [{ slot := it.slot, data := key }] else c.transients }
      if loadRefused alg (withVariant mask key) then c
      else c.load { sbu := s.sbuOf p (n % 4), slice := it.slice, tag := [], key := withVariant mask key, alg := alg })
  | _ => s

/-- A secret the BNU delivers takes transient entries of the item's core, 32 bytes in each, and never reaches the core
(R160, R185). -/
def State.keepSecret (s : State) (it : Item) (z : Bytes) : State :=
  s.modCluster (s.physOfItem it) (fun c =>
    let mine := c.transients.filter (fun (t : Transient) => t.slot == it.slot)
    let parts := (List.range (min (ceilDiv z.length 32) (16 - mine.length))).map (fun i =>
      ({ slot := it.slot, data := sub z (32 * i) 32 } : Transient))
    { c with transients := c.transients ++ parts })

/-- The SBU refuses a TDES key of equal parts, and the verb ends with KEY_ALGORITHM (R157). -/
def checkLoad (alg : Nat) (key : Bytes) : Chk Unit := ensure (!loadRefused alg key) 0x0205 0

/-! ## A verb's row (R122, R219) -/

/-- KEY_CORRUPT and KEY_GENERATION_STALE results are counted (R236); SESSION_EXPIRED and CEREMONY_CANCELLED are
given once (R522). -/
def State.countStop (s : State) (status : Nat) : State :=
  if status = 0x0202 then { s with kst.corruptCount := wrap 32 (s.kst.corruptCount + 1) }
  else if status = 0x0209 then { s with kst.staleCount := wrap 32 (s.kst.staleCount + 1) }
  else if status = 0x0D03 ∨ status = 0x0D09 then { s with dcc.endedOnce := none }
  else s

/-- A stopped verb: its status, or its return to a delay list. A class M or C verb that stops at check 12 makes its
replay entry (R436). -/
def State.stopItem (s : State) (slot : Nat) (e : Stop) : State :=
  match e with
  | .fail st d n => (s.countStop st).settle slot st d n [] [] []
  | .late st d =>
    match s.runningItem slot with
    | none => s
    | some it => (s.countStop st).finishM it st d [] [] 0 none []
  | .wait => s.contend slot
  | .again n => { s with m.draws := n }
  | .keyed ks e =>
    match s.runningItem slot with
    | none => s
    | some it => (ks.foldl (fun (s : State) k => s.installKey it k) s).stopItem slot e

/-- A verb runs on its item: its references are looked up, then its checks and its effect, or its stop. `f` is the verb's
meaning from the state after the look-up. -/
def State.runVerb (s : State) (slot v : Nat) (f : State → Item → Chk State) : State :=
  match s.verbItem slot v with
  | none => s
  | some it =>
    let s := s.lookUp it
    match f s it with
    | .ok t => t
    | .error e => s.stopItem slot e

/-- A counted-key use is taken: the item reached check 12 (R231). An item holds a record once, whichever of its keys
name it. -/
def State.takeUse (s : State) (it : Item) (k : KeyVal) : State :=
  match k.record with
  | none => s
  | some i =>
    if s.kst.heldCounted.contains (i, it.slot) then s else
    let s := (s.putCount i (s.countNow i + 1)).getD s
    let s := { s with kst.heldCounted := (i, it.slot) :: s.kst.heldCounted }
    s.modItem it.slot (fun x => { x with counted := i :: x.counted, committed := true })

/-- The true weight of an item whose keys, and whose BNU operations' energy `bnu` and further terms `extra`, are
known (R411). -/
def State.weighed (s : State) (it : Item) (ks : List KeyVal) (bnu : Option Nat) (extra : Nat) : State :=
  let pinned := match ks with
    | k :: _ => some (ingotAlg k.ingot, ingotBits k.ingot)
    | [] => none
  match bnu with
  | some b =>
    let fixed := match fixedClass (dVerb it.desc) with
      | some n => s.ew n
      | none => 0
    s.trueWeight it.slot (fixed + b)
  | none =>
    if pinned.isSome ∨ extra > 0 then s.trueWeight it.slot (s.weightAtAcceptance it.desc it.cls pinned + extra) else s

/-- The item has passed check 11: its true weight is known, its keys are installed and its counted uses taken
(R219, R231, R411). -/
def State.reach12 (s : State) (it : Item) (ks : List KeyVal) (bnu : Option Nat := none) (extra : Nat := 0) : State :=
  let s := if it.cls < 2 then s.weighed it ks bnu extra else s
  let s := if it.cls < 2 then ks.foldl (fun (s : State) k => s.installKey it k) s else s
  ks.foldl (fun (s : State) k => s.takeUse it k) s

/-! ## Outcomes -/

/-- Bytes hashed by the item's digest unit are counted (R373). -/
def State.hashed (s : State) (it : Item) (n : Nat) : State :=
  s.modCluster (s.physOfItem it) (fun c => { c with dguBytes := wrap 64 (c.dguBytes + n) })

/-- What the units report of an item that reached check 12: its blocks counted, and the status and detail where it
was stopped (R165, R170, R329). -/
def State.unitOutcome (s : State) (it : Item) (units : UnitReport) : State × Option (Nat × Nat) :=
  let e := s.sbuReport (s.physOfItem it) (dInverse it.desc) units
  let s := e.st.modItem it.slot (fun x => { x with retried := x.retried || e.retried })
  if e.outcome ≠ 0 then (s, some (0x0C04, e.outcome - 1))
  else match units.cut with
    | none => (s, none)
    | some 0 => (s, some (0x0107, 0))
    | some _ => (s, some (0x0201, 0))

/-- An item its units stopped has its outcome. Where its cluster has lost its last SBU by it, it finishes before the cluster
fails (R19, R165, R166). -/
def State.afterUnits (s : State) (it : Item) : State :=
  let p := s.physOfItem it
  if it.cls < 2 && (s.liveUnits p kindSBU).isEmpty then (s.complete it.slot).checkCluster p else s

/-- The outcome of a class S verb whose blocks ran: the units' report, then its persistent effect, the status, result and
output; a verb its units stopped has none of these (R165, R38, R39). -/
def State.finishS (s : State) (it : Item) (units : UnitReport) (status detail : Nat) (result output : Bytes)
    (persistent : Bool := false) (effect : State → State := id) : State :=
  match s.unitOutcome it units with
  | (s, some e) => ((s.undoAlloc it.slot).settle it.slot e.1 e.2 0 [] [] []).afterUnits it
  | (s, none) => (effect s).settle it.slot status detail output.length result output (if persistent then [.commit] else [])

/-- A progressive verb whose first output write was made ends as ABORTED_PARTIAL, DETAIL its cause, OUT_LEN the
bytes of whole chunks written; before that write it ends with its cause's own status (R329). -/
def State.finishP (s : State) (it : Item) (units : UnitReport) (result output : Bytes) : State :=
  match s.unitOutcome it units with
  | (s, some e) =>
    let w := writtenBy { it with output := output } units.written
    (if w = 0 then s.settle it.slot e.1 e.2 0 [] [] [] else s.settle it.slot 0x0C02 e.1 w result (output.take w) []).afterUnits it
  | (s, none) => s.settle it.slot 0 0 output.length result output []

/-- A successful class S verb. -/
def State.okS (s : State) (it : Item) (units : UnitReport) (result output : Bytes) (persistent : Bool := false) : State :=
  s.finishS it units 0 0 result output persistent

/-- A command enters the BNU of an item's cluster, with its slice's wrap key where it needs it (R180, R183). -/
def State.sendBnu (s : State) (it : Item) (m : BnuCmd) : State :=
  s.modCluster (s.physOfItem it) (fun c => c.issue m it.slice (s.wrapKey it.slice))

/-- The commands of a class A verb, their outcomes known to the model already: the first goes to the cluster's BNU, the
others follow it one by one as it completes (R129, R182, R186). -/
def State.issueBnu (s : State) (it : Item) (cmds : List BnuCmd) (status detail : Nat) (result output : Bytes)
    (persistent : Bool := false) : State :=
  let s := match cmds with
    | m :: _ => s.sendBnu it m
    | [] => s
  let s := s.modItem it.slot (fun x => { x with cmds := cmds.drop 1 })
  s.settle it.slot status detail output.length result output
    (List.replicate cmds.length Wait.bnu ++ (if persistent then [.commit] else []))

/-! ## Templates (R246, R247) -/

/-- What a verb allows in its template (R247). -/
structure TemplateRule where
  /-- accepted algorithms -/
  alg : Nat → Bool
  /-- EXPORTABLE allowed -/
  exportable : Bool := true
  /-- asymmetric rows allowed, beyond R226 -/
  row : Nat → Nat → Bool := fun _ _ => true

/-- ALG, KEY_BITS of a template. -/
def tAlg (t : Bytes) : Nat := byteAt t 0
/-- KEY_BITS. -/
def tBits (t : Bytes) : Nat := fld t 6 2
/-- MODS. -/
def tMods (t : Bytes) : Nat := byteAt t 2
/-- COUNTED. -/
def tCounted (t : Bytes) : Bool := bit (tMods t) 1
/-- TR31_MODE. -/
def tMode (t : Bytes) : Nat := byteAt t 3
/-- TR31_USAGE. -/
def tUsage (t : Bytes) : Nat := fld t 4 2
/-- LIMIT. -/
def tLimit (t : Bytes) : Nat := fld t 0x18 4
/-- The template creates a split pair. -/
def tSplit (t : Bytes) : Bool := splits (tUsage t) (tMode t)

/-- R247: a template at an input offset, in the order of the rule. -/
def checkTemplate (t : Bytes) (off : Nat) (r : TemplateRule) : Chk Unit := do
  let bad := fun (o : Nat) => 0x10000 + off + o
  let alg := tAlg t
  let mods := tMods t
  ensure (r.alg alg) 0x010A (bad 0)
  ensure (bitsAllowed alg (tBits t) && (alg != 0x10 || (1024 ≤ tBits t && tBits t % 64 == 0))) 0x010A (bad 6)
  ensure ([1, 2, 4, 8].contains (byteAt t 1)) 0x010A (bad 1)
  ensure (rowAttr alg (tUsage t) (tMode t) == some (byteAt t 1) && r.row alg (tUsage t)) 0x010A (bad 4)
  ensure ((!bit mods 2 || (byteAt t 1 == 1 && isSym alg)) && (!bit mods 3 || isSym alg) &&
    (bit mods 2 == (tMode t == chr 'V'))) 0x010A (bad 2)
  ensure (fld t 8 8 == 0 || fld t 16 8 == 0 || fld t 16 8 > fld t 8 8) 0x010A (bad 0x10)
  ensure (if bit mods 1 then tLimit t ≥ 1 else tLimit t == 0) 0x010A (bad 0x18)
  ensure (!bit mods 0 || r.exportable) 0x010A (bad 2)
  ensure (mods < 16) 0x0105 (bad 2)
  match (List.range 4).find? (fun i => byteAt t (0x1C + i) != 0) with
  | some i => stop 0x0105 (bad (0x1C + i))
  | none => pure ()

/-! ## Counted-key records (R231, R245) -/

/-- Indexes reserved to a tenant slice. -/
def Slice.indexes (x : Slice) : List Nat := (List.range x.countQuota).map (fun i => x.countBase + i)

/-- An index lies in a tenant slice's recorded range. -/
def State.indexReserved (s : State) (i : Nat) : Bool :=
  s.slc.slices.any (fun (x : Slice) => x.state != 0 && decide (x.countBase ≤ i) && decide (i < x.countBase + x.countQuota))

/-- The index a new counted key of a slice takes; none where none is free (R231). -/
def State.newIndex (s : State) (n : Nat) : Option Nat :=
  let free := fun (i : Nat) => !s.kst.counted.any (fun (c : CountedRec) => c.index == i)
  if n = 0 then (List.range 65536).find? (fun i => free i && !s.indexReserved i)
  else if s.countedOf n ≥ (s.slice n).countQuota then none
  else (s.slice n).indexes.find? (fun i => decide (i < 65536) && free i)

/-- A record is allocated through the commit buffer (R245). -/
def State.allocCounted (s : State) (it : Item) (slice idx limit keyId : Nat) : State :=
  ({ s.forgetCounts (· == idx) with
      kst.counted := s.sealCount { index := idx, slice := slice, limit := limit, keyId := keyId } :: s.kst.counted }).commit 24 (some (lineCounted idx)) (some it.slot)
    [.counted idx none]

/-! ## Created ingots (R214, R215, R248) -/

/-- The header fields a creating verb chooses. -/
structure NewKey where
  /-- owning slice -/
  slice : Nat
  /-- ALG -/
  alg : Nat
  /-- ATTR -/
  attr : Nat
  /-- MODS -/
  mods : Nat
  /-- ORIGIN -/
  origin : Nat
  /-- KEY_BITS -/
  bits : Nat
  /-- TR31_USAGE -/
  us : Nat
  /-- TR31_MODE -/
  mode : Nat
  /-- TR31_VERSION -/
  version : Nat := 0
  /-- NOT_BEFORE -/
  notBefore : Nat := 0
  /-- NOT_AFTER -/
  notAfter : Nat := 0
  /-- LIMIT of a counted key -/
  limit : Nat := 0
  deriving DecidableEq, Repr

/-- The 56-byte common header (R213). -/
def State.header (s : State) (k : NewKey) (total idx keyId : Nat) : Bytes :=
  le 2 0x4749 ++ le 1 (if isSym k.alg then 1 else 2) ++ [1] ++ le 2 total ++ le 2 k.slice ++ le 1 k.alg ++ le 1 k.attr ++
    le 1 k.mods ++ le 1 k.origin ++ le 2 k.bits ++ le 2 k.us ++ le 1 k.mode ++ le 1 k.version ++
    le 2 (s.genOf k.slice) ++ le 4 idx ++ le 8 keyId ++ le 8 k.notBefore ++ le 8 k.notAfter ++ le 8 s.calOr0

/-- A symmetric ingot under a wrap key (R214). -/
def State.symIngot (s : State) (wk : Bytes) (k : NewKey) (idx keyId : Nat) (key : Bytes) : Bytes :=
  let body := s.header k 128 idx keyId ++ fit 40 (kwpWrap wk key) ++ kcvOf k.alg key ++ zeros 11
  body ++ cmacAes wk body

/-- An asymmetric ingot under a wrap key (R215). -/
def State.asymIngot (s : State) (wk : Bytes) (k : NewKey) (idx keyId : Nat) (pub priv : Bytes) : Bytes :=
  let w := kwpWrap wk priv
  let pubPad := ceilDiv pub.length 8 * 8
  let body := s.header k (96 + pubPad + w.length + 16) idx keyId ++ le 2 pub.length ++ le 2 w.length ++ zeros 4 ++
    sha256 pub ++ fit pubPad pub ++ w
  body ++ cmacAes wk body

/-- Length of the ingot of a symmetric template or of an asymmetric key, PUB_LEN and WPRIV_LEN known. -/
def asymTotal (pubLen wprivLen : Nat) : Nat := 96 + ceilDiv pubLen 8 * 8 + wprivLen + 16

/-- The creation result (R248): 16 bytes. -/
def creationResult (ingot : Bytes) (n : Nat) : Bytes :=
  le 8 (ingKeyId ingot) ++ ingCheck ingot ++ le 1 n ++ zeros 2

/-- Symmetric ingots are written for a new key: one, or the ENC and DEC halves of a split pair; a COUNTED key
takes its record, which the halves share with one KEY_ID (R226, R248). Returns the state, the ingots and the
creation result. -/
def State.createSym (s : State) (it : Item) (k : NewKey) (split : Bool) (key : Bytes) : State × Bytes × Bytes :=
  let wk := if k.slice = it.slice then s.wrapKey k.slice
    else if k.slice = 0 then s.wrapKey 0
    else (kwpUnwrap s.sliceKey (s.slice k.slice).wrapped).getD []
  let s := if k.slice = it.slice then s.useWrap it else s
  let a := s.draw 8
  let idA := ofLE a.1
  let b := if split && !bit k.mods 1 then a.2.draw 8 else (a.1, a.2)
  let s := b.2
  let idx := if bit k.mods 1 then s.newIndex k.slice else none
  let i := idx.getD 0xFFFFFFFF
  let first := s.symIngot wk (if split then { k with attr := 1, mode := chr 'E' } else k) i idA key
  let out := if split then first ++ s.symIngot wk { k with attr := 2, mode := chr 'D' } i (ofLE b.1) key else first
  let s := match idx with
    | some j => s.allocCounted it k.slice j k.limit idA
    | none => s
  (s, out, creationResult first (if split then 2 else 1))

/-- Check 11 of R122 for the counted uses of a verb, and for its own persistent effect (R231). -/
def State.checkUses (s : State) (ks : List KeyVal) (persistent : Bool := false) : Chk Unit :=
  s.checkRiser (persistent || ks.any (fun k => k.record.isSome))

/-- Checks 10 and 11 of a verb that creates symmetric ingots, and room for its record (R122, R245). -/
def State.checkCreate (s : State) (it : Item) (ks : List KeyVal) (slice : Nat) (split counted : Bool) : Chk Unit := do
  checkRoom it (if split then 256 else 128)
  s.checkUses ks counted
  ensure (!counted || (s.newIndex slice).isSome) 0x0208 1

/-- The header choices a template gives. -/
def ofTemplate (slice origin : Nat) (t : Bytes) : NewKey :=
  { slice := slice, alg := tAlg t, attr := byteAt t 1, mods := tMods t, origin := origin, bits := tBits t
    us := tUsage t, mode := tMode t, notBefore := fld t 8 8, notAfter := fld t 16 8, limit := tLimit t }

/-! ## Public keys and tickets (R249–R251) -/

/-- A public key as the verbs use it. -/
structure Pub where
  /-- ALG -/
  alg : Nat := 0
  /-- RSA modulus -/
  n : Nat := 0
  /-- RSA exponent -/
  e : Nat := 0
  /-- RSA modulus length in bytes -/
  k : Nat := 0
  /-- DATA: the ingot field PUBLIC -/
  data : Bytes := []
  deriving DecidableEq, Repr

/-- The RSA key of a PUBLIC field of modulus length k bytes. -/
def rsaPub (data : Bytes) (k : Nat) : Pub :=
  { alg := 0x10, n := ofBE (sub data 0 k), e := ofBE (data.drop (k + 1)), k := k, data := data }

/-- The public key of an asymmetric ingot. -/
def pubOfIngot (i : Bytes) : Pub :=
  if ingotAlg i = 0x10 then rsaPub (ingPublic i) (ingotBits i / 8) else { alg := ingotAlg i, data := ingPublic i }

/-- A PUBKEY structure in a segment at an input offset: its lengths agree (R249). -/
def parsePub (seg : Bytes) (off : Nat) : Chk Pub := do
  let alg := byteAt seg 0
  let el := byteAt seg 1
  let dl := fld seg 2 2
  ensure (seg.length ≥ 4 && dl + 4 == seg.length) 0x0103 (off + 2)
  let data := seg.drop 4
  if alg = 0x10 then do
    ensure (1 ≤ el && el ≤ 32 && dl > 1 + el && byteAt data (dl - 1 - el) == el) 0x0103 (off + 1)
    ensure (byteAt data 0 != 0) 0x0103 (off + 2)
    pure (rsaPub data (dl - 1 - el))
  else do
    ensure (!isAsym alg || el == 0) 0x0103 (off + 1)
    let good := match curveOf alg with
      | some c => dl == 1 || dl == 1 + c.len || dl == 1 + 2 * c.len
      | none => !isAsym alg || dl == 32
    ensure good 0x0103 (off + 2)
    pure { alg := alg, data := data }

/-- A size, exponent or curve the BNU works with: RSA from `minBits` on, its modulus a whole number of bytes (R176). -/
def Pub.supported (p : Pub) (minBits : Nat) : Bool :=
  if p.alg = 0x10 then minBits ≤ 8 * p.k && 8 * p.k ≤ 4096 && byteAt p.data 0 ≥ 128 && byteAt p.data (p.k + 1) != 0 && p.e % 2 == 1 && p.e ≥ 3
  else isAsym p.alg

/-- A PUBKEY structure written out (R249). -/
def pubBytesOf (p : Pub) : Bytes :=
  le 1 p.alg ++ le 1 (if p.alg = 0x10 then p.data.length - 1 - p.k else 0) ++ le 2 p.data.length ++ p.data

/-- A ticket (R250). -/
def State.mkTicket (s : State) (slice role notAfter : Nat) (digest : Bytes) (p : Pub) : Bytes :=
  let key := pubBytesOf p
  let padded := ceilDiv key.length 8 * 8
  let body := le 2 0x4B54 ++ [1] ++ le 1 role ++ le 2 (64 + padded + 16) ++ le 2 slice ++ le 2 (s.genOf slice) ++
    zeros 6 ++ le 8 notAfter ++ le 8 s.calOr0 ++ fit 32 digest ++ fit padded key
  body ++ cmacAes (s.wrapKey slice) body

/-- R251: a ticket checked for a role. Returns its public key. -/
def State.openTicket (s : State) (it : Item) (t : Bytes) (role : Nat) : Chk Pub := do
  let total := fld t 4 2
  let dl := fld t 0x42 2
  let k := dl - 1 - byteAt t 0x41
  ensure (fld t 0 2 == 0x4B54 && byteAt t 2 == 1 && total == t.length && total == 64 + ceilDiv (4 + dl) 8 * 8 + 16 &&
    fld t 6 2 < 4096 && (sub t 10 6).all (· == 0) &&
    cmacAes (s.wrapKey it.slice) (t.take (total - 16)) == sub t (total - 16) 16 &&
    fld t 8 2 ≤ s.genOf it.slice) 0x0202 3
  ensure (fld t 6 2 == it.slice) 0x0203 3
  ensure (fld t 8 2 ≥ s.genOf it.slice) 0x0209 3
  ensure (byteAt t 3 == role) 0x0204 3
  let na := fld t 0x10 8
  ensure (na == 0 || (match s.calendar with
    | some now => decide (na > now)
    | none => false)) 0x0206 3
  pure (rsaPub (sub t 0x44 dl) k)

end Sys2Proof.Machine
end

