-- ==== Sys2Proof/Machine/Stores.lean ====
section
/-!
DEFINITION. What the great events clear: measurement extends, card slots, the quorum session, Ngueth ports,
key stores and items (R65, R230, R359, R361, R387, R396, R476, R522, R535, R565).
-/
namespace Sys2Proof.Machine

/-! ## Measurement -/

/-- Extend a measurement register with a digest (R361): SHA-384(old ‖ d), the count saturating (R360),
recorded as MEAS_EXTENDED. -/
def State.measExtend (s : State) (i : Nat) (dig : Bytes) : State :=
  ({ s with mea.meas := modAt s.mea.meas i (fun m => sha384 (m ++ fit 48 dig))
            mea.measCount := modAt s.mea.measCount i (fun c => sat 32 (c + 1)) }).logG 0x0701
    (le 1 i ++ zeros 3 ++ dig.take 20)

/-- One record of the ICC transcript while a session is open (R359): slot 0 A, 1 B; direction 0 to the card,
1 from it. -/
def State.transcribe (s : State) (n dir : Nat) (data : Bytes) : State :=
  if s.dcc.session.isSome then
    { s with mea.transcript := s.mea.transcript ++ le 1 (0x41 + n) ++ le 1 dir ++ le 2 data.length ++ data }
  else s

/-! ## Contact-card slots (R535, R565) -/

/-- Contact-card slot n: 0 A, 1 B. -/
def State.icc (s : State) (n : Nat) : IccSlot := s.cards.icc.getD n {}

/-- Update a contact-card slot. -/
def State.modIcc (s : State) (n : Nat) (f : IccSlot → IccSlot) : State :=
  { s with cards.icc := modAt s.cards.icc n f }

/-- A slot's supply is on. -/
def IccSlot.powered (c : IccSlot) : Bool := c.state == .activating || c.state == .active

/-- The keypad leaves a slot: its entry and its place in the line go (R517, R521); the next slot waiting is
served. -/
def State.keypadLeave (s : State) (n : Nat) : State :=
  let k := s.dcc.keypad
  let w := k.waiting.filter (fun m => !(m == n))
  { s with dcc.keypad :=
      if k.slot == some n then { k with slot := w.head?, waiting := w.drop 1, entry := [], fnAt := none }
      else { k with waiting := w } }

/-- Deactivation of a contact-card slot: its outputs go low and the 10 ms hold begins (R535, R565). The card in
it, if any, stays unpowered; what was gathered from it is erased (R522). -/
def State.deactivateIcc (s : State) (n : Nat) : State :=
  let c := s.icc n
  let s := s.keypadLeave n
  if c.powered then
    s.modIcc n (fun c => { c with
      state := .deactivating, hold := true, cls := 0, protoT1 := false, clockStopped := false, edcCrc := false
      fi := 0, di := 0, ifsc := 0, khz := 0, triedB := false, noPps := false, specific := false, clockStop := 0
      blockRetries := 0, resynched := false, nS := 0, nR := 0, lastBlock := [], awaits := 0, sealed := false, exchange := none })
  else s.modIcc n (fun c => { c with exchange := none, sealed := false })

/-- Both contact-card slots deactivate; a held activation is dropped with them. -/
def State.deactivateCards (s : State) : State :=
  let s := (s.deactivateIcc 0).deactivateIcc 1
  { s with cards.icc := s.cards.icc.map (fun c =>
      if c.state == .activatePending then { c with state := .deactivating } else c) }

/-! ## The quorum session (R519–R522) -/

/-- The effective quorum M of a session (R520). -/
def State.quorumOf (s : State) (x : Session) : Nat :=
  let q := s.pat.quorums.getD x.cls 2
  if x.cls = 0 then 0
  else if x.cls = 1 then max q x.joinK
  else if x.cls = 2 ∨ x.cls = 5 then max q s.dcc.shareK
  else q

/-- DCC_SESSION.PHASE of an open session: 1 ADMITTING, 2 READY, 3 ISSUING (R520). -/
def State.phaseOf (s : State) (x : Session) : Nat :=
  match x.issuing with
  | some i => if i.mode = 3 then 2 else 3
  | none => if x.admitted.length ≥ s.quorumOf x then 2 else 1

/-- The status a ceremony verb that waits for cards gets from the session's end (R526): 2 expired, 3 closed,
4 cancelled, 5 Quench. -/
def endStatus (cause : Nat) : Nat :=
  match cause with
  | 2 => 0x0D03
  | 4 => 0x0D09
  | 5 => 0x0B02
  | _ => 0x0D01

/-- A ceremony verb that waits for its cards fails with its session: an enrolment entry not yet accepted is withdrawn,
and the verb gets its status (R526, R529). -/
def State.issuingFails (s : State) (slot status : Nat) : State :=
  let mine := s.per.waiting.filter (fun (e : CommitEntry) => e.item == some slot)
  let s := { (s.applyUndos ((mine.reverse.map (fun (e : CommitEntry) => e.undo)).flatten)) with
    per.waiting := s.per.waiting.filter (fun (e : CommitEntry) => !(e.item == some slot)) }
  match s.runningItem slot with
  | some it => s.finishM it status 0 [] [] 0 none []
  | none => s

/-- The open session ends with a cause: 1 done, 2 expired, 3 closed, 4 cancelled, 5 Quench, 6 reset (R522,
R533). Everything gathered is erased, the card slots deactivate, and the transcript extends MEAS4 (R359). -/
def State.endSession (s : State) (cause : Nat) : State :=
  match s.dcc.session with
  | none => s
  | some x =>
    let s := match x.issuing with
      | some i => s.issuingFails i.item (endStatus cause)
      | none => s
    let s := { s with
      dcc.session := none, dcc.lastClass := x.cls, dcc.lastPhase := 4, dcc.endCause := cause
      dcc.lastAdmitted := x.admitted.map (fun (a : Admitted) => a.index), dcc.lastQuorum := s.quorumOf x
      dcc.lastIssued := match x.issuing with
        | some i => i.written.length
        | none => s.dcc.lastIssued
      dcc.endedOnce := if cause = 2 ∨ cause = 4 then some (x.cls, cause) else none
      dcc.keypad := { s.dcc.keypad with slot := none, waiting := [], entry := [], fnAt := none } }
    let s := (s.dropDelay .quorum).logG 0x0A02 (le 1 cause)
    let s := s.deactivateCards
    let dig := sha384 s.mea.transcript
    { s with mea.transcript := [] }.measExtend 4 dig

/-! ## The SD slot (R535) -/

/-- The SD slot powers down: its 5 ms hold begins, and with `again` a power-up is held behind it (R535). -/
def State.sdPowerDown (s : State) (again : Bool) : State :=
  { s with
    cards.sdState := if again then .powerPending else .poweringOff
    cards.sdHold := true, cards.v18 := false, cards.sdMode := 0, cards.sdBusy := false
    cards.initStep := 0, cards.tuning := none, cards.retuneDue := false, cards.crcTries := 0
    cards.archive := none, cards.sdArchive := 0, cards.run := none }

/-! ## Ngueth ports (R395, R396) -/

/-- Every port drives electrical idle (R476, R47): enabled ports are DOWN, the others stay as they are. -/
def State.portsIdle (s : State) : State :=
  { s with ngl.ports := s.ngl.ports.map (fun (p : Port) =>
      if p.state = 0 ∨ p.state = 6 then p else p.fall 1) }

/-! ## Key stores (R230, R476) -/

/-- Key caches, key registers, tenant wrap keys, guard key slots and offers are zeroed (R230, R353, R387,
R476) with the PIN failure counts (R308): the cached keys and their handles are gone, and the offered numbers are FREE again. -/
def State.zeroVolatileKeys (s : State) : State :=
  let nums := s.slc.offers.map (fun o => o.slice)
  { s with
    kst.hubCache := [], kst.pinFails := []
    kst.uniq := s.kst.hubCache.foldl (fun u e => assocSet u e.index (wrap 16 (lookupD u e.index 0 + 1))) s.kst.uniq
    mea.slots := []
    fabric.clusters := s.fabric.clusters.map Cluster.zeroised
    slc.offers := []
    slc.slices := (s.slc.slices.filter (fun x => !(nums.contains x.number && x.state == 10))).map (fun (x : Slice) =>
      { x with hubKey := [] }) }

/-- Items at a Quench (R140, R149, R476): waiting items finish with QUENCHED, running items are aborted, a progressive
verb with what it has written (R329; R140's table names ABORTED alone: assumption log 8); a ceremony verb that waits for cards ends with its session (R526), PATTERN_STAGE
after its current page or block (R90). -/
def State.quenchItems (s : State) : State :=
  let issuing := match s.dcc.session with
    | some x => match x.issuing with
      | some i => [i.item]
      | none => []
    | none => []
  let wait := s.tnd.items.filter (fun x => x.state == .ready || x.state == .fenced || x.state == .delayed)
  let kept := match s.pat.staging with
    | some x => if x.pieceDue then [] else [x.item]
    | none => []
  let run := s.running.filter (fun x => !issuing.contains x.slot && !kept.contains x.slot)
  let s := s.endItems (wait.map (fun x => x.slot)) 0x0B02 0
  -- the BNUs' queued commands are discarded, the executing ones stopped (R200)
  let s := { s with fabric.clusters := s.fabric.clusters.map (fun (c : Cluster) => { c with bnuQueue := c.bnuQueue.take 1 }) }
  let s := run.foldl (fun (s : State) x => s.cutItem x.slot) s
  { s with pat.staging := if kept.isEmpty then none else s.pat.staging.map (fun x => { x with aborting := true })
           cards.run := none, cards.sdItem := none }

end Sys2Proof.Machine
end

