-- ==== Sys2Proof/Machine/KeyVerbs.lean ====
section
/-!
DEFINITION. Key management verbs: KEY_GENERATE, KEY_CHECK, COMPONENT_COMBINE, KDF_DERIVE, the ingot verbs and
COUNTER_RELEASE (R252–R254, R263–R269).
-/
namespace Sys2Proof.Machine

/-- Random bytes are available, or the item is aborted with DETAIL 1 (R356). -/
def State.checkRng (s : State) : Chk Unit := ensure s.mea.rngHealthy 0x0C01 1

/-- The outcome of an item that needs randomness from here on: aborted with DETAIL 1 where there is none (R356). -/
def State.randomly (s : State) (it : Item) (f : State → State) : State :=
  if s.mea.rngHealthy then f s else s.settle it.slot 0x0C01 1 0 [] [] []

/-! ## KEY_GENERATE (R252) -/

/-- Random key bytes for an algorithm: TDES with odd parity, drawn again while two of its keys agree (R217); none after
`fuel` draws. -/
def State.drawKey (s : State) (alg n : Nat) : Nat → Option Bytes × State
  | 0 => (none, s)
  | fuel + 1 =>
    let r := s.draw n
    if !isTdes alg then (some r.1, r.2)
    else
      let k := oddParity r.1
      if tdesDistinct k then (some k, r.2) else r.2.drawKey alg n fuel

/-- The key a verb draws; after 64 draws the row ends with the verb still at work, and its next row draws on (R217, R252). -/
def State.keyDrawn (s : State) (alg n : Nat) : Chk (Bytes × State) :=
  match s.drawKey alg n 64 with
  | (some k, s) => .ok (k, s)
  | (none, s) => .error (.again s.m.draws)

/-- The checks of KEY_GENERATE: the template (R252). -/
def State.keyGenerateChecks (s : State) (it : Item) : Chk Bytes := do
  let _ ← s.prologue it []
  checkInline it []
  let t := fit 32 it.input
  checkTemplate t 0 { alg := isSym }
  s.checkCreate it [] it.slice (tSplit t) (tCounted t)
  pure t

/-- KEY_GENERATE. -/
def execKeyGenerate (slot : Nat) (units : UnitReport) (s : State) : Host.Outcome State Fault Refusal :=
  .next (s.runVerb slot 0x0201 (fun s it => do
    let t ← s.keyGenerateChecks it
    let k ← s.keyDrawn (tAlg t) (tBits t / 8)
    pure ((k.2.reach12 it []).randomly it (fun s =>
      let r := (s.loadWork it (tAlg t) k.1).createSym it (ofTemplate it.slice 1 t) (tSplit t) k.1
      r.1.okS it units r.2.2 r.2.1 (tCounted t)))))

/-! ## KEY_CHECK (R253) -/

/-- A key leaves the caches of its cluster and the unpinned entries of the hub, its KCV being wrong (R253). -/
def State.evictKey (s : State) (it : Item) (k : KeyVal) : State :=
  let tag := ingTag k.ingot
  s.modCluster (s.physOfItem it) (fun c => { c with
    keys := c.keys.filter (fun (x : CachedKey) => !(x.slice == it.slice && ingTag x.ingot == tag))
    sbuKeys := c.sbuKeys.filter (fun (x : SbuKey) => !(x.slice == it.slice && x.tag == tag)) })

/-- The checks of KEY_CHECK: key A (R253). -/
def State.keyCheckChecks (s : State) (it : Item) : Chk KeyVal := do
  let ks ← s.prologue it [{ steps := [1, 2, 3, 4, 5], suit := fun a _ => isSym a }]
  keyed ks do
  checkInline it [(0x30, 6)]
  ensure (byteAt it.desc 0x35 ≤ 1) 0x010A 0x35
  pure (ks.headD {})

/-- KEY_CHECK: the KCV of key A is computed again and compared. -/
def execKeyCheck (slot : Nat) (units : UnitReport) (s : State) : Host.Outcome State Fault Refusal :=
  .next (s.runVerb slot 0x0202 (fun s it => do
    let k ← s.keyCheckChecks it
    let s := (s.reach12 it [k]).loadSbu it k
    let v := kcvOf (ingotAlg k.ingot) k.key
    if v != ingCheck k.ingot then pure ((s.evictKey it k).countStop 0x0202 |>.finishS it units 0x0202 0 [] [])
    else if byteAt it.desc 0x35 = 1 ∧ v ≠ sub it.desc 0x30 5 then pure (s.finishS it units 0x020D 0 [] [])
    else pure (s.okS it units (v ++ zeros 11) [])))

/-! ## COMPONENT_COMBINE (R254) -/

/-- The open session of a class; else the status a session of the class ended with, once, or NO_SESSION (R522). -/
def State.sessionFor (s : State) (cls : Nat) : Chk Session :=
  match s.dcc.session.filter (fun x => x.cls == cls) with
  | some x => .ok x
  | none => match s.dcc.endedOnce with
    | some e => .error (.late (if e.1 = cls then endStatus e.2 else 0x0D01) 0)
    | none => .error (.late 0x0D01 0)

/-- The components of the open session combined: exclusive or, odd parity for TDES. -/
def combine (alg : Nat) (cs : List Bytes) : Bytes :=
  let k := cs.tail.foldl xorB (cs.headD [])
  if isTdes alg then oddParity k else k

/-- The checks of COMPONENT_COMBINE: the target slice, the template and the combined key (R254). -/
def State.combineChecks (s : State) (it : Item) : Chk (Nat × Bytes × Bytes) := do
  let _ ← s.prologue it []
  checkInline it [(0x38, 2)]
  let target := fld it.desc 0x38 2
  ensure (target == 0 || (target < 4096 && (s.slice target).state != 0)) 0x010A 0x38
  let t := fit 32 it.input
  checkTemplate t 0 { alg := fun a => isSym a && a ≤ 5 }
  match (List.range 3).find? (fun i => byteAt it.input (37 + i) != 0) with
  | some i => stop 0x0105 (0x10000 + 37 + i)
  | none => pure ()
  let n := tBits t / 8
  s.checkCreate it [] target (tSplit t) (tCounted t)
  let x ← s.sessionFor 10
  let cs := x.comps.map (fun c => c.2)
  ensureLate (cs.length ≥ 2) 0x0D02 0
  ensureLate (cs.all (fun c => c.length == n)) 0x010A 0x10006
  let key := combine (tAlg t) cs
  ensureLate (!isTdes (tAlg t) || tdesDistinct key) 0x0205 0
  let kcv := kcvOf (tAlg t) key
  ensureLate ((sub it.input 32 5).all (· == 0) || sub it.input 32 5 == kcv) 0x020D 0
  s.checkRng
  pure (target, t, key)

/-- The effect of COMPONENT_COMBINE, apart from the erasure of the components. -/
def State.combineVerb (s : State) (it : Item) : Chk State := do
  let (target, t, key) ← s.combineChecks it
  let r := s.createSym it (ofTemplate target 4 t) (tSplit t) key
  pure (r.1.finishM it 0 0 r.2.2 r.2.1 0 none [])

/-- The session's components are erased (R254). -/
def State.eraseComponents (s : State) : State :=
  match s.dcc.session with
  | some x => { s with dcc.session := some { x with comps := [] } }
  | none => s

/-- COMPONENT_COMBINE: whatever the outcome, the components are erased. -/
def execComponentCombine (slot : Nat) (s : State) : Host.Outcome State Fault Refusal :=
  .next (match s.verbItem slot 0x0203 with
    | none => s
    | some it => (match s.combineVerb it with
      | .ok t => t
      | .error e => s.stopItem slot e).eraseComponents)

/-! ## KDF_DERIVE (R263) -/

/-- SP 800-108 counter mode over CMAC under key A, LABEL and CONTEXT as bytes. -/
def kdfUnder (key label context : Bytes) (n : Nat) : Bytes :=
  (((List.range (ceilDiv n 16)).map (fun i =>
    cmacAes key (be 4 (i + 1) ++ label ++ [0] ++ context ++ be 4 (8 * n)))).flatten).take n

/-- The checks of KDF_DERIVE: key A, the template and the derived key (R263). -/
def State.kdfChecks (s : State) (it : Item) : Chk (KeyVal × Bytes × Bytes) := do
  let ks ← s.prologue it [{ suit := fun a _ => isAes a, use := useOf 8 ["E6"] "X", counts := false }]
  keyed ks do
  let k := ks.headD {}
  checkInline it []
  let segs ← segments it [(32, 32), (1, 64), (0, 64)]
  let seg := fun (i : Nat) => (segs.getD i (0, [])).2
  let t := seg 0
  checkTemplate t 4 { alg := isSym, exportable := ingExportable k.ingot }
  s.checkCreate it ks it.slice (tSplit t) (tCounted t)
  let raw := kdfUnder k.key (seg 1) (seg 2) (tBits t / 8)
  pure (k, t, if isTdes (tAlg t) then oddParity raw else raw)

/-- KDF_DERIVE. -/
def execKdfDerive (slot : Nat) (units : UnitReport) (s : State) : Host.Outcome State Fault Refusal :=
  .next (s.runVerb slot 0x0230 (fun s it => do
    let (k, t, key) ← s.kdfChecks it
    let s := (s.reach12 it [k]).loadSbu it k
    if isTdes (tAlg t) && !tdesDistinct key then pure (s.finishS it units 0x0205 0 [] [])
    else
      pure (s.randomly it (fun s =>
        let r := (s.loadWork it (tAlg t) key).createSym it (ofTemplate it.slice 5 t) (tSplit t) key
        r.1.okS it units r.2.2 r.2.1 (tCounted t)))))

/-! ## Ingot management (R264–R269) -/

/-- FLAGS bits 0–3 of INGOT_INSPECT: stale, not yet valid, expired, exhausted. -/
def State.inspectFlags (s : State) (it : Item) (i : Bytes) : Nat :=
  let stale := decide (ingGen i < s.genOf it.slice)
  let bounded := ingNotBefore i != 0 || ingNotAfter i != 0
  let early := match s.calendar with
    | none => bounded
    | some t => decide (t < ingNotBefore i)
  let late := match s.calendar with
    | none => false
    | some t => ingNotAfter i != 0 && decide (t ≥ ingNotAfter i)
  let out := ingCounted i && (match s.recordOf it.slice i with
    | none => true
    | some c => decide (s.countNow c.index ≥ c.limit))
  b2n stale + 2 * b2n early + 4 * b2n late + 8 * b2n out

/-- COUNT and LIMIT of an ingot's record, 0 where it has none. -/
def State.countLimit (s : State) (it : Item) (i : Bytes) : Nat × Nat :=
  if !ingCounted i then (0, 0)
  else match s.recordOf it.slice i with
    | none => (0, 0)
    | some c => (s.countNow c.index, c.limit)

/-- The checks of INGOT_INSPECT: key A (R264). -/
def State.inspectChecks (s : State) (it : Item) : Chk KeyVal := do
  let ks ← s.prologue it [{ steps := [1, 2, 3], deep := false }]
  keyed ks do
  checkInline it []
  checkRoom it 56
  pure (ks.headD {})

/-- INGOT_INSPECT. -/
def execIngotInspect (slot : Nat) (units : UnitReport) (s : State) : Host.Outcome State Fault Refusal :=
  .next (s.runVerb slot 0x0240 (fun s it => do
    let k ← s.inspectChecks it
    let c := s.countLimit it k.ingot
    let flags := s.inspectFlags it k.ingot + (if k.byAddr then 0 else 16)
    pure ((s.reach12 it [k]).okS it units
      (le 1 flags ++ ingCheck k.ingot ++ zeros 2 ++ le 4 c.1 ++ le 4 c.2) (k.ingot.take 56))))

/-- The changes INGOT_RESTRICT asks for only narrow (R224, R265). VERIFY_ONLY may be set on any symmetric ENC key but one of
mode G, which R222 forbids to verify. -/
def narrows (i : Bytes) (set newMode nb na : Nat) : Bool :=
  let modeOk := newMode == 0 || newMode == ingMode i ||
    (ingAttr i == 4 && ingMode i == chr 'B' && (newMode == chr 'E' || newMode == chr 'D')) ||
    (ingAttr i == 1 && ingMode i == chr 'C' && (newMode == chr 'G' || newMode == chr 'V')) ||
    (bit set 2 && newMode == chr 'V')
  let verifyOk := !bit set 2 || (ingForm i == 1 && ingAttr i == 1 &&
    ingMode i != chr 'G' && (newMode == 0 || newMode == chr 'V'))
  modeOk && verifyOk && (nb == 0 || decide (nb ≥ ingNotBefore i)) &&
    (na == 0 || ingNotAfter i == 0 || decide (na ≤ ingNotAfter i))

/-- The narrowed copy: header and TAG are new, everything else is copied (R265). -/
def State.restricted (s : State) (it : Item) (i : Bytes) (mods mode nb na : Nat) : Bytes :=
  let body := sub i 0 10 ++ le 1 mods ++ sub i 11 5 ++ le 1 mode ++ sub i 17 15 ++ le 8 nb ++ le 8 na ++
    sub i 48 (ingTotal i - 16 - 48)
  body ++ cmacAes (s.wrapKey it.slice) body

/-- The checks of INGOT_RESTRICT: key A (R265). -/
def State.restrictChecks (s : State) (it : Item) : Chk KeyVal := do
  let ks ← s.prologue it [{ steps := [1, 2, 3, 4], deep := false }]
  keyed ks do
  let k := ks.headD {}
  let i := k.ingot
  checkInline it [(0x30, 3)]
  let set := byteAt it.desc 0x31
  ensure (byteAt it.desc 0x30 ≤ 1) 0x0105 0x30
  ensure (set == 0 || set == 4 || set == 8 || set == 12) 0x0105 0x31
  ensure (!(bit set 3 && ingForm i == 2)) 0x010A 0x31
  ensure (narrows i set (byteAt it.desc 0x32) (fld it.input 0 8) (fld it.input 8 8)) 0x0204 0
  checkRoom it (ingTotal i)
  pure k

/-- INGOT_RESTRICT. -/
def execIngotRestrict (slot : Nat) (units : UnitReport) (s : State) : Host.Outcome State Fault Refusal :=
  .next (s.runVerb slot 0x0241 (fun s it => do
    let k ← s.restrictChecks it
    let i := k.ingot
    let clear := byteAt it.desc 0x30
    let set := byteAt it.desc 0x31
    let nb := fld it.input 0 8
    let na := fld it.input 8 8
    let newMode := byteAt it.desc 0x32
    let mode := if bit set 2 then chr 'V' else if newMode = 0 then ingMode i else newMode
    let verify := ingVerifyOnly i || bit set 2 || (ingAttr i == 1 && newMode == chr 'V')
    let mods := b2n (ingExportable i && clear == 0) + 2 * b2n (ingCounted i) + 4 * b2n verify +
      8 * b2n (ingInverse i || bit set 3)
    let out := s.restricted it i mods mode (if nb = 0 then ingNotBefore i else nb) (if na = 0 then ingNotAfter i else na)
    pure ((s.reach12 it [k]).okS it units (creationResult out 1) out)))

/-- The handle of a pinned entry (R228). -/
def State.handleOf (s : State) (e : HubEntry) : Nat :=
  2 ^ 63 + e.slice * 2 ^ 32 + lookupD s.kst.uniq e.index 0 * 2 ^ 16 + e.index

/-- The entries a slice has pinned. -/
def State.pinnedBy (s : State) (n : Nat) : Nat :=
  (s.kst.hubCache.filter (fun (e : HubEntry) => e.pinned && e.slice == n)).foldl (fun k e => k + e.count) 0

/-- INGOT_PIN's effect on an ingot of the slice: the existing pin, a wait for its drain, or a new pin within the
limits of R228 (R266, R229). -/
def State.pinIngot (s : State) (it : Item) (k : KeyVal) : Chk (State × HubEntry × Bool) :=
  let tag := ingTag k.ingot
  let same := fun (e : HubEntry) => e.slice == it.slice && ingTag e.ingot == tag
  match s.kst.hubCache.find? (fun e => same e && e.pinned) with
  | some e => if e.withdrawn then waitFor else .ok (s, e, true)
  | none =>
    let n := if ingForm k.ingot = 1 then 1 else ceilDiv (ingTotal k.ingot) 128
    if s.hubPinned + n > 16384 || (it.slice != 0 && decide (s.pinnedBy it.slice + n > 1024)) then stop 0x0201 2
    else
      let s := (s.kst.hubCache.filter same).foldl State.freeHub s
      match s.makeRoom n 65536 with
      | (s, none) => let _ := s; stop 0x0201 2
      | (s, some i) =>
        let e : HubEntry := { index := i, count := n, slice := it.slice, ingot := k.ingot, key := k.key
                              pinned := true, lastAddr := k.addr }
        .ok ({ s with kst.hubCache := e :: s.kst.hubCache }, e, false)

/-- The checks of INGOT_PIN: key A (R266). -/
def State.pinChecks (s : State) (it : Item) : Chk KeyVal := do
  ensure (keyRef it 0 < 2 ^ 63) 0x0201 0
  let sym := ingForm (s.ingotOf it 0) == 1
  let ks ← s.prologue it [{ steps := [1, 2, 3, 4, 5, 6, 7], deep := sym }]
  keyed ks do
  checkInline it []
  pure (ks.headD {})

/-- INGOT_PIN. -/
def execIngotPin (slot : Nat) (units : UnitReport) (s : State) : Host.Outcome State Fault Refusal :=
  .next (s.runVerb slot 0x0242 (fun s it => do
    let k ← s.pinChecks it
    let s := (s.reach12 it []).installIn it k
    match s.pinIngot it k with
    | .error e => .error (.keyed [k] e)
    | .ok r =>
      let pin := fun (s : State) => { s with kst.hubCache := r.1.kst.hubCache, kst.uniq := r.1.kst.uniq }
      pure (s.finishS it units 0 0 (le 8 (r.1.handleOf r.2.1) ++ le 2 r.2.1.count ++ le 1 (b2n r.2.2) ++ zeros 5) []
        false pin)))

/-- The checks of INGOT_UNPIN: the entry of the handle (R267). -/
def State.unpinChecks (s : State) (it : Item) : Chk HubEntry := do
  ensure (decide (keyRef it 0 ≥ 2 ^ 63)) 0x0201 0
  let _ ← s.prologue it [{ steps := [1, 2] }]
  checkInline it []
  match s.hubOf it 0 with
  | none => stop 0x0201 0
  | some e =>
    ensure (!e.withdrawn) 0x0201 0
    pure e

/-- INGOT_UNPIN: the handle is withdrawn at once; its entry is freed when the last item accepted before the
withdrawal has finished (R229, R267). -/
def execIngotUnpin (slot : Nat) (s : State) : Host.Outcome State Fault Refusal :=
  .next (s.runVerb slot 0x0243 (fun s it => do
    let e ← s.unpinChecks it
    let s := { s with kst.hubCache := s.kst.hubCache.map (fun (x : HubEntry) =>
      if x.index = e.index then { x with withdrawn := true } else x) }
    pure (s.okS it {} [] [])))

/-- The checks of COUNTER_RELEASE: the record of key A (R268). A record another item holds is waited for
(R269). -/
def State.counterReleaseChecks (s : State) (it : Item) : Chk CountedRec := do
  let ks ← s.checkKeys it [{ steps := [1, 2, 3, 4], deep := false }]
  let k := ks.headD {}
  ensure (ingCounted k.ingot || it.faults.contains 1) 0x0204 0
  checkFetch it false [{}]
  match s.recordOf it.slice k.ingot with
  | none => stop 0x0208 1
  | some c =>
    if s.recordHeld c.index it.slot then waitFor
    else do
      checkInline it []
      s.checkRiser true
      pure c

/-- COUNTER_RELEASE: the record of key A is freed through the commit buffer (R268). -/
def execCounterRelease (slot : Nat) (units : UnitReport) (s : State) : Host.Outcome State Fault Refusal :=
  .next (s.runVerb slot 0x0244 (fun s it => do
    let c ← s.counterReleaseChecks it
    let n := s.countNow c.index
    let s := s.reach12 it []
    -- the record is freed only where the units' report leaves the verb standing (R165)
    let free := fun (s : State) =>
      (({ s with kst.counted := s.kst.counted.filter (fun (x : CountedRec) => !(x.index == c.index)) }).forgetCounts
        (· == c.index)).commit 24 (some (lineCounted c.index)) (some slot)
        [.counted c.index (some (s.sealCount { c with count := n }))]
    pure (s.finishS it units 0 0 (le 4 n ++ le 4 c.limit ++ zeros 8) [] true free)))

end Sys2Proof.Machine
end

