-- ==== Sys2Proof/Machine/Dukpt.lean ====
section
/-!
DEFINITION. DUKPT derivation and the verbs DUKPT_IK_DERIVE and DUKPT_KEY_DERIVE (R260–R262). The derivations are
those of ANSI X9.24-1-2017 and X9.24-3-2017, which R260 names (PRESUMED, assumption log 4).
-/
namespace Sys2Proof.Machine

/-- One bits of a number below 2^32. -/
def onesIn (v : Nat) : Nat := ((List.range 32).filter (fun i => v.testBit i)).length

/-! ## TDES DUKPT (X9.24-1) -/

/-- The 21-bit transaction counter of a 10-byte KSN. -/
def tdesCounter (ksn : Bytes) : Nat := ofBE ksn % 2 ^ 21

/-- The mask C0C0C0C000000000 in both halves. -/
def dukptMask : Bytes := be 16 0xC0C0C0C000000000C0C0C0C000000000

/-- The initial key of a BDK and a KSN. -/
def tdesIk (bdk ksn : Bytes) : Bytes :=
  let d := be 8 (ofBE (ksn.take 8) / 32 * 32)
  tdesEnc bdk d ++ tdesEnc (xorB bdk dukptMask) d

/-- One half of the non-reversible key generation process. -/
def dukptHalf (key reg : Bytes) : Bytes :=
  let l := key.take 8
  let r := key.drop 8
  xorB (desBlock (desKeys l) (xorB reg r)) r

/-- The transaction key of an initial key and a KSN. -/
def tdesTransaction (ik ksn : Bytes) : Bytes :=
  let c := tdesCounter ksn
  let base := ofBE (ksn.drop 2) / 2 ^ 21 * 2 ^ 21
  ((List.range 21).reverse.foldl (fun (p : Nat × Bytes) i =>
    if c.testBit i then
      let reg := p.1 + 2 ^ i
      (reg, dukptHalf (xorB p.2 dukptMask) (be 8 reg) ++ dukptHalf p.2 (be 8 reg))
    else p) (base, ik)).2

/-- The mask of a variant: byte `i` of each half inverted (R156). -/
def variantMask (i : Nat) : Bytes :=
  let m := zeros i ++ [0xFF] ++ zeros (7 - i)
  m ++ m

/-- A variant of the transaction key. -/
def dukptVariant (key : Bytes) (i : Nat) : Bytes := xorB key (variantMask i)

/-- The variant of a scheme 1 use: 0 PIN, 1 MAC, 2 data; `resp` the response variant. -/
def variantOf (use : Nat) (resp : Bool) : Nat :=
  match use with
  | 0 => 7
  | 1 => if resp then 4 else 6
  | _ => if resp then 3 else 5

/-- The scheme 1 working key of a use: 0 PIN, 1 MAC, 2 data with the one-way step; `resp` the response variant. -/
def tdesWorking (key : Bytes) (use : Nat) (resp : Bool) : Bytes :=
  let v := dukptVariant key (variantOf use resp)
  if use ≤ 1 then v else tdesEnc v (v.take 8) ++ tdesEnc v (v.drop 8)

/-! ## AES DUKPT (X9.24-3) -/

/-- Algorithm indicator and key length of an ALG code. -/
def aesKeyType (alg : Nat) : Nat × Nat :=
  match alg with
  | 1 => (0, 128) | 2 => (1, 192) | 3 => (2, 128) | 4 => (3, 192) | _ => (4, 256)

/-- A key of a type derived with derivation data that ends in 8 given bytes. -/
def aesDerive (key : Bytes) (usg alg : Nat) (last : Bytes) : Bytes :=
  let t := aesKeyType alg
  (((List.range (ceilDiv t.2 128)).map (fun i =>
    aesEnc key ([1] ++ le 1 (i + 1) ++ be 2 usg ++ be 2 t.1 ++ be 2 t.2 ++ last))).flatten).take (t.2 / 8)

/-- The initial key of a BDK of an ALG and an 8-byte initial key ID. -/
def aesIk (bdk : Bytes) (alg : Nat) (ikid : Bytes) : Bytes := aesDerive bdk 0x8001 alg ikid

/-- The 32-bit transaction counter of a 12-byte KSN. -/
def aesCounter (ksn : Bytes) : Nat := ofBE (ksn.drop 8)

/-- A working key of a type from an initial key of an ALG and a KSN. -/
def aesWorking (ik : Bytes) (ikAlg : Nat) (ksn : Bytes) (usg alg : Nat) : Bytes :=
  let c := aesCounter ksn
  let id := sub ksn 4 4
  let k := ((List.range 32).reverse.foldl (fun (p : Nat × Bytes) i =>
    if c.testBit i then
      let w := p.1 + 2 ^ i
      (w, aesDerive p.2 0x8000 ikAlg (id ++ be 4 w))
    else p) (0, ik)).2
  aesDerive k usg alg (id ++ be 4 c)

/-! ## Shared by the verbs that derive DUKPT keys -/

/-- Length of a KSN under a scheme. -/
def ksnLen (scheme : Nat) : Nat := if scheme = 1 then 10 else 12

/-- The counter of a KSN is not 0 and has no more one bits than its standard allows (R262). -/
def ksnOk (scheme : Nat) (ksn : Bytes) : Bool :=
  let c := if scheme = 1 then tdesCounter ksn else aesCounter ksn
  c != 0 && onesIn c ≤ (if scheme = 1 then 10 else 16)

/-- The algorithm of key A under a scheme: 1 two-key TDES, 2 AES. -/
def dukptSuits (scheme alg : Nat) : Bool :=
  if scheme = 1 then alg == 1 else if scheme = 2 then isAes alg else isTdes alg || isAes alg

/-- Key usage of scheme 2 by KEY_USE. -/
def aesUsage (use : Nat) : Nat :=
  match use with
  | 1 => 0x1000 | 2 => 0x1000 | 3 => 0x2000 | 4 => 0x2001 | 5 => 0x2002 | 6 => 0x3000 | _ => 0x3001

/-- The scheme 1 use of a KEY_USE: 0 PIN, 1 MAC, 2 data. -/
def schemeUse (use : Nat) : Nat := if use ≤ 2 then 0 else if use ≤ 5 then 1 else 2

/-- The transaction key of scheme 1 that key A (a BDK or an initial key) and a KSN give. -/
def dukptTransaction (i key ksn : Bytes) : Bytes :=
  tdesTransaction (if ingUsage i == usage "B0" then tdesIk key ksn else key) ksn

/-- The working key that key A (a BDK or an initial key), a KSN, a KEY_USE and a type give. -/
def dukptWorking (scheme : Nat) (i key ksn : Bytes) (use alg : Nat) (resp : Bool) : Bytes :=
  if scheme = 1 then tdesWorking (dukptTransaction i key ksn) (schemeUse use) resp
  else
    let ik := if ingUsage i == usage "B0" then aesIk key (ingotAlg i) (ksn.take 8) else key
    aesWorking ik (ingotAlg i) ksn (aesUsage use) alg

/-- The keys of a DUKPT derivation reach a key register: under scheme 1 the transaction key with the variant of its use, and
the data key made with it; under scheme 2 the working key (R156, R160). -/
def State.loadDukpt (s : State) (it : Item) (scheme : Nat) (i key ksn : Bytes) (use alg : Nat) (resp : Bool) : State :=
  if scheme = 1 then
    let s := s.loadWork it 1 (dukptTransaction i key ksn) (variantMask (variantOf (schemeUse use) resp))
    if schemeUse use = 2 then s.loadWork it 1 (dukptWorking scheme i key ksn use alg resp) else s
  else s.loadWork it alg (dukptWorking scheme i key ksn use alg resp)

/-- The initial key of a BDK and an ID: 10 bytes under scheme 1, 8 bytes under scheme 2. -/
def dukptIk (scheme : Nat) (i key id : Bytes) : Bytes :=
  if scheme = 1 then tdesIk key id else aesIk key (ingotAlg i) (id.take 8)

/-! ## Verbs -/

/-- The checks of DUKPT_IK_DERIVE: key A and the initial key (R260). -/
def State.ikChecks (s : State) (it : Item) : Chk (KeyVal × Bytes) := do
  let scheme := byteAt it.desc 0x30
  let ks ← s.prologue it [{ suit := fun a _ => dukptSuits scheme a, use := useOf 8 ["B0"] "X", counts := false }]
  keyed ks do
  let k := ks.headD {}
  let flags := byteAt it.desc 0x31
  checkInline it [(0x30, 2), (0x34, if scheme = 1 then 10 else 8)]
  ensure (scheme == 1 || scheme == 2) 0x010A 0x30
  ensure (flags < 4) 0x0105 0x31
  ensure (!bit flags 0 || ingExportable k.ingot) 0x010A 0x31
  let id := sub it.desc 0x34 (if scheme = 1 then 10 else 8)
  ensure (scheme != 1 || tdesCounter id == 0) 0x010A 0x34
  s.checkCreate it ks it.slice false false
  pure (k, dukptIk scheme k.ingot k.key id)

/-- DUKPT_IK_DERIVE. -/
def execDukptIkDerive (slot : Nat) (units : UnitReport) (s : State) : Host.Outcome State Fault Refusal :=
  .next (s.runVerb slot 0x0220 (fun s it => do
    let (k, ik) ← s.ikChecks it
    let scheme := byteAt it.desc 0x30
    let flags := byteAt it.desc 0x31
    let s := (s.reach12 it [k]).loadSbu it k
    if scheme == 1 && !tdesDistinct ik then pure (s.finishS it units 0x0205 0 [] [])
    else pure (s.randomly it (fun s =>
      let s := s.loadWork it (ingotAlg k.ingot) ik
      let r := s.createSym it { slice := it.slice, alg := ingotAlg k.ingot, attr := 8
                                mods := b2n (bit flags 0) + 8 * b2n (bit flags 1), origin := 5
                                bits := ingotBits k.ingot, us := usage "B1", mode := chr 'X'
                                notBefore := ingNotBefore k.ingot, notAfter := ingNotAfter k.ingot } false ik
      r.1.okS it units r.2.2 r.2.1))))

/-- The role of a working key by KEY_USE: ATTR, TR31_USAGE, TR31_MODE (R261). -/
def keyUseRole (use alg : Nat) : Nat × Nat × Nat :=
  let mac := usage (if isTdes alg then "M3" else "M6")
  match use with
  | 1 => (1, usage "P0", chr 'E')
  | 2 => (2, usage "P0", chr 'D')
  | 3 => (1, mac, chr 'G')
  | 4 => (1, mac, chr 'V')
  | 5 => (1, mac, chr 'C')
  | 6 => (1, usage "D0", chr 'E')
  | _ => (2, usage "D0", chr 'D')

/-- The checks of DUKPT_KEY_DERIVE: key A and the working key (R261). -/
def State.workingChecks (s : State) (it : Item) : Chk (KeyVal × Bytes) := do
  let d := it.desc
  let scheme := byteAt d 0x30
  let use := byteAt d 0x31
  let alg := byteAt d 0x32
  let flags := byteAt d 0x33
  let ks ← s.prologue it
    [{ suit := fun a _ => dukptSuits scheme a, use := useOf 8 ["B0", "B1"] "X", counts := false }]
  keyed ks do
  let k := ks.headD {}
  checkInline it [(0x30, 4), (0x34, ksnLen scheme)]
  ensure (scheme == 1 || scheme == 2) 0x010A 0x30
  ensure (1 ≤ use && use ≤ 7) 0x010A 0x31
  ensure (1 ≤ alg && alg ≤ 5 && (scheme != 1 || alg == 1)) 0x010A 0x32
  ensure (flags < 8) 0x0105 0x33
  ensure (!bit flags 0 || ingExportable k.ingot) 0x010A 0x33
  ensure (!bit flags 2 || (scheme == 1 && use ≥ 3)) 0x010A 0x33
  let ksn := sub d 0x34 (ksnLen scheme)
  ensure (ksnOk scheme ksn) 0x010A 0x34
  ensure (scheme == 1 || strength alg (aesKeyType alg).2 ≤ strength (ingotAlg k.ingot) (ingotBits k.ingot)) 0x0205 0
  s.checkCreate it ks it.slice false false
  let raw := dukptWorking scheme k.ingot k.key ksn use alg (bit flags 2)
  pure (k, if isTdes alg then oddParity raw else raw)

/-- DUKPT_KEY_DERIVE. -/
def execDukptKeyDerive (slot : Nat) (units : UnitReport) (s : State) : Host.Outcome State Fault Refusal :=
  .next (s.runVerb slot 0x0221 (fun s it => do
    let (k, key) ← s.workingChecks it
    let use := byteAt it.desc 0x31
    let alg := byteAt it.desc 0x32
    let flags := byteAt it.desc 0x33
    let bits := (aesKeyType alg).2
    let s := (s.reach12 it [k]).loadSbu it k
    if isTdes alg && !tdesDistinct key then pure (s.finishS it units 0x0205 0 [] [])
    else
      let role := keyUseRole use alg
      pure (s.randomly it (fun s =>
        let s := s.loadDukpt it (byteAt it.desc 0x30) k.ingot k.key (sub it.desc 0x34 (ksnLen (byteAt it.desc 0x30))) use alg
          (bit flags 2)
        let r := s.createSym it { slice := it.slice, alg := alg, attr := role.1
                                  mods := b2n (bit flags 0) + 4 * b2n (use == 4) + 8 * b2n (bit flags 1)
                                  origin := 5, bits := bits, us := role.2.1, mode := role.2.2
                                  notBefore := ingNotBefore k.ingot, notAfter := ingNotAfter k.ingot } false key
        r.1.okS it units r.2.2 r.2.1))))

end Sys2Proof.Machine
end

