-- ==== Sys2Proof/Machine/Tr31.lean ====
section
/-!
DEFINITION. TR-31 key blocks and the verbs TR31_IMPORT, TR31_EXPORT and TR31_TRANSLATE (R226, R227, R255–R259).
The block format is that of ANSI X9.143-2022, which R255 names (PRESUMED, assumption log 4).
-/
namespace Sys2Proof.Machine

/-! ## Characters -/

/-- The value of an ASCII hexadecimal digit. -/
def hexVal (b : Byte) : Option Nat :=
  let c := b.toNat
  if 0x30 ≤ c ∧ c ≤ 0x39 then some (c - 0x30)
  else if 0x41 ≤ c ∧ c ≤ 0x46 then some (c - 0x37)
  else none

/-- The number an ASCII text in a base (10 or 16) spells. -/
def textNum (base : Nat) (t : Bytes) : Option Nat :=
  t.foldl (fun (acc : Option Nat) b => match acc, hexVal b with
    | some v, some d => if d < base then some (base * v + d) else none
    | _, _ => none) (some 0)

/-- The ASCII digit of a value below 16. -/
def digitOf (v : Nat) : Byte := BitVec.ofNat 8 (if v < 10 then 0x30 + v else 0x37 + v)

/-- `n` ASCII digits of a number in a base. -/
def numText (base : Nat) : Nat → Nat → Bytes
  | 0, _ => []
  | n + 1, v => numText base n (v / base) ++ [digitOf (v % base)]

/-- Bytes as ASCII hexadecimal text. -/
def hexText (b : Bytes) : Bytes := (b.map (fun x => numText 16 2 x.toNat)).flatten

/-- ASCII hexadecimal text as bytes; none where a character is no digit or their number is odd. -/
def hexBytes (t : Bytes) : Option Bytes :=
  if t.length % 2 = 1 then none
  else (blocksOf 2 t).foldl (fun (acc : Option Bytes) p => match acc, textNum 16 p with
    | some v, some d => some (v ++ le 1 d)
    | _, _ => none) (some [])

/-- A printable ASCII character. -/
def printable (b : Byte) : Bool := 0x20 ≤ b.toNat && b.toNat ≤ 0x7E

/-! ## The header and its optional blocks -/

/-- A parsed key block. -/
structure KeyBlock where
  /-- version character -/
  version : Nat := 0
  /-- usage, two characters -/
  us : Nat := 0
  /-- algorithm character -/
  alg : Nat := 0
  /-- mode character -/
  mode : Nat := 0
  /-- key version, two characters -/
  keyVersion : Bytes := []
  /-- exportability character -/
  exp : Nat := 0
  /-- key context character -/
  context : Nat := 0
  /-- optional blocks: identifier and data -/
  opts : List (Bytes × Bytes) := []
  /-- header with its optional blocks, as text -/
  head : Bytes := []
  /-- enciphered key data -/
  cipher : Bytes := []
  /-- block MAC -/
  mac : Bytes := []
  deriving DecidableEq, Repr

/-- MAC length of a version in bytes. -/
def macLen (v : Nat) : Nat := if v = chr 'B' then 8 else if v = chr 'D' then 16 else 4

/-- The optional blocks from an offset on, with the offset past them; an offset is where a length disagrees. -/
def optBlocks (t : Bytes) : Nat → Nat → Except Nat (List (Bytes × Bytes) × Nat)
  | 0, off => .ok ([], off)
  | n + 1, off =>
    let id := sub t off 2
    if off + 4 > t.length then .error (off + 2)
    else
      -- "00" announces an extended length: the number of its digits, then the length itself
      let short := textNum 16 (sub t (off + 2) 2)
      let ext := if short = some 0 then textNum 16 (sub t (off + 4) 2) else none
      let len := match ext with
        | some k => textNum 16 (sub t (off + 6) k)
        | none => short
      let head := match ext with
        | some k => 6 + k
        | none => 4
      match len with
      | none => .error (off + 2)
      | some l =>
        if l < head ∨ off + l > t.length then .error (off + 2)
        else match optBlocks t n (off + l) with
          | .error e => .error e
          | .ok r => .ok ((id, sub t (off + head) (l - head)) :: r.1, r.2)

/-- Every header character is of the set X9.143 allows: printable, digits where it has numbers, a key context of
'0' to '2', the reserved character '0' (R255, R256). -/
def headerChars (t : Bytes) : Bool :=
  (sub t 0 16).all printable && (textNum 10 (sub t 1 4)).isSome && (textNum 10 (sub t 12 2)).isSome &&
    [chr '0', chr '1', chr '2'].contains (byteAt t 14) && byteAt t 15 == chr '0' &&
    [chr 'E', chr 'N', chr 'S'].contains (byteAt t 11)

/-- KEYBLOCK_INVALID with a detail (R256). -/
def badBlock (c : Bool) (detail : Nat) : Chk Unit := ensure c 0x020C detail

/-- The ALG code of an algorithm character and a key length in bits. -/
def algOfChar (c bits : Nat) : Option Nat :=
  if c = chr 'T' then (if bits = 128 then some 1 else if bits = 192 then some 2 else none)
  else if c = chr 'A' then (if bits = 128 then some 3 else if bits = 192 then some 4 else if bits = 256 then some 5
    else none)
  else if c = chr 'H' then (if 128 ≤ bits ∧ bits ≤ 256 ∧ bits % 8 = 0 then some 6 else none)
  else none

/-- The algorithm character of an ALG code. -/
def charOfAlg (alg : Nat) : Nat := if isTdes alg then chr 'T' else if isAes alg then chr 'A' else chr 'H'

/-- An accepted usage, algorithm and mode of the header (R226); length apart. -/
def headerAttr (b : KeyBlock) : Option Nat :=
  let rep := if b.alg = chr 'T' then 1 else if b.alg = chr 'A' then 3 else if b.alg = chr 'H' then 6 else 0
  rowAttr rep b.us b.mode

/-- The version suits the KBPK: A, B and C a TDES key, D an AES key (R255). -/
def versionSuits (v kbpkAlg : Nat) (withA : Bool) : Bool :=
  ((v == chr 'B' || v == chr 'C' || (withA && v == chr 'A')) && isTdes kbpkAlg) || (v == chr 'D' && isAes kbpkAlg)

/-- The data of an accepted optional block has its form. -/
def optFormOk (o : Bytes × Bytes) : Bool :=
  if o.1 = ascii "IK" then o.2.length == 16 && (hexBytes o.2).isSome
  else if o.1 = ascii "KS" then o.2.length == 20 && (hexBytes o.2).isSome
  else if o.1 = ascii "KC" ∨ o.1 = ascii "KP" then
    6 ≤ o.2.length && o.2.length ≤ 12 && (hexBytes o.2).isSome &&
      (o.2.take 2 == ascii "00" || o.2.take 2 == ascii "01")
  else if o.1 = ascii "PB" ∨ o.1 = ascii "TS" then o.2.all printable
  else false

/-- A KCV an optional block gives agrees with a computed one, over the bytes it has. -/
def kcvAgrees (o : Bytes) (kcv : Bytes) : Bool :=
  match hexBytes (o.drop 2) with
  | some v => v == kcv.take v.length
  | none => false

/-- A block parsed and checked up to its MAC: characters, lengths, version, usage, optional blocks (R255, R257). -/
def parseBlock (t : Bytes) (kbpkAlg : Nat) (kbpkKcv : Bytes) (withA : Bool) : Chk KeyBlock := do
  badBlock (headerChars t) 6
  ensure (textNum 10 (sub t 1 4) == some t.length) 0x0103 1
  let n := (textNum 10 (sub t 12 2)).getD 0
  let os ← match optBlocks t n 16 with
    | .ok r => pure r
    | .error off => stop 0x0103 off
  let v := byteAt t 0
  let rest := t.drop os.2
  let body ← match hexBytes rest with
    | some b => pure b
    | none => stop 0x0109 os.2
  let m := macLen v
  ensure (body.length ≥ m + 8 && (body.length - m) % (if v = chr 'D' then 16 else 8) == 0) 0x0109 os.2
  badBlock (versionSuits v kbpkAlg withA) 2
  let b : KeyBlock := { version := v, us := fld t 5 2, alg := byteAt t 7, mode := byteAt t 8, keyVersion := sub t 9 2
                        exp := byteAt t 11, context := byteAt t 14, opts := os.1, head := t.take os.2
                        cipher := body.take (body.length - m), mac := body.drop (body.length - m) }
  badBlock ((headerAttr b).isSome && byteAt b.keyVersion 0 != chr 'c') 3
  let ids := b.opts.map (fun o => o.1)
  badBlock (b.opts.all optFormOk && ids.eraseDups.length == ids.length) 4
  match b.opts.lookup (ascii "KC") with
  | some o => ensure (kcvAgrees o kbpkKcv) 0x020D 0
  | none => pure ()
  pure b

/-! ## Protection -/

/-- A key derived from the KBPK by CMAC: usage 0 encryption, 1 authentication (versions B and D). -/
def bindKey (alg : Nat) (kbpk : Bytes) (use : Nat) : Bytes :=
  let n := kbpk.length
  let ind := match alg with
    | 1 => 0 | 2 => 1 | 3 => 2 | 4 => 3 | _ => 4
  let blk := if isTdes alg then 8 else 16
  let mac := fun (m : Bytes) => if isTdes alg then cmacTdes kbpk m else cmacAes kbpk m
  (((List.range (ceilDiv n blk)).map (fun i =>
    mac (le 1 (i + 1) ++ be 2 use ++ [0] ++ be 2 ind ++ be 2 (8 * n)))).flatten).take n

/-- The encryption and MAC keys of a version (A and C: variants of the KBPK). -/
def blockKeys (v alg : Nat) (kbpk : Bytes) : Bytes × Bytes :=
  if v = chr 'B' ∨ v = chr 'D' then (bindKey alg kbpk 0, bindKey alg kbpk 1)
  else (kbpk.map (· ^^^ 0x45), kbpk.map (· ^^^ 0x4D))

/-- The MAC of a block over its header and its clear or enciphered key data. -/
def blockMac (v : Nat) (kbak head clear cipher : Bytes) : Bytes :=
  if v = chr 'D' then cmacAes kbak (head ++ clear)
  else if v = chr 'B' then cmacTdes kbak (head ++ clear)
  else ((blocksOf 8 (head ++ cipher)).foldl (fun c b => tdesEnc kbak (xorB c (fit 8 b))) (zeros 8)).take 4

/-- The clear key data of a block. -/
def decipherBlock (v : Nat) (kbek : Bytes) (b : KeyBlock) : Bytes :=
  if v = chr 'D' then cbcDecWith (aesDecBlock (aesExpand kbek)) b.mac (blocksOf 16 b.cipher)
  else cbcDecWith (tdesDec kbek) (if v = chr 'B' then b.mac else b.head.take 8) (blocksOf 8 b.cipher)

/-- The key inside a block and its ALG: MAC, length field, parity, distinctness and KP in the order of R257. -/
def openBlock (b : KeyBlock) (kbpkAlg : Nat) (kbpk : Bytes) : Chk (Nat × Bytes) := do
  let ks := blockKeys b.version kbpkAlg kbpk
  let clear := decipherBlock b.version ks.1 b
  badBlock (blockMac b.version ks.2 b.head clear b.cipher == b.mac) 1
  let len := ofBE (clear.take 2)
  let alg ← match algOfChar b.alg len with
    | some a => if 2 + len / 8 ≤ clear.length then pure a else stop 0x020C 5
    | none => stop 0x020C 5
  let key := sub clear 2 (len / 8)
  ensure (!isTdes alg || (parityOk key && tdesDistinct key)) 0x0205 0
  match b.opts.lookup (ascii "KP") with
  | some o => ensure (kcvAgrees o (kcvOf alg key)) 0x020D 0
  | none => pure ()
  pure (alg, key)

/-- An optional block as text. -/
def optText (id : String) (data : Bytes) : Bytes := ascii id ++ numText 16 2 (4 + data.length) ++ data

/-- KP or KC: the KCV with its method (00 TDES, 01 CMAC and HMAC). -/
def kcvText (id : String) (alg : Nat) (kcv : Bytes) : Bytes :=
  optText id (if isTdes alg then ascii "00" ++ hexText (kcv.take 3) else ascii "01" ++ hexText kcv)

/-- Days before a year of the calendar that starts in 2000. -/
def daysBefore (y : Nat) : Nat := 365 * y + (y + 3) / 4 - (y + 99) / 100 + (y + 399) / 400

/-- Year, month, day of a day number since 2000-01-01; fuel bounds the months. -/
def dateOf (days : Nat) : Nat × Nat × Nat :=
  let y := ((List.range 300).filter (fun y => daysBefore y ≤ days)).length - 1
  let d := days - daysBefore y
  let leap := y % 4 = 0 ∧ (y % 100 ≠ 0 ∨ y % 400 = 0)
  let lens := [31, if leap then 29 else 28, 31, 30, 31, 30, 31, 31, 30, 31, 30, 31]
  let r := lens.foldl (fun (p : Nat × Nat × Bool) l =>
    if p.2.2 then p else if p.2.1 < l then (p.1, p.2.1, true) else (p.1 + 1, p.2.1 - l, false)) (1, d, false)
  (2000 + y, r.1, r.2.1 + 1)

/-- A calendar time as YYYYMMDDhhmmssZ. -/
def timeText (t : Nat) : Bytes :=
  let d := dateOf (t / 86400)
  numText 10 4 d.1 ++ numText 10 2 d.2.1 ++ numText 10 2 d.2.2 ++ numText 10 2 (t / 3600 % 24) ++
    numText 10 2 (t / 60 % 60) ++ numText 10 2 (t % 60) ++ ascii "Z"

/-- What a block to be written carries. -/
structure BlockPlan where
  /-- version -/
  version : Nat := 0
  /-- usage -/
  us : Nat := 0
  /-- ALG of the inner key -/
  alg : Nat := 0
  /-- mode -/
  mode : Nat := 0
  /-- key version -/
  keyVersion : Bytes := []
  /-- exportability -/
  exp : Nat := 0
  /-- key context -/
  context : Nat := 0
  /-- OPTS: bit 0 KP, bit 1 KC, bit 2 TS -/
  opts : Nat := 0
  /-- KS and IK blocks carried over -/
  carried : List (Bytes × Bytes) := []
  deriving DecidableEq, Repr

/-- The optional blocks before any padding block. -/
def planOpts (p : BlockPlan) (key : Bytes) (kbpkAlg : Nat) (kbpk : Bytes) (now : Nat) : List Bytes :=
  p.carried.map (fun o => o.1 ++ numText 16 2 (4 + o.2.length) ++ o.2) ++
    (if bit p.opts 0 then [kcvText "KP" p.alg (kcvOf p.alg key)] else []) ++
    (if bit p.opts 1 then [kcvText "KC" kbpkAlg (kcvOf kbpkAlg kbpk)] else []) ++
    (if bit p.opts 2 then [optText "TS" (timeText now)] else [])

/-- Length of the padding block that a section of optional blocks needs to fill whole cipher blocks; 0 none. -/
def pbLen (blk n : Nat) : Nat :=
  if n % blk = 0 then 0 else let r := blk - n % blk; if r < 4 then r + blk else r

/-- E of R258: the length field and the padded key, in whole cipher blocks. -/
def keyDataLen (alg blk : Nat) : Nat := ceilDiv (2 + (if isTdes alg then 24 else 32)) blk * blk

/-- A padding character drawn at random: a hexadecimal digit. -/
def padChars (b : Bytes) : Bytes := b.map (fun x => digitOf (x.toNat % 16))

/-- The length of the block of a plan (R258). -/
def planLen (p : BlockPlan) (key : Bytes) (kbpkAlg : Nat) (kbpk : Bytes) (now : Nat) : Nat :=
  let blk := if isAes kbpkAlg then 16 else 8
  let o := ((planOpts p key kbpkAlg kbpk now).map List.length).foldl (· + ·) 0
  16 + o + pbLen blk o + 2 * (keyDataLen p.alg blk + macLen p.version)

/-- The block of a plan, with `rand` as its random padding: the key data's first, then the padding block's. -/
def writeBlock (p : BlockPlan) (key : Bytes) (kbpkAlg : Nat) (kbpk : Bytes) (now : Nat) (rand : Bytes) : Bytes :=
  let blk := if isAes kbpkAlg then 16 else 8
  let os := planOpts p key kbpkAlg kbpk now
  let o := (os.map List.length).foldl (· + ·) 0
  let pb := pbLen blk o
  let e := keyDataLen p.alg blk
  let clear := be 2 (8 * key.length) ++ key ++ sub rand 0 (e - 2 - key.length)
  let opts := os.flatten ++ (if pb = 0 then [] else optText "PB" (padChars (sub rand 32 (pb - 4))))
  let n := os.length + (if pb = 0 then 0 else 1)
  let total := 16 + opts.length + 2 * (e + macLen p.version)
  let head := le 1 p.version ++ numText 10 4 total ++ le 2 p.us ++ le 1 (charOfAlg p.alg) ++ le 1 p.mode ++
    p.keyVersion ++ le 1 p.exp ++ numText 10 2 n ++ le 1 p.context ++ ascii "0" ++ opts
  let ks := blockKeys p.version kbpkAlg kbpk
  if p.version = chr 'C' then
    let c := cbcEncWith (tdesEnc ks.1) (head.take 8) (blocksOf 8 clear)
    head ++ hexText c ++ hexText (blockMac p.version ks.2 head clear c)
  else
    let mac := blockMac p.version ks.2 head clear []
    let c := if p.version = chr 'D' then cbcEncWith (aesEncBlock (aesExpand ks.1)) mac (blocksOf 16 clear)
      else cbcEncWith (tdesEnc ks.1) mac (blocksOf 8 clear)
    head ++ hexText c ++ hexText mac

/-! ## Verbs -/

/-- A KBPK to unwrap with. -/
def unwrapNeed (which : Nat) : KeyNeed :=
  { which := which, suit := fun a _ => isTdes a || isAes a, use := useOf 4 ["K0", "K1"] "DB" }

/-- A KBPK to wrap with. -/
def wrapNeed (which : Nat) : KeyNeed :=
  { which := which, suit := fun a _ => isTdes a || isAes a, use := useOf 4 ["K0", "K1"] "EB" }

/-- The ingots an imported block gives (R226, R227, R257). -/
def importedKey (it : Item) (b : KeyBlock) (alg : Nat) (key : Bytes) (origin addMods notAfter limit : Nat) : NewKey :=
  { slice := it.slice, alg := alg, attr := (rowAttr alg b.us b.mode).getD 1
    mods := b2n (b.exp == chr 'E') + 2 * b2n (bit addMods 1) + 4 * b2n (b.mode == chr 'V') + 8 * b2n (bit addMods 3)
    origin := origin, bits := 8 * key.length, us := b.us, mode := b.mode, version := b.version
    notAfter := notAfter, limit := limit }

/-- ADD_MODS and LIMIT of an import (R257, R282). -/
def checkAddMods (mods limit off limitOff : Nat) : Chk Unit := do
  ensure (mods == 0 || mods == 2 || mods == 8 || mods == 10) 0x0105 off
  ensure (if bit mods 1 then limit ≥ 1 else limit == 0) 0x010A limitOff

/-- The checks of TR31_IMPORT: key A, the block and its key (R257). -/
def State.tr31ImportChecks (s : State) (it : Item) : Chk (KeyVal × KeyBlock × Nat × Bytes) := do
  let ks ← s.prologue it [unwrapNeed 0]
  keyed ks do
  let k := ks.headD {}
  let kAlg := ingotAlg k.ingot
  checkInline it [(0x30, 9), (0x3C, 4)]
  let mods := byteAt it.desc 0x38
  checkAddMods mods (fld it.desc 0x3C 4) 0x38 0x3C
  let b ← parseBlock it.input kAlg (kcvOf kAlg k.key) true
  let r ← openBlock b kAlg k.key
  s.checkCreate it ks it.slice (splits b.us b.mode) (bit mods 1)
  pure (k, b, r)

/-- The encryption and MAC keys of a block's version reach key registers: versions B and D derive them from the KBPK into
transient entries, A and C load the KBPK under a variant (R156, R160). -/
def State.loadBlockKeys (s : State) (it : Item) (v : Nat) (k : KeyVal) : State :=
  let alg := ingotAlg k.ingot
  if v = chr 'B' ∨ v = chr 'D' then
    let ks := blockKeys v alg k.key
    (s.loadWork it alg ks.1).loadWork it alg ks.2
  else (s.loadVariant it k (List.replicate 16 0x45)).loadVariant it k (List.replicate 16 0x4D)

/-- TR31_IMPORT. -/
def execTr31Import (slot : Nat) (units : UnitReport) (s : State) : Host.Outcome State Fault Refusal :=
  .next (s.runVerb slot 0x0210 (fun s it => do
    let (k, b, r) ← s.tr31ImportChecks it
    let mods := byteAt it.desc 0x38
    let s := ((s.reach12 it [k]).loadSbu it k).loadBlockKeys it b.version k
    let nk := importedKey it b r.1 r.2 2 mods (fld it.desc 0x30 8) (fld it.desc 0x3C 4)
    pure (s.randomly it (fun s =>
      let c := (s.loadWork it r.1 r.2).createSym it nk (splits b.us b.mode) r.2
      c.1.okS it units c.2.2 c.2.1 (bit mods 1)))))

/-- A key may leave only where it is EXPORTABLE and not COUNTED (R258). -/
def exportUse (i : Bytes) : Option (Nat × Nat) :=
  if !ingExportable i then some (0x020A, 0) else if ingCounted i then some (0x020A, 1) else none

/-- VERSION, KEY_CONTEXT and OPTS of a block to write, at their descriptor offsets. -/
def checkPlan (v vOff kbpkAlg ctx ctxOff opts optsOff : Nat) : Chk Unit := do
  ensure (versionSuits v kbpkAlg false) 0x010A vOff
  ensure ([chr '0', chr '1', chr '2'].contains ctx) 0x010A ctxOff
  ensure (opts < 8) 0x0105 optsOff

/-- A block written with random padding as the output of a verb. -/
def State.outBlock (s : State) (it : Item) (units : UnitReport) (p : BlockPlan) (key : Bytes) (k : KeyVal) : State :=
  (s.loadBlockKeys it p.version k).randomly it (fun s =>
    let r := s.draw 64
    r.2.okS it units [] (writeBlock p key (ingotAlg k.ingot) k.key s.calOr0 r.1))

/-- The checks of TR31_EXPORT: both keys and the block to write (R258). -/
def State.tr31ExportChecks (s : State) (it : Item) : Chk (KeyVal × KeyVal × BlockPlan) := do
  let d := it.desc
  let ks ← s.prologue it
    [{ steps := [1, 2, 3, 4, 5, 6, 7], suit := fun a _ => isSym a, use := exportUse }, wrapNeed 1] false
  keyed ks do
  let a := ks.headD {}
  let b := ks.getD 1 {}
  checkInline it [(0x30, 6)]
  let v := byteAt d 0x30
  let bAlg := ingotAlg b.ingot
  ensure (versionSuits v bAlg false) 0x010A 0x30
  ensure ([chr 'E', chr 'N', chr 'S'].contains (byteAt d 0x31)) 0x010A 0x31
  ensure ((sub d 0x32 2).all printable && byteAt d 0x32 != chr 'c') 0x010A 0x32
  checkPlan v 0x30 bAlg (byteAt d 0x34) 0x34 (byteAt d 0x35) 0x35
  let aAlg := ingotAlg a.ingot
  ensure (strength aAlg (ingotBits a.ingot) ≤ strength bAlg (ingotBits b.ingot)) 0x0205 0
  let p : BlockPlan := { version := v, us := ingUsage a.ingot, alg := aAlg, mode := ingMode a.ingot
                         keyVersion := sub d 0x32 2, exp := byteAt d 0x31, context := byteAt d 0x34
                         opts := byteAt d 0x35 }
  checkRoom it (planLen p a.key bAlg b.key s.calOr0)
  s.checkUses ks
  pure (a, b, p)

/-- TR31_EXPORT. -/
def execTr31Export (slot : Nat) (units : UnitReport) (s : State) : Host.Outcome State Fault Refusal :=
  .next (s.runVerb slot 0x0211 (fun s it => do
    let (a, b, p) ← s.tr31ExportChecks it
    pure (((s.reach12 it [a, b]).loadSbu it b).outBlock it units p a.key b)))

/-- The checks of TR31_TRANSLATE: both keys, the block's key and the block to write (R259). -/
def State.tr31TranslateChecks (s : State) (it : Item) : Chk (KeyVal × KeyVal × Nat × BlockPlan × Bytes) := do
  let d := it.desc
  let ks ← s.prologue it [unwrapNeed 0, wrapNeed 1]
  keyed ks do
  let a := ks.headD {}
  let b := ks.getD 1 {}
  checkInline it [(0x30, 3)]
  let v := byteAt d 0x30
  let bAlg := ingotAlg b.ingot
  checkPlan v 0x30 bAlg (byteAt d 0x31) 0x31 (byteAt d 0x32) 0x32
  let aAlg := ingotAlg a.ingot
  let blk ← parseBlock it.input aAlg (kcvOf aAlg a.key) false
  ensure (blk.exp == chr 'E') 0x020A 2
  let r ← openBlock blk aAlg a.key
  ensure (strength r.1 (8 * r.2.length) ≤ strength bAlg (ingotBits b.ingot)) 0x0205 0
  let p : BlockPlan := { version := v, us := blk.us, alg := r.1, mode := blk.mode, keyVersion := blk.keyVersion
                         exp := blk.exp, context := byteAt d 0x31, opts := byteAt d 0x32
                         carried := blk.opts.filter (fun o => o.1 == ascii "KS" || o.1 == ascii "IK") }
  checkRoom it (planLen p r.2 bAlg b.key s.calOr0)
  s.checkUses ks
  pure (a, b, blk.version, p, r.2)

/-- TR31_TRANSLATE. -/
def execTr31Translate (slot : Nat) (units : UnitReport) (s : State) : Host.Outcome State Fault Refusal :=
  .next (s.runVerb slot 0x0212 (fun s it => do
    let (a, b, v, p, key) ← s.tr31TranslateChecks it
    let s := (((s.reach12 it [a, b]).loadSbu it a).loadBlockKeys it v a).loadWork it p.alg key
    pure ((s.loadSbu it b).outBlock it units p key b)))

end Sys2Proof.Machine
end

