-- ==== Sys2Proof/Machine/AsymVerbs.lean ====
section
/-!
DEFINITION. Asymmetric key verbs on the BNU and PUBLIC_EXPORT (R175–R193, R270–R277).
-/
namespace Sys2Proof.Machine

/-! ## Common -/

/-- An ingot whose header stands but whose TAG, wrapping or content does not: the BNU's part of step 3 (R218). -/
def State.bnuFails (s : State) (it : Item) (which : Nat) : Bool :=
  let i := s.ingotOf it which
  ingForm i == 2 && ingotShape i && ingGen i ≤ s.genOf it.slice && (s.openIngot it true i).isNone

/-- The BNU command that opens an item's ingot, by its verb (R175). -/
def keyCommand (d : Bytes) : Nat :=
  match dVerb d with
  | 0x0303 => 3 | 0x0304 => 4 | 0x0306 => 6 | 0x0312 => 6
  | _ => 2

/-- A command of an item, with the ingot its private key is in (R175, R180). A verification draws nothing. -/
def State.bnuCmd (s : State) (it : Item) (code : Nat) (ingot : Bytes := []) : BnuCmd :=
  { slot := it.slot, code := code, requests := if code = 3 then 0 else Config.bnuRequests code s.m.draws
    ingot := ingot, operands := it.input }

/-- A KEY_CORRUPT of an item's step 3: where the BNU finds it, its command ends there (R184, R218). -/
def State.corruptStop (s : State) (it : Item) (e : Stop) : Option State :=
  match e with
  | .fail 0x0202 0 n =>
    let which := if s.bnuFails it 0 then 0 else 1
    if !s.bnuFails it which then none
    else
      let m := { s.bnuCmd it (keyCommand it.desc) (s.ingotOf it which) with ends := .corrupt, requests := 0 }
      some (((s.issueBnu it [m] 0x0202 0 [] []).modItem it.slot (fun x => { x with outLen := n })))
  | _ => none

/-- A class A verb runs on its item; a KEY_CORRUPT that the BNU finds is its command's outcome. -/
def State.runBnu (s : State) (slot v : Nat) (f : State → Item → Chk State) : State :=
  s.runVerb slot v (fun s it => match f s it with
    | .ok t => .ok t
    | .error e => match s.corruptStop it e with
      | some t => .ok t
      | none => .error e)

/-- The DRBG of the item's BNU serves: the source is in service, or its reseed point is not reached (R179,
R356). -/
def State.bnuRandom (s : State) (it : Item) : Bool :=
  let c := s.cluster (s.physOfItem it)
  s.mea.rngHealthy || (c.bnuRequests < 65536 && s.m.now - c.bnuReseeded < 4000000)

/-- A BNU command that draws, or its abort where it cannot (R356). -/
def State.onBnu (s : State) (it : Item) (f : State → Chk State) : Chk State :=
  if s.bnuRandom it then f s else .ok (s.settle it.slot 0x0C01 1 0 [] [] [])

/-- What the symmetric and digest units report of a class A item's own work, then the rest of the verb: an item they stopped
has its outcome and issues no command (R165). DESIGN CHOICE (assumption log 21): the report comes ahead of the BNU's. -/
def State.withUnits (s : State) (it : Item) (units : UnitReport) (f : State → Chk State) : Chk State :=
  match s.unitOutcome it units with
  | (s, some e) => .ok ((s.settle it.slot e.1 e.2 0 [] [] []).afterUnits it)
  | (s, none) => f s

/-- The outcome of the BNU's command (R187). -/
structure BnuOut where
  /-- status -/
  status : Nat := 0
  /-- detail -/
  detail : Nat := 0
  /-- where the command ends -/
  ends : BnuEnd := .result
  /-- the invariant check its values fail -/
  failing : Option Nat := none
  /-- internal regenerations -/
  regen : Nat := 0
  /-- output -/
  output : Bytes := []
  deriving DecidableEq, Repr

/-- An edge rejection (R188). -/
def edgeOut (status : Nat) : BnuOut := { status := status, ends := .edge }

/-- A size, curve or exponent of the input that the BNU does not support (R176). -/
def sizeOut : BnuOut := { status := 0x0A06, ends := .size }

/-- A fifth internal failure (R192). -/
def drawsOut (regen : Nat) : BnuOut := { status := 0x0A01, ends := .draws, regen := regen }

/-- A command with an outcome. -/
def BnuCmd.out (m : BnuCmd) (o : BnuOut) : BnuCmd := { m with ends := o.ends, failing := o.failing, regen := o.regen }

/-- The one command of a verb is issued, its outcome known. -/
def State.issueOut (s : State) (it : Item) (m : BnuCmd) (o : BnuOut) : State :=
  s.issueBnu it [m.out o] o.status o.detail [] o.output

/-- SCHEME suits an algorithm (R270). -/
def schemeSuits (scheme alg : Nat) : Bool :=
  match scheme with
  | 1 => alg == 0x10 | 2 => alg == 0x10 | 5 => alg == 0x10
  | 3 => isWeier alg
  | 4 => alg == 0x28
  | _ => alg == 0x10 || isWeier alg || alg == 0x28

/-- HASH is a value of the scheme (R270): none for Ed25519 and RAW; SHA-1 only to verify. -/
def hashAllowed (scheme hash : Nat) (verify : Bool) : Bool :=
  if scheme = 4 ∨ scheme = 5 then hash == 0
  else (1 ≤ hash && hash ≤ 3) || (verify && hash == 4 && scheme != 2)

/-- The RSA private key of a PUBLIC field and a private part. -/
structure RsaKey where
  /-- public part -/
  pub : Pub := {}
  /-- p -/
  p : Nat := 1
  /-- q -/
  q : Nat := 1
  /-- dP -/
  dp : Nat := 1
  /-- dQ -/
  dq : Nat := 1
  /-- qInv -/
  qinv : Nat := 1
  deriving DecidableEq, Repr

/-- The RSA key of an ingot. -/
def rsaKeyOf (k : KeyVal) : RsaKey :=
  let h := ingotBits k.ingot / 16
  let f := fun (i : Nat) => ofBE (sub k.key (i * h) h)
  { pub := pubOfIngot k.ingot, p := f 0, q := f 1, dp := f 2, dq := f 3, qinv := f 4 }

/-- The two halves of the private operation: s_p and s_q. -/
def RsaKey.halves (r : RsaKey) (m : Nat) : Nat × Nat := (powMod (m % r.p) r.dp r.p, powMod (m % r.q) r.dq r.q)

/-- The private operation by CRT with Garner's recombination. -/
def RsaKey.apply (r : RsaKey) (m : Nat) : Nat :=
  let h := r.halves m
  h.2 + r.qinv * (h.1 + r.p - h.2 % r.p) % r.p * r.q

/-- The first check of R193 that the private operation fails: 1 recombination, 2 the public exponent. The numbers of the
checks are the model's own (DESIGN CHOICE, assumption log 21). -/
def RsaKey.failing (r : RsaKey) (m : Nat) : Option Nat :=
  let v := r.apply m
  let h := r.halves m
  if v % r.p ≠ h.1 ∨ v % r.q ≠ h.2 then some 1
  else if powMod v r.pub.e r.pub.n ≠ m then some 2
  else none

/-- Bits of a modulus. -/
def Pub.bits (p : Pub) : Nat := Nat.log2 p.n + 1

/-- The HMAC an ECDSA nonce takes by curve, and its length (R179). -/
def nonceHmac (alg : Nat) : Nat := if alg = 0x22 then 3 else if alg = 0x21 ∨ alg = 0x24 then 2 else 1

/-- The first check of R193 that an ECDSA signature fails: 1 R lies on the curve, 2 r and s lie in range, 3 the signing
equation. -/
def Curve.signFails (c : Curve) (d k : Nat) (h : Bytes) (sig : Nat × Nat) : Option Nat :=
  match c.mul k c.g with
  | none => some 1
  | some (x, y) =>
    if !c.on x y then some 1
    else if sig.1 = 0 ∨ sig.1 ≥ c.n ∨ sig.2 = 0 ∨ sig.2 ≥ c.n then some 2
    else if sig.2 * k % c.n ≠ (c.digestInt h + sig.1 * d) % c.n then some 3
    else none

/-- An ECDSA signature with the hedged nonce after `done` regenerations; four new nonces while it, r or s comes out 0
(R179, R192). -/
def ecSign (c : Curve) (alg d : Nat) (h : Bytes) (done : Nat) : Nat → State → BnuOut × State
  | 0, s => (drawsOut (done - 1), s)
  | fuel + 1, s =>
    let r := s.draw 48
    let hm := nonceHmac alg
    let k := c.nonce (hmacOf hm) (hashBytes hm) d h r.1
    let sig := c.sign d k h
    if k = 0 ∨ sig.1 = 0 ∨ sig.2 = 0 then ecSign c alg d h (done + 1) fuel r.2
    else ({ output := c.sigBytes sig, regen := done, failing := c.signFails d k h sig }, r.2)

/-! ## SIGN (R272) -/

/-- Length of a signature of an algorithm. -/
def sigLen (alg kb : Nat) : Nat :=
  if alg = 0x10 then kb / 8 else match curveOf alg with
    | some c => 2 * ((Nat.log2 c.n + 8) / 8)
    | none => 64

/-- Usages and mode of a signing key. -/
def signUse : Bytes → Option (Nat × Nat) := useOf 1 ["S0", "S1", "S2"] "S"

/-- An RSA private operation and what it releases, k bytes (R185, R193). -/
def RsaKey.out (r : RsaKey) (m : Nat) : BnuOut := { output := be r.pub.k (r.apply m), failing := r.failing m }

/-- The signature of a message or digest under a key (R185, R192, R193). The checks of an Ed25519 signature hold of the
values the model computes. -/
def State.signature (s : State) (k : KeyVal) (scheme hash salt : Nat) (m : Bytes) : BnuOut × State :=
  let alg := ingotAlg k.ingot
  if alg = 0x10 then
    let r := rsaKeyOf k
    if scheme = 2 then
      let sl := s.draw salt
      (r.out (ofBE (emsaPss hash (r.pub.bits - 1) m sl.1)), sl.2)
    else (r.out (ofBE (emsaPkcs1 hash r.pub.k m)), s)
  else match curveOf alg with
    | some c => ecSign c alg (ofBE k.key) m 0 5 s
    | none => ({ output := edSign k.key m }, s)

/-- The checks of SIGN: key A and the scheme (R272). -/
def State.signChecks (s : State) (it : Item) : Chk KeyVal := do
  let d := it.desc
  let scheme := byteAt d 0x30
  let hash := byteAt d 0x31
  let salt := byteAt d 0x32
  let pssFits := fun (kb : Nat) => scheme != 2 || !(1 ≤ hash && hash ≤ 3) || salt > hashBytes hash ||
    ceilDiv (kb - 1) 8 ≥ hashBytes hash + salt + 2
  let ks ← s.prologue it
    [{ suit := fun a kb => schemeSuits scheme a && (a != 0x10 || (kb ≥ 1024 && pssFits kb))
       use := signUse }]
  keyed ks do
  let k := ks.headD {}
  checkInline it [(0x30, 3)]
  ensure (1 ≤ scheme && scheme ≤ 4) 0x010A 0x30
  ensure (hashAllowed scheme hash false) 0x010A 0x31
  ensure (scheme != 2 || salt ≤ hashBytes hash) 0x010A 0x32
  checkRoom it (sigLen (ingotAlg k.ingot) (ingotBits k.ingot))
  s.checkUses ks
  pure k

/-- SIGN. -/
def execSign (slot : Nat) (s : State) : Host.Outcome State Fault Refusal :=
  .next (s.runBnu slot 0x0302 (fun s it => do
    let k ← s.signChecks it
    (s.reach12 it [k]).onBnu it (fun s =>
      let m := s.bnuCmd it 2 k.ingot
      let r := s.signature k (byteAt it.desc 0x30) (byteAt it.desc 0x31) (byteAt it.desc 0x32) it.input
      .ok (r.2.issueOut it m r.1))))

/-! ## VERIFY (R273) -/

/-- VERIFY with an RSA key (R188, R190): edge checks on the signature, then the scheme. -/
def rsaVerify (p : Pub) (scheme hash salt : Nat) (dig sig : Bytes) : BnuOut :=
  let v := ofBE sig
  if v ≤ 1 ∨ v = p.n - 1 ∨ v ≥ p.n then edgeOut 0x0400
  else
    let m := powMod v p.e p.n
    if scheme = 5 then { output := be p.k m }
    else
      let ok := if scheme = 1 then
          p.k ≥ (digestInfo hash).length + dig.length + 11 && be p.k m == emsaPkcs1 hash p.k dig
        else
          let n := ceilDiv (p.bits - 1) 8
          m < 256 ^ n && pssVerify hash (p.bits - 1) salt dig (be n m)
      { status := if ok then 0 else 0x0400 }

/-- VERIFY with a Weierstrass key: the point, then r and s, then the equation (R187, R188). -/
def ecVerify (c : Curve) (pub dig sig : Bytes) : BnuOut :=
  let l := sig.length / 2
  let r := ofBE (sig.take l)
  let t := ofBE (sig.drop l)
  match c.decodePoint pub with
  | none => edgeOut 0x0A04
  | some q =>
    if r = 0 ∨ t = 0 ∨ r ≥ c.n ∨ t ≥ c.n then edgeOut 0x0400
    else { status := if c.verify q.1 q.2 dig r t then 0 else 0x0400 }

/-- VERIFY with an Edwards25519 key (R188). -/
def ed25519Verify (pub m sig : Bytes) : BnuOut :=
  match edDecode pub with
  | none => edgeOut 0x0A04
  | some a =>
    if edSmall a then edgeOut 0x0A04
    else match edDecode (sub sig 0 32) with
      | none => edgeOut 0x0400
      | some r =>
        if ofLE (sub sig 32 32) ≥ l25519 then edgeOut 0x0400
        else { status := if edVerify a r pub sig m then 0 else 0x0400 }

/-- A verification by the key's algorithm. -/
def verifyWith (p : Pub) (scheme hash salt : Nat) (dig sig : Bytes) : BnuOut :=
  if p.alg = 0x10 then rsaVerify p scheme hash salt dig sig
  else match curveOf p.alg with
    | some c => ecVerify c p.data dig sig
    | none => ed25519Verify p.data dig sig

/-- Length of a signature a public key verifies; the data it signs. -/
def Pub.sigLen (p : Pub) : Nat := if p.alg = 0x10 then p.k else Machine.sigLen p.alg 0

/-- The checks of VERIFY: its keys, the public key, the digest or message, and the signature (R273). -/
def State.verifyChecks (s : State) (it : Item) : Chk (List KeyVal × Pub × Bytes × Bytes) := do
  let d := it.desc
  let scheme := byteAt d 0x30
  let hash := byteAt d 0x31
  let salt := byteAt d 0x32
  let src := byteAt d 0x33
  if src = 1 then checkAbsent it 0 0x33
  let ks ← s.prologue it (if src = 1 then [] else
    [{ suit := fun a _ => schemeSuits scheme a, use := signUse }])
  keyed ks do
  checkInline it [(0x30, 4)]
  ensure (1 ≤ scheme && scheme ≤ 5) 0x010A 0x30
  ensure (hashAllowed scheme hash true) 0x010A 0x31
  ensure (scheme != 2 || salt ≤ hashBytes hash) 0x010A 0x32
  ensure (src ≤ 1) 0x010A 0x33
  let data := if scheme = 4 then (0, 8192) else (hashBytes hash, hashBytes hash)
  let segs ← segments it ((if src = 1 then [(4, 0xFFFF)] else []) ++ [data, (0, 0xFFFF)])
  let p ← match src with
    | 0 => pure (pubOfIngot (ks.headD {}).ingot)
    | _ => parsePub (segs.headD (0, [])).2 (segs.headD (0, [])).1
  let body := segs.drop src
  let sig := body.getD 1 (0, [])
  ensure (!(p.supported 512 && schemeSuits scheme p.alg) || sig.2.length == p.sigLen) 0x0103 sig.1
  checkRoom it (if scheme = 5 then p.k else 0)
  s.checkUses ks
  pure (ks, p, (body.headD (0, [])).2, sig.2)

/-- VERIFY. -/
def execVerify (slot : Nat) (s : State) : Host.Outcome State Fault Refusal :=
  .next (s.runBnu slot 0x0303 (fun s it => do
    let (ks, p, dig, sig) ← s.verifyChecks it
    let scheme := byteAt it.desc 0x30
    let s := s.reach12 it ks (some (s.ew (bnuClass 1 p.alg (8 * p.k))))
    let m := s.bnuCmd it 3 (ks.headD {}).ingot
    if !(p.supported 512 && schemeSuits scheme p.alg) then pure (s.issueOut it m sizeOut)
    else
      let o := verifyWith p scheme (byteAt it.desc 0x31) (byteAt it.desc 0x32) dig sig
      pure (s.issueOut it m (if !ks.isEmpty && o.status == 0x0A04 then { o with ends := .result, failing := some 1 } else o))))

/-! ## ECDH_DERIVE (R274) -/

/-- The one-step KDF of SP 800-56C Rev. 2 with SHA-256: n bytes. -/
def oneStepKdf (z info : Bytes) (n : Nat) : Bytes :=
  (((List.range (ceilDiv n 32)).map (fun i => sha256 (be 4 (i + 1) ++ z ++ info))).flatten).take n

/-- The shared secret of a private part and a peer's key, or the edge rejection (R185, R188). -/
def sharedSecret (alg : Nat) (priv peer : Bytes) : Except BnuOut Bytes :=
  match curveOf alg with
  | some c =>
    match c.decodePoint peer with
    | none => .error (edgeOut 0x0A04)
    | some q => match c.mul (ofBE priv) (some q) with
      | some r => .ok (be c.len r.1)
      | none => .error { status := 0x0A05 }
  | none =>
    if lowOrderU peer then .error (edgeOut 0x0A04)
    else
      let z := x25519 priv peer
      if z.all (· == 0) then .error { status := 0x0A05 } else .ok z

/-- The checks of ECDH_DERIVE: key A, the template, the peer's key and the shared information (R274). -/
def State.ecdhChecks (s : State) (it : Item) : Chk (KeyVal × Bytes × Pub × Bytes) := do
  let ks ← s.prologue it
    [{ suit := fun a _ => isWeier a || a == 0x29, use := useOf 8 ["K3"] "X" }]
  keyed ks do
  let k := ks.headD {}
  checkInline it []
  let segs ← segments it [(32, 32), (4, 0xFFFF), (0, 256)]
  let t := (segs.getD 0 (0, [])).2
  let pk := segs.getD 1 (0, [])
  let peer ← parsePub pk.2 pk.1
  ensure (peer.alg == ingotAlg k.ingot) 0x010A (0x10000 + pk.1)
  checkTemplate t 4 { alg := isSym, exportable := false }
  s.checkCreate it ks it.slice (tSplit t) (tCounted t)
  pure (k, t, peer, (segs.getD 2 (0, [])).2)

/-- ECDH_DERIVE: the shared secret reaches a transient entry and never the core (R185). -/
def execEcdhDerive (work : SlotWork) (s : State) : Host.Outcome State Fault Refusal :=
  .next (s.runBnu work.slot 0x0304 (fun s it => do
    let (k, t, peer, info) ← s.ecdhChecks it
    let alg := ingotAlg k.ingot
    (s.reach12 it [k]).withUnits it work.units (fun s => s.onBnu it (fun s =>
      let m := s.bnuCmd it 4 k.ingot
      match sharedSecret alg k.key peer.data with
      | .error o => .ok (s.issueOut it m o)
      | .ok z =>
        let s := (s.keepSecret it z).hashed it (ceilDiv (tBits t / 8) 32 * (4 + z.length + info.length))
        let raw := oneStepKdf z info (tBits t / 8)
        let key := if isTdes (tAlg t) then oddParity raw else raw
        if isTdes (tAlg t) && !tdesDistinct key then .ok (s.issueOut it m { status := 0x0205 })
        else .ok (s.randomly it (fun s =>
          let r := (s.loadWork it (tAlg t) key).createSym it (ofTemplate it.slice 5 t) (tSplit t) key
          r.1.issueBnu it [m] 0 0 r.2.2 r.2.1 (tCounted t)))))))

/-! ## OAEP (R275, R276) -/

/-- The checks of OAEP_ENCRYPT: the public key, the label and the message (R275). -/
def State.oaepEncryptChecks (s : State) (it : Item) : Chk (Pub × Bytes × Bytes) := do
  let hash := byteAt it.desc 0x30
  let _ ← s.prologue it []
  checkInline it [(0x30, 1)]
  ensure (1 ≤ hash && hash ≤ 3) 0x010A 0x30
  let segs ← segments it [(4, 0xFFFF), (0, 64), (0, 0xFFFF)]
  let pk := segs.getD 0 (0, [])
  let m := (segs.getD 2 (0, [])).2
  let p ← parsePub pk.2 pk.1
  ensure (!(p.alg == 0x10 && p.supported 1024) || m.length + 2 * hashBytes hash + 2 ≤ p.k) 0x0108 0
  checkRoom it p.k
  pure (p, (segs.getD 1 (0, [])).2, m)

/-- OAEP_ENCRYPT. -/
def execOaepEncrypt (slot : Nat) (s : State) : Host.Outcome State Fault Refusal :=
  .next (s.runBnu slot 0x0305 (fun s it => do
    let (p, label, m) ← s.oaepEncryptChecks it
    let hash := byteAt it.desc 0x30
    let s := s.reach12 it [] (some (s.ew (bnuClass 2 0x10 (8 * p.k))))
    let c := s.bnuCmd it 5
    if !(p.alg == 0x10 && p.supported 1024) then pure (s.issueOut it { c with requests := 0 } sizeOut)
    else s.onBnu it (fun s =>
      let r := s.draw (hashBytes hash)
      .ok (r.2.issueOut it c { output := be p.k (powMod (ofBE (oaepEncode hash p.k label m r.1)) p.e p.n) }))))

/-- The outcome of an OAEP decryption, its output the message (R188, R190, R193). -/
def oaepOut (k : KeyVal) (hash : Nat) (label cipher : Bytes) : BnuOut :=
  let r := rsaKeyOf k
  let v := ofBE cipher
  if v ≥ r.pub.n then edgeOut 0x0A03
  else if v ≤ 1 ∨ v = r.pub.n - 1 then edgeOut 0x0A02
  else match oaepDecode hash r.pub.k label (be r.pub.k (r.apply v)) with
    | some m => { output := m, failing := r.failing v }
    | none => { status := 0x0400, failing := r.failing v }

/-- The checks of OAEP_DECRYPT: key A, the label and the ciphertext (R276). -/
def State.oaepDecryptChecks (s : State) (it : Item) : Chk (KeyVal × Bytes × Bytes) := do
  let hash := byteAt it.desc 0x30
  let ks ← s.prologue it
    [{ suit := fun a kb => a == 0x10 && kb ≥ 1024, use := useOf 2 ["D1"] "D" }]
  keyed ks do
  let k := ks.headD {}
  checkInline it [(0x30, 1)]
  ensure (1 ≤ hash && hash ≤ 3) 0x010A 0x30
  let segs ← segments it [(0, 64), (0, 0xFFFF)]
  let c := segs.getD 1 (0, [])
  let kb := ingotBits k.ingot / 8
  ensure (c.2.length == kb) 0x0103 c.1
  checkRoom it (kb - 2 * hashBytes hash - 2)
  s.checkUses ks
  pure (k, (segs.getD 0 (0, [])).2, c.2)

/-- OAEP_DECRYPT. -/
def execOaepDecrypt (slot : Nat) (s : State) : Host.Outcome State Fault Refusal :=
  .next (s.runBnu slot 0x0306 (fun s it => do
    let (k, label, cipher) ← s.oaepDecryptChecks it
    (s.reach12 it [k]).onBnu it (fun s =>
      .ok (s.issueOut it (s.bnuCmd it 6 k.ingot) (oaepOut k (byteAt it.desc 0x30) label cipher)))))

/-! ## KEYPAIR_GENERATE (R271, R175, R179, R192) -/

/-- n − 1 as odd part times a power of two. -/
def oddPart : Nat → Nat → Nat → Nat × Nat
  | 0, d, r => (d, r)
  | fuel + 1, d, r => if d % 2 = 0 ∧ d ≠ 0 then oddPart fuel (d / 2) (r + 1) else (d, r)

/-- One Miller–Rabin round passes for a base. -/
def mrRound (n a : Nat) : Bool :=
  let p := oddPart (Nat.log2 n + 1) (n - 1) 0
  let x := powMod a p.1 n
  x == 1 || x == n - 1 || ((List.range (p.2 - 1)).foldl (fun (v : Nat × Bool) _ =>
    let y := v.1 * v.1 % n
    (y, v.2 || y == n - 1)) (x, false)).2

/-- The Jacobi symbol: 0, 1, or 2 for −1; fuel bounds the reductions. -/
def jacobi : Nat → Nat → Nat → Bool → Nat
  | 0, _, _, _ => 0
  | fuel + 1, a, n, neg =>
    let a := a % n
    if a = 0 then (if n = 1 then (if neg then 2 else 1) else 0)
    else if a % 2 = 0 then jacobi fuel (a / 2) n (neg != (n % 8 == 3 || n % 8 == 5))
    else jacobi fuel n a (neg != (a % 4 == 3 && n % 4 == 3))

/-- Half of a residue modulo an odd number. -/
def halfMod (v n : Nat) : Nat := if v % 2 = 0 then v / 2 % n else (v + n) / 2 % n

/-- One Lucas test with the first D of 5, −7, 9, … of Jacobi symbol −1, P = 1 (FIPS 186-5 B.3.3). A perfect
square is composite. -/
def lucasTest (n : Nat) : Bool :=
  if isqrt n * isqrt n = n then false
  else
    -- D modulo n
    let cand := fun (i : Nat) => let m := 5 + 2 * i; if i % 2 = 0 then m % n else n - m % n
    match (List.range 512).find? (fun i => jacobi (2 * Nat.log2 n + 8) (cand i) n false == 2) with
    | none => false
    | some i =>
      let D := cand i
      let k := n + 1
      let r := (List.range (Nat.log2 k)).reverse.foldl (fun (p : Nat × Nat) j =>
        let u := p.1 * p.2 % n
        let v := halfMod ((p.2 * p.2 + D * (p.1 * p.1 % n)) % n) n
        if k.testBit j then (halfMod (u + v) n, halfMod (v + D * u % n) n) else (u, v)) (1, 1)
      r.1 % n == 0

/-- Miller–Rabin rounds of FIPS 186-5 Table B.1 by the length of a prime. -/
def mrRounds (bits : Nat) : Nat := if bits ≥ 1536 then 4 else if bits ≥ 1024 then 5 else 7

/-- A probable prime, with drawn bases (R179). -/
def probablePrime (n rounds : Nat) (bases : Bytes) : Bool :=
  let w := bases.length / max 1 rounds
  (List.range rounds).all (fun i => mrRound n (2 + ofBE (sub bases (i * w) w) % (n - 3))) && lucasTest n

/-- A candidate factor of `half` bits is accepted: p ≥ √2 · 2^(half − 1), e invertible, distinct enough (FIPS 186-5
A.1.3). -/
def factorOk (half e p other : Nat) : Bool :=
  p * p ≥ 2 ^ (2 * half - 1) && Nat.gcd (p - 1) e == 1 &&
    (other == 0 || (max p other - min p other) > 2 ^ (half - 100))

/-- The search for a factor: fresh candidates until one passes; none where `fuel` candidates have not. -/
def State.drawPrime (half e other : Nat) : Nat → State → Option Nat × State
  | 0, s => (none, s)
  | fuel + 1, s =>
    let r := s.draw (half / 8)
    let p := ofBE r.1 / 2 * 2 + 1
    if !factorOk half e p other then State.drawPrime half e other fuel r.2
    else
      let b := r.2.draw (mrRounds half * (half / 8))
      if probablePrime p (mrRounds half) b.1 then (some p, b.2) else State.drawPrime half e other fuel b.2

/-- A generated key pair: public and private parts of its ingot, and its command's outcome. -/
structure Pair where
  /-- public part -/
  pub : Bytes := []
  /-- private part -/
  priv : Bytes := []
  /-- outcome -/
  out : BnuOut := {}
  deriving DecidableEq, Repr

/-- The first check of R193 that an RSA key pair fails: 1 the second primality test, 2 n = p × q, 3 the exponents, 4 a
signature on a random representative. -/
def rsaPairFails (r : RsaKey) (second : Bool) (m : Nat) : Option Nat :=
  if !second then some 1
  else if r.p * r.q ≠ r.pub.n then some 2
  else if r.pub.e * r.dp % (r.p - 1) ≠ 1 ∨ r.pub.e * r.dq % (r.q - 1) ≠ 1 then some 3
  else if powMod (r.apply (m % r.pub.n)) r.pub.e r.pub.n ≠ m % r.pub.n then some 4
  else none

/-- An RSA key pair of two primes (R193, R215). -/
def State.pairOf (s : State) (bits e : Nat) (eBytes : Bytes) (a b : Nat) : Pair × State :=
  let p := max a b
  let q := min a b
  let h := bits / 16
  let d := invMod e (Nat.lcm (p - 1) (q - 1))
  let pub := be (bits / 8) (p * q) ++ le 1 eBytes.length ++ eBytes
  let priv := be h p ++ be h q ++ be h (d % (p - 1)) ++ be h (d % (q - 1)) ++ be h (invMod q p)
  let w := mrRounds (bits / 2)
  let x := s.draw (w * h)
  let y := x.2.draw (w * h)
  let z := y.2.draw (bits / 8)
  let r : RsaKey := { pub := rsaPub pub (bits / 8), p := p, q := q, dp := d % (p - 1), dq := d % (q - 1), qinv := invMod q p }
  ({ pub := pub, priv := priv
     out := { failing := rsaPairFails r (probablePrime p w x.1 && probablePrime q w y.1) (ofBE z.1) } }, z.2)

/-- An RSA key pair (R215); the search never gives up: none where it goes on at the verb's next row (R198). -/
def State.rsaPair (s : State) (bits e : Nat) (eBytes : Bytes) : Option Pair × State :=
  match State.drawPrime (bits / 2) e 0 (2 ^ 64) s with
  | (none, s) => (none, s)
  | (some a, s) =>
    match State.drawPrime (bits / 2) e a (2 ^ 64) s with
    | (none, s) => (none, s)
    | (some b, s) =>
      let r := s.pairOf bits e eBytes a b
      (some r.1, r.2)

/-- A number below 2^bits drawn until one passes, after `done` regenerations, at most four (R179, R192). -/
def State.drawUntil (n : Nat) (ok : Bytes → Bool) (done : Nat) : Nat → State → Option Bytes × Nat × State
  | 0, s => (none, done - 1, s)
  | fuel + 1, s =>
    let r := s.draw n
    if ok r.1 then (some r.1, done, r.2) else State.drawUntil n ok (done + 1) fuel r.2

/-- A scalar of a curve as its draw gives it. -/
def Curve.scalarOf (c : Curve) (b : Bytes) : Nat := ofBE b % 2 ^ (Nat.log2 c.n + 1)

/-- A scalar in [1, n − 1] by rejection, for a caller without a limit of its own. -/
def State.drawScalar (s : State) (c : Curve) : Nat × State :=
  let r := State.drawUntil (ceilDiv (Nat.log2 c.n + 1) 8) (fun b => 1 ≤ c.scalarOf b && decide (c.scalarOf b < c.n)) 0 (2 ^ 64) s
  ((r.1.map c.scalarOf).getD 1, r.2.2)

/-- A key pair of a curve, after the last regeneration none (R179, R192). Of its checks the point's place on the curve is
computed; the others hold of the values the model computes (R193). -/
def State.curvePair (s : State) (alg : Nat) : Pair × State :=
  match curveOf alg with
  | some c =>
    match State.drawUntil (ceilDiv (Nat.log2 c.n + 1) 8) (fun b => 1 ≤ c.scalarOf b && decide (c.scalarOf b < c.n)) 0 5 s with
    | (none, n, s) => ({ out := drawsOut n }, s)
    | (some b, n, s) =>
      let d := c.scalarOf b
      let pub := c.pubBytes d
      ({ pub := pub, priv := be c.len d
         out := { regen := n, failing := if (c.decodePoint pub).isSome then none else some 1 } }, s)
  | none =>
    if alg = 0x28 then
      match State.drawUntil 32 (fun b => (edSecret b).1 % l25519 != 0) 0 5 s with
      | (none, n, s) => ({ out := drawsOut n }, s)
      | (some b, n, s) =>
        ({ pub := edPublic b, priv := b, out := { regen := n, failing := if (edDecode (edPublic b)).isSome then none else some 1 } }, s)
    else
      let r := s.draw 32
      ({ pub := x25519 r.1 (9 :: zeros 31), priv := r.1 }, r.2)

/-- A key pair of an algorithm. -/
def State.keyPair (s : State) (alg bits e : Nat) (eBytes : Bytes) : Option Pair × State :=
  if alg = 0x10 then s.rsaPair bits e eBytes
  else
    let r := s.curvePair alg
    (some r.1, r.2)

/-- PUB_LEN and WPRIV_LEN of a key pair, and so TOTAL_LEN. -/
def pairTotal (alg bits eLen : Nat) : Nat :=
  let wrapped := fun (n : Nat) => ceilDiv n 8 * 8 + 8
  if alg = 0x10 then asymTotal (bits / 8 + 1 + eLen) (wrapped (5 * (bits / 16)))
  else match curveOf alg with
    | some c => asymTotal (1 + 2 * c.len) (wrapped c.len)
    | none => asymTotal 32 40

/-- The checks of KEYPAIR_GENERATE: the template and the public exponent (R271). -/
def State.keypairChecks (s : State) (it : Item) : Chk (Bytes × Bytes) := do
  let _ ← s.prologue it []
  checkInline it []
  let n := dInLen it.desc
  ensure (n ≥ 32) 0x0108 0
  let t := it.input.take 32
  ensure (n == 32 || (tAlg t == 0x10 && n ≥ 40)) 0x0108 0
  let el := byteAt it.input 32
  if n > 32 then do
    ensure (1 ≤ el && el ≤ 32) 0x0108 0
    ensure (n == 36 + ceilDiv el 4 * 4) 0x0103 32
  checkTemplate t 0 { alg := isAsym, exportable := false }
  if n > 32 then do
    match ([33, 34, 35] ++ (List.range (n - 36 - el)).map (· + (36 + el))).find? (fun o => byteAt it.input o != 0) with
    | some o => stop 0x0105 (0x10000 + o)
    | none => pure ()
  let eBytes := if n = 32 then [1, 0, 1] else sub it.input 36 el
  checkRoom it (pairTotal (tAlg t) (tBits t) eBytes.length)
  s.checkRiser (tCounted t)
  ensure (!tCounted t || (s.newIndex it.slice).isSome) 0x0208 1
  pure (t, eBytes)

/-- KEYPAIR_GENERATE. -/
def execKeypairGenerate (slot : Nat) (s : State) : Host.Outcome State Fault Refusal :=
  .next (s.runBnu slot 0x0301 (fun s it => do
    let (t, eBytes) ← s.keypairChecks it
    let rsa := tAlg t == 0x10
    let e := ofBE eBytes
    let s := s.reach12 it [] (some (s.ew (bnuClass 3 (tAlg t) (tBits t))))
    let m := s.bnuCmd it 1
    if rsa && !(byteAt eBytes 0 != 0 && e % 2 == 1 && (e == 3 || e ≥ 65537)) then
      pure (s.issueOut it { m with requests := 0 } sizeOut)
    else if !s.mea.rngHealthy then pure (s.settle it.slot 0x0C01 1 0 [] [] [])
    else match s.keyPair (tAlg t) (tBits t) e eBytes with
    | (none, s) => .error (.again s.m.draws)
    | (some kp, s) =>
      if kp.out.ends == .draws then pure (s.issueOut it m kp.out)
      else
        let a := s.draw 8
        let id := ofLE a.1
        let s := a.2
        let idx := if tCounted t then s.newIndex it.slice else none
        let ing := s.asymIngot (s.wrapKey it.slice) (ofTemplate it.slice 1 t) (idx.getD 0xFFFFFFFF) id kp.pub kp.priv
        let s := match idx with
          | some j => s.allocCounted it it.slice j (tLimit t) id
          | none => s
        pure (s.issueBnu it [m.out kp.out] 0 0 (creationResult ing 1) ing (tCounted t))))

/-! ## Completion (R186, R193–R195, R199, R202) -/

/-- The next command of a verb of two goes to the BNU as its first completes. -/
def State.nextCmd (s : State) (slot : Nat) : State :=
  match s.item slot with
  | none => s
  | some it => match it.cmds with
    | [] => s
    | m :: r => (s.sendBnu it m).modItem slot (fun x => { x with cmds := r })

/-- A command of an item failed an invariant check, or its fifth internal attempt: its result is suppressed and the item
fails with BN_INVARIANT (R192, R194). -/
def State.invariantEnd (s : State) (it : Item) (m : BnuCmd) (check : Nat) (injected : Bool) : State :=
  let s := (s.undoAlloc it.slot).bnuInvariant (s.physOfItem it) m.code check injected
  (s.modItem it.slot (fun x => { x with cmds := [] })).settle it.slot 0x0A01 0 0 [] []
    (it.waits.filter (fun w => !(w == .bnu || w == .commit)))

/-- The executing command of an item ends by itself: its counters, then its outcome. Only one that reaches its invariant
checks meets an armed injection, which fails the first of them (R187, R201, R202). The fifth internal attempt is recorded
as check 0 (DESIGN CHOICE, assumption log 21). -/
def State.endBnu (s : State) (it : Item) (m : BnuCmd) (report : BnuReport) : State :=
  let p := s.physOfItem it
  let checked := m.ends == .result
  let armed := (s.cluster p).bnuInject && checked
  let failing := if armed then some 1 else if checked then (match report.invariant with
    | some i => some i
    | none => m.failing) else if m.ends == .draws then some 0 else none
  let s := s.modCluster p (fun c => Cluster.endCmd { c with
    bnuRegen := sat 8 (c.bnuRegen + m.regen)
    bnuInject := c.bnuInject && !armed
    bnuEdge := if m.ends = .edge then sat 16 (c.bnuEdge + 1) else c.bnuEdge
    bnuCorrupt := if m.ends = .corrupt then sat 8 (c.bnuCorrupt + 1) else c.bnuCorrupt })
  let s := if m.ends = .corrupt then (s.logEv 0x0206 (srcUnit p kindBNU 0) it.slice []).countStop 0x0202 else s
  let status := if failing.isSome then 0x0A01 else it.status
  let s := s.modItem it.slot (fun x => { x with bnuRecord := [status, if failing.isSome then 0 else x.output.length, m.regen] })
  match failing with
  | some i => s.invariantEnd it m i armed
  | none => (s.nextCmd it.slot).doneWaiting it.slot .bnu

/-- BNU_COMMAND_COMPLETE: the executing command of the item's cluster ends with its result record; a failed invariant check
suppresses the result, and an abort ends the item (R186, R193, R194, R199, R202). -/
def execBnuCommandComplete (slot : Nat) (report : BnuReport) (s : State) : Host.Outcome State Fault Refusal :=
  .next (s.clocked <| match s.runningItem slot with
    | none => s
    | some it =>
      let p := s.physOfItem it
      match (s.cluster p).bnuQueue.head? with
      | none => s
      | some m =>
        if !(m.slot == slot && it.waits.contains Wait.bnu) then s else
        let s := s.modCluster p (fun c => { c with bnuBusyUs := c.bnuBusyUs + report.busyUs })
        if report.aborted then s.completeWith slot 0x0C01 0 else s.endBnu it m report)

/-! ## PUBLIC_EXPORT (R277) -/

/-- A DER length. -/
def derLen (n : Nat) : Bytes :=
  if n < 128 then le 1 n else if n < 256 then [0x81] ++ le 1 n else [0x82] ++ be 2 n

/-- A DER element. -/
def der (tag : Byte) (content : Bytes) : Bytes := tag :: derLen content.length ++ content

/-- A DER INTEGER of a non-negative number given as octets. -/
def derInt (b : Bytes) : Bytes :=
  let t := b.dropWhile (· == 0)
  let t := if t.isEmpty then [0] else t
  der 0x02 (if byteAt t 0 ≥ 128 then 0 :: t else t)

/-- The curve's object identifier, as a DER element. -/
def curveOid (alg : Nat) : Bytes :=
  match alg with
  | 0x20 => [0x06, 0x08, 0x2A, 0x86, 0x48, 0xCE, 0x3D, 0x03, 0x01, 0x07]
  | 0x21 => [0x06, 0x05, 0x2B, 0x81, 0x04, 0x00, 0x22]
  | 0x22 => [0x06, 0x05, 0x2B, 0x81, 0x04, 0x00, 0x23]
  | 0x23 => [0x06, 0x09, 0x2B, 0x24, 0x03, 0x03, 0x02, 0x08, 0x01, 0x01, 0x07]
  | 0x24 => [0x06, 0x09, 0x2B, 0x24, 0x03, 0x03, 0x02, 0x08, 0x01, 0x01, 0x0B]
  | _ => []

/-- SubjectPublicKeyInfo of a public key (RFC 8017, 5480, 5639, 8410). -/
def spkiOf (p : Pub) : Bytes :=
  let bits := fun (b : Bytes) => der 0x03 (0 :: b)
  if p.alg = 0x10 then
    der 0x30 (der 0x30 ([0x06, 0x09, 0x2A, 0x86, 0x48, 0x86, 0xF7, 0x0D, 0x01, 0x01, 0x01, 0x05, 0x00]) ++
      bits (der 0x30 (derInt (p.data.take p.k) ++ derInt (p.data.drop (p.k + 1)))))
  else if isWeier p.alg then
    der 0x30 (der 0x30 ([0x06, 0x07, 0x2A, 0x86, 0x48, 0xCE, 0x3D, 0x02, 0x01] ++ curveOid p.alg) ++ bits p.data)
  else der 0x30 (der 0x30 [0x06, 0x03, 0x2B, 0x65, if p.alg = 0x28 then 0x70 else 0x6E] ++ bits p.data)

/-- The checks of PUBLIC_EXPORT: key A and the output, a free value for a symmetric ingot (R277). -/
def State.publicExportChecks (s : State) (it : Item) : Chk (KeyVal × Bytes) := do
  let form := byteAt it.desc 0x30
  let ks ← s.prologue it [{ steps := [1, 2, 3, 4], deep := false }]
  keyed ks do
  let k := ks.headD {}
  checkInline it [(0x30, 1)]
  ensure (form ≤ 1) 0x010A 0x30
  let p := pubOfIngot k.ingot
  let out := if ingForm k.ingot = 1 then Config.noPublicPart form k.ingot
    else if form = 0 then pubBytesOf p else spkiOf p
  checkRoom it out.length
  pure (k, out)

/-- PUBLIC_EXPORT. -/
def execPublicExport (slot : Nat) (units : UnitReport) (s : State) : Host.Outcome State Fault Refusal :=
  .next (s.runVerb slot 0x0307 (fun s it => do
    let (k, out) ← s.publicExportChecks it
    pure ((s.reach12 it [k]).okS it units (sub k.ingot 0x40 16) out)))

end Sys2Proof.Machine
end

