-- ==== Sys2Proof/Machine/IccLink.lean ====
section
/-!
DEFINITION. The contact-card slots up to the APDU: activation, the ATR, PPS, and the protocols T=0 and T=1
(R535, R559–R566).
-/
namespace Sys2Proof.Machine

/-- The card slots serve: from stage Hub on, outside a save. -/
def State.slotsLive (s : State) : Bool := s.stage.stage == .full && !s.halted

/-- The pattern declares contact-card slot n (R85). -/
def State.iccFitted (s : State) (n : Nat) : Bool := bit s.pat.fitted (1 + n)

/-- A slot's name in records and the transcript: 0x41 or 0x42. -/
def iccName (n : Nat) : Bytes := le 1 (0x41 + n)

/-! ## Activation (R560–R562) -/

/-- Activation is asked for: at class C first, held while the power-off hold runs (R535, R560). -/
def State.activateIcc (s : State) (n : Nat) : State :=
  s.modIcc n (fun c =>
    if c.hold then { c with state := .activatePending }
    else { c with state := .activating, cls := if c.triedB then 1 else 2, khz := 4000, fi := 372, di := 1 })

/-- A failed activation or exchange: counted, its DETAIL kept, its record written, the slot deactivated; `refuse`
refuses the card until it is removed (R564, R565, R568). -/
def State.iccFail (s : State) (n detail code : Nat) (payload : Bytes) (refuse : Bool) : State :=
  let s := s.modIcc n (fun c => { c with failed := sat 16 (c.failed + 1), lastDetail := detail
                                         refused := c.refused || refuse })
  (s.deactivateIcc n).logG code payload

/-- An activation ends with a DETAIL; the one without PPS ends as PPS failed twice (R562, R564). -/
def State.activationFail (s : State) (n detail : Nat) : State :=
  let d := if (s.icc n).noPps then 7 else detail
  s.iccFail n d 0x0A32 (iccName n ++ le 2 d) (d == 6)

/-- The slot deactivates and one further activation follows after the hold: at class B, or without PPS (R560,
R562). -/
def State.activateAgain (s : State) (n : Nat) (atB noPps : Bool) : State :=
  (s.deactivateIcc n).modIcc n (fun c => { c with state := .activatePending, triedB := atB, noPps := noPps })

/-- One interface byte of an ATR. -/
structure AtrByte where
  /-- 0 TA, 1 TB, 2 TC, 3 TD -/
  kind : Nat
  /-- its number -/
  i : Nat
  /-- the protocol the TD before it names -/
  t : Nat
  /-- its value -/
  v : Nat
  deriving DecidableEq, Repr

/-- The interface bytes of an ATR from group `i` on, and the bytes after them; none where one is missing (R561). -/
def atrGroups : Nat → Bytes → Nat → Nat → Nat → Option (List AtrByte × Bytes)
  | 0, _, _, _, _ => none
  | fuel + 1, bs, i, y, t =>
    let kinds := (List.range 4).filter (fun k => bit y k)
    if bs.length < kinds.length then none
    else
      let mine := (kinds.zip bs).map (fun p => ({ kind := p.1, i := i, t := t, v := p.2.toNat } : AtrByte))
      let rest := bs.drop kinds.length
      match mine.find? (fun (b : AtrByte) => b.kind == 3) with
      | none => some (mine, rest)
      | some d => (atrGroups fuel rest (i + 1) (d.v / 16) (d.v % 16)).map (fun r => (mine ++ r.1, r.2))

/-- The interface bytes of a well-formed ATR; none where its structure, TCK or TA3 is wrong (R561). -/
def parseAtr (atr : Bytes) : Option (List AtrByte) :=
  let t0 := byteAt atr 1
  if !(byteAt atr 0 == 0x3B || byteAt atr 0 == 0x3F) || atr.length < 2 then none
  else match atrGroups 33 (atr.drop 2) 1 (t0 / 16) 0 with
    | none => none
    | some (bs, rest) =>
      let tck := bs.any (fun (b : AtrByte) => b.kind == 3 && b.v % 16 != 0)
      let ta3 := bs.find? (fun (b : AtrByte) => b.kind == 0 && decide (b.i ≥ 3) && b.t == 1)
      if rest.length == t0 % 16 + b2n tck && (!tck || (atr.drop 1).foldl (· ^^^ ·) 0 == 0) &&
          !ta3.any (fun (b : AtrByte) => b.v == 0 || b.v == 0xFF) then some bs else none

/-- An interface byte by kind and number. -/
def atrAt (bs : List AtrByte) (kind i : Nat) : Option Nat :=
  (bs.find? (fun (b : AtrByte) => b.kind == kind && b.i == i)).map (fun (b : AtrByte) => b.v)

/-- An interface byte of T=1, numbered 3 or above. -/
def atrT1 (bs : List AtrByte) (kind : Nat) : Option Nat :=
  (bs.find? (fun (b : AtrByte) => b.kind == kind && decide (b.i ≥ 3) && b.t == 1)).map (fun (b : AtrByte) => b.v)

/-- The clock-stop and class indicators: the TA after T = 15. -/
def atrClass (bs : List AtrByte) : Option Nat :=
  (bs.find? (fun (b : AtrByte) => b.kind == 0 && b.t == 15)).map (fun (b : AtrByte) => b.v)

/-- The protocol used: that of the specific mode, else T=1 where offered, else T=0; none where neither (R561). -/
def atrProtocol (bs : List AtrByte) : Option Nat :=
  let offered := match bs.filter (fun (b : AtrByte) => b.kind == 3) with
    | [] => [0]
    | ds => ds.map (fun (b : AtrByte) => b.v % 16)
  match atrAt bs 0 2 with
  | some v => if v % 16 ≤ 1 then some (v % 16) else none
  | none => if offered.contains 1 then some 1 else if offered.contains 0 then some 0 else none

/-- Fi and fmax in kHz by the high half of TA1 (ISO/IEC 7816-3 Table 7). -/
def fiOf (n : Nat) : Option (Nat × Nat) :=
  match n with
  | 0 => some (372, 4000) | 1 => some (372, 5000) | 2 => some (558, 6000) | 3 => some (744, 8000)
  | 4 => some (1116, 12000) | 5 => some (1488, 16000) | 6 => some (1860, 20000) | 9 => some (512, 5000)
  | 10 => some (768, 7500) | 11 => some (1024, 10000) | 12 => some (1536, 15000) | 13 => some (2048, 20000)
  | _ => none

/-- Di of 1 to 32 by the low half of TA1 (R562). -/
def diOf (n : Nat) : Option Nat :=
  match n with
  | 1 => some 1 | 2 => some 2 | 3 => some 4 | 4 => some 8 | 5 => some 16 | 6 => some 32
  | _ => none

/-- Fi, Di and fmax TA1 names, where R562 uses them. -/
def ratesOf (bs : List AtrByte) : Option (Nat × Nat × Nat) :=
  match atrAt bs 0 1 with
  | none => none
  | some v =>
    match fiOf (v / 16), diOf (v % 16) with
    | some f, some d => some (f.1, d, f.2)
    | _, _ => none

/-- The highest card clock of R559 at or below a limit, in kHz. -/
def cardClock (fmax : Nat) : Nat := 400000 / max 40 (ceilDiv 400000 (min fmax 10000))

/-- A PPS request for TA1 and a protocol (R562). -/
def ppsRequest (ta1 t : Nat) : Bytes := le 1 0xFF ++ le 1 (0x10 + t) ++ le 1 ta1 ++ le 1 (0xFF ^^^ (0x10 + t) ^^^ ta1)

/-- Its allowed reduction: PPS1 left out. -/
def ppsReduced (t : Nat) : Bytes := le 1 0xFF ++ le 1 t ++ le 1 (0xFF ^^^ t)

/-- The slot is ACTIVE with what the ATR and PPS settled. -/
def State.iccActive (s : State) (n : Nat) (bs : List AtrByte) (t fi di khz : Nat) : State :=
  s.modIcc n (fun c => { c with
    state := .active, protoT1 := t == 1, fi := fi, di := di, khz := khz, noPps := false
    ifsc := if t = 1 then (atrT1 bs 0).getD 32 else 0
    edcCrc := t == 1 && ((atrT1 bs 2).getD 0) % 2 == 1
    specific := (atrAt bs 0 2).isSome, clockStop := (atrClass bs).getD 0 / 64
    extraGuard := (atrAt bs 2 1).getD 0, wi := (atrAt bs 2 2).getD 10
    cwi := (atrT1 bs 1).getD 0x4D % 16, bwi := (atrT1 bs 1).getD 0x4D / 16
    nS := 0, nR := 0, lastBlock := [], awaits := 0, blockRetries := 0, resynched := false })

/-- An ATR has completed: the class is settled, then the protocol, the rates and PPS; `pps` is the card's answer to
a PPS request, none where none came (R560–R562). -/
def State.atrReceived (s : State) (n : Nat) (atr : Bytes) (pps : Option Bytes) : State :=
  let s := s.transcribe n 1 atr
  let c := s.icc n
  match parseAtr atr with
  | none => s.activationFail n 2
  | some bs =>
    let ind := atrClass bs
    let here := match ind with
      | none => false
      | some y => bit y (if c.cls = 2 then 2 else 1)
    let offersB := match ind with
      | none => true
      | some y => bit y 1
    if !here then
      if c.cls = 2 && offersB then s.activateAgain n true false else s.activationFail n 6
    else match atrProtocol bs with
      | none => s.activationFail n 6
      | some t =>
        let rates := ratesOf bs
        match atrAt bs 0 2, rates with
        | some ta2, some (fi, di, _) =>
          if bit ta2 4 then s.iccActive n bs t 372 1 4000 else s.iccActive n bs t fi di 4000
        | some _, none => s.iccActive n bs t 372 1 4000
        | none, none => s.iccActive n bs t 372 1 4000
        | none, some (fi, di, fmax) =>
          if c.noPps then s.iccActive n bs t 372 1 4000
          else
            let ta1 := (atrAt bs 0 1).getD 0x11
            let s := s.emit (.apdu n (ppsRequest ta1 t))
            if pps == some (ppsRequest ta1 t) then s.iccActive n bs t fi di (cardClock fmax)
            else if pps == some (ppsReduced t) then s.iccActive n bs t 372 1 (cardClock 5000)
            else s.activateAgain n c.triedB true

/-- No TS, or an ATR that came too slowly (R560, R564). -/
def State.atrTimeout (s : State) (n : Nat) (begun : Bool) : State :=
  if begun then s.activationFail n 2
  else if (s.icc n).cls = 2 && !(s.icc n).noPps then s.activateAgain n true false
  else s.activationFail n 1

/-! ## Exchanges over T=0 and T=1 (R563, R564) -/

/-- Update the exchange of a slot. -/
def State.modExch (s : State) (n : Nat) (f : Exchange → Exchange) : State :=
  s.modIcc n (fun c => { c with exchange := c.exchange.map f })

/-- The exchange of a slot. -/
def State.exch (s : State) (n : Nat) : Exchange := (s.icc n).exchange.getD {}

/-- An exchange fails with a DETAIL (R563, R564). -/
def State.exchangeFail (s : State) (n detail : Nat) (refuse : Bool) : State :=
  s.iccFail n detail 0x0A33 (iccName n ++ le 2 detail ++ le 1 (byteAt (s.exch n).command 1)) refuse

/-- Retries are counted (R568). -/
def State.iccRetry (s : State) (n k : Nat) : State :=
  s.modIcc n (fun c => { c with retries := sat 16 (c.retries + k) })

/-- CRC-16 of ISO/IEC 13239 (PRESUMED, assumption log 4). -/
def crc16 (b : Bytes) : Nat :=
  (b.foldl (fun (c : Nat) x => (List.range 8).foldl (fun (c : Nat) _ =>
    if c % 2 = 1 then (c / 2) ^^^ 0x8408 else c / 2) (c ^^^ x.toNat)) 0xFFFF) ^^^ 0xFFFF

/-- The EDC of a T=1 block: LRC or CRC. -/
def edcOf (crc : Bool) (b : Bytes) : Bytes := if crc then le 2 (crc16 b) else [b.foldl (· ^^^ ·) 0]

/-- A T=1 block: NAD 0, PCB, LEN, information, EDC. -/
def t1Block (crc : Bool) (pcb : Nat) (inf : Bytes) : Bytes :=
  let b := le 1 0 ++ le 1 pcb ++ le 1 inf.length ++ inf
  b ++ edcOf crc b

/-- A T=1 block is sent. -/
def State.sendBlock (s : State) (n pcb : Nat) (inf : Bytes) : State :=
  let b := t1Block (s.icc n).edcCrc pcb inf
  let s := s.modIcc n (fun c => { c with lastBlock := b, clockStopped := false })
  (s.transcribe n 0 b).emit (.apdu n b)

/-- The next block of a chained command (R563). -/
def State.sendChunk (s : State) (n : Nat) : State :=
  let c := s.icc n
  let e := s.exch n
  let s := s.modExch n (fun e => { e with rest := e.rest.drop c.ifsc })
  let s := s.modIcc n (fun c => { c with nS := 1 - c.nS })
  s.sendBlock n (64 * c.nS + 32 * b2n (decide (e.rest.length > c.ifsc))) (e.rest.take c.ifsc)

/-- A T=0 command: its header is sent; its data follows the procedure bytes (R563). -/
def State.sendT0 (s : State) (n : Nat) (command : Bytes) (keep : Bool) : State :=
  let data := command.drop 5
  let p3 := byteAt command 4
  let s := s.modIcc n (fun c => { c with clockStopped := false })
  let s := s.modExch n (fun e => { e with
    rest := data, mode := 0, want := 0, le := if data.isEmpty then (if p3 = 0 then 256 else p3) else 0
    received := if keep then e.received else [] })
  (s.transcribe n 0 command).emit (.apdu n (command.take 5))

/-- A command APDU is sent: header, data, and the length of the response data, 0 for none (R513, R563). -/
def State.sendApdu (s : State) (n : Nat) (header data : Bytes) (ne : Nat) : State :=
  let lc := if data.isEmpty then [] else le 1 data.length ++ data
  if (s.icc n).protoT1 then
    let apdu := header ++ lc ++ (if ne = 0 then (if data.isEmpty then le 1 0 else []) else le 1 ne)
    (s.modExch n (fun e => { e with command := apdu, rest := apdu, received := [], wtxUs := 0 })).sendChunk n
  else
    let command := header ++ (if data.isEmpty then le 1 ne else lc)
    (s.modExch n (fun e => { e with command := command })).sendT0 n command false

/-- The progress of a T=0 exchange over characters received. -/
structure T0 where
  /-- the exchange -/
  e : Exchange
  /-- command data to send now -/
  out : Bytes := []
  /-- the status word, once complete -/
  sw : Option Nat := none
  /-- a length disagreed -/
  bad : Bool := false

/-- One character of a T=0 answer: a procedure byte, response data or a status byte (R563, R564). -/
def t0Byte (x : T0) (b : Byte) : T0 :=
  let ins := BitVec.ofNat 8 (byteAt x.e.command 1)
  if x.bad || x.sw.isSome then { x with bad := true }
  else if x.e.mode = 1 then
    { x with e := { x.e with received := x.e.received ++ [b], want := x.e.want - 1, le := x.e.le - 1
                             mode := if x.e.want ≤ 1 then 0 else 1 } }
  else if x.e.mode = 2 then { x with sw := some (256 * x.e.want + b.toNat) }
  else if b == 0x60 then x
  else if b == ins then
    if !x.e.rest.isEmpty then { x with out := x.out ++ x.e.rest, e := { x.e with rest := [] } }
    else if x.e.le > 0 then { x with e := { x.e with mode := 1, want := x.e.le } }
    else { x with bad := true }
  else if b == ins ^^^ 0xFF then
    if !x.e.rest.isEmpty then { x with out := x.out ++ x.e.rest.take 1, e := { x.e with rest := x.e.rest.drop 1 } }
    else if x.e.le > 0 then { x with e := { x.e with mode := 1, want := 1 } }
    else { x with bad := true }
  else if b.toNat / 16 = 6 ∨ b.toNat / 16 = 9 then { x with e := { x.e with mode := 2, want := b.toNat } }
  else { x with bad := true }

/-- Characters of a T=0 card; `repeats` is how often the worst of them was repeated for parity. The answer is given
once its status word is complete (R563). -/
def State.t0Receive (s : State) (n : Nat) (data : Bytes) (repeats : Nat) : State × Option (Bytes × Nat) :=
  let s := (s.transcribe n 1 data).iccRetry n (min repeats 4)
  if repeats ≥ 4 then (s.exchangeFail n 4 false, none)
  else
    let x := data.foldl t0Byte { e := s.exch n }
    let s := s.modExch n (fun _ => x.e)
    let s := if x.out.isEmpty then s else s.emit (.apdu n x.out)
    if x.bad then (s.exchangeFail n 3 true, none)
    else match x.sw with
      | none => (s, none)
      | some sw =>
        if sw / 256 = 0x61 then (s.sendT0 n ([0, 0xC0, 0, 0] ++ le 1 sw) true, none)
        else if sw / 256 = 0x6C then (s.sendT0 n (x.e.command.take 4 ++ le 1 sw) false, none)
        else (s, some (x.e.received, sw))

/-- A T=1 block in error: an R-block at most twice, then S(RESYNCH) once, then the exchange fails (R563). -/
def State.t1Error (s : State) (n code : Nat) : State :=
  let c := s.icc n
  let s := s.iccRetry n 1
  if c.blockRetries < 2 then
    (s.modIcc n (fun c => { c with blockRetries := c.blockRetries + 1 })).sendBlock n (0x80 + 16 * c.nR + code) []
  else if !c.resynched then
    (s.modIcc n (fun c => { c with resynched := true, blockRetries := 0, awaits := 2 })).sendBlock n 0xC0 []
  else s.exchangeFail n 4 false

/-- BWT in µs: 11 etu and 2^BWI × 960 × 372 clocks (R563). -/
def IccSlot.bwtUs (c : IccSlot) : Nat := (11 * c.fi / max 1 c.di + 2 ^ c.bwi * 960 * 372) * 1000 / max 1 c.khz

/-- A T=1 block received, `parity` where a character of it had bad parity. The answer is given once its chain is
complete (R563, R564). -/
def State.t1Receive (s : State) (n : Nat) (block : Bytes) (parity : Bool) : State × Option (Bytes × Nat) :=
  let s := s.transcribe n 1 block
  let c := s.icc n
  let e := s.exch n
  let edc := if c.edcCrc then 2 else 1
  let len := byteAt block 2
  let pcb := byteAt block 1
  let inf := sub block 3 len
  if block.length ≠ 3 + len + edc ∨ len > 254 then (s.exchangeFail n 3 true, none)
  else if parity || edcOf c.edcCrc (block.take (3 + len)) != block.drop (3 + len) then (s.t1Error n 1, none)
  else
    let good := s.modIcc n (fun c => { c with blockRetries := 0 })
    if byteAt block 0 ≠ 0 then (s.t1Error n 2, none)
    else if pcb < 0x80 then
      if c.awaits ≠ 0 ∨ pcb % 32 ≠ 0 ∨ pcb / 64 ≠ c.nR ∨ ¬ e.rest.isEmpty then (s.t1Error n 2, none)
      else
        let s := good.modIcc n (fun c => { c with nR := 1 - c.nR })
        let got := e.received ++ inf
        let s := s.modExch n (fun e => { e with received := got })
        if bit pcb 5 then (s.sendBlock n (0x80 + 16 * (1 - c.nR)) [], none)
        else if got.length < 2 then (s.exchangeFail n 3 true, none)
        else (s, some (got.take (got.length - 2), ofBE (got.drop (got.length - 2))))
    else if pcb < 0xC0 then
      if c.awaits = 0 && !e.rest.isEmpty && pcb / 16 % 2 = c.nS && pcb % 16 = 0 then (good.sendChunk n, none)
      else
        -- the card asks for the last block again
        let s := (s.iccRetry n 1).modIcc n (fun c => { c with blockRetries := c.blockRetries + 1 })
        if c.blockRetries < 2 then ((s.transcribe n 0 c.lastBlock).emit (.apdu n c.lastBlock), none)
        else (s.t1Error n 2, none)
    else if pcb = 0xC3 ∧ len = 1 then
      let us := e.wtxUs + byteAt inf 0 * c.bwtUs
      if us > 10000000 then (s.exchangeFail n 5 false, none)
      else ((good.modExch n (fun e => { e with wtxUs := us })).sendBlock n 0xE3 inf, none)
    else if pcb = 0xC1 ∧ len = 1 ∧ 0 < byteAt inf 0 ∧ byteAt inf 0 < 0xFF then
      ((good.modIcc n (fun c => { c with ifsc := byteAt inf 0 })).sendBlock n 0xE1 inf, none)
    else if pcb = 0xE0 ∧ c.awaits = 2 then
      -- numbering starts again and the command is repeated
      let s := good.modIcc n (fun c => { c with awaits := 0, nS := 0, nR := 0 })
      if e.command.isEmpty then ((s.modIcc n (fun c => { c with awaits := 1 })).sendBlock n 0xC1 [0xFE], none)
      else ((s.modExch n (fun e => { e with rest := e.command, received := [] })).sendChunk n, none)
    else if pcb = 0xE1 ∧ c.awaits = 1 ∧ inf = [0xFE] then (good.modIcc n (fun c => { c with awaits := 0 }), some ([], 0x9000))
    else (s.t1Error n 2, none)

end Sys2Proof.Machine
end

