-- ==== Sys2Proof/Machine/Custody.lean ====
section
/-!
DEFINITION. Custodians and their cards: the sharing of the domain root, secure messaging, admission, issuing and
recognition, the keypad, and the end of a quorum session (19_dual_control.md, R536).
-/
namespace Sys2Proof.Machine

/-! ## Sharing (R510) -/

/-- A power of a field element. -/
def gpow (x : Byte) (n : Nat) : Byte := (List.range n).foldl (fun a _ => gmul a x) 1

/-- The share at `x`: the value of each byte's polynomial, its constant term the root byte. -/
def shareAt (root : Bytes) (coeffs : List Bytes) (x : Nat) : Bytes :=
  let g := BitVec.ofNat 8 x
  (coeffs.zipIdx.foldl (fun (a : Bytes) p => xorB a (p.1.map (fun c => gmul c (gpow g (p.2 + 1))))) root)

/-- Lagrange interpolation at `x` from points of one polynomial each byte. -/
def interpolate (pts : List (Nat × Bytes)) (x : Nat) : Bytes :=
  let g := fun (n : Nat) => BitVec.ofNat 8 n
  pts.foldl (fun (a : Bytes) p =>
    let l := (pts.filter (fun q => q.1 != p.1)).foldl (fun (l : Byte) q =>
      gmul l (gmul (g x ^^^ g q.1) (ginv (g p.1 ^^^ g q.1)))) 1
    xorB a (p.2.map (fun y => gmul y l))) (zeros 32)

/-- The domain proof key of a root (R208). -/
def proofKeyOf (root : Bytes) : Bytes := kdfCtr root "DOMAIN PROOF" (domainIdOf root) 32

/-- ENROL_MAC of a credential (R512). -/
def enrolMac (proofKey domain : Bytes) (index epoch k : Nat) (point : Bytes) : Bytes :=
  (cmacAes proofKey (domain ++ le 1 index ++ le 1 epoch ++ le 1 k ++ point)).take 16

/-- A credential (R512). -/
def credential (domain : Bytes) (index epoch k : Nat) (share mac : Bytes) : Bytes :=
  domain ++ le 1 index ++ le 1 epoch ++ le 1 k ++ [0] ++ share ++ mac ++ zeros 12

/-! ## The session -/

/-- Update the open session. -/
def State.modSession (s : State) (f : Session → Session) : State := { s with dcc.session := s.dcc.session.map f }

/-- A ceremony verb succeeds: its replay entry and effect are committed, CEREMONY_DONE is written and the session
ends (R525). `extra` goes on in the record's payload. -/
def State.ceremonyDone (s : State) (it : Item) (x : Session) (extra result : Bytes) (size : Nat) (line : Option Nat)
    (undo : List Undo) : State :=
  let s := { s with
    dcc.session := some { x with issuing := none }
    dcc.ceremonies := wrap 32 (s.dcc.ceremonies + 1)
    dcc.lastIssued := match x.issuing with
      | some i => i.written.length
      | none => 0 }
  let s := s.finishM it 0 0 result [] size line undo
  (s.logG 0x0A07 (le 1 x.cls ++ [0] ++ le 2 (maskOf (x.admitted.map (fun (a : Admitted) => a.index - 1))) ++ extra)).endSession 1

/-! ## Leaving QUENCHED (R484) -/

/-- The Ngueth ports are released to retrain, and new transport keys reach every online region, whose BNUs' tenant-key
registers are zeroed (R484 steps 3 and 4). The hub holds the wrap keys of attached slices again (R211). -/
def State.releaseQuench (s : State) : State :=
  let s := { s with ngl.ports := s.ngl.ports.map (fun (p : Port) =>
    if p.state = 1 && p.enable && !p.shutting then { p with state := 2, attestFailed := false } else p) }
  { s with
      slc.slices := s.slc.slices.map (fun (x : Slice) =>
        if x.attached then { x with hubKey := (kwpUnwrap s.sliceKey x.wrapped).getD [] } else x)
      fabric.clusters := s.fabric.clusters.map (fun (c : Cluster) =>
        let g := physRegion c.phys
        if s.stage.online.contains g && (s.region g).state == 2 then
          match (List.range 8).find? (fun i => s.physOf (8 * g + i) == some c.phys) with
          | some i => { c with tenantKeys := [], transport := s.transportKey (8 * g + i) }
          | none => c
        else c) }

/-- The root is in BBRAM with its check, and the domain-root keys exist again (R205, R209). -/
def State.installRoot (s : State) (root : Bytes) : State :=
  { s with kst.bbram := root, kst.bbramCheck := s.bbramCheckOf root, kst.domain := true, stage.unsealed := true }

/-! ## The enrolment partition (R511) -/

/-- The undo of a change of header or records. -/
def State.enrolUndo (s : State) : Undo := .enrolment s.dcc.domainId s.dcc.shareK s.dcc.shareEpoch s.dcc.records

/-- Every card of an issuing is written, or a joined root is checked: header and records go to the commit buffer
(R526, R527, R529); the verb waits for them. -/
def State.issueCommit (s : State) (i : Issuing) : State :=
  let undo := s.enrolUndo
  let fresh := fun (p : Nat × Bytes) =>
    ({ index := p.1, state := 1, epoch := i.epoch, enrolled := s.calOr0, point := p.2 } : Custodian)
  let t := match i.mode with
    | 1 => { s with dcc.records := s.dcc.records ++ i.written.map fresh }
    | 2 => { s with
        dcc.shareK := i.k, dcc.shareEpoch := i.epoch
        dcc.records := s.dcc.records.map (fun (r : Custodian) =>
          if i.written.any (fun w => w.1 == r.index) then { r with epoch := i.epoch } else r) }
    | _ => { s with
        dcc.domainId := domainIdOf i.root, dcc.shareK := i.k, dcc.shareEpoch := i.epoch, dcc.headerSigOk := true
        dcc.records := i.written.map fresh }
  let t := t.modItem i.item (fun x => { x with waits := [.commit] })
  if t.pins.halt then t
  else { t with per.waiting := t.per.waiting ++
    [{ size := 224 + 192 * i.written.length, line := some lineEnrol, item := some i.item, undo := [undo]
       safeOnly := i.mode < 3 }] }

/-- The enrolment of an issuing is committed: the root of a new or joined domain goes into BBRAM, and the verb
completes (R526, R527, R529). -/
def State.issueDone (s : State) (it : Item) (x : Session) (i : Issuing) : State :=
  let old := s
  let s := if i.mode = 0 ∨ i.mode = 4 then ((s.installRoot i.root).releaseQuench).logG 0x0A08 (domainIdOf i.root)
    else if i.mode = 2 then s.logG 0x0A0A (le 1 i.epoch ++ le 1 i.k)
    else s
  let s := s.ceremonyDone it x [] (if i.mode = 0 then domainIdOf i.root else []) 0 none []
  State.logStat old s

/-- The issuing in progress whose cards are all written. -/
def State.issuedBy (s : State) (slot : Nat) : Option (Session × Issuing) :=
  match s.dcc.session with
  | none => none
  | some x => match x.issuing with
    | some i => if i.item = slot ∧ i.mode ≠ 3 ∧ i.todo = [] then some (x, i) else none
    | none => none

/-- COMMIT_ACK: no entry of the item waits for acceptance any more (R39, R422); the root of a domain whose enrolment
was committed then goes into BBRAM (R526). -/
def execCommitAck (slot : Nat) (s : State) : Host.Outcome State Fault Refusal :=
  .next (match s.runningItem slot with
    | none => s
    | some it =>
      if it.waits.contains Wait.commit && !s.per.waiting.any (fun e => e.item == some slot) then
        match s.issuedBy slot with
        | some (x, i) => s.issueDone it x i
        | none => s.doneWaiting slot .commit
      else s)

/-! ## Refusals (R515, R517, R521, R522) -/

/-- CUSTODIAN_REFUSED. -/
def State.custodianRefused (s : State) (index status sw : Nat) : State :=
  s.logG 0x0A04 (le 1 index ++ le 1 status ++ le 2 sw)

/-- The index a card reported. -/
def Exchange.cardIndex (e : Exchange) : Nat := byteAt e.info 4
/-- Its epoch. -/
def Exchange.cardEpoch (e : Exchange) : Nat := byteAt e.info 5
/-- Its threshold. -/
def Exchange.cardK (e : Exchange) : Nat := byteAt e.info 6
/-- Its domain. -/
def Exchange.cardDomain (e : Exchange) : Bytes := sub e.info 8 16
/-- Its public point. -/
def Exchange.cardPoint (e : Exchange) : Bytes := sub e.info 24 65
/-- It holds a credential. -/
def Exchange.holdsCredential (e : Exchange) : Bool := byteAt e.info 2 == 1

/-- The card in a slot is refused until it is removed. -/
def State.refuseCard (s : State) (n status sw : Nat) : State :=
  let s := s.custodianRefused (s.exch n).cardIndex status sw
  (s.modIcc n (fun c => { c with refused := true })).deactivateIcc n

/-- An exchange that fails with CARD_ERROR and refuses its card (R514, R515). -/
def State.refuseError (s : State) (n detail : Nat) : State :=
  (s.custodianRefused (s.exch n).cardIndex 0x0D06 detail).exchangeFail n detail true

/-- The slot's red LED blinks (R515, R517). -/
def State.blinkRed (s : State) (n us : Nat) : State :=
  s.modIcc n (fun c => { c with redUntil := s.m.now + 4 * us })

/-! ## The keypad's prompts (R517, R521) -/

/-- A keypad entry is asked for: the keypad serves the slots in the order they reached it, and the card clock stops
where the ATR allows it (R521, R562). -/
def State.prompt (s : State) (n : Nat) (step : XStep) : State :=
  let s := s.modExch n (fun e => { e with step := step })
  let s := s.modIcc n (fun c => { c with clockStopped := c.clockStop != 0 })
  let k := s.dcc.keypad
  { s with dcc.keypad :=
      if k.slot == some n then { k with entry := [], fnAt := none }
      else if k.slot.isNone then { k with slot := some n, entry := [], fnAt := none }
      else if k.waiting.contains n then k else { k with waiting := k.waiting ++ [n] } }

/-- A discard, wrong PIN or failed check value is counted; the third refuses the card, else `again` follows
(R517). -/
def State.countMiss (s : State) (n : Nat) (again : State → State) : State :=
  let s := s.modExch n (fun e => { e with failures := e.failures + 1 })
  if (s.exch n).failures ≥ 3 then s.refuseCard n 0x0D06 0 else again s

/-! ## Secure messaging (R514) -/

/-- Padding method 2 to 16-byte blocks. -/
def pad80 (d : Bytes) : Bytes := pad16 (d ++ [0x80])

/-- Padding method 2 removed; none where it is not there. -/
def unpad80 (d : Bytes) : Option Bytes :=
  match d.reverse.dropWhile (· == 0) with
  | b :: r => if b == 0x80 then some r.reverse else none
  | [] => none

/-- SSC as its 16 bytes. -/
def sscBytes (n : Nat) : Bytes := be 16 n

/-- A command under secure messaging, with `ne` bytes of response data before protection. -/
def State.secure (s : State) (n : Nat) (step : XStep) (ins : Nat) (data : Bytes) (ne : Nat) : State :=
  let e := s.exch n
  let ssc := e.ssc + 1
  let iv := aesEnc e.kEnc (sscBytes ssc)
  let ct := if data.isEmpty then [] else cbcEncWith (aesEnc e.kEnc) iv (blocksOf 16 (pad80 data))
  let header := le 1 0x84 ++ le 1 ins ++ [0, 0]
  let mac := (cmacAes e.kMac (sscBytes ssc ++ header ++ le 1 (ct.length + 8) ++ ct)).take 8
  let s := s.modExch n (fun e => { e with step := step, ssc := ssc })
  s.sendApdu n header (ct ++ mac) (8 + (if ne = 0 then 0 else (ne / 16 + 1) * 16))

/-- The data of a protected response whose MAC verifies; a status other than 9000 may come bare. -/
def unprotect (e : Exchange) (data : Bytes) (sw : Nat) : Option Bytes :=
  if data.isEmpty && sw != 0x9000 then some []
  else
    let ct := data.take (data.length - 8)
    let iv := aesEnc e.kEnc (sscBytes e.ssc)
    if data.length < 8 || ct.length % 16 != 0 ||
        (cmacAes e.kMac (sscBytes e.ssc ++ ct ++ be 2 sw)).take 8 != data.drop ct.length then none
    else if ct.isEmpty then some []
    else unpad80 (cbcDecWith (aesDec e.kEnc) iv (blocksOf 16 ct))

/-- A format 2 PIN block (ISO 9564-1). -/
def pinBlock2 (pin : List Nat) : Bytes :=
  let nib := [2, pin.length] ++ pin ++ List.replicate (14 - pin.length) 0xF
  (List.range 8).map (fun i => BitVec.ofNat 8 (16 * nib.getD (2 * i) 0 + nib.getD (2 * i + 1) 0))

/-! ## Admission, issuing and recognition (R521, R526, R529) -/

/-- GET_INFO's answer is acceptable for the exchange's purpose: a custodian not yet admitted, of the header and its
records or of the domain to be joined (R521); a card without a record (R529 OP 1); an ACTIVE custodian's card in a
re-share (R529 OP 3); any card for a new index. -/
def State.cardKnown (s : State) (x : Session) (e : Exchange) : Bool :=
  let unseen := !x.admitted.any (fun (a : Admitted) => a.index == e.cardIndex)
  match e.purpose with
  | 0 =>
    if x.cls = 1 then
      e.holdsCredential && unseen &&
        (x.joinDomain.isEmpty || (e.cardDomain == x.joinDomain && e.cardK == x.joinK && e.cardEpoch == x.joinEpoch))
    else if s.dcc.domainId.isEmpty then unseen
    else e.cardDomain == s.dcc.domainId && unseen && s.dcc.records.any (fun (r : Custodian) =>
      r.index == e.cardIndex && r.state == 1 && r.epoch == e.cardEpoch && r.point == e.cardPoint)
  | 1 => match x.issuing with
    | some i => i.mode != 2 || s.dcc.records.any (fun (r : Custodian) =>
        r.state == 1 && r.point == e.cardPoint && i.todo.contains r.index)
    | none => false
  | _ => e.holdsCredential && e.cardDomain == s.dcc.domainId && e.cardEpoch == s.dcc.shareEpoch && e.cardK == s.dcc.shareK &&
      within 1 16 e.cardIndex && !s.dcc.records.any (fun (r : Custodian) => r.index == e.cardIndex)

/-- An exchange begins on an ACTIVE slot: admission, issuing or recognition, by what the session does. T=1 first
sends S(IFS request) (R521, R526, R529, R563). -/
def State.beginExchange (s : State) (n : Nat) : State :=
  match s.dcc.session with
  | none => s
  | some x =>
    let purpose := match x.issuing with
      | none => 0
      | some i => if i.mode = 3 then 2 else 1
    let s := (s.keypadLeave n).modIcc n (fun c => { c with exchange := some { purpose := purpose }, sealed := false })
    if (s.icc n).protoT1 && (s.icc n).lastBlock.isEmpty then
      (s.modIcc n (fun c => { c with awaits := 1 })).sendBlock n 0xC1 [0xFE]
    else s.sendApdu n [0, 0xA4, 4, 0] [0xF0, 0x44, 0x56, 0x52, 0x43, 0x55, 0x53, 1] 0

/-- The index the next card to be written takes: the custodian's own in a re-share, else the first unwritten index
the other slot has not taken (R526, R529). -/
def State.nextIndex (s : State) (n : Nat) (i : Issuing) : Option Nat :=
  let e := s.exch n
  let other := (s.exch (1 - n)).index
  if i.mode = 2 then
    (s.dcc.records.find? (fun (r : Custodian) => r.point == e.cardPoint && i.todo.contains r.index)).map (fun r => r.index)
  else i.todo.find? (fun k => k != other)

/-- The share of an index in an issuing: by the new polynomials, or from the admitted shares (R526, R529). -/
def shareFor (x : Session) (i : Issuing) (index : Nat) : Bytes :=
  if i.mode = 1 then
    interpolate ((x.admitted.take i.k).map (fun (a : Admitted) => (a.index, a.share))) index
  else shareAt i.root i.coeffs index

/-- PUT_CREDENTIAL with the next index. -/
def State.putCredential (s : State) (n : Nat) : State :=
  match s.dcc.session with
  | none => s
  | some x => match x.issuing with
    | none => s
    | some i => match s.nextIndex n i with
      | none => s.modIcc n (fun c => { c with exchange := none })
      | some k =>
        let dom := domainIdOf i.root
        let mac := enrolMac (proofKeyOf i.root) dom k i.epoch i.k (s.exch n).cardPoint
        let s := s.modExch n (fun e => { e with index := k })
        s.secure n .putCredential 0x32 (credential dom k i.epoch i.k (shareFor x i k) mac) 0

/-- A card is written: CARD_ISSUED; after the last, the enrolment is committed (R526, R529). -/
def State.cardWritten (s : State) (n : Nat) : State :=
  match s.dcc.session with
  | none => s
  | some x => match x.issuing with
    | none => s
    | some i =>
      let e := s.exch n
      let j := { i with todo := i.todo.erase e.index, written := i.written ++ [(e.index, e.cardPoint)] }
      let s := s.modSession (fun x => { x with issuing := some j })
      let s := (s.modIcc n (fun c => { c with sealed := true, exchange := none })).logG 0x0A06 (le 1 e.index)
      if j.todo.isEmpty then s.issueCommit j else s

/-- The admission is sealed (R521): the custodian counts, and CUSTODIAN_ADMITTED is written. -/
def State.sealAdmission (s : State) (n : Nat) (component : Option Bytes) : State :=
  match s.dcc.session with
  | none => s
  | some x =>
    let e := s.exch n
    if !s.cardKnown x e then s.refuseCard n 0x0D05 0
    else
      let first := x.cls = 1 && x.joinDomain.isEmpty
      let a : Admitted := { index := e.cardIndex, epoch := e.cardEpoch, k := e.cardK, point := e.cardPoint
                            share := e.share, mac := e.mac }
      let s := s.modSession (fun x => { x with
        admitted := x.admitted ++ [a]
        comps := match component with
          | some c => x.comps ++ [(a.index, c)]
          | none => x.comps
        joinDomain := if first then e.cardDomain else x.joinDomain
        joinK := if first then a.k else x.joinK
        joinEpoch := if first then a.epoch else x.joinEpoch })
      (s.modIcc n (fun c => { c with sealed := true, exchange := none })).logG 0x0A03 (le 1 a.index)

/-- A custodian without a record is recognised once its ENROL_MAC verifies: its record is committed and the verb
completes (R529 OP 1). -/
def State.recognise (s : State) (n : Nat) (x : Session) (i : Issuing) : State :=
  let e := s.exch n
  if enrolMac s.proofKey e.cardDomain e.cardIndex e.cardEpoch e.cardK e.cardPoint != e.mac then s.refuseCard n 0x0D05 0
  else match s.runningItem i.item with
    | none => s
    | some it =>
      let undo := s.enrolUndo
      let r : Custodian := { index := e.cardIndex, state := 1, epoch := e.cardEpoch, enrolled := s.calOr0, point := e.cardPoint }
      let s := { s with dcc.records := s.dcc.records ++ [r] }
      let s := s.modIcc n (fun c => { c with sealed := true, exchange := none })
      s.ceremonyDone it { x with issuing := some { i with written := [(e.cardIndex, e.cardPoint)] } } [] [] 192 (some lineEnrol) [undo]

/-- After the PIN is verified, and changed where asked: the share, the component, or the seal (R521, R523). -/
def State.afterPin (s : State) (n : Nat) : State :=
  match s.dcc.session with
  | none => s
  | some x =>
    let e := s.exch n
    if e.purpose = 1 then s.secure n .erase 0x3E [] 0
    else if e.purpose = 2 || x.cls == 1 || x.cls == 2 || x.cls == 5 then s.secure n .getCredential 0x30 [] 80
    else if x.cls == 10 && decide (x.comps.length < x.components) then s.prompt n .component
    else s.sealAdmission n none

/-- OPEN_SM is sent with an ephemeral point and N_d (R514). -/
def State.openSm (s : State) (n : Nat) : State :=
  let r := s.drawScalar p256
  let d := r.1
  let nd := r.2.draw 16
  let s := nd.2.modExch n (fun e => { e with step := .openSm, ephPriv := d, nonce := nd.1, ssc := 0 })
  s.sendApdu n [0x80, 0x20, 0, 0] (p256.pubBytes d ++ nd.1) 80

/-- OPEN_SM's answer: the card's signature is checked against its point and the session keys are derived (R514); none
where it does not verify. -/
def openKeys (e : Exchange) (data : Bytes) : Option (Bytes × Bytes) :=
  match p256.decodePoint e.cardPoint with
  | none => none
  | some q =>
    let nc := sub data 0 16
    let own := p256.pubBytes e.ephPriv
    if p256.verify q.1 q.2 (sha256 (own ++ e.nonce ++ nc)) (ofBE (sub data 16 32)) (ofBE (sub data 48 32)) then
      match p256.mul e.ephPriv (some q) with
      | none => none
      | some z =>
        let k := sha256 (be 4 1 ++ be 32 z.1 ++ ascii "CUSTODIAN SM" ++ e.nonce ++ nc)
        some (k.take 16, k.drop 16)
    else none

/-- The plain commands' answers (R513, R521). -/
def State.plainAnswer (s : State) (n : Nat) (x : Session) (data : Bytes) (sw : Nat) : State :=
  let e := s.exch n
  let len := match e.step with
    | .select => 0
    | .getInfo => 89
    | _ => 80
  if sw ≠ 0x9000 then s.exchangeFail n sw false
  else if data.length ≠ len then s.exchangeFail n 3 true
  else match e.step with
    | .select => (s.modExch n (fun e => { e with step := .getInfo })).sendApdu n [0x80, 0x10, 0, 0] [] 89
    | .getInfo =>
      let s := s.modExch n (fun e => { e with info := data })
      if s.cardKnown x (s.exch n) then s.openSm n else s.refuseCard n 0x0D05 0
    | _ => match openKeys e data with
      | none => s.refuseError n 0x6988
      | some k =>
        let s := s.modExch n (fun e => { e with kEnc := k.1, kMac := k.2 })
        if e.purpose = 1 ∧ ¬ e.holdsCredential then s.prompt n .newPin else s.prompt n .pin

/-- The answers under secure messaging (R513–R515, R521, R526). -/
def State.secureAnswer (s : State) (n : Nat) (x : Session) (data : Bytes) (sw : Nat) : State :=
  let s := s.modExch n (fun e => { e with ssc := e.ssc + 1 })
  let e := s.exch n
  match unprotect e data sw with
  | none => s.refuseError n 0x6988
  | some plain =>
    let len := if e.step = .getCredential then 80 else 0
    if e.step = .verifyPin ∧ sw / 16 = 0x63C then
      (s.blinkRed n 3000000).countMiss n (fun s =>
        (s.modExch n (fun e => { e with changing := false, newPin := [] })).prompt n .pin)
    else if e.step = .verifyPin ∧ sw = 0x6983 then s.refuseError n sw
    else if sw ≠ 0x9000 then s.exchangeFail n sw false
    else if plain.length ≠ len then s.exchangeFail n 3 true
    else match e.step with
      | .verifyPin => if e.changing then s.secure n .setPin 0x24 (pinBlock2 e.newPin) 0 else s.afterPin n
      | .erase => s.prompt n .newPin
      | .setPin => if e.purpose = 1 then s.putCredential n else s.afterPin n
      | .getCredential =>
        let s := s.modExch n (fun e => { e with share := sub plain 0x14 32, mac := sub plain 0x34 16 })
        if e.purpose = 2 then
          match x.issuing with
          | some i => s.recognise n x i
          | none => s
        else s.sealAdmission n none
      | _ => s.cardWritten n

/-- The answer of a card to the command in progress. -/
def State.iccAnswer (s : State) (n : Nat) (data : Bytes) (sw : Nat) : State :=
  match s.dcc.session with
  | none => s
  | some x =>
    let e := s.exch n
    if e.command.isEmpty then s.sendApdu n [0, 0xA4, 4, 0] [0xF0, 0x44, 0x56, 0x52, 0x43, 0x55, 0x53, 1] 0
    else match e.step with
      | .select | .getInfo | .openSm => s.plainAnswer n x data sw
      | .pin | .newPin | .newPin2 | .component | .kcv => s
      | _ => s.secureAnswer n x data sw

/-! ## Presence (R522, R535, R536) -/

/-- The changes of a presence input within 1 s, with new ones. -/
def changesWithin (now : Nat) (old new : List Nat) : List Nat := (old ++ new).filter (fun t => decide (now < t + 4000000))

/-- ICC_INSERTED: the presence input has read high for 5 ms (R536). -/
def execIccInserted (slot : Nat) (s : State) : Host.Outcome State Fault Refusal :=
  .next (
    let c := s.icc slot
    if !s.slotsLive || slot ≥ 2 || !s.iccFitted slot || c.present || c.state == .chatter then s
    else
      let s := s.modIcc slot (fun c => { c with
        present := true, refused := false, triedB := false, noPps := false
        changes := changesWithin s.m.now c.changes [s.m.now - 20000]
        state := if c.hold then c.state else .present })
      let s := s.logG 0x0A30 (iccName slot)
      if s.dcc.session.isSome then s.activateIcc slot else s)

/-- ICC_REMOVED: the first edge that shows the card gone, or a bounce before the debounce ended; what was gathered
from a card not sealed is erased (R522, R536, R565). -/
def execIccRemoved (slot : Nat) (s : State) : Host.Outcome State Fault Refusal :=
  .next (
    let c := s.icc slot
    if !s.slotsLive || slot ≥ 2 || !s.iccFitted slot then s
    else
      let edges := if c.present then [s.m.now] else [s.m.now, s.m.now]
      let ch := changesWithin s.m.now c.changes edges
      let s := if c.present then s.logG 0x0A31 (iccName slot) else s
      let s := match c.exchange with
        | some e =>
          let s := s.modIcc slot (fun c => { c with failed := sat 16 (c.failed + 1) })
          if e.purpose = 1 then s else s.custodianRefused e.cardIndex 0x0D04 0
        | none => s
      let s := (s.deactivateIcc slot).modIcc slot (fun c => { c with
        present := false, refused := false, sealed := false, changes := ch
        state := if c.state == .chatter then .chatter else if c.hold then .deactivating else .empty })
      if ch.length > 16 && c.state != .chatter then
        (s.modIcc slot (fun c => { c with state := .chatter })).logG 0x0A34 (iccName slot)
      else s)

/-- ICC_POWER_HOLD_END: a held activation starts (R24, R535). -/
def execIccPowerHoldEnd (slot : Nat) (s : State) : Host.Outcome State Fault Refusal :=
  .next (s.clocked <|
    let c := s.icc slot
    if slot ≥ 2 || !c.hold then s
    else
      let s := s.modIcc slot (fun c => { c with
        hold := false
        state := if c.state == .chatter then .chatter else if !c.present then .empty
          else if c.refused then .refused else .present })
      if c.state == .activatePending && c.present && s.dcc.session.isSome then s.activateIcc slot else s)

/-- SLOT_CHATTER_END: slot 0 A, 1 B, 2 SD: absent for 1 s without a change (R536). -/
def execSlotChatterEnd (slot : Nat) (s : State) : Host.Outcome State Fault Refusal :=
  .next (s.clocked <|
    let settled := fun (changes : List Nat) => (changesWithin s.m.now changes []).isEmpty
    if slot < 2 then
      if (s.icc slot).state == .chatter && settled (s.icc slot).changes then s.modIcc slot (fun c => { c with state := .empty, changes := [] }) else s
    else if s.cards.sdState == .chatter && settled s.cards.sdChanges then { s with cards.sdState := .empty, cards.sdChanges := [] }
    else s)

/-- ICC_ATR_RECEIVED: the ATR completes, with the card's answer to the PPS request it leads to (R560–R562); an ACTIVE
slot begins its exchange. -/
def execIccAtrReceived (slot : Nat) (atr : Bytes) (pps : Option Bytes) (s : State) : Host.Outcome State Fault Refusal :=
  .next (if (s.icc slot).state != .activating || !s.slotsLive then s
    else
      let s := s.atrReceived slot atr pps
      if (s.icc slot).state == .active then s.beginExchange slot else s)

/-- ICC_RESPONSE: characters of a T=0 card, or one T=1 block; `parity` is how often the worst character was repeated
(T=0), or not 0 where a character had bad parity (T=1) (R563). -/
def execIccResponse (slot : Nat) (data : Bytes) (parity : Nat) (s : State) : Host.Outcome State Fault Refusal :=
  .next (
    let c := s.icc slot
    if c.state != .active || c.exchange.isNone || c.clockStopped || !s.slotsLive then s
    else
      let r := if c.protoT1 then s.t1Receive slot data (parity != 0) else s.t0Receive slot data parity
      match r.2 with
      | some a => r.1.iccAnswer slot a.1 a.2
      | none => r.1)

/-- ICC_WAIT_TIMEOUT: no TS or an ATR too slow while activating; else a character, block or work waiting time
(R560, R563). -/
def execIccWaitTimeout (slot : Nat) (begun : Bool) (s : State) : Host.Outcome State Fault Refusal :=
  .next (
    let c := s.icc slot
    if !s.slotsLive then s
    else if c.state == .activating then s.atrTimeout slot begun
    else if c.state == .active && c.exchange.isSome && !c.clockStopped then s.exchangeFail slot 5 false
    else s)

/-! ## The keypad (R516, R517, R523) -/

/-- The digit of a key: rows 0–3 of the matrix (R516). -/
def keyDigit (key : Nat) : Option Nat :=
  [1, 2, 3, 0xA, 4, 5, 6, 0xB, 7, 8, 9, 0xC, 0, 0xF, 0xE, 0xD][key]?

/-- Hexadecimal digits as bytes. -/
def digitBytes (d : List Nat) : Bytes :=
  (List.range (d.length / 2)).map (fun i => BitVec.ofNat 8 (16 * d.getD (2 * i) 0 + d.getD (2 * i + 1) 0))

/-- Digits of a component of an algorithm (R523). -/
def componentDigits (alg : Nat) : Nat := if alg = 1 ∨ alg = 3 then 32 else if alg = 5 then 64 else 48

/-- Digits of its check value (R523). -/
def kcvDigits (alg : Nat) : Nat := if isTdes alg then 6 else 10

/-- A PIN has 6 to 12 digits (R512). -/
def pinLenOk (d : List Nat) : Bool := within 6 12 d.length

/-- ENTER ends the entry of a slot (R517, R521, R523, R526). -/
def State.entryDone (s : State) (n : Nat) (x : Session) (d : List Nat) : State :=
  let e := s.exch n
  match e.step with
  | .pin =>
    if !pinLenOk d then s.countMiss n (fun s => s.prompt n .pin)
    else if e.changing then (s.modExch n (fun e => { e with digits := d })).prompt n .newPin
    else (s.keypadLeave n).secure n .verifyPin 0x22 (pinBlock2 d) 0
  | .newPin =>
    if !pinLenOk d then s.countMiss n (fun s => s.prompt n .newPin)
    else (s.modExch n (fun e => { e with newPin := d })).prompt n .newPin2
  | .newPin2 =>
    if d ≠ e.newPin then (s.blinkRed n 3000000).prompt n .newPin
    else if e.changing then (s.keypadLeave n).secure n .verifyPin 0x22 (pinBlock2 e.digits) 0
    else (s.keypadLeave n).secure n .setPin 0x24 (pinBlock2 d) 0
  | .component =>
    if d.length ≠ componentDigits x.alg then s.countMiss n (fun s => s.prompt n .component)
    else (s.modExch n (fun e => { e with digits := d })).prompt n .kcv
  | .kcv =>
    let c := digitBytes e.digits
    if d.length = kcvDigits x.alg ∧ digitBytes d = (kcvOf x.alg c).take (kcvDigits x.alg / 2) then
      let room := decide (x.comps.length < x.components)
      (s.keypadLeave n).sealAdmission n (if room then some c else none)
    else
      ((s.blinkRed n 3000000).logG 0x0A05 (le 1 e.cardIndex)).countMiss n (fun s => s.prompt n .component)
  | _ => s

/-- A key accepted in the entry of a slot (R517). -/
def State.entryKey (s : State) (n : Nat) (x : Session) (key : Nat) : State :=
  let k := s.dcc.keypad
  let step := (s.exch n).step
  let afterFn := match k.fnAt with
    | some t => decide (s.m.now - t ≤ 8000000)
    | none => false
  let s := { s with dcc.keypad := { k with fnAt := none } }
  let green := fun (s : State) => s.modIcc n (fun c => { c with greenOffUntil := s.m.now + 200000 })
  let hex := step == .component || step == .kcv
  match key with
  | 19 => green { s with dcc.keypad := { k with fnAt := some s.m.now } }
  | 17 =>
    if afterFn then s.endSession 4
    else (green s).countMiss n (fun s => s.prompt n step)
  | 18 =>
    if afterFn then
      if step == .pin then ((green s).modExch n (fun e => { e with changing := true })).prompt n .pin
      else s.blinkRed n 200000
    else (green s).entryDone n x k.entry
  | 16 => green { s with dcc.keypad := { k with fnAt := none, entry := [] } }
  | _ =>
    match keyDigit key with
    | some d =>
      if (d < 10 || hex) && decide (k.entry.length < 64) then
        green { s with dcc.keypad := { k with fnAt := none, entry := k.entry ++ [d] } }
      else s.blinkRed n 200000
    | none => s.blinkRed n 200000

/-- KEYPAD_KEY: key 4 × row + col has read pressed for 10 ms; it counts only while it alone is down (R516). -/
def execKeypadKey (key : Nat) (s : State) : Host.Outcome State Fault Refusal :=
  .next (
    let k := s.dcc.keypad
    if !s.slotsLive || !bit s.pat.fitted 3 || key ≥ 20 || k.down.contains key || k.stuck.contains key then s
    else
      let alone := k.down.isEmpty
      let s := { s with dcc.keypad := { k with down := key :: k.down } }
      match k.slot, s.dcc.session with
      | some n, some x => if alone then s.entryKey n x key else s
      | _, _ => s)

/-- KEYPAD_STUCK: a key held for 5 s is ignored until it has been released (R516). -/
def execKeypadStuck (key : Nat) (s : State) : Host.Outcome State Fault Refusal :=
  .next (s.clocked <|
    let k := s.dcc.keypad
    if k.down.contains key then
      { s with dcc.keypad := { k with down := k.down.erase key, stuck := key :: k.stuck } }.logG 0x0A0C (le 1 key)
    else s)

/-- KEYPAD_KEY_RELEASE: the key has read released for 10 ms (R516). -/
def execKeypadKeyRelease (key : Nat) (s : State) : Host.Outcome State Fault Refusal :=
  .next (s.clocked <| { s with dcc.keypad := { s.dcc.keypad with
    down := s.dcc.keypad.down.erase key, stuck := s.dcc.keypad.stuck.erase key } })

/-- KEYPAD_ENTRY_TIMEOUT: 60 s without a key: the entry is discarded and its prompt restarts (R517). -/
def execKeypadEntryTimeout (s : State) : Host.Outcome State Fault Refusal :=
  .next (s.clocked <| match s.dcc.keypad.slot with
    | none => s
    | some n => s.countMiss n (fun s => s.prompt n (s.exch n).step))

/-! ## The session's lifetime (R522, R532) -/

/-- The ceremony verb of the session is at work outside ISSUING: ARCHIVE_PROTECT on the card, or an enrolment being
committed. -/
def State.ceremonyAtWork (s : State) (x : Session) : Bool :=
  (x.cls == 9 && (match s.cards.run with
    | some r => (s.item r.item).any (fun (it : Item) => dVerb it.desc == 0x0A19)
    | none => false)) ||
  (match x.issuing with
    | some i => i.mode != 3 && i.todo.isEmpty
    | none => false)

/-- QUORUM_SESSION_EXPIRE: the session's delay entry falls due. Before the expiry it is made again for the remainder (R145);
at the expiry the session ends; while its ceremony verb runs outside ISSUING it ends after the verb (R522, R532). -/
def execQuorumSessionExpire (s : State) : Host.Outcome State Fault Refusal :=
  .next (match s.dcc.session with
    | none => s
    | some x =>
      if !s.servesNow .quorum then s
      else
        let s := s.dropDelay .quorum
        if s.m.now < x.endsAt then
          s.addDelay 0 (min (s.ticksOf (ceilDiv (x.endsAt - s.m.now) 4)) (2 ^ 32)) true .quorum
        else if s.ceremonyAtWork x then s.modSession (fun x => { x with expired := true })
        else s.endSession 2)

end Sys2Proof.Machine
end

