-- ==== Sys2Proof/Machine/Tamper.lean ====
section
/-!
DEFINITION. Tamper sources, responses, Lock and Quench, the battery domain's watch and the critical
decisions taken twice (17_tamper_and_quench.md).
-/
namespace Sys2Proof.Machine

/-! ## Floors and responses (R467, R471–R473) -/

/-- Shipped floor of a source: 1 RECORD, 2 LOCK, 3 QUENCH (R467). -/
def shippedFloor (n : Nat) : Nat :=
  [3, 3, 3, 2, 2, 1, 2, 3, 2, 3, 2, 1, 1, 1, 1, 2].getD n 0

/-- Effective floor from the fuse field; 0 is NONE (R472). -/
def State.floorOf (s : State) (n : Nat) : Nat :=
  let f := s.fuses.floors.getD n 0
  if bit f 3 then 0
  else if bit f 1 then 3
  else if bit f 0 then max (shippedFloor n) 2
  else shippedFloor n

/-- Response a source applies: the stronger of floor and RESP_TSn, NONE where fused (R86, R471). -/
def State.responseOf (s : State) (n : Nat) : Nat :=
  if s.floorOf n = 0 then 0 else max (s.floorOf n) (s.pat.respTs.getD n 0)

/-- Response on battery: from the battery domain's copies, else the floors (R473). -/
def State.battResponseOf (s : State) (n : Nat) : Nat :=
  if s.floorOf n = 0 then 0
  else match s.tam.respCopy with
    | [] => s.floorOf n
    | c => c.getD n (s.floorOf n)

/-- At each pattern acceptance the battery domain copies responses and external-input settings (R473). -/
def State.copyToBattery (s : State) : State :=
  { s with tam.respCopy := (List.range 16).map s.responseOf, tam.fittedCopy := s.pat.extFitted,
           tam.polarityCopy := s.pat.extPolarity, tam.filterCopy := s.pat.extFilter }

/-- Masked sources are neither armed nor sampled (R468). -/
def State.sourceMasked (s : State) (n : Nat) : Bool :=
  s.floorOf n == 0 ||
  ((n == 3 || n == 4 || n == 10) && (!s.tam.mainArmed || s.tam.saveMask)) ||
  (n == 8 && !s.tam.clockArmed) ||
  (11 ≤ n && n ≤ 14 && !bit s.pat.extFitted (n - 11))

/-- A source is armed: unmasked and not disarmed by an alarm or by chatter (R469, R470). -/
def State.sourceArmed (s : State) (n : Nat) : Bool :=
  s.tam.mainArmed && !s.sourceMasked n && !s.tam.disarmed.contains n && !s.tam.chatter.contains n

/-! ## Conditions (R467) -/

/-- The set values of the seven core rails in mV (R467, R592). -/
def State.coreSet (s : State) : List Nat :=
  (List.range 4).map (fun n => s.pat.vddtMv.getD n 750) ++ [750, 850, 850]

/-- The set values of the I/O rails in mV. -/
def ioSet : List Nat := [900, 1800, 3300, 1800]

/-- A rail outside its trip window: above 112% or below 70%. -/
def railTrips (p : Nat × Nat) : Bool := p.1 * 100 > p.2 * 112 || p.1 * 100 < p.2 * 70

/-- A rail inside its return window of 75–110%. -/
def railReturns (p : Nat × Nat) : Bool := p.1 * 100 ≥ p.2 * 75 && p.1 * 100 ≤ p.2 * 110

/-- The instantaneous trip condition of a source (R467). -/
def State.tripsNow (s : State) (x : TamperSense) (n : Nat) : Bool :=
  match n with
  | 0 => x.meshA ≠ 0
  | 1 => x.meshB ≠ 0
  | 2 => x.shield ≠ 0 || x.shieldPct < 50 || x.shieldPct > 200
  | 3 => (x.coreMv.zip s.coreSet).any railTrips
  | 4 => (x.ioMv.zip ioSet).any railTrips || x.vaux5Mv > 5750
  | 5 => x.vbatMv < 2200 || x.vbatMv > 4000
  | 6 => x.temps.any (fun t => t > 1150)
  | 7 => x.temps.any (fun t => t < -300)
  | 8 => x.sysclkStopped || x.sysclkKhz < 80000 || x.sysclkKhz > 120000
  | 9 => x.light.any (fun l => l > 50)
  | 10 => x.glitch
  | _ => false

/-- The instantaneous return condition of a source (R467). -/
def State.returnsNow (s : State) (x : TamperSense) (n : Nat) : Bool :=
  match n with
  | 0 => x.meshA = 0
  | 1 => x.meshB = 0
  | 2 => x.shield = 0 && 70 ≤ x.shieldPct && x.shieldPct ≤ 140
  | 3 => (x.coreMv.zip s.coreSet).all railReturns
  | 4 => (x.ioMv.zip ioSet).all railReturns && x.vaux5Mv < 5500
  | 5 => 2400 ≤ x.vbatMv && x.vbatMv ≤ 3800
  | 6 => x.temps.all (fun t => t < 1100)
  | 7 => x.temps.all (fun t => t > -250)
  | 8 => !x.sysclkStopped && 90000 ≤ x.sysclkKhz && x.sysclkKhz ≤ 110000
  | 9 => x.light.all (fun l => l < 25)
  | 10 => !x.glitch
  | _ => true

/-- How long a source's trip condition must hold, in ticks: TS5 1 ms (R467). -/
def tripTicks (n : Nat) : Nat := if n = 5 then 4000 else 0

/-- How long a source's return condition must hold, in ticks (R467). -/
def returnTicks (n : Nat) : Nat :=
  if n = 3 ∨ n = 4 ∨ n = 8 ∨ n = 10 then 4000 else if n = 5 then 4000000 else 0

/-- CAUSE of an alarm (R487). -/
def causeOf (x : TamperSense) (n : Nat) : Nat :=
  match n with
  | 0 => x.meshA
  | 1 => x.meshB
  | 2 => x.shield
  | 11 | 12 | 13 | 14 => 4
  | _ => 0

/-- VALUE of an alarm: mV, 0.1 °C or kHz, as a 32-bit two's complement (R487). -/
def State.valueOf (s : State) (x : TamperSense) (n : Nat) : Nat :=
  let pick := fun (l : List (Nat × Nat)) => match l.find? railTrips with
    | some p => p.1
    | none => 0
  let temp := fun (t : Option Int) => ((t.getD 0) % (2 ^ 32 : Int)).toNat
  match n with
  | 3 => pick (x.coreMv.zip s.coreSet)
  | 4 => match (x.ioMv.zip ioSet).find? railTrips with
    | some p => p.1
    | none => x.vaux5Mv
  | 5 => x.vbatMv
  | 6 => temp (x.temps.find? (fun t => t > 1150))
  | 7 => temp (x.temps.find? (fun t => t < -300))
  | 8 => if x.sysclkStopped then 0 else x.sysclkKhz
  | _ => 0

/-- One alarm of a sample. -/
structure Alarm where
  /-- source 0–15 -/
  source : Nat
  /-- CAUSE of R487 -/
  cause : Nat
  /-- VALUE of R487 -/
  value : Nat
  deriving DecidableEq, Repr

/-! ## Quench (R476) -/

/-- QUENCH_BUSY: a Quench erasure is running, at most 60 µs (R476, R488). -/
def State.quenchBusy (s : State) : Bool :=
  match s.tam.quenchAt with
  | some t => decide (s.m.now - t < 240)
  | none => false

/-- The erase generator zeroes the root and its check within 3 µs, on battery alone too (R476). -/
def State.eraseRoot (s : State) : State :=
  { s with kst.bbram := zeros 32, kst.bbramCheck := zeros 8, kst.domain := false, stage.unsealed := s.usesTestRoot && s.stage.unsealed }

/-- Quench with main power present: root, domain-root keys, ZEROISE to T0–T3 and H, queued and running items, volatile stores,
session and card slots, then QUENCH_DONE (R476). No commit entry of the model holds clear key material (R445). -/
def State.quench (s : State) : State :=
  if s.quenchBusy then s else
  let s := { s with tam.quenchAt := some s.m.now }
  let s := (s.eraseRoot.emitAll ((List.range 5).map OutEvent.zeroise)).quenchItems.portsIdle.zeroVolatileKeys
  ((s.endSession 5).deactivateCards).logG 0x0805 []

/-- The lock flag is set (R475). -/
def State.enterLock (s : State) : State :=
  if s.tam.lockFlag then s else { s with tam.lockFlag := true }.logG 0x0803 []

/-! ## Alarms (R469, R471, R474, R478, R479) -/

/-- One alarm latched and recorded on main power. -/
def State.recordAlarm (s : State) (merged : Bool) (a : Alarm) : State :=
  let r := s.responseOf a.source
  let m := merged && r == 3
  let s := { s with
    tam.latched := (if s.tam.latched.contains a.source then s.tam.latched else a.source :: s.tam.latched)
    tam.latchedResp := assocSet s.tam.latchedResp a.source
      (max r (lookupD s.tam.latchedResp a.source 0))
    tam.alarms := modAt s.tam.alarms a.source (fun c => wrap 32 (c + 1)) }
  let s := (s.lifeAdd (33 + a.source) 1).alert (if r ≥ 2 then 12 else 4)
  s.logEv (if a.cause = 5 then 0x0802 else 0x0801) (srcTamper a.source) 0xFFFF
    (le 1 a.source ++ le 1 r ++ le 1 a.cause ++ le 1 (b2n m) ++ le 4 a.value)

/-- All alarms of one sample: each recorded in index order, the strongest response applied once (R478). -/
def State.handleAlarms (s : State) (as : List Alarm) : State :=
  if as.isEmpty then s else
  let strongest := as.foldl (fun m a => max m (s.responseOf a.source)) 0
  let busy := s.quenchBusy
  let merged := busy || s.quenched
  let old := s
  let s := as.foldl (fun s a => s.recordAlarm merged a) s
  let s := { s with tam.disarmed := s.tam.disarmed ++ as.map (·.source) }
  let s := if as.any (fun a => s.responseOf a.source == 2) && strongest == 2 then s.enterLock else s
  let s := if strongest ≥ 3 && !busy then s.quench else s
  State.logStat old s

/-! ## Critical decisions (R481, R482) -/

/-- TS15 alarms, unless it is fused to NONE; it is armed again at once (R86, R467). -/
def State.decisionAlarm (s : State) : State :=
  match s.floorOf 15 with
  | 0 => s
  | _ =>
    let s := s.handleAlarms [{ source := 15, cause := 6, value := 0 }]
    { s with tam.disarmed := s.tam.disarmed.filter (· != 15) }

/-- The two evaluations of a decision differ: the count, DECISION_MISMATCH and, unless fused to NONE, TS15 (R86, R482, R487). TS15 is an event:
its return condition holds at once (R467). -/
def State.mismatch (s : State) (decision first second subject : Nat) : State :=
  let s := { s with tam.mismatches := wrap 32 (s.tam.mismatches + 1) }
  let s := s.logEv 0x0807 (srcTamper 15) 0xFFFF (le 1 decision ++ le 1 first ++ le 1 second ++ [0] ++ le 4 subject)
  s.decisionAlarm

/-- A decision taken twice: its final outcome (0 acceptance), the count, and TS15 where the second evaluation
differs. `refusal` is the outcome a mismatch gives. -/
def State.decide2 (s : State) (decision first subject refusal : Nat) (second : Option Nat) : Nat × State :=
  let s := { s with tam.decisions := wrap 32 (s.tam.decisions + 1) }
  match second with
  | none => (first, s)
  | some o => if o = first then (first, s) else (refusal, s.mismatch decision first o subject)

/-! ## Main-power sampling -/

/-- Time since which a condition of a source holds, kept in an association list. -/
def sinceUpd (l : List (Nat × Nat)) (n now : Nat) (holds : Bool) : List (Nat × Nat) :=
  if holds then (if (l.lookup n).isSome then l else (n, now) :: l) else assocDel l n

/-- Whether a condition has held for `ticks`. -/
def heldFor (l : List (Nat × Nat)) (n now ticks : Nat) : Bool :=
  match l.lookup n with
  | some t => decide (now - t ≥ ticks)
  | none => false

/-- One external input's raw level passes its filter: edges, filtered-out transitions within 1 ms, the
registered level (R470). Returns the state and whether the seventeenth filtered-out transition came. -/
def State.extInput (s : State) (n : Nat) (raw : Bool) (filterUs : Nat) : State × Bool :=
  let now := s.m.now
  let reg := s.tam.extLevel.getD n false
  let last := s.tam.extRaw.getD n false
  let s1 :=
    if raw == last then (s, false)
    else
      -- a change back before registering is a filtered-out transition
      let lost := last != reg && raw == reg
      let recent := (s.tam.extFiltered.getD n []).filter (fun t => now - t < 4000)
      let recent := if lost then now :: recent else recent
      ({ s with
          tam.extRaw := s.tam.extRaw.set n raw
          tam.extSince := s.tam.extSince.set n now
          tam.filteredAt := if lost then s.tam.filteredAt.set n now else s.tam.filteredAt
          tam.extFiltered := s.tam.extFiltered.set n recent }, decide (recent.length > 16))
  let s := s1.1
  let held := decide (now - s.tam.extSince.getD n 0 ≥ 4 * filterUs)
  (if held then { s with tam.extLevel := s.tam.extLevel.set n raw } else s, s1.2)

/-- The raw active level of an input under a polarity mask: bit set means active high (R85). -/
def rawActive (polarity n : Nat) (level : Bool) : Bool := level == bit polarity n

/-- External inputs of one main-power sample: their chatter alarms and the updated filters. -/
def State.extSample (s : State) (x : TamperSense) : State × List Alarm :=
  (List.range 4).foldl (fun (p : State × List Alarm) n =>
    if bit p.1.pat.extFitted n then
      let r := p.1.extInput n (rawActive p.1.pat.extPolarity n (x.ext.getD n true))
        (p.1.pat.extFilter.getD n 32)
      let armed := p.1.sourceArmed (11 + n)
      if r.2 && armed then
        ({ r.1 with tam.chatter := (11 + n) :: r.1.tam.chatter },
         p.2 ++ [{ source := 11 + n, cause := 5, value := 0 }])
      else (r.1, p.2)
    else p) (s, [])

/-- A chattering input has held its inactive level for 10 ms without a filtered-out transition (R470). -/
def State.chatterEnds (s : State) (n : Nat) : Bool :=
  !s.tam.extRaw.getD n false && decide (s.m.now - s.tam.extSince.getD n 0 ≥ 40000) &&
    decide (s.m.now - s.tam.filteredAt.getD n 0 ≥ 40000)

/-- Sources whose chatter has ended are out of it (R470). -/
def State.unchatter (s : State) : State :=
  { s with tam.chatter := s.tam.chatter.filter (fun n => !s.chatterEnds (n - 11)) }

/-- VBAT returning within its window after a reading below 0.5 V starts a new cell's charge count (R609). -/
def State.vbatSample (s : State) (mv : Nat) : State :=
  let back := s.tam.vbat < 500 && 2200 ≤ mv && mv ≤ 4000
  let s := { s with tam.vbat := min mv 8191, pins.vbatOk := decide (mv ≥ 500) }
  if back && s.pins.keepRail then { s with per.life := assocSet s.per.life 50 0 } else s

/-- One main-power sample of every source (R467–R470, R478). -/
def State.sample (s : State) (x : TamperSense) : State :=
  let e := s.extSample x
  let s := e.1
  let now := s.m.now
  let srcs := (List.range 15).filter (fun n => !s.sourceMasked n)
  -- trip and return conditions with their holding times
  let trips := fun (n : Nat) =>
    if n ≥ 11 then s.tam.extLevel.getD (n - 11) false else s.tripsNow x n
  let returns := fun (n : Nat) =>
    if n ≥ 11 then !s.tam.extLevel.getD (n - 11) false else s.returnsNow x n
  let tl := srcs.foldl (fun l n => sinceUpd l n now (trips n)) s.tam.tripSince
  let rl := srcs.foldl (fun l n => sinceUpd l n now (returns n)) s.tam.returnSince
  let active := srcs.filter (fun n =>
    heldFor tl n now (tripTicks n) ||
      (s.tam.active.contains n && !heldFor rl n now (returnTicks n)))
  let fresh := srcs.filter (fun n => active.contains n && s.sourceArmed n
    && !e.2.any (fun a => a.source == n))
  let s := { s with
    tam.tripSince := tl, tam.returnSince := rl, tam.active := active
    tam.disarmed := s.tam.disarmed.filter (fun n => active.contains n) }.unchatter
  let as := e.2 ++ fresh.map (fun n =>
    { source := n, cause := causeOf x n, value := s.valueOf x n })
  (s.handleAlarms (as.mergeSort (fun a b => a.source ≤ b.source))).vbatSample x.vbatMv

/-! ## The battery domain (R458, R473, R480) -/

/-- The battery domain watches alone: main power is off or stage Guard has not begun, and the keep rail or the cell powers it
(R34, R49, R52, R480). -/
def State.onBattery (s : State) : Bool := s.stage.stage == .hold && (s.pins.keepRail || s.pins.vbatOk)

/-- The battery domain loses its power too: root, latches, lock flag, copies, buffer and RTC go (R34, R442). -/
def State.loseBattery (s : State) : State :=
  { s with
    kst.bbram := zeros 32, kst.bbramCheck := zeros 8
    tam.latched := [], tam.latchedResp := [], tam.lockFlag := false, tam.respCopy := [], tam.fittedCopy := 0
    tam.polarityCopy := 0, tam.filterCopy := [32, 32, 32, 32], tam.battBuf := [], tam.battOverflow := 0
    tam.battLostMask := [], tam.battLostTime := 0, tam.active := [], tam.disarmed := []
    per.rtcLost := true, per.calSet := false, per.calSource := 0, per.rtcHeld := false }

/-- One alarm on battery: latched, recorded in the buffer or counted as lost (R480). -/
def State.battRecord (s : State) (merged : Bool) (a : Alarm) : State :=
  let r := s.battResponseOf a.source
  let s := { s with
    tam.latched := (if s.tam.latched.contains a.source then s.tam.latched else a.source :: s.tam.latched)
    tam.latchedResp := assocSet s.tam.latchedResp a.source (max r (lookupD s.tam.latchedResp a.source 0))
    tam.disarmed := a.source :: s.tam.disarmed }
  if s.tam.battBuf.length < 8 then
    { s with tam.battBuf := s.tam.battBuf ++
      [{ source := a.source, response := r, cause := a.cause, merged := merged && r == 3,
         time := s.devUs }] }
  else
    { s with tam.battOverflow := s.tam.battOverflow + 1
             tam.battLostMask := if s.tam.battLostMask.contains a.source then s.tam.battLostMask
               else a.source :: s.tam.battLostMask
             tam.battLostTime := s.devUs }

/-- All alarms of one pulse or edge on battery: LOCK sets the flag, QUENCH erases the root (R480). -/
def State.battAlarms (s : State) (as : List Alarm) : State :=
  if as.isEmpty then s else
  let strongest := as.foldl (fun m a => max m (s.battResponseOf a.source)) 0
  let merged := s.quenched
  let s := as.foldl (fun s a => s.battRecord merged a) s
  if strongest ≥ 3 then s.eraseRoot
  else if strongest = 2 then { s with tam.lockFlag := true } else s

/-- The sources a pulse checks: meshes, shield, temperature, light (R480). -/
def pulseSources : List Nat := [0, 1, 2, 6, 7, 9]

/-- BATTERY_PULSE: every 125 ms on battery (R480). -/
def execBatteryPulse (sense : TamperSense) (s : State) : Host.Outcome State Fault Refusal :=
  .next (if s.onBattery then
      let s := s.unchatter
      let srcs := pulseSources.filter (fun n => s.floorOf n ≠ 0)
      let active := srcs.filter (fun n =>
        s.tripsNow sense n || (s.tam.active.contains n && !s.returnsNow sense n))
      let fresh := active.filter (fun n => !s.tam.disarmed.contains n)
      let others := s.tam.active.filter (fun n => !pulseSources.contains n)
      let s := { s with tam.active := others ++ active
                        tam.disarmed := s.tam.disarmed.filter (fun n =>
                          !pulseSources.contains n || active.contains n) }
      s.battAlarms (fresh.map (fun n => { source := n, cause := causeOf sense n, value := 0 }))
    else s)

/-- BATTERY_INPUT_EDGE: an external input's edge starts its filter; VBAT passes its window (R480). -/
def execBatteryInputEdge (input level : Nat) (s : State) : Host.Outcome State Fault Refusal :=
  .next (if s.onBattery then
      if input < 4 then
        if bit s.tam.fittedCopy input && s.floorOf (11 + input) ≠ 0 then
          let s := s.unchatter
          let r := s.extInput input (rawActive s.tam.polarityCopy input (level ≠ 0))
            (s.tam.filterCopy.getD input 32)
          let s := { r.1 with tam.filterRunning := r.1.tam.filterRunning.set input true }
          if r.2 && !s.tam.disarmed.contains (11 + input) && !s.tam.chatter.contains (11 + input) then
            ({ s with tam.chatter := (11 + input) :: s.tam.chatter }).battAlarms
              [{ source := 11 + input, cause := 5, value := 0 }]
          else s
        else s
      else
        let out := decide (level < 2200 ∨ level > 4000)
        let back := decide (2400 ≤ level ∧ level ≤ 3800)
        let s := s.vbatSample level
        if level < 500 && !s.pins.keepRail then s.loseBattery
        else if out && s.floorOf 5 ≠ 0 && !s.tam.disarmed.contains 5 then
          ({ s with tam.active := 5 :: s.tam.active.filter (· != 5) }).battAlarms
            [{ source := 5, cause := 0, value := level }]
        else if back then
          { s with tam.active := s.tam.active.filter (· != 5)
                   tam.disarmed := s.tam.disarmed.filter (· != 5) }
        else s
    else if input ≥ 4 && s.stage.stage == .hold && decide (level ≥ 500) then
      -- a cell is fitted: the battery domain has power again
      { s with pins.vbatOk := true, tam.vbat := min level 8191 }
    else s)

/-- EXT_TAMP_FILTER_EXPIRE: the input has held its level for its filter time after the edge: the level
registers, and an active one raises the alarm (R470, R480). -/
def execExtTampFilterExpire (input : Nat) (s : State) : Host.Outcome State Fault Refusal :=
  .next (if s.onBattery && s.tam.filterRunning.getD input false &&
      decide (s.m.now - s.tam.extSince.getD input 0 ≥ 4 * s.tam.filterCopy.getD input 32) then
      let s := s.unchatter
      let raw := s.tam.extRaw.getD input false
      let n := 11 + input
      let s := { s with tam.filterRunning := s.tam.filterRunning.set input false
                        tam.extLevel := s.tam.extLevel.set input raw }
      if raw then
        let s := { s with tam.active := n :: s.tam.active.filter (· != n) }
        if s.tam.disarmed.contains n || s.tam.chatter.contains n then s
        else s.battAlarms [{ source := n, cause := 4, value := 0 }]
      else
        { s with tam.active := s.tam.active.filter (· != n)
                 tam.disarmed := s.tam.disarmed.filter (· != n) }
    else s)

/-- Stage Guard replays the battery buffer into the heat log, never limited and never merged (R458). -/
def State.replayBattery (s : State) : State :=
  let n := s.tam.battBuf.length
  let ov := s.tam.battOverflow
  let s := s.tam.battBuf.foldl (fun (s : State) e =>
    let r := s.mkRec (if e.cause = 5 then 0x0802 else 0x0801) (srcTamper e.source) 0xFFFF
      (le 1 e.source ++ le 1 e.response ++ le 1 e.cause ++ le 1 (2 + b2n e.merged) ++ zeros 4)
    let s := s.enterLog { r with time := e.time, battery := true }
    ((s.lifeAdd (33 + e.source) 1).alert (if e.response ≥ 2 then 12 else 4))) s
  let s := if ov = 0 then s else
    let r := s.mkRec 0x0F07 srcGuard 0xFFFF (le 2 (maskOf s.tam.battLostMask) ++ le 8 s.tam.battLostTime)
    s.enterLog { r with repeats := ov }
  { s with
    tam.replayed := decide (n > 0), tam.replayEntries := n, tam.replayOverflow := sat 16 ov
    tam.battBuf := [], tam.battOverflow := 0, tam.battLostMask := [], tam.battLostTime := 0 }

/-! ## Commands -/

/-- SYSCLK absent or out of its window stops the peripheral, hub and region clocks, from stage Hub on (R40, R43, R53).
DEDUCED: they run again once SYSCLK is back in TS8's return window, and ticks count on from where they stood
(assumption log 17). -/
def State.clockWatch (s : State) (x : TamperSense) : State :=
  let lost := s.fromHub && (s.tripsNow x 8 || (s.tam.clockLost && !s.returnsNow x 8))
  if lost == s.tam.clockLost then s
  else if lost then { s with tam.clockLost := true, tam.clockLostAt := s.m.now }
  else { s with tam.clockLost := false, tnd.tick0 := s.tnd.tick0 + (s.m.now - s.tam.clockLostAt) }.offerAll

/-- TAMPER_SAMPLE: every 1 µs, from stage Guard on; the guard's sensor is read with it (R469, R577). -/
def execTamperSample (sense : TamperSense) (s : State) : Host.Outcome State Fault Refusal :=
  .next (if s.tam.mainArmed && s.pins.mainOn && s.stage.stage != .hold then
      { s.clockWatch sense with gds.temps := s.gds.temps.set 4 sense.guardTemp }.sample sense
    else s)

/-- A commanded Quench on a path: 1 SMBus, 2 TAM_QUENCH (R477). -/
def State.commandedQuench (s : State) (path : Nat) : State :=
  let old := s
  let s := (s.logG 0x0806 (le 1 path)).alert 8
  State.logStat old s.quench

/-- A write reaches a guard block: over BAR0, from stage Hub on, unless the G-H link has failed (R56, R121, R572). -/
def State.gBlock (s : State) : Bool := s.hostUp && s.fromHub && !s.ghFailed

/-- TAM_QUENCH_ARM: a write of ARM arms with KEY 0x5A3C; with another key it cancels (R488). -/
def execTamQuenchArm (key : Nat) (s : State) : Host.Outcome State Fault Refusal :=
  .next (if s.gBlock then
      if key = 0x5A3C then ({ s with tam.armedCmd := some s.m.now }).logG 0x0809 (le 1 2)
      else { s with tam.armedCmd := none }
    else s)

/-- TAM_QUENCH_FIRE: with KEY 0xC3A5 within 100 ms of an accepted ARM a Quench follows; any other write
of FIRE cancels the arm (R477, R488). -/
def execTamQuenchFire (key : Nat) (s : State) : Host.Outcome State Fault Refusal :=
  .next (if s.gBlock then
      let inTime := match s.tam.armedCmd with
        | some t => decide (s.m.now - t ≤ 400000)
        | none => false
      let s := { s with tam.armedCmd := none }
      if key = 0xC3A5 && inTime then s.commandedQuench 2 else s
    else s)

/-- TAM_QUENCH_CANCEL: any other TAM_QUENCH write cancels an armed command (R488). -/
def execTamQuenchCancel (op key : Nat) (s : State) : Host.Outcome State Fault Refusal :=
  .next (if s.gBlock && !((op % 4 == 1 && key == 0x5A3C) || (op % 4 == 2 && key == 0xC3A5)) then
      { s with tam.armedCmd := none }
    else s)

/-- TAM_LATCHED_CLEAR: the latch of an inactive RECORD source written as 1 is cleared (R485). -/
def execTamLatchedClear (mask : Nat) (s : State) : Host.Outcome State Fault Refusal :=
  .next (if s.gBlock then
      let go := ((List.range 16).filter (fun n => bit mask n && s.tam.latched.contains n
        && lookupD s.tam.latchedResp n 0 == 1 && !s.tam.active.contains n))
      let s := { s with tam.latched := s.tam.latched.filter (fun n => !go.contains n)
                        tam.latchedResp := s.tam.latchedResp.filter (fun p => !go.contains p.1) }
      go.foldl (fun (s : State) n => s.logEv 0x0808 (srcTamper n) 0xFFFF (le 1 n)) s
    else s)

end Sys2Proof.Machine
end

