-- ==== Sys2Proof/Machine/LifeCycle.lean ====
section
/-!
DEFINITION. The life cycle: fuse word, tokens, transitions with their journal and erase step, the TAP and
the provisioning fuses (18_life_cycle_and_debug.md).
-/
namespace Sys2Proof.Machine

/-! ## Fuses and tokens (R490–R494) -/

/-- Unblown bits fall by the number blown (life counter 49, R505). -/
def State.spendFuses (s : State) (n : Nat) : State := { s with fuses.fusesFree := s.fuses.fusesFree - n }

/-- The number of bits blown between two values of a field. -/
def addedBits (w old new : Nat) : Nat :=
  ((List.range w).filter (fun i => bit new i && !bit old i)).length

/-- Both copies of the identity root are programmed with one value (R203, R500). -/
def State.blowRoots (s : State) (root : Bytes) : State :=
  ({ s with fuses.rootA := root, fuses.rootB := root }).spendFuses
    (addedBits 256 (ofLE s.fuses.rootA) (ofLE root) + addedBits 256 (ofLE s.fuses.rootB) (ofLE root))

/-- A token is consumed when either used fuse is blown (R493). -/
def State.tokenConsumed (s : State) (i : Nat) : Bool := lookupD s.fuses.tokenUsed i 0 ≠ 0

/-- The digest held for a token: T0 in guard ROM, the others in fuses; empty where unprogrammed (R492). -/
def State.tokenDigest (s : State) (i : Nat) : Bytes :=
  if i = 0 then Config.t0Digest else (s.fuses.tokenDigests.lookup i).getD []

/-- A token is accepted when its SHA-384 equals the digest held and it is not consumed (R492, R493). -/
def State.tokenGood (s : State) (i : Nat) (token : Bytes) : Bool :=
  !s.tokenConsumed i && token.length == 32 && (s.tokenDigest i).length == 48 &&
    sha384 token == s.tokenDigest i

/-- Blow the two used fuses of a token (R493). -/
def State.useToken (s : State) (i : Nat) : State :=
  let had := lookupD s.fuses.tokenUsed i 0
  ({ s with fuses.tokenUsed := assocSet s.fuses.tokenUsed i 2 }).spendFuses (2 - had)

/-- The token of the transition to a target, from a state: none where R492 allows no transition. -/
def tokenFor (st : Lc) (target : Nat) : Option Nat :=
  if target = 7 then (if st = .scrapped then none else some 5)
  else match st, target with
    | .blank, 1 => some 0
    | .test, 3 => some 1
    | .manufactured, 4 => some 2
    | .provisioned, 5 => some 3
    | .deployed, 6 => some 4
    | _, _ => none

/-- The position of the word a target completes: 1–5 for TEST to RETURNED, 6 for SCRAPPED (R490). -/
def positionOf (target : Nat) : Nat :=
  match target with
  | 1 => 1 | 3 => 2 | 4 => 3 | 5 => 4 | 6 => 5 | _ => 6

/-- BLANK → TEST needs every digest of T1–T5 and TT0–TT7 programmed (R492). -/
def State.allDigests (s : State) : Bool :=
  ([1, 2, 3, 4, 5] ++ (List.range 8).map (· + 8)).all (fun i => (s.tokenDigest i).length == 48)

/-- The four fuses of a position are blown (R496 step 4). -/
def State.blowPosition (s : State) (p : Nat) : State :=
  let had := s.fuses.lcWord.getD (p - 1) 0
  ({ s with fuses.lcWord := s.fuses.lcWord.set (p - 1) 4 }).spendFuses (4 - had)

/-! ## Transitions (R496–R501) -/

/-- The intent record and its check (R496). -/
def mkIntent (target token seq : Nat) : Intent :=
  { target := target, token := token, seq := seq,
    check := (sha384 (le 1 target ++ le 1 token ++ le 8 seq)).take 16 }

/-- A copy of the intent is valid when its check agrees (R496). -/
def intentValid (i : Option Intent) : Option Intent :=
  match i with
  | some x => if mkIntent x.target x.token x.seq = x then some x else none
  | none => none

/-- Steps 1 and 2: intent written to both copies, the token's used fuses blown (R496). -/
def State.startTransition (s : State) (target token : Nat) (ceremony : Option Nat) : State :=
  let seq := s.lc.intentSeq + 1
  let i := mkIntent target token seq
  let s := { s with lc.intentSeq := seq, lc.intentA := some i, lc.intentB := some i, lc.step := 2,
                    lc.target := target
                    lc.running := some { target := target, token := token, ceremony := ceremony } }
  (s.useToken token).logG 0x0901 (le 1 target ++ le 1 token ++ le 1 1)

/-- Entries of the commit buffer whose content an erase step took away with its partition: what is kept of each is what
would still be taken back if the entry were lost (R422, R499). -/
def forgetUndo (all : Bool) (us : List Undo) : List Undo :=
  us.filter (fun u => match u with
    | .rollback _ | .activation _ _ | .bounds _ _ => !all
    | _ => false)

/-- The commit buffer after an erase step: no entry lost later brings erased data back (R499). -/
def State.forgetErased (s : State) (all : Bool) : State :=
  { s with
    per.waiting := s.per.waiting.map (fun (e : CommitEntry) => { e with undo := forgetUndo all e.undo })
    per.journal := s.per.journal.map (fun (e : CommitEntry) => { e with undo := forgetUndo all e.undo })
    per.lines := s.per.lines.map (fun (e : LineEntry) => { e with undo := forgetUndo all e.undo }) }

/-- The domain partitions and stores every transition's erase step clears, and the tamper latches; sources
still active stay disarmed (R499). -/
def State.eraseDomain (s : State) : State :=
  let s := { s with
    kst.bbram := zeros 32, kst.bbramCheck := zeros 8, kst.domain := false
    slc.slices := [], slc.offers := []
    kst.counted := [], per.ring := [], per.counterArea := [], per.replay := []
    dcc.domainId := [], dcc.shareK := 0, dcc.shareEpoch := 0, dcc.records := []
    dcc.patKey0 := [], dcc.patKey1 := []
    tam.lockFlag := false, tam.latched := [], tam.latchedResp := []
    tam.disarmed := s.tam.active }
  (s.forgetErased false).zeroVolatileKeys

/-- The whole MRAM initialised or overwritten with zeros (TEST, SCRAPPED; R499, R500). -/
def State.eraseMram (s : State) : State :=
  { s.forgetErased true with
    log.store := [], log.staging := [], log.opened := none, log.next := 1, log.lastCheck := zeros 8
    log.cleared := 0, log.acked := 0, log.suppressed := []
    per.life := [], per.sectorWrites := [], per.wearHist := []
    per.rollback := 0, per.actPattern := false, per.actFirmware := false
    per.timeCheckpoint := 0, per.saveMarker := none
    fabric.fieldMap := [], fabric.strikes := [], fabric.maps := [], fabric.lanes := []
    mea.identityCert := [], mea.identityCertTag := [] }

/-- Step 3 for a target with the data it installs (R499, R500, R203). -/
def State.eraseFor (s : State) (target : Nat) (inst : Installed) : State :=
  let s := s.eraseDomain
  match target with
  | 1 => s.eraseMram
  | 3 =>
    let ids := if inst.dieIds.isEmpty then s.fuses.dieIds else inst.dieIds
    { (s.spendFuses ((ids.zipIdx.map (fun p => addedBits 64 (s.fuses.dieIds.getD p.2 0) p.1)).foldl (· + ·) 0)) with
      fuses.dieIds := ids, fuses.trimsFused := true }
  | 4 =>
    -- the last record under the old chain key (R449), then the root into two fuse fields (R203)
    let s := s.logG 0x0F08 []
    let s := s.sealRecord
    let d := s.draw 32
    -- copies already programmed are completed, not blown anew (R499)
    let both := List.zipWith (· ||| ·) s.fuses.rootA s.fuses.rootB
    let root := if both.any (· ≠ 0) then both else d.1
    let s := d.2.blowRoots root
    { s with mea.identityCert := inst.identityCert
             mea.identityCertTag := cmacAes (kdfCtr root "VENDOR BIND" s.fuses.serial 32) inst.identityCert }
  | 7 =>
    { (s.eraseMram.blowRoots (List.replicate 32 0xFF)) with fuses.identityKilled := true }
  | _ => s

/-- Steps 3 and 4 (R496). -/
def State.transitionErase (s : State) (target : Nat) (inst : Installed) : State :=
  ({ (s.eraseFor target inst) with lc.step := 3 }).blowPosition (positionOf target)

/-- Step 6: both intent copies cleared and LC_TRANSITION_DONE written; a SCRAPPED device keeps no record
(R496, R500). -/
def State.transitionDone (s : State) (target token : Nat) : State :=
  let s := { s with lc.intentA := none, lc.intentB := none, lc.running := none, lc.step := 6 }
  if target = 7 then s else s.logG 0x0902 (le 1 target ++ le 1 token ++ le 1 6)

/-- Recovery at stage Guard of a transition that power loss interrupted (R498): the token whose used
fuses and target position say it must be finished. -/
def State.recoverTransition (s : State) (inst : Installed) : State :=
  let pending := [(0, 1), (1, 3), (2, 4), (3, 5), (4, 6), (5, 7)].find? (fun p =>
    s.tokenConsumed p.1 && decide (s.fuses.lcWord.getD (positionOf p.2 - 1) 0 < 4))
  let intent := match intentValid s.lc.intentA with
    | some i => some i
    | none => intentValid s.lc.intentB
  match pending with
  | some (tok, tgt) =>
    let s := s.useToken tok
    let s := { s with lc.resumed := true, lc.target := tgt }
    let s := s.transitionErase tgt inst
    let s := if tgt = 7 then s else s.logG 0x0903 (le 1 tgt ++ le 1 tok ++ le 1 3)
    s.transitionDone tgt tok
  | none =>
    match intent with
    | none => s
    | some i =>
      if s.tokenConsumed i.token then
        let s := { s with lc.resumed := true, lc.target := i.target }
        let s := s.useToken i.token
        let s := s.logG 0x0903 (le 1 i.target ++ le 1 i.token ++ le 1 5)
        s.transitionDone i.target i.token
      else { s with lc.intentA := none, lc.intentB := none, lc.running := none }

/-- The fuse word is defective at stage Guard: a partial position whose token is not consumed, or a
complete one above a clear or partial one (R491). -/
def State.wordDefect (s : State) : Bool :=
  let w := s.fuses.lcWord
  let partialBad := [(1, 0), (2, 1), (3, 2), (4, 3), (5, 4), (6, 5)].any (fun p =>
    let n := w.getD (p.1 - 1) 0
    0 < n && n < 4 && !s.tokenConsumed p.2)
  let above := (List.range 5).any (fun p =>
    decide (w.getD p 0 ≥ 4) && (List.range p).any (fun q => decide (w.getD q 0 < 4)))
  partialBad || (above && decide (w.getD 5 0 < 4))

/-! ## The TAP (R502–R505) -/

/-- Instructions available in the present state (R502); in Hold only BYPASS and IDCODE (R49). -/
def State.tapAvailable (s : State) (op : Nat) : Bool :=
  let running := s.stage.stage != .hold
  let st := s.lcState
  match op with
  | 0x01 | 0xFF => true
  | 0x00 | 0x02 => running && (st == .blank || st == .test || st == .testUnlocked || st == .returned
      || (s.stage.held && s.stage.stage == .hub))
  | 0x10 | 0x20 => running && st != .scrapped
  | 0x21 => running && (st == .blank || st == .manufactured || st == .provisioned)
  | 0x40 => running && (st == .testUnlocked || st == .returned)
  | _ => false

/-- The instruction register is loaded: an unavailable instruction selects BYPASS; leaving HUB_HOLD
releases its hold and leaving EXTEST or VDBG ends what they did (R55, R502). -/
def State.tapLoad (s : State) (op : Nat) : State :=
  let sel := if s.tapAvailable op then op else 0xFF
  let leaving := s.lc.tapSelected == 0x10 && sel != 0x10
  { s with lc.tapIr := wrap 8 op, lc.tapSelected := sel
           lc.extestDriven := s.lc.extestDriven && sel == 0
           lc.tapPort := s.lc.tapPort && sel == 0x40
           stage.held := if leaving then s.stage.held && s.stage.hubHold else s.stage.held }

/-- TAP_IDCODE: the identification register 0x1880_014F is selected (R502). -/
def execTapIdcode (s : State) : Host.Outcome State Fault Refusal :=
  .next (s.powered <| (s.tapLoad 1).emit (.tdo 1 0x1880014F))

/-- TAP_BYPASS: BYPASS, or any opcode the state does not make available (R502). -/
def execTapBypass (opcode : Nat) (s : State) : Host.Outcome State Fault Refusal :=
  .next (s.powered <| (s.tapLoad (if s.tapAvailable opcode then 0xFF else opcode)).emit (.tdo 0xFF 0))

/-- TAP_EXTEST: the boundary scan drives the balls where available (R502). -/
def execTapExtest (update : List Bool) (s : State) : Host.Outcome State Fault Refusal :=
  let t := s.tapLoad 0
  .next (s.powered <| if t.lc.tapSelected = 0 then { t with lc.boundaryPre := update, lc.extestDriven := true } else t)

/-- TAP_SAMPLE_PRELOAD: the boundary register captures the balls and is preloaded (R502). -/
def execTapSamplePreload (capture update : List Bool) (s : State) : Host.Outcome State Fault Refusal :=
  let t := s.tapLoad 2
  .next (s.powered <| if t.lc.tapSelected = 2 then
      { t with lc.boundaryCap := capture, lc.boundaryPre := update }
    else t)

/-- TAP_HUB_HOLD: while HUB_HOLD is the current instruction the device is held at the end of stage Hub
(R55, R502; STAGE_FULL_ENTRY finds the hold). -/
def execTapHubHold (s : State) : Host.Outcome State Fault Refusal := .next (s.powered <| s.tapLoad 0x10)

/-- TAP_RESET: TRST_N low resets the TAP: IDCODE is selected (R605, IEEE 1149.1). -/
def execTapReset (s : State) : Host.Outcome State Fault Refusal :=
  let t := s.tapLoad 1
  .next (s.powered <| { t with lc.boundaryPre := [], lc.boundaryCap := [] })

/-- TAP_VDBG: the state is checked and the debug-unlock decision taken twice; the first opening after a
cold reset writes DEBUG_PORT_OPEN (R503). -/
def execTapVdbg (second : Option Nat) (s : State) : Host.Outcome State Fault Refusal :=
  .next (s.powered <| if s.stage.stage = .hold then s.tapLoad 0x40 else
    let allowed := s.lcState == .testUnlocked || s.lcState == .returned
    let d := s.decide2 2 (if allowed then 0 else 1) 0 1 second
    let s := d.2
    if d.1 = 0 then
      let first := !s.lc.debugOpen
      let t := s.tapLoad 0x40
      let t := { t with lc.tapPort := true, lc.debugOpen := true }
      if first then t.logG 0x0906 [] else t
    else s.tapLoad 0xFF)

/-- The answer of LC_REQUEST is kept in its RESULT (R504). -/
def State.lcAnswer (s : State) (r : Nat) : State :=
  ({ s with lc.lcResult := r }).emit (.tdo 0x20 r)

/-- A refused token: consumed nothing, LC_TOKEN_REJECTED (R493, R507). -/
def State.tokenRejected (s : State) (target token : Nat) : State :=
  s.logG 0x0904 (le 1 target ++ le 1 token)

/-- TAP_LC_REQUEST: at Update-DR the warden checks target and token and starts a transition or a test
unlock (R494, R495, R504). -/
def execTapLcRequest (target index : Nat) (token : Bytes) (second : Option Nat) (s : State) :
    Host.Outcome State Fault Refusal :=
  let t := s.tapLoad 0x20
  .next (s.powered <| if t.lc.tapSelected ≠ 0x20 then t
    else if t.lc.running.isSome then t.lcAnswer 0x12
    else if target = 2 then
      if t.lcState ≠ .test then t.lcAnswer 0x11
      else if index ≥ 8 ∨ t.testTokensLeft = 0 ∨ t.tokenConsumed (8 + index) then t.lcAnswer 0x13
      else
        let d := t.decide2 3 (if t.tokenGood (8 + index) token then 0 else 1) (8 + index) 1 second
        if d.1 = 0 then
          let u := d.2.useToken (8 + index)
          (({ u with lc.testUnlocked := true }).logG 0x0905 (le 1 2 ++ le 1 (8 + index))).lcAnswer 0x02
        else (d.2.tokenRejected 2 (8 + index)).lcAnswer 0x10
    else match tokenFor t.lcState target with
      | none => t.lcAnswer 0x11
      | some tok =>
        if index ≠ 0 then t.lcAnswer 0x11
        else if t.lcState = .blank ∧ target = 1 ∧ ¬ t.allDigests then t.lcAnswer 0x11
        else if tok = 3 ∨ tok = 4 ∨ (tok = 5 ∧ t.lcState = .deployed) then t.lcAnswer 0x14
        else
          let d := t.decide2 3 (if t.tokenGood tok token then 0 else 1) tok 1 second
          if d.1 = 0 then (d.2.startTransition target tok none).lcAnswer 0x01
          else (d.2.tokenRejected target tok).lcAnswer 0x10)

/-- The answer of LC_FUSE is kept in its RESULT (R505). -/
def State.fuseAnswer (s : State) (r : Nat) : State :=
  ({ s with lc.fuseResult := r }).emit (.tdo 0x21 r)

/-- TAP_LC_FUSE: a token digest, a floor, SMBUS_QUENCH_OFF or COSIGN_REQUIRED is programmed (R505). -/
def execTapLcFuse (field index value rest : Nat) (token digest : Bytes) (second : Option Nat) (s : State) :
    Host.Outcome State Fault Refusal :=
  let t := s.tapLoad 0x21
  .next (s.powered <| if t.lc.tapSelected ≠ 0x21 then t
    else if t.lc.running.isSome then t.fuseAnswer 0x12
    else
      let st := t.lcState
      let stateOk := (field == 1 && st == .blank) ||
        ((field == 2 || field == 3 || field == 4) && (st == .manufactured || st == .provisioned))
      let shapeOk :=
        if field = 1 then (1 ≤ index && index ≤ 5) || (8 ≤ index && index ≤ 15)
        else if field = 2 then index < 16 && value < 16 && rest == 0
        else index == 0 && value == 1 && rest == 0
      if !stateOk then t.fuseAnswer 0x11
      else if !shapeOk then t.fuseAnswer 0x11
      else if field = 1 then
        -- a field already programmed takes only added bits
        let old := fit 48 (t.tokenDigest index)
        let new := List.zipWith (· ||| ·) old (fit 48 digest)
        let u := ({ t with fuses.tokenDigests := assocSet t.fuses.tokenDigests index new }).spendFuses
          (addedBits 384 (ofLE old) (ofLE new))
        (u.logG 0x0907 (le 1 0 ++ le 1 index)).fuseAnswer 0x02
      else
        let tok := if st = .manufactured then 2 else 3
        let d := t.decide2 3 (if t.tokenGood tok token then 0 else 1) tok 1 second
        if d.1 ≠ 0 then (d.2.tokenRejected 0 tok).fuseAnswer 0x10
        else
          let u := d.2
          let u := match field with
            | 2 =>
              let old := u.fuses.floors.getD index 0
              ({ u with fuses.floors := u.fuses.floors.set index (old ||| value) }).spendFuses
                (addedBits 4 old (old ||| value))
            | 3 => ({ u with fuses.smbusQuenchOff := true }).spendFuses (if u.fuses.smbusQuenchOff then 0 else 1)
            | _ => ({ u with fuses.cosignRequired := true }).spendFuses (if u.fuses.cosignRequired then 0 else 1)
          (u.logG 0x0907 (le 1 0 ++ le 1 tok)).fuseAnswer 0x02)

end Sys2Proof.Machine
end

