-- ==== Sys2Proof/Machine/Pattern.lean ====
section
/-!
DEFINITION. The pattern image: header, sections, signature block, verification steps and causes, parameter
catalogue, firmware images (03_pattern_image.md).
-/
namespace Sys2Proof.Machine

/-- Size of a pattern slot (R72). -/
def patSlotBytes : Nat := 0x400000
/-- Size of a firmware slot (R72). -/
def fwSlotBytes : Nat := 0x1000000

/-- Round up to a multiple of `n`. -/
def roundUp (v n : Nat) : Nat := ceilDiv v n * n

/-- The slot digest: SHA-384 of the whole slot, its tail erased (R74). -/
def slotDigest (size : Nat) (d : Bytes) : Bytes := sha384 (d ++ List.replicate (size - d.length) 0xFF)

/-- A key's digest: SHA-384 of 0x04 ‖ QX ‖ QY (R78). -/
def keyDigest (qx qy : Bytes) : Bytes := sha384 ([4] ++ qx ++ qy)

/-- Every byte of a range is zero. -/
def zeroAt (d : Bytes) (off n : Nat) : Bool := (sub d off n).all (· == 0)

/-- Step 1 of R81: MAGIC, FORMAT, HDR_LEN, reserved bytes, field ranges (R75). -/
def headerOk (d : Bytes) : Bool :=
  let il := fld d 8 4
  fld d 0 4 == 0x4E525450 && fld d 4 2 == 1 && fld d 6 2 == 0x80 &&
  il % 8 == 0 && 128 ≤ il && il ≤ 4193904 &&
  fld d 12 2 ≤ 32 && fld d 14 2 < 2 && fld d 0x10 4 ≥ 1 && fld d 0x14 4 ≤ fld d 0x10 4 &&
  byteAt d 0x18 ≤ 32 && (byteAt d 0x19 ≤ 1 || byteAt d 0x19 == 0xFF) &&
  zeroAt d 0x1A 2 && zeroAt d 0x48 8 &&
  4 ≤ byteAt d 0x52 && byteAt d 0x52 ≤ 30 && 26 ≤ byteAt d 0x53 && byteAt d 0x53 ≤ 30 &&
  fld d 0x62 2 ≥ 1 && fld d 0x64 2 ≥ 1

/-- The flash part of a header (R75). -/
def flashCfg (d : Bytes) : FlashCfg :=
  { cfgCmd := byteAt d 0x50, cfgData := byteAt d 0x51, dummy := byteAt d 0x52, log2 := byteAt d 0x53
    cfgAddr := fld d 0x54 4, readCmd := fld d 0x58 2, programCmd := fld d 0x5A 2, eraseCmd := fld d 0x5C 2
    statusCmd := fld d 0x5E 2, wrenCmd := fld d 0x60 2, eraseMs := fld d 0x62 2, programUs := fld d 0x64 2 }

/-- First flash address of a slot (R72). -/
def slotBase (firmware slotB : Bool) : Nat :=
  if firmware then (if slotB then 0x2000000 else 0x1000000) else (if slotB then 0x400000 else 0)

/-- Size of a slot (R72). -/
def slotSize (firmware : Bool) : Nat := if firmware then fwSlotBytes else patSlotBytes

/-- A whole slot is read in 8D-8D-8D mode (R73 step 5, R58, R89 step 4). -/
def State.readSlot (s : State) (c : FlashCfg) (firmware slotB : Bool) : State :=
  s.emit (.flash (.read8d c.readCmd c.dummy (slotBase firmware slotB) (slotSize firmware)))

/-- The reading of a pattern slot: the reset pulse before every read but the first of a cold start, the header, write enable,
the volatile configuration of the header read, and the slot (R73). -/
def State.fetchPattern (s : State) (fresh slotB : Bool) (x : FlashSlot) : State :=
  let c := flashCfg x.data
  let s := if fresh then s else s.emit (.flash .reset)
  let s := (s.emit (.flash (.read1s 0x13 (slotBase false slotB) 128))).emit (.flash (.send1s 0x06))
  (s.emit (.flash (.write1s c.cfgCmd c.cfgAddr c.cfgData))).readSlot c false slotB

/-- Offset of the signature block: the next multiple of 8 after the signed region (R75, R92). -/
def sigOff (imageLen : Nat) : Nat := roundUp imageLen 8

/-- Step 2 of R81: the signature block fits, its MAGIC, COUNT, roles and reserved bytes are right (R78). -/
def sigBlockOk (d : Bytes) (off slot count : Nat) : Bool :=
  off + 8 + 196 * count ≤ slot && fld d off 4 == 0x42474953 && fld d (off + 4) 2 == count &&
  zeroAt d (off + 6) 2 &&
  (List.range count).all (fun i =>
    byteAt d (off + 8 + 196 * i) == i + 1 && zeroAt d (off + 9 + 196 * i) 3)

/-- Key digest of entry i (R78). -/
def sigKey (d : Bytes) (off i : Nat) : Bytes :=
  keyDigest (sub d (off + 12 + 196 * i) 48) (sub d (off + 60 + 196 * i) 48)

/-- The signature of entry i verifies over a digest (R78). -/
def sigVerifies (d : Bytes) (off i : Nat) (h : Bytes) : Bool :=
  let o := off + 8 + 196 * i
  p384.verify (ofBE (sub d (o + 4) 48)) (ofBE (sub d (o + 52) 48)) h
    (ofBE (sub d (o + 100) 48)) (ofBE (sub d (o + 148) 48))

/-- Every byte of the slot after an offset is 0xFF. -/
def tailErased (d : Bytes) (off : Nat) : Bool := (d.drop off).all (· == 0xFF)

/-- Key digests accepted for role 1 in the present life-cycle state (R79). -/
def State.role1Keys (s : State) : List Bytes :=
  match s.lcState with
  | .blank | .test | .testUnlocked | .returned => [Config.testPatternDigest]
  | .manufactured | .provisioned => [s.fuses.vendorProvDigest]
  | .deployed =>
    let k := [s.dcc.patKey0, s.dcc.patKey1].filter (fun x => x ≠ [])
    if k.isEmpty then [s.fuses.vendorProvDigest] else k
  | .scrapped => []

/-- Steps 4 to 10 of R81, one critical decision: 0, or the cause of the first step that fails (R84). -/
def State.patCritical (s : State) (d : Bytes) : Nat :=
  let il := fld d 8 4
  let off := sigOff il
  let cosigned := fld d 14 2 % 2 == 1
  let h := sha384 (d.take il)
  let serial := sub d 0x20 16
  let dom := sub d 0x30 16
  if !s.role1Keys.contains (sigKey d off 0) then 0x04
  else if !sigVerifies d off 0 h then 0x05
  else if s.fuses.cosignRequired && s.lcState == .deployed && !cosigned then 0x06
  else if cosigned && (sigKey d off 1 != s.fuses.vendorCosignDigest ||
      !sigVerifies d off 1 (sha384 (h ++ sub d (off + 108) 48 ++ sub d (off + 156) 48))) then 0x07
  else if !((serial.all (· == 0) || serial == fit 16 s.fuses.serial) &&
      (dom.all (· == 0) || (s.dcc.domainId != [] && dom == s.dcc.domainId))) then 0x08
  else if byteAt d 0x18 < s.fuses.epoch then 0x09
  else if fld d 0x10 4 < s.per.rollback then 0x0A
  else 0

/-! ## Sections and parameters (R76, R77, R85) -/

/-- One section: TYPE, SVER and value. -/
structure Section where
  /-- TYPE -/
  type : Nat
  /-- SVER -/
  sver : Nat
  /-- the value, padding removed -/
  value : Bytes
  deriving DecidableEq, Repr

/-- The section walk from an offset to IMAGE_LEN; none where it does not end exactly or padding is not
zero. -/
def walkSections (d : Bytes) (len : Nat) : Nat → Nat → Option (List Section)
  | 0, off => if off = len then some [] else none
  | n + 1, off =>
    let vl := fld d (off + 4) 4
    let stop := off + 8 + roundUp vl 8
    if stop > len then none
    else if !zeroAt d (off + 8 + vl) (roundUp vl 8 - vl) then none
    else (walkSections d len n stop).map
      ({ type := fld d off 2, sver := fld d (off + 2) 2, value := sub d (off + 8) vl } :: ·)

/-- Known section types (R85). -/
def knownType (t : Nat) : Bool := 1 ≤ t && t ≤ 9

/-- A section is known when its TYPE and SVER are (R81). -/
def Section.known (x : Section) : Bool := knownType x.type && x.sver == 1

/-- The parameter records of a value; none where LEN or padding disagrees or the value is not filled. -/
def walkParams : Nat → Bytes → Option (List (Nat × Bytes))
  | _, [] => some []
  | 0, _ => none
  | fuel + 1, v =>
    let len := fld v 2 2
    let size := 4 + roundUp len 4
    if v.length < size then none
    else if !zeroAt v (4 + len) (roundUp len 4 - len) then none
    else (walkParams fuel (v.drop size)).map ((fld v 0 2, sub v 4 len) :: ·)

/-- Size in bytes the catalogue gives a parameter: none for an unknown ID, 0 for CODE_LIMITS (R85). -/
def paramSize (t id : Nat) : Option Nat :=
  match t with
  | 1 => if id = 1 ∨ id = 2 then some 2 else if id = 3 ∨ id = 4 ∨ id = 5 then some 1
    else if 0x10 ≤ id ∧ id ≤ 0x13 then some 2 else none
  | 2 => if id = 1 ∨ id = 3 ∨ id = 5 then some 2 else if id = 2 then some 4
    else if id = 4 then some 1 else none
  | 3 => if id = 1 then some 1 else none
  | 4 => if 0x101 ≤ id ∧ id ≤ 0x10B then some 32 else none
  | 5 => if id = 1 then some 2 else if id = 2 ∨ id = 3 then some 4 else if id = 4 then some 1
    else if 0x100 ≤ id ∧ id ≤ 0x13F then some 4 else none
  | 6 => if id = 0x10 then some 1 else if 0x11 ≤ id ∧ id ≤ 0x14 then some 2
    else if 0x100 ≤ id ∧ id ≤ 0x10F then some 1 else none
  | 7 => if id = 1 then some 1 else if 2 ≤ id ∧ id ≤ 5 then some 2 else if id = 0x10 then some 0 else none
  | 8 => if id = 1 then some 2 else if 0x10 ≤ id ∧ id ≤ 0x13 then some 16 else none
  | 9 => if id = 1 then some 1 else if 0x10 ≤ id ∧ id ≤ 0x1A then some 1 else none
  | _ => none

/-- LEN agrees with the catalogue; an unknown ID is step 14's matter. DESIGN CHOICE (assumption log 15): the bound 1–256 on the
entries of CODE_LIMITS, which the catalogue gives as its range, is taken with its LEN at step 11. -/
def paramLenOk (t : Nat) (p : Nat × Bytes) : Bool :=
  match paramSize t p.1 with
  | none => true
  | some 0 => p.2.length % 8 == 0 && 8 ≤ p.2.length && p.2.length ≤ 2048
  | some n => p.2.length == n

/-- The range of a fixed-size numeric parameter, both ends included (R85). -/
def paramRange (t id : Nat) : Nat × Nat :=
  match t with
  | 1 => if id = 1 then (0, 10000) else if id = 2 then (100, 5000) else if id = 3 then (0, 0x1F)
    else if id = 4 then (1, 16) else if id = 5 then (0, 0xF) else (700, 800)
  | 2 => if id = 1 then (1, 64) else if id = 2 then (1, 65536) else if id = 3 then (1, 1024)
    else if id = 4 then (1, 7) else (1, 4095)
  | 3 => (0, 12)
  | 5 => if id = 1 then (400, 1650) else if id = 2 then (100, 20000) else if id = 3 then (20, 100000)
    else if id = 4 then (70, 100) else (1, 1000000)
  | 6 => if id = 0x10 then (0, 0xF) else if id < 0x100 then (8, 1024) else (0, 3)
  | 7 => if id = 1 then (0, 1) else if id = 2 then (1, 1000) else (1, 10000)
  | 8 => (10, 1000)
  | 9 => if id = 1 then (1, 60) else (2, 8)
  | _ => (0, 0)

/-- Verbs whose enable bits must be 1: PATTERN_STAGE and the 0x0Axx ceremony verbs (R85). -/
def mustEnable : List Nat :=
  [0x0130, 0x0A01, 0x0A02, 0x0A10, 0x0A11, 0x0A12, 0x0A13, 0x0A14, 0x0A15, 0x0A16, 0x0A17, 0x0A18, 0x0A19]

/-- One value is in range (step 15, R85). -/
def State.paramInRange (s : State) (t : Nat) (p : Nat × Bytes) : Bool :=
  let v := ofLE p.2
  if t = 4 then mustEnable.all (fun c => c / 256 != p.1 - 0x100 || bit v (c % 256))
  else if t = 8 ∧ p.1 ≥ 0x10 then p.2.any (· != 0) && p.2 != fit 16 s.fuses.serial
  else if t = 7 ∧ p.1 = 0x10 then
    (blocksOf 8 p.2).all (fun e =>
      let c := fld e 0 2
      limitedCode c && severityOf c ≥ 1 && fld e 2 2 == 0 && 1 ≤ fld e 4 2 && fld e 4 2 ≤ 10000 &&
        1 ≤ fld e 6 2 && fld e 6 2 ≤ 10000)
  else if t = 1 ∧ p.1 = 1 then v == 0 || (1600 ≤ v && v ≤ 10000)
  else if t = 1 ∧ p.1 = 4 then v == 1 || v == 4 || v == 8 || v == 16
  else
    let r := paramRange t p.1
    r.1 ≤ v && v ≤ r.2

/-- The parameters of the known sections, as (TYPE, ID) with value. -/
abbrev Params := List ((Nat × Nat) × Bytes)

/-- A numeric parameter or its default. -/
def Params.num (ps : Params) (t id d : Nat) : Nat :=
  match ps.lookup (t, id) with
  | some v => ofLE v
  | none => d

/-- The cross-checks of step 15 (R85). -/
def crossChecks (ps : Params) : Bool :=
  let ext := ps.num 1 5 0
  ps.num 2 1 8 * ps.num 2 5 4095 ≤ 61440 && ps.num 2 1 8 ≤ ps.num 2 2 4096 &&
  (List.range 4).all (fun n => bit ext n ||
    ((ps.lookup (6, 0x11 + n)).isNone && ps.num 6 (0x10B + n) 0 == 0 && !bit (ps.num 6 0x10 0) n))

/-- Whether numbers ascend strictly. -/
def ascending : List Nat → Bool
  | a :: b :: r => a < b && ascending (b :: r)
  | _ => true

/-- Steps 11 to 15 of R81: 0 with the parameters and the number of skipped sections, or the cause. -/
def State.patSections (s : State) (d : Bytes) : Nat × Params × Nat :=
  let il := fld d 8 4
  match walkSections d il (fld d 12 2) 0x80 with
  | none => (0x0B, [], 0)
  | some secs =>
    let known := secs.filter Section.known
    let parsed := known.map (fun x => (x.type, walkParams x.value.length x.value))
    if parsed.any (fun p => p.2.isNone) then (0x0B, [], 0)
    else
      let recs := parsed.map (fun p => (p.1, p.2.getD []))
      if recs.any (fun p => !p.2.all (paramLenOk p.1)) then (0x0B, [], 0)
      else if !ascending (secs.map (·.type)) || recs.any (fun p => !ascending (p.2.map (·.1))) then (0x0C, [], 0)
      else if secs.any (fun x => !x.known && x.type < 0x8000) then (0x0D, [], 0)
      else
        let skipped := (secs.filter (fun x => !x.known)).length
        if recs.any (fun p => p.2.any (fun q => (paramSize p.1 q.1).isNone)) then (0x0E, [], skipped)
        else
        let ps : Params := (recs.map (fun p => p.2.map (fun q => ((p.1, q.1), q.2)))).flatten
        if recs.any (fun p => !p.2.all (s.paramInRange p.1)) || !crossChecks ps then (0x0F, [], skipped)
        else (0, ps, skipped)

/-- Steps 1 to 3 of R81. -/
def patShape (d : Bytes) : Nat :=
  if !headerOk d then 0x01
  else
    let off := sigOff (fld d 8 4)
    let count := 1 + fld d 14 2 % 2
    if !sigBlockOk d off patSlotBytes count then 0x02
    else if !tailErased d (off + 8 + 196 * count) then 0x03
    else 0

/-- Verification of a pattern slot (R81, R84): the cause (0 accepted), its parameters, and the state after the twice-taken
decision and the records of the sections step 13 skips. `decision` is 4 at start, 5 in PATTERN_STAGE; `subject` is the
slot. DESIGN CHOICE (assumption log 15): the record's payload, which the manual does not give, is the slot. -/
def State.verifyPattern (s : State) (decision subject : Nat) (x : FlashSlot) : Nat × Params × State :=
  let shape := patShape x.data
  if shape ≠ 0 then (shape, [], s)
  else
    let d := s.decide2 decision (s.patCritical x.data) subject 0x10 x.second
    if d.1 ≠ 0 then (d.1, [], d.2)
    else
      let r := d.2.patSections x.data
      (r.1, r.2.1, (List.range r.2.2).foldl (fun (s : State) _ => s.logG 0x0105 (le 1 (subject % 2))) d.2)

/-- Verb codes an enable map disables (R85). -/
def disabledOf (ps : Params) : List Nat :=
  ((List.range 11).map (fun g =>
    match ps.lookup (4, 0x101 + g) with
    | none => []
    | some m => ((List.range 256).filter (fun n => !bit (ofLE m) n)).map (fun n => 256 * (g + 1) + n))).flatten

/-- The parameters in use after acceptance, absent ones at their defaults (R85). -/
def Pattern.withParams (p : Pattern) (ps : Params) : Pattern :=
  { p with
    riserUf := ps.num 1 1 3300, batteryMah := ps.num 1 2 1000, fitted := ps.num 1 3 0x1F
    pcieWidth := ps.num 1 4 16, extFitted := ps.num 1 5 0
    vddtMv := (List.range 4).map (fun n => ps.num 1 (0x10 + n) 750)
    minSlots := ps.num 2 1 8, capSlots := ps.num 2 2 4096, weight := ps.num 2 3 64
    prioCeiling := ps.num 2 4 1, maxSlices := ps.num 2 5 4095, tickExp := ps.num 3 1 2
    disabledVerbs := disabledOf ps
    ppl := ps.num 5 1 1500, deferUs := ps.num 5 2 2000, idleGateUs := ps.num 5 3 100
    throttleC := ps.num 5 4 90
    eweights := (List.range 64).filterMap (fun n => (ps.lookup (5, 0x100 + n)).map (fun v => (n, ofLE v)))
    extPolarity := ps.num 6 0x10 0
    extFilter := (List.range 4).map (fun n => ps.num 6 (0x11 + n) 32)
    respTs := (List.range 16).map (fun n => ps.num 6 (0x100 + n) 0)
    fullPolicyHold := ps.num 7 1 0 == 1, infoRate := ps.num 7 2 10, infoBurst := ps.num 7 3 50
    warnRate := ps.num 7 4 100, warnBurst := ps.num 7 5 500
    codeLimits := match ps.lookup (7, 0x10) with
      | none => []
      | some v => (blocksOf 8 v).map (fun e => (fld e 0 2, fld e 4 2, fld e 6 2))
    leaseMs := ps.num 8 1 50
    peers := (List.range 4).filterMap (fun n => (ps.lookup (8, 0x10 + n)).map (fun v => (n, v)))
    sessionMin := ps.num 9 1 10
    quorums := (List.range 11).map (fun n => ps.num 9 (0x10 + n) 2) }

/-- The header and parameters of an accepted pattern come into use (R81, R85, R93). -/
def State.usePattern (s : State) (slotB : Bool) (d dig : Bytes) (ps : Params) : State :=
  { s with
    pat := { s.pat with
      accepted := true, slotB := slotB, cosigned := fld d 14 2 % 2 == 1
      version := fld d 0x10 4, imageEpoch := byteAt d 0x18, minFw := fld d 0x1C 4
      fwSlotSel := byteAt d 0x19, digest := dig
      keyUsed := s.dcc.patKey1 != [] && sigKey d (sigOff (fld d 8 4)) 0 == s.dcc.patKey1 && s.lcState == Lc.deployed
      flash := flashCfg d }.withParams ps
    stage.patSlot := slotB, stage.patternDone := true }

/-- The rollback counter rises to the floor of an accepted pattern (R83). -/
def State.raiseRollback (s : State) (floor : Nat) : State :=
  if floor > s.per.rollback then
    ({ s with per.rollback := floor }).commit 64 (some (lineLife 2)) none [.rollback s.per.rollback]
  else s

/-- Responses below their effective floor are raised to it, each recorded (R472, R86). DESIGN CHOICE (assumption log 15): the
record's payload, which the manual does not give, is the source. -/
def State.applyFloors (s : State) : State :=
  let raised := (List.range 16).filter (fun n =>
    let r := s.pat.respTs.getD n 0
    s.floorOf n ≠ 0 && (r == 1 || r == 2) && r < s.floorOf n)
  let s := raised.foldl (fun (s : State) n => s.logG 0x0106 (le 1 n)) s
  { s with pat.floorRaised := !raised.isEmpty }

/-- A riser that the pattern makes insufficient: persist-unsafe permanently (R434). -/
def State.judgeRiser (s : State) : State :=
  if s.riserInsufficient then
    let s := { s with per.unsafePerm := true, per.persistUnsafe := true }
    if s.pat.riserUf = 0 then s else ({ s with per.riserFault := true }).logG 0x0506 (le 1 1)
  else s

/-- An accepted pattern comes into use: registers, parameters, MEAS1, rollback raise, floors, battery
copies, riser limits (R81–R83, R86, R93, R434, R473). -/
def State.acceptPattern (s : State) (slotB : Bool) (x : FlashSlot) (ps : Params) : State :=
  let d := x.data
  let dig := slotDigest patSlotBytes d
  let s := ((s.usePattern slotB d dig ps).measExtend 1 dig).raiseRollback (fld d 0x14 4)
  s.applyFloors.copyToBattery.judgeRiser

/-! ## Firmware (R91, R92) -/

/-- The image length of a firmware image (R92). -/
def fwImageLen (d : Bytes) : Nat := 64 + roundUp (fld d 12 4) 8 + roundUp (fld d 16 4) 8

/-- The image length the header of an image states (R75, R92). -/
def statedLen (firmware : Bool) (d : Bytes) : Nat := if firmware then fwImageLen d else fld d 8 4

/-- Everything of R92 but the signature. -/
def State.fwShape (s : State) (d : Bytes) : Bool :=
  let il := fwImageLen d
  fld d 0 4 == 0x49574643 && fld d 4 2 == 1 && fld d 6 2 == 0x40 && fld d 12 4 ≥ 1 && fld d 16 4 ≥ 1 &&
  fld d 20 4 == s.fuses.stepping && zeroAt d 0x18 40 && sigBlockOk d il fwSlotBytes 1 &&
  tailErased d (il + 204) && fld d 8 4 ≥ s.pat.minFw

/-- Firmware acceptance, decided twice (R57, R92): 0 or 1 with the state after. -/
def State.verifyFirmware (s : State) (decision subject : Nat) (x : FlashSlot) : Nat × State :=
  let d := x.data
  let good := x.answered && s.fwShape d && sigKey d (fwImageLen d) 0 == s.fuses.vendorFwDigest &&
    sigVerifies d (fwImageLen d) 0 (sha384 (d.take (fwImageLen d)))
  s.decide2 decision (if good then 0 else 1) subject 1 x.second

/-- Accepted firmware runs: MEAS2 and MEAS3 are extended (R92). -/
def State.acceptFirmware (s : State) (slotB : Bool) (x : FlashSlot) : State :=
  let d := x.data
  let cl := fld d 12 4
  let s := (s.measExtend 2 (sha384 (sub d 64 cl))).measExtend 3
    (sha384 (sub d (64 + roundUp cl 8) (fld d 16 4)))
  { s with stage.fwSlot := slotB, stage.firmwareDone := true, pat.fwVersion := fld d 8 4 }

end Sys2Proof.Machine
end

