-- ==== Sys2Proof/Machine/Tr34.lean ====
section
/-!
DEFINITION. DER, X.509 certificates, tickets and the TR-34 verbs (R244, R250, R251, R278–R282). Certificates are read
by RFC 5280, which R278 names (PRESUMED, assumption log 4); a token's octets are left to Config (assumption log 10).
-/
namespace Sys2Proof.Machine

/-! ## DER (R244) -/

/-- The element at an offset, within a limit: its tag, and where its content begins and ends. -/
def derAt (b : Bytes) (off lim : Nat) : Chk (Nat × Nat × Nat) := do
  ensure (off + 2 ≤ lim) 0x0109 off
  let tag := byteAt b off
  let l := byteAt b (off + 1)
  if l < 128 then do
    ensure (off + 2 + l ≤ lim) 0x0103 (off + 1)
    pure (tag, off + 2, off + 2 + l)
  else do
    let n := l - 128
    ensure (1 ≤ n && n ≤ 126) 0x0109 (off + 1)
    ensure (off + 2 + n ≤ lim) 0x0103 (off + 1)
    let v := ofBE (sub b (off + 2) n)
    ensure (v ≥ 128 && byteAt b (off + 2) != 0) 0x0109 (off + 1)
    ensure (off + 2 + n + v ≤ lim) 0x0103 (off + 1)
    pure (tag, off + 2 + n, off + 2 + n + v)

/-- The element at an offset, which must have a tag: its content's bounds. -/
def derExpect (b : Bytes) (off lim tag : Nat) : Chk (Nat × Nat) := do
  let e ← derAt b off lim
  ensure (e.1 == tag) 0x0109 off
  pure e.2

/-- The elements of a constructed content: offset, tag and content bounds of each; `fuel` exceeds their number. -/
def derList (b : Bytes) (lim : Nat) : Nat → Nat → Chk (List (Nat × Nat × Nat × Nat))
  | 0, _ => .ok []
  | fuel + 1, off =>
    if off ≥ lim then .ok []
    else match derAt b off lim with
      | .error e => .error e
      | .ok e => (derList b lim fuel e.2.2).map ((off, e) :: ·)

/-- The elements from an offset to a limit; each takes two octets at least. -/
def derItems (b : Bytes) (lim off : Nat) : Chk (List (Nat × Nat × Nat × Nat)) := derList b lim (lim - off + 1) off

/-- Every element inside a constructed content is well formed; `fuel` exceeds their number. -/
def derWalk (b : Bytes) : Nat → Nat → Nat → Chk Unit
  | 0, _, _ => .ok ()
  | fuel + 1, off, lim =>
    if off ≥ lim then .ok ()
    else match derAt b off lim with
      | .error e => .error e
      | .ok e =>
        match (if bit e.1 5 then derWalk b fuel e.2.1 e.2.2 else .ok ()) with
        | .error x => .error x
        | .ok _ => derWalk b fuel e.2.2 lim

/-- A whole DER object that must fill a segment: one SEQUENCE, well formed throughout. -/
def derObject (b : Bytes) (off len : Nat) : Chk (Nat × Nat) := do
  let e ← derExpect b off (off + len) 0x30
  ensure (e.2 == off + len) 0x0103 (off + 1)
  derWalk b (len + 1) e.1 e.2
  pure e

/-! ## Certificates -/

/-- What the device reads of a certificate. -/
structure Cert where
  /-- the certificate -/
  whole : Bytes := []
  /-- its signed part -/
  tbs : Bytes := []
  /-- its signature -/
  sig : Bytes := []
  /-- notBefore, seconds since 2000 (0 where earlier) -/
  notBefore : Nat := 0
  /-- notAfter, at least 1 -/
  notAfter : Nat := 0
  /-- its RSA key -/
  pub : Option Pub := none
  /-- keyUsage has keyEncipherment -/
  keyEncipherment : Bool := false
  /-- basicConstraints has cA TRUE -/
  ca : Bool := false
  deriving DecidableEq, Repr

/-- A UTCTime or GeneralizedTime in seconds since 2000, 0 where earlier; none where malformed. -/
def derTime (tag : Nat) (t : Bytes) : Option Nat :=
  let n := fun (off w : Nat) => textNum 10 (sub t off w)
  let whole := if tag = 0x17 then t.length == 13 else tag == 0x18 && t.length == 15
  let yl := if tag = 0x17 then 2 else 4
  if !whole ∨ byteAt t (t.length - 1) ≠ chr 'Z' then none
  else match n 0 yl, n yl 2, n (yl + 2) 2, n (yl + 4) 2, n (yl + 6) 2, n (yl + 8) 2 with
    | some y, some mo, some d, some h, some mi, some se =>
      let year := if tag = 0x17 then (if y ≥ 50 then 1900 + y else 2000 + y) else y
      if mo < 1 ∨ mo > 12 ∨ d < 1 ∨ d > 31 ∨ h > 23 ∨ mi > 59 ∨ se > 60 then none
      else if year < 2000 then some 0
      else
        let y := year - 2000
        let leap := if year % 4 = 0 ∧ (year % 100 ≠ 0 ∨ year % 400 = 0) then 1 else 0
        let before := [0, 31, 59 + leap, 90 + leap, 120 + leap, 151 + leap, 181 + leap, 212 + leap, 243 + leap,
          273 + leap, 304 + leap, 334 + leap].getD (mo - 1) 0
        some ((daysBefore y + before + d - 1) * 86400 + h * 3600 + mi * 60 + se)
    | _, _, _, _, _, _ => none

/-- The RSA key of a SubjectPublicKeyInfo; none where it is of another algorithm. -/
def spkiRead (b : Bytes) (off lim : Nat) : Chk (Option Pub) := do
  let sp ← derExpect b off lim 0x30
  let alg ← derExpect b sp.1 sp.2 0x30
  let oid ← derExpect b alg.1 alg.2 0x06
  let key ← derExpect b alg.2 sp.2 0x03
  if sub b oid.1 (oid.2 - oid.1) != [0x2A, 0x86, 0x48, 0x86, 0xF7, 0x0D, 0x01, 0x01, 0x01] then pure none
  else do
    let sq ← derExpect b (key.1 + 1) key.2 0x30
    let n ← derExpect b sq.1 sq.2 0x02
    let e ← derExpect b n.2 sq.2 0x02
    let nb := (sub b n.1 (n.2 - n.1)).dropWhile (· == 0)
    let eb := (sub b e.1 (e.2 - e.1)).dropWhile (· == 0)
    pure (some (rsaPub (nb ++ le 1 eb.length ++ eb) nb.length))

/-- The extensions read: keyEncipherment of keyUsage and cA of basicConstraints. -/
def extRead (b : Bytes) (es : List (Nat × Nat × Nat × Nat)) : Chk (Bool × Bool) :=
  es.foldlM (fun (acc : Bool × Bool) e => do
    ensure (e.2.1 == 0x30) 0x0109 e.1
    let parts ← derItems b e.2.2.2 e.2.2.1
    let oid := match parts.head? with
      | some p => sub b p.2.2.1 (p.2.2.2 - p.2.2.1)
      | none => []
    match parts.getLast? with
    | none => pure acc
    | some v =>
      let c := v.2.2
      if oid = [0x55, 0x1D, 0x0F] then do
        let u ← derExpect b c.1 c.2 0x03
        pure (bit (byteAt b (u.1 + 1)) 5 && decide (u.2 > u.1 + 1), acc.2)
      else if oid = [0x55, 0x1D, 0x13] then do
        let q ← derExpect b c.1 c.2 0x30
        pure (acc.1, decide (q.2 ≥ q.1 + 3) && byteAt b q.1 == 1 && byteAt b (q.1 + 2) != 0)
      else pure acc) (false, false)

/-- An X.509 v3 certificate that fills a range of the input (R244, R278). -/
def certRead (b : Bytes) (off len : Nat) : Chk Cert := do
  let c ← derObject b off len
  let t ← derExpect b c.1 c.2 0x30
  let v ← derExpect b t.1 t.2 0xA0
  let serial ← derExpect b v.2 t.2 0x02
  let alg ← derExpect b serial.2 t.2 0x30
  let issuer ← derExpect b alg.2 t.2 0x30
  let val ← derExpect b issuer.2 t.2 0x30
  let subject ← derExpect b val.2 t.2 0x30
  let spki ← derExpect b subject.2 t.2 0x30
  let pub ← spkiRead b subject.2 t.2
  let nb ← derAt b val.1 val.2
  let na ← derAt b nb.2.2 val.2
  let nbs ← match derTime nb.1 (sub b nb.2.1 (nb.2.2 - nb.2.1)) with
    | some x => pure x
    | none => stop 0x0109 val.1
  let nas ← match derTime na.1 (sub b na.2.1 (na.2.2 - na.2.1)) with
    | some x => pure (max 1 x)
    | none => stop 0x0109 nb.2.2
  let rest ← derItems b t.2 spki.2
  let ext ← match rest.find? (fun e => e.2.1 == 0xA3) with
    | none => pure (false, false)
    | some e => do
      let sq ← derExpect b e.2.2.1 e.2.2.2 0x30
      let es ← derItems b sq.2 sq.1
      extRead b es
  let alg2 ← derExpect b t.2 c.2 0x30
  let sg ← derExpect b alg2.2 c.2 0x03
  pure { whole := sub b off len, tbs := sub b c.1 (t.2 - c.1), sig := sub b (sg.1 + 1) (sg.2 - sg.1 - 1)
         notBefore := nbs, notAfter := nas, pub := pub, keyEncipherment := ext.1, ca := ext.2 }

/-! ## Tickets -/

/-- RSA of 2,048 to 4,096 bits, as tickets and TR-34 take it (R250, R279). -/
def Pub.ticketFit (p : Pub) : Bool := p.alg == 0x10 && p.supported 2048

/-- TOTAL_LEN of the ticket of a key. -/
def ticketLen (p : Pub) : Nat := 64 + ceilDiv (4 + p.data.length) 8 * 8 + 16

/-- The checks of PUBKEY_TICKET: the public key, NOT_AFTER and the subject digest of the ticket (R278). -/
def State.ticketChecks (s : State) (it : Item) : Chk (Pub × Nat × Bytes) := do
  let d := it.desc
  let role := byteAt d 0x30
  let form := byteAt d 0x31
  let na := fld d 0x38 8
  let _ ← s.prologue it []
  checkInline it [(0x30, 2), (0x38, 8)]
  ensure (role == 1 || role == 3) 0x010A 0x30
  ensure (form ≤ 1) 0x010A 0x31
  let n := dInLen d
  let r ← if form = 0 then do
      ensure (n ≥ 4 && n ≤ 0xFFFF) 0x0108 0
      let p ← parsePub it.input 0
      pure (p, na, zeros 32)
    else do
      ensure (1 ≤ n && n ≤ 4096) 0x0108 0
      let c ← certRead it.input 0 n
      ensure (role != 1 || c.ca) 0x010A 0x30
      pure (c.pub.getD {}, (if na = 0 then c.notAfter else min na c.notAfter), sha256 c.whole)
  checkRoom it (ticketLen r.1)
  pure r

/-- PUBKEY_TICKET (R278). -/
def execPubkeyTicket (slot : Nat) (units : UnitReport) (s : State) : Host.Outcome State Fault Refusal :=
  .next (s.runVerb slot 0x0308 (fun s it => do
    let (p, na, digest) ← s.ticketChecks it
    let s := s.reach12 it []
    let s := if byteAt it.desc 0x31 = 1 then s.hashed it (dInLen it.desc) else s
    if !p.ticketFit then pure (s.settle slot 0x0A06 0 0 [] [] [])
    else pure (s.okS it units (digest.take 16) (s.mkTicket it.slice (byteAt it.desc 0x30) na digest p))))

/-! ## TR-34 -/

/-- The verification of the CMS SHA-256 PKCS#1 signature of TR-34 with a key. -/
def tr34Verify (p : Pub) (content sig : Bytes) : BnuOut := rsaVerify p 1 1 0 (sha256 content) sig

/-- A token in a segment: well-formed DER that parses as a token of a kind (R244). -/
def tokenRead (input : Bytes) (seg : Nat × Bytes) (kind : Nat) : Chk TokenParts := do
  let _ ← derObject input seg.1 seg.2.length
  match Config.tokenParse seg.2 with
  | some t => if t.kind = kind then pure t else stop 0x0109 seg.1
  | none => stop 0x0109 seg.1

/-- Where a run of octets first stands in others; 0 where it does not. -/
def offsetIn (part whole : Bytes) : Nat :=
  ((List.range (whole.length + 1)).find? (fun i => sub whole i part.length == part)).getD 0

/-- The certificate inside a token of a segment: at most 4,096 bytes (DESIGN CHOICE of the status, assumption log 10), its
DER faults at their offset in the input (R244). -/
def certInside (seg : Nat × Bytes) (cert : Bytes) : Chk Cert :=
  if cert.length > 4096 then stop 0x0108 0
  else match certRead cert 0 cert.length with
    | .error (.fail st d n) => .error (.fail st (seg.1 + offsetIn cert seg.2 + d) n)
    | r => r

/-- A certificate whose digest is a ticket's SUBJECT_DIGEST (R280). -/
def certOfTicket (ticket : Bytes) (seg : Nat × Bytes) : Chk Unit :=
  ensure (sha256 seg.2 == sub ticket 0x20 32) 0x010A (0x10000 + seg.1)

/-- A key that signs tokens: ENC, S0, RSA of 2,048 bits or more (R279). -/
def tokenSigner (which : Nat) (counts : Bool) : KeyNeed :=
  { which := which, suit := fun a kb => a == 0x10 && kb ≥ 2048, use := useOf 1 ["S0"] "S", counts := counts }

/-- A token signed by a key, as octets, with the outcome of the command that signs it. -/
def signedToken (t : TokenParts) (k : KeyVal) : BnuOut :=
  let r := rsaKeyOf k
  let o := r.out (ofBE (emsaPkcs1 1 r.pub.k (sha256 (Config.tokenSigned t))))
  { o with output := Config.tokenEncode { t with signature := o.output } }

/-- The length of a token once signed by a key of k bytes. -/
def tokenLen (t : TokenParts) (k : Nat) : Nat := (Config.tokenEncode { t with signature := zeros k }).length

/-- The checks of TR34_BIND OP 0: the CA's key and the credential's certificate (R280). -/
def State.bindCredentialChecks (s : State) (it : Item) : Chk (Pub × Cert) := do
  let segs ← segments it [(0, 0xFFFF), (1, 16384)]
  let ca ← s.openTicket it (segs.getD 0 (0, [])).2 1
  let tok := segs.getD 1 (0, [])
  let t ← tokenRead it.input tok 0
  let c ← certInside tok t.cert
  ensure (c.sig.length == ca.k) 0x0103 (tok.1 + offsetIn c.sig tok.2)
  checkRoom it (ticketLen (c.pub.getD {}))
  pure (ca, c)

/-- TR34_BIND OP 0: the CA's signature, then validity and keyUsage of the KRD certificate (R280). -/
def State.bindCredential (s : State) (it : Item) (units : UnitReport) : Chk State := do
  let (ca, c) ← s.bindCredentialChecks it
  let p := c.pub.getD {}
  let s := s.reach12 it [] (some (s.ew (bnuClass 1 0x10 (8 * ca.k))))
  s.withUnits it units (fun s =>
    let m := s.bnuCmd it 3
    let o := tr34Verify ca c.tbs c.sig
    if !p.ticketFit then .ok (s.issueOut it m sizeOut)
    else
      let valid := match s.calendar with
        | some now => decide (c.notBefore ≤ now) && decide (now < c.notAfter)
        | none => false
      if o.status ≠ 0 then .ok (s.issueOut it m { o with detail := 4 })
      else if !(valid && c.keyEncipherment) then .ok (s.issueOut it m { o with status := 0x0400, detail := 5 })
      else
        let dig := sha256 c.whole
        let s := (s.useWrap it).hashed it (c.tbs.length + c.whole.length)
        .ok (s.issueBnu it [m.out o] 0 0 (dig.take 16) (s.mkTicket it.slice 2 c.notAfter dig p)))

/-- The checks of TR34_BIND OP 1 and 2: the token to sign and the old certificate (R280). -/
def State.bindSignedChecks (s : State) (it : Item) (op : Nat) (ks : List KeyVal) : Chk (TokenParts × Bytes) := do
  let segs ← segments it ([(0, 0xFFFF), (1, 4096)] ++ (if op = 2 then [(1, 4096)] else []))
  let ticket := (segs.getD 0 (0, [])).2
  let cert := segs.getD 1 (0, [])
  let fresh := segs.getD 2 (0, [])
  let _ ← s.openTicket it ticket 2
  let _ ← certRead it.input cert.1 cert.2.length
  if op = 2 then do
    let _ ← certRead it.input fresh.1 fresh.2.length
  certOfTicket ticket cert
  let k := ks.headD {}
  let t : TokenParts := { kind := 1 + op, cert := fresh.2, peer := sha256 cert.2, time := some s.calOr0 }
  checkRoom it (tokenLen t (ingotBits k.ingot / 8))
  s.checkUses ks
  pure (t, cert.2)

/-- TR34_BIND OP 1 and 2: a signed unbind or rebind token (R280). -/
def State.bindSigned (s : State) (it : Item) (op : Nat) (ks : List KeyVal) (units : UnitReport) : Chk State := do
  let (t, cert) ← s.bindSignedChecks it op ks
  let k := ks.headD {}
  (s.reach12 it ks (some (s.ew (bnuClass 0 0x10 (ingotBits k.ingot))))).withUnits it units (fun s => s.onBnu it (fun s =>
    .ok ((s.hashed it (cert.length + (Config.tokenSigned t).length)).issueOut it (s.bnuCmd it 2 k.ingot) (signedToken t k))))

/-- The first checks of TR34_BIND: the signing key, where OP has one (R280). -/
def State.bindChecks (s : State) (it : Item) : Chk (List KeyVal) := do
  let op := byteAt it.desc 0x30
  let ks ← s.prologue it (if op = 1 ∨ op = 2 then [tokenSigner 0 true] else [])
  keyed ks do
  checkInline it [(0x30, 1)]
  ensure (op ≤ 2) 0x010A 0x30
  pure ks

/-- TR34_BIND. -/
def execTr34Bind (work : SlotWork) (s : State) : Host.Outcome State Fault Refusal :=
  .next (s.runBnu work.slot 0x0310 (fun s it => do
    let ks ← s.bindChecks it
    let op := byteAt it.desc 0x30
    if op = 0 then s.bindCredential it work.units else s.bindSigned it op ks work.units))

/-- Key length and strength of a CEK (R279). -/
def cekLen (c : Nat) : Nat := if c = 1 then 16 else if c = 2 then 24 else 32
/-- Strength of a CEK. -/
def cekStrength (c : Nat) : Nat := if c = 1 then 128 else if c = 2 then 112 else 256
/-- Cipher block of a CEK. -/
def cekBlock (c : Nat) : Nat := if c = 2 then 8 else 16

/-- ALG of a CEK. -/
def cekAlg (c : Nat) : Nat := if c = 1 then 3 else if c = 2 then 2 else 5

/-- CMS padding to whole blocks. -/
def padCms (n : Nat) (b : Bytes) : Bytes :=
  let r := n - b.length % n
  b ++ List.replicate r (BitVec.ofNat 8 r)

/-- CMS padding taken off; none where it is malformed. -/
def unpadCms (n : Nat) (b : Bytes) : Option Bytes :=
  let r := byteAt b (b.length - 1)
  if b.length % n ≠ 0 ∨ b.isEmpty ∨ r < 1 ∨ r > n then none
  else if (b.drop (b.length - r)).all (fun x => x.toNat == r) then some (b.take (b.length - r)) else none

/-- The content under a CEK. -/
def cekEncipher (c : Nat) (key iv m : Bytes) : Bytes :=
  let bs := blocksOf (cekBlock c) (padCms (cekBlock c) m)
  if c = 2 then cbcEncWith (tdesEnc key) iv bs else cbcEncWith (aesEncBlock (aesExpand key)) iv bs

/-- The content deciphered. -/
def cekDecipher (c : Nat) (key iv m : Bytes) : Option Bytes :=
  let bs := blocksOf (cekBlock c) m
  if m.length % cekBlock c ≠ 0 then none
  else unpadCms (cekBlock c) (if c = 2 then cbcDecWith (tdesDec key) iv bs
    else cbcDecWith (aesDecBlock (aesExpand key)) iv bs)

/-- Key A of TR34_SEND: a base derivation key, or a key that may leave (R281). -/
def sendUse (i : Bytes) : Option (Nat × Nat) :=
  if ingAttr i == 8 && ingUsage i == usage "B0" then none else exportUse i

/-- The header of the key block in a token. -/
def tokenHeader (alg us mode : Nat) (version : Bytes) (exp : Nat) (opts : List Bytes) : Bytes :=
  let o := opts.flatten
  ascii "B" ++ numText 10 4 (16 + o.length) ++ le 2 us ++ le 1 (charOfAlg alg) ++ le 1 mode ++ version ++ le 1 exp ++
    numText 10 2 opts.length ++ ascii "00" ++ o

/-- What a TR34_SEND that passed its checks sends. -/
structure SendPlan where
  /-- key A -/
  a : KeyVal := {}
  /-- key B, the signer -/
  b : KeyVal := {}
  /-- the KRD's key -/
  krd : Pub := {}
  /-- length of the KRD's certificate -/
  certLen : Nat := 0
  /-- the token, its random parts zero -/
  token : TokenParts := {}
  /-- header and key -/
  content : Bytes := []
  /-- the initial key derived from a base derivation key -/
  derived : Bytes := []
  deriving DecidableEq, Repr

/-- The checks of TR34_SEND (R281). -/
def State.sendChecks (s : State) (it : Item) : Chk SendPlan := do
  let d := it.desc
  let pass := byteAt d 0x30
  let cek := byteAt d 0x31
  let exp := byteAt d 0x34
  let ks ← s.prologue it
    [{ suit := fun a _ => isTdes a || isAes a, use := sendUse }, tokenSigner 1 false]
  keyed ks do
  let a := ks.headD {}
  let b := ks.getD 1 {}
  checkInline it [(0x30, 5)]
  ensure (pass == 1 || pass == 2) 0x010A 0x30
  ensure (1 ≤ cek && cek ≤ 3) 0x010A 0x31
  ensure ((sub d 0x32 2).all printable) 0x010A 0x32
  ensure (exp == chr 'N' || exp == chr 'S') 0x010A 0x34
  ensure (pass != 1 || s.calendar.isSome) 0x010A 0x30
  let segs ← segments it [(0, 0xFFFF), (1, 4096), (1, 4096), (if pass = 2 then (8, 32) else (0, 0)), (0, 10)]
  let seg := fun (i : Nat) => segs.getD i (0, [])
  let ikid := (seg 4).2
  let bdk := ingUsage a.ingot == usage "B0"
  ensure (if bdk then ikid.length == 8 || ikid.length == 10 else ikid.isEmpty) 0x0108 0
  let krd ← s.openTicket it (seg 0).2 2
  let _ ← certRead it.input (seg 1).1 (seg 1).2.length
  certOfTicket (seg 0).2 (seg 1)
  let own ← certRead it.input (seg 2).1 (seg 2).2.length
  ensure (own.pub == some (pubOfIngot b.ingot)) 0x010A (0x10000 + (seg 2).1)
  let alg := ingotAlg a.ingot
  let scheme := if ikid.length = 10 then 1 else 2
  ensure (!bdk || dukptSuits scheme alg) 0x0205 0
  let str := strength alg (ingotBits a.ingot)
  ensure (str ≤ strength 0x10 (8 * krd.k) && str ≤ cekStrength cek) 0x0205 0
  let key := if bdk then dukptIk scheme a.ingot a.key ikid else a.key
  let opts := if !bdk then [] else if scheme = 1 then [optText "KS" (hexText ikid)] else [optText "IK" (hexText ikid)]
  let header := tokenHeader alg (if bdk then usage "B1" else ingUsage a.ingot)
    (if bdk then chr 'X' else ingMode a.ingot) (sub d 0x32 2) exp opts
  let content := Config.tokenContent header key
  let t : TokenParts := { kind := 1, peer := sha256 (seg 1).2, nonce := (seg 3).2, cek := cek, header := header
                          time := if pass = 1 then s.calendar else none, encKey := zeros krd.k
                          iv := zeros (cekBlock cek), cipher := padCms (cekBlock cek) content }
  checkRoom it (tokenLen t (ingotBits b.ingot / 8))
  s.checkUses ks
  pure { a := a, b := b, krd := krd, certLen := (seg 1).2.length, token := t, content := content
         derived := if bdk then key else [] }

/-- TR34_SEND. -/
def execTr34Send (work : SlotWork) (s : State) : Host.Outcome State Fault Refusal :=
  .next (s.runBnu work.slot 0x0311 (fun s it => do
    let r ← s.sendChecks it
    let krd := r.krd
    let cek := r.token.cek
    let s := (s.reach12 it [r.a, r.b]
      (some (s.ew (bnuClass 2 0x10 (8 * krd.k)) + s.ew (bnuClass 0 0x10 (ingotBits r.b.ingot))))).loadSbu it r.a
    let s := if r.derived.isEmpty then s else s.loadWork it (ingotAlg r.a.ingot) r.derived
    s.withUnits it work.units (fun s =>
      if loadRefused (ingotAlg r.a.ingot) r.derived && !r.derived.isEmpty then .ok (s.settle work.slot 0x0205 0 0 [] [] [])
      else if !s.mea.rngHealthy then .ok (s.settle work.slot 0x0C01 1 0 [] [] [])
      else s.onBnu it (fun s => do
        let ck ← s.keyDrawn (cekAlg cek) (cekLen cek)
        let iv := (ck.2.loadWork it (cekAlg cek) ck.1).draw (cekBlock cek)
        let seed := iv.2.draw 32
        let ek := be krd.k (powMod (ofBE (oaepEncode 1 krd.k [] ck.1 seed.1)) krd.e krd.n)
        let t := { r.token with encKey := ek, iv := iv.1, cipher := cekEncipher cek ck.1 iv.1 r.content }
        let s := seed.2.hashed it (r.certLen + (Config.tokenSigned t).length)
        let o := signedToken t r.b
        pure (s.issueBnu it [s.bnuCmd it 5, (s.bnuCmd it 2 r.b.ingot).out o] 0 0 [] o.output)))))

/-- The key of a token once its CEK is known: content, header and key checks of R282 and R257. -/
def tokenKey (t : TokenParts) (cek : Bytes) : Except (Nat × Nat) (KeyBlock × Nat × Bytes) :=
  match (cekDecipher t.cek cek t.iv t.cipher).bind Config.tokenOpen with
  | none => .error (0x020C, 5)
  | some (h, key) =>
    let b : KeyBlock := { version := byteAt h 0, us := fld h 5 2, alg := byteAt h 7, mode := byteAt h 8
                          keyVersion := sub h 9 2, exp := byteAt h 11, context := byteAt h 14, head := h }
    if !headerChars h then .error (0x020C, 6)
    else if !((headerAttr b).isSome && byteAt b.keyVersion 0 != chr 'c' && b.alg != chr 'H') then .error (0x020C, 3)
    else match optBlocks h ((textNum 10 (sub h 12 2)).getD 0) 16 with
      | .error _ => .error (0x020C, 4)
      | .ok (os, _) =>
        let ids := os.map (fun o => o.1)
        if !(os.all optFormOk && ids.eraseDups.length == ids.length) then .error (0x020C, 4)
        else match algOfChar b.alg (8 * key.length) with
          | none => .error (0x020C, 5)
          | some alg =>
            if isTdes alg && !(parityOk key && tdesDistinct key) then .error (0x0205, 0)
            else match os.lookup (ascii "KP") with
              | some o => if kcvAgrees o (kcvOf alg key) then .ok ({ b with opts := os }, alg, key)
                else .error (0x020D, 0)
              | none => .ok ({ b with opts := os }, alg, key)

/-- The timestamp or the nonce of a token, by PASS (R282): the detail where it fails. -/
def State.freshness (s : State) (pass tol : Nat) (t : TokenParts) (nonce : Bytes) : Option Nat :=
  if pass = 2 then (if t.nonce == nonce then none else some 3)
  else match s.calendar, t.time with
    | some now, some at_ => if max now at_ - min now at_ ≤ (if tol = 0 then 300 else tol) then none else some 2
    | _, _ => some 2

/-- The first checks of TR34_RECEIVE: key A, the KDH's key, the token's segment and the nonce (R282). -/
def State.receiveChecks (s : State) (it : Item) : Chk (KeyVal × Pub × (Nat × Bytes) × Bytes) := do
  let d := it.desc
  let ks ← s.prologue it
    [{ suit := fun a kb => a == 0x10 && kb ≥ 2048, use := useOf 4 ["K2"] "D" }]
  keyed ks do
  checkInline it [(0x30, 16)]
  let mods := byteAt d 0x38
  let pass := byteAt d 0x39
  checkAddMods mods (fld d 0x3C 4) 0x38 0x3C
  ensure (pass == 1 || pass == 2) 0x010A 0x39
  let segs ← segments it [(0, 0xFFFF), (1, 16384), (if pass = 2 then (8, 32) else (0, 0))]
  let kdh ← s.openTicket it (segs.getD 0 (0, [])).2 3
  pure (ks.headD {}, kdh, segs.getD 1 (0, []), (segs.getD 2 (0, [])).2)

/-- The checks of a received token: it parses, and its parts fit key A (R282). -/
def State.tokenChecks (s : State) (it : Item) (k : KeyVal) (kdh : Pub) (seg : Nat × Bytes) : Chk TokenParts := do
  let t ← tokenRead it.input seg 1
  badBlock (1 ≤ t.cek && t.cek ≤ 3 && t.oaep) 2
  ensure (t.signature.length == kdh.k) 0x0103 (seg.1 + offsetIn t.signature seg.2)
  ensure (t.encKey.length == ingotBits k.ingot / 8) 0x0103 (seg.1 + offsetIn t.encKey seg.2)
  s.checkCreate it [k] it.slice (splits (fld t.header 5 2) (byteAt t.header 8)) (bit (byteAt it.desc 0x38) 1)
  pure t

/-- TR34_RECEIVE. -/
def execTr34Receive (work : SlotWork) (s : State) : Host.Outcome State Fault Refusal :=
  .next (s.runBnu work.slot 0x0312 (fun s it => do
    let (k, kdh, seg, nonce) ← s.receiveChecks it
    let t ← s.tokenChecks it k kdh seg
    let d := it.desc
    let mods := byteAt d 0x38
    let pass := byteAt d 0x39
    let s := s.reach12 it [k] (some (s.ew (bnuClass 1 0x10 (8 * kdh.k)) + s.ew (bnuClass 0 0x10 (ingotBits k.ingot))))
    let s := s.hashed it (Config.tokenSigned t).length
    s.withUnits it work.units (fun s =>
      let m := s.bnuCmd it 3
      let o := tr34Verify kdh (Config.tokenSigned t) t.signature
      if o.status ≠ 0 then .ok (s.issueOut it m { o with detail := 1 })
      else match s.freshness pass (fld d 0x3A 2) t nonce with
      | some dt => .ok (s.issueOut it m { o with status := 0x0400, detail := dt })
      | none => s.onBnu it (fun s =>
        let r := oaepOut k 1 [] t.encKey
        let cmds := [m.out o, (s.bnuCmd it 6 k.ingot).out r]
        let failed := fun (s : State) (st dt : Nat) => Except.ok (s.issueBnu it cmds st dt [] [])
        let cek := r.output
        if r.status ≠ 0 then failed s r.status r.detail
        else
          let s := s.keepSecret it cek
          if cek.length ≠ cekLen t.cek then failed s 0x020C 5
          else if loadRefused (cekAlg t.cek) cek then failed s 0x0205 0
          else
            let s := s.loadWork it (cekAlg t.cek) cek
            match tokenKey t cek with
            | .error e => failed s e.1 e.2
            | .ok (b, alg, key) =>
              if strength alg (8 * key.length) > min (strength 0x10 (ingotBits k.ingot)) (cekStrength t.cek) then
                failed s 0x0205 0
              else .ok (s.randomly it (fun s =>
                let nk := { importedKey it b alg key 3 mods (fld d 0x30 8) (fld d 0x3C 4) with version := 0 }
                let c := (s.loadWork it alg key).createSym it nk (splits b.us b.mode) key
                c.1.issueBnu it cmds 0 0 c.2.2 c.2.1 (bit mods 1)))))))

end Sys2Proof.Machine
end

