-- ==== Sys2Proof/Machine/Pin.lean ====
section
/-!
DEFINITION. PIN blocks, PIN translation and verification, try limits and lockout, card verification values
(R283–R312).
-/
namespace Sys2Proof.Machine

/-! ## Nibbles and digits -/

/-- The nibbles of a byte string, high nibble first. -/
def nibbles (b : Bytes) : List Nat := b.flatMap (fun x => [x.toNat / 16, x.toNat % 16])

/-- Nibbles packed into bytes. -/
def packNibbles : List Nat → Bytes
  | a :: b :: r => BitVec.ofNat 8 (16 * a + b) :: packNibbles r
  | [a] => [BitVec.ofNat 8 (16 * a)]
  | [] => []

/-- Every nibble is a decimal digit. -/
def allDigits (l : List Nat) : Bool := l.all (fun v => v < 10)

/-- Digits left-justified, then F nibbles to the end. -/
def bcdPadded (l : List Nat) (n : Nat) : Bool := allDigits (l.take n) && (l.drop n).all (· == 15)

/-- The digits of a field, right-justified in n places with leading zeros. -/
def padLeft (n : Nat) (l : List Nat) : List Nat := List.replicate (n - l.length) 0 ++ l.drop (l.length - n)

/-- d decimal digits of a hexadecimal string: digits first, then A–F less 10 (R295). -/
def takeDigits (d : Nat) (l : List Nat) : List Nat :=
  let a := l.filter (fun v => v < 10)
  (a ++ ((l.filter (fun v => v ≥ 10)).map (· - 10))).take d

/-! ## PIN source (R288–R290) -/

/-- A PIN source. -/
structure PinSource where
  /-- PIN block: 8 bytes, 16 for format 4 -/
  block : Bytes := []
  /-- PAN field as given -/
  panField : Bytes := []
  /-- PAN digits -/
  pan : List Nat := []
  /-- FMT -/
  fmt : Nat := 0
  /-- KIND -/
  kind : Nat := 0
  /-- KSN -/
  ksn : Bytes := []
  deriving DecidableEq, Repr

/-- A length of a PIN block of a format. -/
def blockLen (fmt : Nat) : Nat := if fmt = 4 then 16 else 8

/-- A reserved byte that is not zero fails (R242): the first of a list of offsets in the input. -/
def zeroBytes (input : Bytes) (offs : List Nat) : Chk Unit :=
  match offs.find? (fun o => byteAt input o != 0) with
  | some o => stop 0x0105 (0x10000 + o)
  | none => pure ()

/-- Offsets o to o + n − 1. -/
def span (o n : Nat) : List Nat := (List.range n).map (fun i => o + i)

/-- The PIN source at an input offset; `mayZero` says that PAN_LEN 0 is allowed for its format (R288). -/
def pinSource (input : Bytes) (off : Nat) (mayZero : Nat → Bool) : Chk PinSource := do
  let bad := fun (o : Nat) => 0x10000 + off + o
  let fmt := byteAt input (off + 0x1B)
  let kind := byteAt input (off + 0x1C)
  let n := byteAt input (off + 0x1A)
  ensure ([0, 1, 3, 4].contains fmt) 0x010A (bad 0x1B)
  ensure (kind ≤ 2) 0x010A (bad 0x1C)
  ensure (kind == 0 || (kind == 1 && fmt != 4) || (kind == 2 && fmt == 4)) 0x010A (bad 0x1C)
  zeroBytes input ((if fmt = 4 then [] else span (off + 8) 8) ++ span (off + 0x1D) 3 ++
    (if kind = 0 then span (off + 0x20) 12 else if kind = 1 then span (off + 0x2A) 2 else []) ++ span (off + 0x2C) 4)
  ensure ((n == 0 && mayZero fmt) || (12 ≤ n && n ≤ 19)) 0x010A (bad 0x1A)
  let f := sub input (off + 0x10) 10
  ensure (bcdPadded (nibbles f) n) 0x010A (bad 0x10)
  let ksn := sub input (off + 0x20) (ksnLen kind)
  ensure (kind == 0 || ksnOk kind ksn) 0x010A (bad 0x20)
  pure { block := sub input off (blockLen fmt), panField := f, pan := (nibbles f).take n, fmt := fmt, kind := kind
         ksn := if kind = 0 then [] else ksn }

/-- A key that decrypts a PIN source: any of the listed roles (R290). -/
def pinNeed (which : Nat) : KeyNeed :=
  { which := which, suit := fun a _ => isTdes a || isAes a
    use := fun i => match useOf 2 ["P0"] "D" i with
      | none => none
      | some e => match useOf 8 ["B0", "B1"] "X" i with
        | none => none
        | some _ => some e }

/-- The key against KIND and FMT at check 9 (R289, R290): its working algorithm. -/
def pinKeyFits (p : PinSource) (k : KeyVal) (which : Nat) : Chk Unit := do
  ensure (if p.kind = 0 then ingAttr k.ingot == 2 else ingAttr k.ingot == 8) 0x0204 which
  let alg := ingotAlg k.ingot
  ensure (match p.kind with
    | 0 => if p.fmt = 4 then isAes alg else isTdes alg
    | 1 => alg == 1
    | _ => isAes alg) 0x0205 0

/-- The working key that decrypts the block: the ingot's, or the DUKPT key with KEY_USE 2 (R290). -/
def pinKey (p : PinSource) (k : KeyVal) : Bytes :=
  if p.kind = 0 then k.key
  else dukptWorking p.kind k.ingot k.key p.ksn 2 (ingotAlg k.ingot) false

/-- The key of a PIN source reaches a key register, a DUKPT source's by its derivation (R156, R160). -/
def State.loadPin (s : State) (it : Item) (p : PinSource) (k : KeyVal) : State :=
  let s := s.loadSbu it k
  if p.kind = 0 then s else s.loadDukpt it p.kind k.ingot k.key p.ksn 2 (ingotAlg k.ingot) false

/-- The SBU refuses the working key of a PIN source: KEY_ALGORITHM (R157). -/
def pinRefused (p : PinSource) (k : KeyVal) : Bool := loadRefused (ingotAlg k.ingot) (pinKey p k)

/-- The energy of a DUKPT source (R410). -/
def State.dukptTerm (s : State) (p : PinSource) : Nat := if p.kind = 0 then 0 else s.ew 16

/-! ## PIN blocks (R287, R291) -/

/-- The PAN field of formats 0 and 3. -/
def panField0 (pan : List Nat) : Bytes := packNibbles ([0, 0, 0, 0] ++ padLeft 12 pan.dropLast)

/-- The PAN field of format 4. -/
def panField4 (pan : List Nat) : Bytes :=
  packNibbles ((pan.length - 12) :: pan ++ List.replicate (31 - pan.length) 0)

/-- The clear PIN field of a block under a key. -/
def clearPin (fmt : Nat) (pan : List Nat) (key block : Bytes) : List Nat :=
  if fmt = 4 then nibbles (aesDec key (xorB (aesDec key block) (panField4 pan)))
  else if fmt = 1 then nibbles (tdesDec key block)
  else nibbles (xorB (tdesDec key block) (panField0 pan))

/-- The PIN of a clear PIN field; none where it fails a check (R291). -/
def readPin (fmt : Nat) (f : List Nat) : Option (List Nat) :=
  let n := f.getD 1 0
  let pin := (f.drop 2).take n
  let fill := (f.take 16).drop (2 + n)
  let fillOk := match fmt with
    | 0 => fill.all (· == 15)
    | 1 => true
    | 3 => fill.all (· ≥ 10)
    | _ => fill.all (· == 10)
  if f.headD 16 == fmt && 4 ≤ n && n ≤ 12 && allDigits pin && fillOk then some pin else none

/-- A clear PIN field written with fill; `rand` supplies its random nibbles. -/
def pinField (fmt : Nat) (pin : List Nat) (rand : Bytes) : List Nat :=
  let n := 14 - pin.length
  let r := nibbles rand
  let fill := match fmt with
    | 0 => List.replicate n 15
    | 1 => r.take n
    | 3 => (r.take n).map (fun v => 10 + v % 6)
    | 2 => List.replicate n 15
    | _ => List.replicate n 10
  [fmt, pin.length] ++ pin ++ fill ++ (if fmt = 4 then (r.drop 16).take 16 else [])

/-- A PIN block under a key. -/
def writePin (fmt : Nat) (pan pin : List Nat) (key rand : Bytes) : Bytes :=
  let f := packNibbles (pinField fmt pin rand)
  if fmt = 4 then aesEnc key (xorB (aesEnc key f) (panField4 pan))
  else if fmt = 1 then tdesEnc key f
  else tdesEnc key (xorB f (panField0 pan))

/-! ## PIN_TRANSLATE (R292–R294) -/

/-- The fresh fill of a block is random except in format 0 (R287). -/
def needsFill (fmt : Nat) : Bool := fmt != 0

/-- The checks of PIN_TRANSLATE: both keys and the source block (R294). -/
def State.pinTranslateChecks (s : State) (it : Item) : Chk (KeyVal × KeyVal × PinSource) := do
  let dst := byteAt it.desc 0x30
  let known := [0, 1, 3, 4].contains dst
  let ks ← s.prologue it [pinNeed 0,
    { which := 1, use := useOf 1 ["P0"] "E"
      suit := fun a _ => if !known then isTdes a || isAes a else if dst = 4 then isAes a else isTdes a }]
  keyed ks do
  let a := ks.headD {}
  let b := ks.getD 1 {}
  checkInline it [(0x30, 1)]
  ensure known 0x010A 0x30
  let p ← pinSource it.input 0 (fun fmt => fmt == 1 && dst == 1)
  ensure (p.fmt == 1 || dst != 1) 0x010A 0x30
  pinKeyFits p a 0
  ensure (strength (ingotAlg a.ingot) (ingotBits a.ingot) ≤ strength (ingotAlg b.ingot) (ingotBits b.ingot)) 0x0205 0
  checkRoom it (blockLen dst)
  s.checkUses ks
  pure (a, b, p)

/-- PIN_TRANSLATE. -/
def execPinTranslate (slot : Nat) (units : UnitReport) (s : State) : Host.Outcome State Fault Refusal :=
  .next (s.runVerb slot 0x0401 (fun s it => do
    let (a, b, p) ← s.pinTranslateChecks it
    let dst := byteAt it.desc 0x30
    let s := ((s.reach12 it [a, b] none (s.dukptTerm p)).loadPin it p a).loadSbu it b
    if pinRefused p a then pure (s.finishS it units 0x0205 0 [] []) else
    match readPin p.fmt (clearPin p.fmt p.pan (pinKey p a) p.block) with
    | none => pure (s.finishS it units 0x0109 0 [] [])
    | some pin =>
      if !needsFill dst then pure (s.okS it units [] (writePin dst p.pan pin b.key []))
      else pure (s.randomly it (fun s =>
        let r := s.draw 16
        r.2.okS it units [] (writePin dst p.pan pin b.key r.1)))))

/-! ## PIN verification methods (R296–R298) -/

/-- The PVV of a PIN under a key (R296). -/
def pvvOf (key : Bytes) (pan : List Nat) (pvki : Nat) (pin : List Nat) : List Nat :=
  let body := pan.dropLast
  takeDigits 4 (nibbles (tdesEnc key (packNibbles (body.drop (body.length - 11) ++ [pvki] ++ pin.take 4))))

/-- The natural PIN of validation data (R297). -/
def naturalPin (key vd dectab : Bytes) (n : Nat) : List Nat :=
  let t := nibbles dectab
  ((nibbles (tdesEnc key vd)).map (fun v => t.getD v 0)).take n

/-- Parameters of a PIN verification, generation or change (R298). -/
structure PinParams where
  /-- key A is of usage V1: the offset method -/
  offset : Bool := false
  /-- VD -/
  vd : Bytes := []
  /-- DECTAB -/
  dectab : Bytes := []
  /-- REF digits -/
  ref : List Nat := []
  /-- SEL -/
  sel : Nat := 0
  /-- TRY_LIMIT -/
  tryLimit : Nat := 0
  /-- LOCK_S -/
  lockS : Nat := 0
  deriving DecidableEq, Repr

/-- DECTAB holds digits only, and each digit at least once (R297). -/
def dectabOk (t : Bytes) : Bool := allDigits (nibbles t) && (List.range 10).all (fun d => (nibbles t).contains d)

/-- The parameter block at 0x30, for the usage of key A; generation ignores REF, TRY_LIMIT and LOCK_S (R298,
R300). -/
def pinParams (input : Bytes) (offset gen : Bool) : Chk PinParams := do
  let bad := fun (o : Nat) => 0x10000 + o
  let sel := byteAt input 0x46
  let lim := byteAt input 0x47
  let lock := fld input 0x48 2
  zeroBytes input ((if offset then [] else span 0x30 16) ++ span 0x4A 6)
  ensure (!offset || dectabOk (sub input 0x38 8)) 0x010A (bad 0x38)
  ensure (if offset then 4 ≤ sel && sel ≤ 12 else sel ≤ 9) 0x010A (bad 0x46)
  ensure (gen || lim ≤ 15) 0x010A (bad 0x47)
  ensure (gen || lim == 0 || lock ≥ 1) 0x010A (bad 0x48)
  let n := if offset then sel else 4
  let r := nibbles (sub input 0x40 6)
  ensure (gen || bcdPadded r n) 0x010A (bad 0x40)
  pure { offset := offset, vd := sub input 0x30 8, dectab := sub input 0x38 8, ref := r.take n, sel := sel
         tryLimit := if gen then 0 else lim, lockS := lock }

/-- The reference value of a PIN: PVV or offset. -/
def refOf (p : PinParams) (key : Bytes) (pan pin : List Nat) : List Nat :=
  if p.offset then
    List.zipWith (fun a n => (a + 10 - n) % 10) (pin.take p.sel) (naturalPin key p.vd p.dectab p.sel)
  else pvvOf key pan p.sel pin

/-- A PIN verifies; one shorter than CHECK_LEN never does (R297). -/
def pinVerifies (p : PinParams) (key : Bytes) (pan pin : List Nat) : Bool :=
  (!p.offset || pin.length ≥ p.sel) && refOf p key pan pin == p.ref

/-- REF packed as in the parameter block, as a result. -/
def refResult (ref : List Nat) : Bytes := packNibbles (ref ++ List.replicate (12 - ref.length) 15) ++ zeros 10

/-! ## Try limits and lockout (R302–R308) -/

/-- The PAN tag of a slice (R302). -/
def State.panTag (s : State) (n : Nat) (panField : Bytes) : Bytes := (cmacAes (s.wrapKey n) (0x50 :: panField)).take 8

/-- A lockout's remaining seconds, rounded up. -/
def State.lockLeft (s : State) (expiry : Nat) : Nat := ceilDiv (expiry * 1000000 - s.devUs) 1000000

/-- The lockouts of a slice in force. -/
def State.locksOf (s : State) (n : Nat) : List (Bytes × Nat) :=
  (s.slice n).lockouts.filter (fun l => l.2 * 1000000 > s.devUs)

/-- The failure count of a tag. -/
def State.failsOf (s : State) (n : Nat) (tag : Bytes) : Nat :=
  match s.kst.pinFails.find? (fun (f : PinFail) => f.slice == n && f.tag == tag) with
  | some f => f.count
  | none => 0

/-- A tag's failure count is removed. -/
def State.clearFails (s : State) (n : Nat) (tag : Bytes) : State :=
  { s with kst.pinFails := s.kst.pinFails.filter (fun (f : PinFail) => !(f.slice == n && f.tag == tag)) }

/-- The table without the entry of the oldest last failure among those a condition selects. -/
def dropOldest (l : List PinFail) (sel : PinFail → Bool) : List PinFail :=
  match (sortBy (fun (f : PinFail) => f.last) (l.filter sel)).head? with
  | some f => l.filter (fun x => !(x.slice == f.slice && x.tag == f.tag))
  | none => l

/-- Another item verifies the same tag of the slice (R306). -/
def State.tagHeld (s : State) (n : Nat) (tag : Bytes) (slot : Nat) : Bool :=
  s.kst.pinHeld.any (fun p => p.1 == n && p.2.1 == tag && p.2.2 != slot)

/-- The item holds the tag's entry. -/
def State.holdTag (s : State) (n : Nat) (tag : Bytes) (slot : Nat) : State :=
  { s with kst.pinHeld := (n, tag, slot) :: s.kst.pinHeld }

/-- The lockout check of a verification (R304): it holds the tag's entry, removes an expired lockout, or stops. -/
def State.lockoutCheck (s : State) (it : Item) (tag : Bytes) (tryLimit : Nat) : Chk State :=
  let n := it.slice
  if s.tagHeld n tag it.slot then waitFor
  else match (s.slice n).lockouts.find? (fun l => l.1 == tag) with
  | some l =>
    if l.2 * 1000000 > s.devUs then stop 0x0307 (s.lockLeft l.2)
    else .ok ((((s.dropLockout n tag (some it.slot)).dropDelay (.pinLockout n tag)).clearFails n tag).holdTag n tag it.slot)
  | none =>
    let inForce := s.locksOf n
    if inForce.length ≥ 8 ∧ tryLimit ≠ 0 then
      stop 0x0307 (inForce.foldl (fun m l => min m (s.lockLeft l.2)) (s.lockLeft (inForce.headD ([], 0)).2))
    else .ok (s.holdTag n tag it.slot)

/-- One failure counts; at TRY_LIMIT a lockout is committed, its timer made and the event recorded (R303, R305).
The flag says that a commit was placed. -/
def State.countFailure (s : State) (it : Item) (tag : Bytes) (p : PinParams) : State × Bool :=
  if p.tryLimit = 0 then (s, false) else
  let n := it.slice
  let count := sat 4 (s.failsOf n tag + 1)
  let rest := (s.clearFails n tag).kst.pinFails
  let rest := if (rest.filter (fun f => f.slice == n)).length ≥ 1024 then dropOldest rest (fun f => f.slice == n)
    else if rest.length ≥ 16384 then dropOldest rest (fun _ => true) else rest
  let s := { s with kst.pinFails := { slice := n, tag := tag, count := count, last := s.devUs } :: rest }
  if count < p.tryLimit then (s, false)
  else
    let old := s.slice n
    let kept := s.locksOf n
    let s := s.modSlice n (fun x => { x with lockouts := kept ++ [(tag, s.rtcSec + p.lockS)] })
    let s := s.commit 256 (if n = 0 then none else some (lineSlice n)) (some it.slot) [.slice n old]
    let s := s.armLockout n tag (p.lockS * 1000000)
    (s.logEv 0x0601 (srcCluster (s.physOfItem it)) n (le 2 n ++ tag), true)

/-- Commit entries of an item await acceptance. -/
def State.commits (s : State) (slot : Nat) : Bool := s.per.waiting.any (fun e => e.item == some slot)

/-- A verification of the old PIN, counted (R299, R305): the state, the PIN where it verified, else the status. -/
def State.verifyPin (s : State) (it : Item) (src : PinSource) (p : PinParams) (key pinK tag : Bytes) :
    State × Except Nat (List Nat) :=
  match readPin src.fmt (clearPin src.fmt src.pan pinK src.block) with
  | none => ((s.countFailure it tag p).1, .error 0x0109)
  | some pin =>
    if pinVerifies p key src.pan pin then
      ((if p.tryLimit = 0 then s else s.clearFails it.slice tag), .ok pin)
    else ((s.countFailure it tag p).1, .error 0x0403)

/-- Key A of a PIN verification or generation: two-key TDES of a usage. -/
def pinMethodNeed (usages : List String) (use : List String → Bytes → Option (Nat × Nat)) : KeyNeed :=
  { suit := fun a _ => a == 1, use := use usages }

/-- The checks of a PIN verification: both keys, the source block and the parameters (R299). -/
def State.pinVerifyChecks (s : State) (it : Item) (u : String) : Chk (KeyVal × KeyVal × PinSource × PinParams) := do
  let ks ← s.prologue it [pinMethodNeed [u] useVerify, pinNeed 1]
  keyed ks do
  let a := ks.headD {}
  let b := ks.getD 1 {}
  checkInline it []
  let src ← pinSource it.input 0 (fun _ => false)
  let p ← pinParams it.input (u == "V1") false
  pinKeyFits src b 1
  s.checkUses ks (p.tryLimit != 0)
  pure (a, b, src, p)

/-- PIN_VERIFY_PVV and PIN_VERIFY_OFFSET (R299). -/
def State.pinVerifyVerb (s : State) (it : Item) (u : String) (units : UnitReport) : Chk State := do
  let (a, b, src, p) ← s.pinVerifyChecks it u
  let tag := s.panTag it.slice src.panField
  let s ← (s.useWrap it).lockoutCheck it tag p.tryLimit
  let s := ((s.reach12 it [a, b] none (s.dukptTerm src)).loadPin it src b).loadSbu it a
  if pinRefused src b then pure (s.finishS it units 0x0205 0 [] [] (s.commits it.slot)) else
  let counted := fun (s : State) => s.verifyPin it src p a.key (pinKey src b) tag
  let st := match (counted s).2 with
    | .ok _ => 0
    | .error e => e
  pure (s.finishS it units st 0 [] [] ((counted s).1.commits it.slot) (fun s => (counted s).1))

/-- PIN_VERIFY_PVV. -/
def execPinVerifyPvv (slot : Nat) (units : UnitReport) (s : State) : Host.Outcome State Fault Refusal :=
  .next (s.runVerb slot 0x0402 (fun s it => s.pinVerifyVerb it "V2" units))

/-- PIN_VERIFY_OFFSET. -/
def execPinVerifyOffset (slot : Nat) (units : UnitReport) (s : State) : Host.Outcome State Fault Refusal :=
  .next (s.runVerb slot 0x0403 (fun s it => s.pinVerifyVerb it "V1" units))

/-- The checks of PVV_GENERATE and OFFSET_GENERATE (R300). -/
def State.pinGenerateChecks (s : State) (it : Item) (u : String) : Chk (KeyVal × KeyVal × PinSource × PinParams) := do
  let ks ← s.prologue it [pinMethodNeed [u] useGenerate, pinNeed 1]
  keyed ks do
  let a := ks.headD {}
  let b := ks.getD 1 {}
  checkInline it []
  let src ← pinSource it.input 0 (fun _ => false)
  let p ← pinParams it.input (u == "V1") true
  pinKeyFits src b 1
  s.checkUses ks
  pure (a, b, src, p)

/-- PVV_GENERATE and OFFSET_GENERATE (R300). -/
def State.pinGenerateVerb (s : State) (it : Item) (u : String) (units : UnitReport) : Chk State := do
  let (a, b, src, p) ← s.pinGenerateChecks it u
  let s := ((s.reach12 it [a, b] none (s.dukptTerm src)).loadPin it src b).loadSbu it a
  if pinRefused src b then pure (s.finishS it units 0x0205 0 [] []) else
  match readPin src.fmt (clearPin src.fmt src.pan (pinKey src b) src.block) with
  | none => pure (s.finishS it units 0x0109 0 [] [])
  | some pin =>
    if p.offset ∧ pin.length < p.sel then pure (s.finishS it units 0x0109 0 [] [])
    else pure (s.okS it units (refResult (refOf p a.key src.pan pin)) [])

/-- PVV_GENERATE. -/
def execPvvGenerate (slot : Nat) (units : UnitReport) (s : State) : Host.Outcome State Fault Refusal :=
  .next (s.runVerb slot 0x0404 (fun s it => s.pinGenerateVerb it "V2" units))

/-- OFFSET_GENERATE. -/
def execOffsetGenerate (slot : Nat) (units : UnitReport) (s : State) : Host.Outcome State Fault Refusal :=
  .next (s.runVerb slot 0x0405 (fun s it => s.pinGenerateVerb it "V1" units))

/-- Key A of PIN_CHANGE generates and verifies (R283). -/
def useBoth (usages : List String) (i : Bytes) : Option (Nat × Nat) :=
  match useGenerate usages i with
  | some e => some e
  | none => useVerify usages i

/-- The checks of PIN_CHANGE (R301). -/
def State.pinChangeChecks (s : State) (it : Item) : Chk (KeyVal × KeyVal × PinSource × PinParams) := do
  let ks ← s.prologue it [pinMethodNeed ["V1", "V2"] useBoth, pinNeed 1]
  keyed ks do
  let a := ks.headD {}
  let b := ks.getD 1 {}
  checkInline it []
  let src ← pinSource it.input 0 (fun _ => false)
  let p ← pinParams it.input (ingUsage a.ingot == usage "V1") false
  zeroBytes it.input (if src.fmt = 4 then [] else span 0x58 8)
  pinKeyFits src b 1
  s.checkUses ks (p.tryLimit != 0)
  pure (a, b, src, p)

/-- PIN_CHANGE (R301). -/
def execPinChange (slot : Nat) (units : UnitReport) (s : State) : Host.Outcome State Fault Refusal :=
  .next (s.runVerb slot 0x0406 (fun s it => do
    let (a, b, src, p) ← s.pinChangeChecks it
    let tag := s.panTag it.slice src.panField
    let s ← (s.useWrap it).lockoutCheck it tag p.tryLimit
    let s := ((s.reach12 it [a, b] none (s.dukptTerm src)).loadPin it src b).loadSbu it a
    if pinRefused src b then pure (s.finishS it units 0x0205 0 [] [] (s.commits it.slot)) else
    let pk := pinKey src b
    let counted := fun (s : State) => s.verifyPin it src p a.key pk tag
    let done := fun (st detail : Nat) (result : Bytes) =>
      s.finishS it units st detail result [] ((counted s).1.commits it.slot) (fun s => (counted s).1)
    match (counted s).2 with
    | .error e => pure (done e 0 [])
    | .ok _ =>
      match readPin src.fmt (clearPin src.fmt src.pan pk (sub it.input 0x50 (blockLen src.fmt))) with
      | none => pure (done 0x0109 0x50 [])
      | some pin =>
        if p.offset ∧ pin.length < p.sel then pure (done 0x0109 0x50 [])
        else pure (done 0 0 (refResult (refOf p a.key src.pan pin)))))

/-- A PAN and its length at an input offset. -/
def panAt (input : Bytes) (off : Nat) : Chk (List Nat) := do
  let n := byteAt input (off + 10)
  ensure (12 ≤ n && n ≤ 19) 0x010A (0x10000 + off + 10)
  let f := nibbles (sub input off 10)
  ensure (bcdPadded f n) 0x010A (0x10000 + off)
  pure (f.take n)

/-- The checks of PIN_TRY_STATUS; an entry another item holds is waited for (R306, R307). -/
def State.tryStatusChecks (s : State) (it : Item) : Chk Unit := do
  let _ ← s.prologue it []
  checkInline it [(0x30, 1)]
  let clear := byteAt it.desc 0x30
  ensure (clear ≤ 1) 0x0105 0x30
  let _ ← panAt it.input 0
  zeroBytes it.input (span 11 5)
  s.checkRiser (clear == 1)
  if s.tagHeld it.slice (s.panTag it.slice (sub it.input 0 10)) it.slot then waitFor

/-- The result of PIN_TRY_STATUS: failures, whether a lockout is in force, lockout places left, the lockout's remaining
seconds (R307). -/
def State.tryStatus (s : State) (n : Nat) (tag : Bytes) : Bytes :=
  let locks := s.locksOf n
  let mine := locks.find? (fun l => l.1 == tag)
  le 1 (s.failsOf n tag) ++ le 1 (b2n mine.isSome) ++ le 2 (8 - locks.length) ++
    le 4 (match mine with
      | some l => s.lockLeft l.2
      | none => 0) ++ zeros 8

/-- PIN_TRY_STATUS (R307). -/
def execPinTryStatus (slot : Nat) (units : UnitReport) (s : State) : Host.Outcome State Fault Refusal :=
  .next (s.runVerb slot 0x0407 (fun s it => do
    s.tryStatusChecks it
    let n := it.slice
    let tag := s.panTag n (sub it.input 0 10)
    let result := s.tryStatus n tag
    let s := (s.useWrap it).reach12 it []
    if byteAt it.desc 0x30 = 0 then pure (s.okS it units result [])
    else
      let has := (s.slice n).lockouts.any (fun l => l.1 == tag)
      let cleared := fun (s : State) =>
        let s := if has then (s.dropLockout n tag (some slot)).dropDelay (.pinLockout n tag) else s
        (s.clearFails n tag).logEv 0x0602 (srcCluster (s.physOfItem it)) n (le 2 n ++ tag)
      pure (s.finishS it units 0 0 result [] has cleared)))

/-! ## Card verification values (R309–R312) -/

/-- ISO/IEC 9797-1 padding method 1. -/
def pad1 (n : Nat) (b : Bytes) : Bytes := b ++ zeros ((n - b.length % n) % n)

/-- ISO/IEC 9797-1 padding method 2. -/
def pad2 (n : Nat) (b : Bytes) : Bytes := pad1 n (b ++ [0x80])

/-- The static three-digit value (R309). -/
def cvvOf (key : Bytes) (pan expiry service : List Nat) : List Nat :=
  let d := pan ++ expiry ++ service
  takeDigits 3 (nibbles (retailMac key (packNibbles (d ++ List.replicate (32 - d.length) 0))))

/-- Three digits as ASCII. -/
def digitText (l : List Nat) : Bytes := l.map digitOf

/-- VALUE: three ASCII digits, then 0x00, at an input offset (R310). -/
def valueAt (input : Bytes) (off : Nat) : Chk Bytes := do
  ensure ((sub input off 3).all (fun b => 0x30 ≤ b.toNat && b.toNat ≤ 0x39)) 0x010A (0x10000 + off)
  ensure (byteAt input (off + 3) == 0) 0x0105 (0x10000 + off + 3)
  pure (sub input off 3)

/-- The checks of CVV_GENERATE and CVV_VERIFY: key A, the value computed and the value given (R310). -/
def State.cvvChecks (s : State) (it : Item) (verify : Bool) : Chk (KeyVal × Bytes × Bytes) := do
  let ks ← s.prologue it
    [{ suit := fun a _ => a == 1, use := if verify then useVerify ["C0"] else useGenerate ["C0"] }]
  keyed ks do
  let k := ks.headD {}
  checkInline it []
  let pan ← panAt it.input 0
  let exp := nibbles (sub it.input 11 2)
  let svc := nibbles (sub it.input 13 2)
  ensure (allDigits exp) 0x010A 0x1000B
  ensure (allDigits svc && svc.headD 1 == 0) 0x010A 0x1000D
  zeroBytes it.input [15]
  let want ← if verify then valueAt it.input 16 else pure []
  s.checkUses ks
  pure (k, digitText (cvvOf k.key pan exp (svc.drop 1)), want)

/-- CVV_GENERATE and CVV_VERIFY (R310). -/
def State.cvvVerb (s : State) (it : Item) (verify : Bool) (units : UnitReport) : Chk State := do
  let (k, v, want) ← s.cvvChecks it verify
  let s := (s.reach12 it [k]).loadSbu it k
  if !verify then pure (s.okS it units (v ++ zeros 13) [])
  else pure (s.finishS it units (if v = want then 0 else 0x0404) 0 [] [])

/-- CVV_GENERATE. -/
def execCvvGenerate (slot : Nat) (units : UnitReport) (s : State) : Host.Outcome State Fault Refusal :=
  .next (s.runVerb slot 0x0501 (fun s it => s.cvvVerb it false units))

/-- CVV_VERIFY. -/
def execCvvVerify (slot : Nat) (units : UnitReport) (s : State) : Host.Outcome State Fault Refusal :=
  .next (s.runVerb slot 0x0502 (fun s it => s.cvvVerb it true units))

end Sys2Proof.Machine
end

