-- ==== Sys2Proof/Machine/Ceremony.lean ====
section
/-!
DEFINITION. Quorum sessions and the ceremony verbs (R441, R463, R483, R484, R519–R531).
-/
namespace Sys2Proof.Machine

/-! ## QUORUM_OPEN and QUORUM_CLOSE (R519, R522, R524) -/

/-- The checks of QUORUM_OPEN: no session is open (R519). -/
def State.openChecks (s : State) (it : Item) : Chk Unit := do
  let _ ← s.prologue it []
  let cls := byteAt it.desc 0x38
  checkInline it [(0x38, if cls = 10 then 3 else 1)]
  ensure (cls ≤ 10) 0x010A 0x38
  ensure (cls != 10 || within 1 5 (byteAt it.desc 0x39)) 0x010A 0x39
  ensure (cls != 10 || within 2 3 (byteAt it.desc 0x3A)) 0x010A 0x3A
  ensureLate s.dcc.session.isNone 0x0D08 0

/-- QUORUM_OPEN: a session opens, its lifetime on delay list 0; cards that are present are activated, and the ICC
transcript begins (R359, R519, R535, R560). -/
def execQuorumOpen (slot : Nat) (s : State) : Host.Outcome State Fault Refusal :=
  .next (s.runVerb slot 0x0A01 (fun s it => do
    s.openChecks it
    let cls := byteAt it.desc 0x38
    let alg := byteAt it.desc 0x39
    let count := byteAt it.desc 0x3A
    let us := s.pat.sessionMin * 60000000
    let seq := s.mea.sessionSeq + 1
    let s := { s with
      dcc.session := some { cls := cls, alg := alg, components := count, endsAt := s.m.now + 4 * us }
      dcc.lastIssued := 0
      mea.sessionSeq := seq, mea.transcript := le 1 cls ++ zeros 7 ++ le 8 seq }
    let s := (s.addDelay 0 (min (s.ticksOf us) (2 ^ 32)) true .quorum).logG 0x0A01 (le 1 cls)
    let s := (List.range 2).foldl (fun (s : State) n =>
      let c := s.icc n
      if c.present && !c.refused && s.iccFitted n then s.activateIcc n else s) s
    pure (s.finishM it 0 0 [] [] 0 none [])))

/-- The checks of QUORUM_CLOSE: a session is open (R522). -/
def State.closeChecks (s : State) (it : Item) : Chk Unit := do
  let _ ← s.prologue it []
  checkInline it []
  ensureLate s.dcc.session.isSome 0x0D01 0

/-- QUORUM_CLOSE ends the open session. -/
def execQuorumClose (slot : Nat) (s : State) : Host.Outcome State Fault Refusal :=
  .next (s.runVerb slot 0x0A02 (fun s it => do
    s.closeChecks it
    pure ((s.finishM it 0 0 [] [] 0 none []).endSession 3)))

/-! ## The frame of a ceremony verb (R524) -/

/-- The checks of a verb that needs a session: checks 7 to 11, then the session and its phase (R524). -/
def State.ceremonyChecks (s : State) (it : Item) (cls : Nat) (persistent : Bool) (pre : Item → Chk Unit) : Chk Session := do
  let _ ← s.prologue it []
  pre it
  s.checkRiser persistent
  let x ← s.sessionFor cls
  ensureLate (s.phaseOf x == 2) 0x0D02 x.admitted.length
  pure x

/-- A verb that needs a session: its checks, the quorum decision taken twice, and the verb's own checks and effect.
`second` is the second evaluation, where it differs. -/
def State.ceremonyVerb (s : State) (slot code cls : Nat) (persistent : Bool) (second : Option Nat)
    (pre : Item → Chk Unit) (body : Item → Session → State → Chk State) : State :=
  s.runVerb slot code (fun s it => do
    let x ← s.ceremonyChecks it cls persistent pre
    let d := s.decide2 7 0 0 1 second
    if d.1 ≠ 0 then pure (d.2.stopItem slot (.late 0x0D02 x.admitted.length))
    else match body it x d.2 with
      | .ok t => pure t
      | .error e => pure (d.2.stopItem slot e))

/-- A ceremony verb without input or inline parameters. -/
def plainInput (it : Item) : Chk Unit := checkInline it []

/-- Sources whose applied response was LOCK or QUENCH and that are still active (R483). -/
def State.activeSources (s : State) : List Nat :=
  s.tam.latched.filter (fun n => decide (lookupD s.tam.latchedResp n 0 ≥ 2) && s.tam.active.contains n)

/-- The latches of sources whose applied response lies in a range are cleared. -/
def State.clearLatches (s : State) (lo hi : Nat) : State :=
  let gone := s.tam.latched.filter (fun n => within lo hi (lookupD s.tam.latchedResp n 0))
  { s with tam.latched := s.tam.latched.filter (fun n => !gone.contains n)
           tam.latchedResp := s.tam.latchedResp.filter (fun p => !gone.contains p.1) }

/-! ## UNLOCK (R483) -/

/-- UNLOCK: the sources are inactive, the release decision is taken twice, and no alarm of LOCK or stronger latched
meanwhile. -/
def execUnlock (slot : Nat) (second release : Option Nat) (s : State) : Host.Outcome State Fault Refusal :=
  .next (s.ceremonyVerb slot 0x0A13 3 false second plainInput (fun it x s => do
    ensureLate (!s.quenched) 0x0B02 0
    ensureLate s.activeSources.isEmpty 0x0D07 (maskOf s.activeSources)
    let old := s
    let d := s.decide2 8 0 0 1 release
    let s := d.2
    if d.1 ≠ 0 then pure (s.stopItem slot (.late (if s.quenched then 0x0B02 else 0x0D07) (maskOf s.activeSources)))
    else
      let was := s.tam.lockFlag
      let s := { s.clearLatches 2 2 with tam.lockFlag := false }
      let s := if was then s.logG 0x0804 [] else s
      pure (State.logStat old (s.ceremonyDone it x [] [] 0 none []))))

/-! ## DOMAIN_CREATE, DOMAIN_JOIN and DOMAIN_RESTORE (R526–R528) -/

/-- From PROVISIONED a ceremony runs the transition to DEPLOYED: T3 is checked twice, and no completion is posted
because the device resets (R526, R527). `at_` is the token's offset in the input. -/
def State.deployBy (s : State) (it : Item) (at_ : Nat) (token : Option Nat) : State :=
  let d := s.decide2 3 (if s.tokenGood 3 (sub it.input at_ 32) then 0 else 1) 3 1 token
  if d.1 ≠ 0 then (d.2.tokenRejected 5 3).stopItem it.slot (.late 0x010A (0x10000 + at_))
  else (d.2.startTransition 5 3 (some it.slot)).modItem it.slot (fun i => { i with phase := .waiting, waits := [.drain] })

/-- The verb waits for its cards: the session enters ISSUING, and cards whose exchange is not sealed start afresh
(R526, R529). -/
def State.startIssuing (s : State) (i : Issuing) : State :=
  let s := s.modSession (fun x => { x with issuing := some i })
  let s := s.modItem i.item (fun x => { x with phase := .waiting, waits := [.cards] })
  (List.range 2).foldl (fun (s : State) n =>
    let c := s.icc n
    if c.state == .active && !c.sealed then s.beginExchange n else s) s

/-- DOMAIN_CREATE's input (R526). -/
def State.createInput (s : State) (it : Item) : Chk Unit := do
  checkInline it []
  let n := byteAt it.input 0
  let k := byteAt it.input 1
  ensure (within k 16 n) 0x010A 0x10000
  ensure (within (s.pat.quorums.getD 0 2) 8 k) 0x010A 0x10001
  zeroBytes it.input (span 2 6)

/-- DOMAIN_CREATE. -/
def execDomainCreate (slot : Nat) (second token : Option Nat) (s : State) : Host.Outcome State Fault Refusal :=
  .next (s.ceremonyVerb slot 0x0A10 0 true second s.createInput (fun it _ s => do
    if s.lcState == .provisioned then
      -- R497's BUSY has no status of its own here (assumption log 23)
      ensureLate s.lc.running.isNone 0x0302 1
      pure (s.deployBy it 8 token)
    else
      ensureLate (s.lcState == .deployed && s.dcc.domainId.isEmpty) 0x0302 1
      ensureLate ((sub it.input 8 32).all (· == 0)) 0x010A 0x10008
      ensureLate s.mea.rngHealthy 0x0C01 1
      let k := byteAt it.input 1
      let r := s.draw 32
      let cs := (List.range (k - 1)).foldl (fun (p : List Bytes × State) _ =>
        let c := p.2.draw 32
        (p.1 ++ [c.1], c.2)) (([] : List Bytes), r.2)
      pure (cs.2.startIssuing { item := slot, mode := 0, root := r.1, coeffs := cs.1, k := k, epoch := 0
                                todo := (List.range (byteAt it.input 0)).map (· + 1) })))

/-- The root the admitted shares rebuild: from the first `k` of them (R510). -/
def rebuildRoot (x : Session) (k : Nat) : Bytes :=
  interpolate ((x.admitted.take k).map (fun (a : Admitted) => (a.index, a.share))) 0

/-- A rebuilt root is checked: its domain ID, then every admitted card's ENROL_MAC; the DETAIL of the failure
(R527). -/
def rootFault (x : Session) (root expected : Bytes) : Option Nat :=
  if domainIdOf root ≠ expected then some 0x100
  else (x.admitted.find? (fun (a : Admitted) =>
    enrolMac (proofKeyOf root) expected a.index a.epoch a.k a.point != a.mac)).map (fun a => 0x100 + a.index)

/-- A root that fails its check: everything gathered is erased and the verb fails (R527). -/
def State.dropShares (s : State) (slot detail : Nat) : State :=
  (s.modSession (fun x => { x with admitted := [], comps := [], joinDomain := [], joinK := 0, joinEpoch := 0 })).stopItem
    slot (.late 0x0D02 detail)

/-- DOMAIN_JOIN. -/
def execDomainJoin (slot : Nat) (second token : Option Nat) (s : State) : Host.Outcome State Fault Refusal :=
  .next (s.ceremonyVerb slot 0x0A11 1 true second plainInput (fun it x s => do
    if s.lcState == .provisioned then
      ensureLate s.lc.running.isNone 0x0302 1
      pure (s.deployBy it 16 token)
    else
      ensureLate (s.lcState == .deployed && s.dcc.domainId.isEmpty) 0x0302 1
      ensureLate ((sub it.input 16 32).all (· == 0)) 0x010A 0x10010
      let root := rebuildRoot x x.joinK
      match rootFault x root (sub it.input 0 16) with
      | some d => pure (s.dropShares slot d)
      | none =>
        let i : Issuing := { item := slot, mode := 4, root := root, k := x.joinK, epoch := x.joinEpoch
                             written := x.admitted.map (fun (a : Admitted) => (a.index, a.point)) }
        let s := s.modSession (fun x => { x with issuing := some i })
        pure ((s.modItem slot (fun x => { x with phase := .waiting })).issueCommit i)))

/-- DOMAIN_RESTORE: a QUENCHED device's root is rebuilt and checked, and R484 runs. -/
def execDomainRestore (slot : Nat) (second : Option Nat) (s : State) : Host.Outcome State Fault Refusal :=
  .next (s.ceremonyVerb slot 0x0A12 2 false second plainInput (fun it x s => do
    ensureLate s.quenched 0x0302 1
    ensureLate s.activeSources.isEmpty 0x0D07 (maskOf s.activeSources)
    let root := rebuildRoot x s.dcc.shareK
    match rootFault x root s.dcc.domainId with
    | some d => pure (s.dropShares slot d)
    | none =>
      let old := s
      let s := s.installRoot root
      let s := ({ s.clearLatches 2 3 with tam.lockFlag := false }).releaseQuench
      pure (State.logStat old (s.ceremonyDone it x [] [] 0 none []))))

/-! ## LIFECYCLE (R530) -/

/-- LIFECYCLE's input: the target in range, reserved bytes zero. -/
def lifecycleInput (it : Item) : Chk Unit := do
  checkInline it []
  ensure (within 6 7 (byteAt it.input 0)) 0x010A 0x10000
  zeroBytes it.input (span 1 7)

/-- LIFECYCLE: the transition to RETURNED or SCRAPPED; no completion is posted. While another transition runs no target
is allowed (R497; the status is a choice, assumption log 23). -/
def execLifecycle (slot : Nat) (second token : Option Nat) (s : State) : Host.Outcome State Fault Refusal :=
  .next (s.ceremonyVerb slot 0x0A14 4 false second lifecycleInput (fun it _ s => do
    let target := byteAt it.input 0
    match tokenFor s.lcState target with
    | none => .error (.late 0x010A 0x10000)
    | some tok =>
      ensureLate s.lc.running.isNone 0x010A 0x10000
      let d := s.decide2 3 (if s.tokenGood tok (sub it.input 8 32) then 0 else 1) tok 1 token
      if d.1 ≠ 0 then pure ((d.2.tokenRejected target tok).stopItem slot (.late 0x010A 0x10008))
      else pure ((d.2.startTransition target tok (some slot)).modItem slot (fun i => { i with
        phase := .waiting, waits := [.drain] }))))

/-! ## CUSTODIAN_ENROL (R529) -/

/-- The ranges of OP, INDEX and NEW_K. -/
def enrolInput (it : Item) : Chk Unit := do
  checkInline it [(0x38, 2)]
  let op := byteAt it.desc 0x38
  ensure (op ≤ 3) 0x010A 0x38
  ensure (op != 2 || within 1 16 (byteAt it.desc 0x39)) 0x010A 0x39
  ensure (dInLen it.desc ≤ 1 && (op != 3 || dInLen it.desc == 1)) 0x0108 0
  ensure (op != 3 || within 2 8 (byteAt it.input 0)) 0x010A 0x10000

/-- CUSTODIAN_ENROL: ADD, RECOGNISE, REVOKE or RESHARE. -/
def execCustodianEnrol (slot : Nat) (second : Option Nat) (s : State) : Host.Outcome State Fault Refusal :=
  .next (s.ceremonyVerb slot 0x0A15 5 true second enrolInput (fun it x s => do
    ensureLate s.hasDomain 0x0B02 0
    let index := byteAt it.desc 0x39
    let active := s.dcc.records.filter (fun (r : Custodian) => r.state == 1)
    let base : Issuing := { item := slot, root := s.domainRoot, k := s.dcc.shareK, epoch := s.dcc.shareEpoch }
    match byteAt it.desc 0x38 with
    | 0 =>
      match ((List.range 16).map (· + 1)).find? (fun i => !s.dcc.records.any (fun (r : Custodian) => r.index == i)) with
      | none => .error (.late 0x010A 0x38)
      | some i => pure (s.startIssuing { base with mode := 1, todo := [i] })
    | 1 => pure (s.startIssuing { base with mode := 3 })
    | 2 =>
      ensureLate (active.any (fun (r : Custodian) => r.index == index)) 0x010A 0x39
      let undo := s.enrolUndo
      let s := { s with dcc.records := s.dcc.records.map (fun (r : Custodian) =>
        if r.index = index then { r with state := 2 } else r) }
      let s := s.logG 0x0A09 (le 1 index)
      pure (s.ceremonyDone it x [] [] 192 (some lineEnrol) [undo])
    | _ =>
      let k := byteAt it.input 0
      ensureLate (k ≤ active.length) 0x010A 0x10000
      ensureLate s.mea.rngHealthy 0x0C01 1
      let cs := (List.range (k - 1)).foldl (fun (p : List Bytes × State) _ =>
        let c := p.2.draw 32
        (p.1 ++ [c.1], c.2)) (([] : List Bytes), s)
      pure (cs.2.startIssuing { base with mode := 2, coeffs := cs.1, k := k, epoch := wrap 8 (s.dcc.shareEpoch + 1)
                                          todo := active.map (fun (r : Custodian) => r.index) })))

/-! ## CALENDAR_SET, PATTERN_KEY_ENROL and LOG_CLEAR (R441, R463, R531) -/

/-- The calendar steps by ceremony: RTC and device time, every lockout expiry and the time checkpoint (R441). -/
def State.stepCalendar (s : State) (sec : Nat) : State :=
  let was := s.rtcSec
  let wasUs := s.devUs
  let s := { s with per.rtc := sec * 4000000000000, per.calSet := true, per.calSource := 1, per.rtcHeld := false }
  { s with
    per.timeCheckpoint := s.per.timeCheckpoint + s.devUs - wasUs
    slc.slices := s.slc.slices.map (fun (x : Slice) => { x with lockouts := x.lockouts.map (fun l => (l.1, l.2 + sec - was)) }) }

/-- CALENDAR_SET's input: the seconds in range. -/
def calendarInput (it : Item) : Chk Unit := do
  checkInline it []
  ensure (within 1 rtcMaxSec (fld it.input 0 8)) 0x010A 0x10000

/-- CALENDAR_SET. -/
def execCalendarSet (slot : Nat) (second : Option Nat) (s : State) : Host.Outcome State Fault Refusal :=
  .next (s.ceremonyVerb slot 0x0A16 6 true second calendarInput (fun it x s => do
    let sec := fld it.input 0 8
    let was := s.rtcSec
    let undo := (s.slc.slices.filter (fun (y : Slice) => !y.lockouts.isEmpty)).map (fun (y : Slice) => Undo.slice y.number y)
    pure ((s.stepCalendar sec).ceremonyDone it x (zeros 4 ++ le 8 was ++ le 8 sec) [] 64 (some (lineLife 1)) undo)))

/-- PATTERN_KEY_ENROL's inline parameters: the slot and BLOW. -/
def patternKeyInput (it : Item) : Chk Unit := do
  checkInline it [(0x38, 2)]
  ensure (byteAt it.desc 0x38 ≤ 1) 0x010A 0x38
  ensure (byteAt it.desc 0x39 ≤ 1) 0x010A 0x39

/-- PATTERN_KEY_ENROL: a customer pattern key digest, and perhaps the next epoch bit. -/
def execPatternKeyEnrol (slot : Nat) (second : Option Nat) (s : State) : Host.Outcome State Fault Refusal :=
  .next (s.ceremonyVerb slot 0x0A17 7 true second patternKeyInput (fun it x s => do
    let blow := byteAt it.desc 0x39 == 1
    let qx := sub it.input 0 48
    let qy := sub it.input 48 48
    ensureLate (p384.decodePoint ([4] ++ qx ++ qy)).isSome 0x0A04 0
    ensureLate (!blow || s.fuses.epoch < 32) 0x010A 0x39
    let undo := Undo.patternKeys s.dcc.patKey0 s.dcc.patKey1
    let dig := keyDigest qx qy
    let s := if byteAt it.desc 0x38 = 0 then { s with dcc.patKey0 := dig } else { s with dcc.patKey1 := dig }
    let s := if blow then ({ s with fuses.epoch := s.fuses.epoch + 1 }).spendFuses 1 else s
    let s := s.logG 0x0A0B (le 1 (byteAt it.desc 0x38) ++ le 1 (b2n blow))
    pure (s.ceremonyDone it x [] [] 224 (some lineEnrol) [undo])))

/-- LOG_CLEAR: the records from OLDEST to ACKED are released and CLEARED is written. -/
def execLogClear (slot : Nat) (second : Option Nat) (s : State) : Host.Outcome State Fault Refusal :=
  .next (s.ceremonyVerb slot 0x0A18 8 true second plainInput (fun it x s => do
    let first := s.oldest
    let last := s.log.acked
    ensureLate (first ≤ last) 0x010A 0
    let undo := Undo.bounds s.log.cleared s.log.acked
    let chk := match s.findRec last with
      | some r => fit 8 r.check
      | none => zeros 8
    let s := (s.setBounds last last).logG 0x0F01 (le 8 first ++ le 8 last ++ chk)
    pure (s.ceremonyDone it x [] [] 64 (some (lineLife 3)) [undo])))

end Sys2Proof.Machine
end

