-- ==== Sys2Proof/Machine/SdHost.lean ====
section
/-!
DEFINITION. The SD host: power, initialisation, bus modes, tuning and the commands of a running archive verb
(R535–R544). Command numbers, OCR, CSD and switch-function fields are those of the SD specification (PRESUMED,
assumption log 16).
-/
namespace Sys2Proof.Machine

/-- The pattern declares the SD slot (R85). -/
def State.sdFitted (s : State) : Bool := bit s.pat.fitted 0

/-- A command goes to the card. -/
def State.sdCmd (s : State) (index arg : Nat) (data : Bytes := []) : State := s.emit (.sdCommand index arg data)

/-! ## The CSD (R537, R544) -/

/-- Bits of the 128-bit CSD. -/
def csdBits (csd : Bytes) (lo w : Nat) : Nat := bits (ofBE (fit 16 csd)) lo w

/-- CSD_STRUCTURE. -/
def csdStructure (csd : Bytes) : Nat := csdBits csd 126 2

/-- Capacity in 512-byte blocks. -/
def csdBlocks (csd : Bytes) : Nat :=
  if csdStructure csd = 0 then (csdBits csd 62 12 + 1) * 2 ^ (csdBits csd 47 3 + 2) * 2 ^ csdBits csd 80 4 / 512
  else (csdBits csd 48 22 + 1) * 1024

/-- CRC7 of the SD specification. -/
def crc7 (b : Bytes) : Nat :=
  b.foldl (fun (c : Nat) x => (List.range 8).foldl (fun (c : Nat) i =>
    let top := c / 64 != x.toNat / 2 ^ (7 - i) % 2
    (2 * c % 128) ^^^ (if top then 9 else 0)) c) 0

/-- The CSD with a write-protect bit set (12 temporary, 13 permanent) and its CRC7 recomputed (R544). -/
def csdProtect (csd : Bytes) (bitNo : Nat) : Bytes :=
  let b := (be 16 (ofBE (fit 16 csd) ||| 2 ^ bitNo)).take 15
  b ++ le 1 (2 * crc7 b + 1)

/-- A CSD read from the card is kept, with its write-protect bits (R544, R568). -/
def State.keepCsd (s : State) (csd : Bytes) : State :=
  { s with cards.csd := csd, cards.tmpWp := csdBits csd 12 1 == 1, cards.permWp := csdBits csd 13 1 == 1 }

/-! ## Power-up and initialisation (R538, R539) -/

/-- The switch function number of a bus mode (R537, DCC_SD_STATUS.MODE codes). -/
def modeFunction (mode : Nat) : Nat :=
  match mode with
  | 2 => 1 | 4 => 1 | 5 => 2 | 6 => 3 | 7 => 4 | _ => 0

/-- The command of the initialisation step in progress (R539). A group of commands is answered as one, and the CMD55
before an application command is not listed (assumption log 16). -/
def State.sdInitIssue (s : State) : State :=
  let c := s.cards
  let rca := 65536 * c.rca.getD 0
  match c.initStep with
  | 2 => s.sdCmd 8 0x1AA
  | 3 => s.sdCmd 41 ((if c.v2Card then 2 ^ 30 else 0) + (if c.noS18r then 0 else 2 ^ 24) + 0xFF8000)
  | 4 => s.sdCmd 11 0
  | 5 => if c.rca.isNone then (s.sdCmd 2 0).sdCmd 3 0 else s.sdCmd 9 rca
  | 6 =>
    let s := s.sdCmd 7 rca
    let s := if c.blockAddr then s else s.sdCmd 16 512
    (s.sdCmd 42 0).sdCmd 6 2
  | 7 => if c.queried then s.sdCmd 6 (0x80FFFFF0 + modeFunction (c.modes.headD 0)) else s.sdCmd 6 0x00FFFFFF
  | _ => s

/-- The next step of the initialisation begins. -/
def State.sdStep (s : State) (step : Nat) : State :=
  ({ s with cards.initStep := step, cards.crcTries := 0 }).sdInitIssue

/-- The card is powered, CMD0 is sent and CMD8 asks for its version (R538, R539). -/
def State.sdPowerUp (s : State) : State :=
  (({ s with cards.sdState := .initialising, cards.sdMode := 0, cards.v18 := false, cards.v2Card := false
             cards.rca := none, cards.queried := false, cards.modes := [], cards.tuning := none
             cards.retuneDue := false }).sdCmd 0 0).sdStep 2

/-- The bus modes in the order they are tried at 1.8 V or 3.3 V (R537). -/
def modeOrder (v18 : Bool) : List Nat := if v18 then [6, 5, 7, 4, 3] else [2, 1]

/-- A tuned mode: SDR50 or SDR104 (R541). -/
def tunedMode (mode : Nat) : Bool := mode == 5 || mode == 6

/-- A tuning run begins (R541). -/
def State.sdTune (s : State) : State := ({ s with cards.tuning := some [] }).sdCmd 19 0

/-! ## Tuning (R541) -/

/-- The tuning block of the SD specification. -/
def tuningBlock : Bytes :=
  be 16 0xFF0FFF00FFCCC3CCC33CCCFFFEFFFEEF ++ be 16 0xFFDFFFDDFFFBFFFBBFFF7FFF77F7BDEF ++
  be 16 0xFFF0FFF00FFCCC3CCC33CCCFFFEFFFEE ++ be 16 0xFFFDFFFDDFFFBFFFBBFFF7FFF77F7BDE

/-- Length of the run of passing coarse taps from `i` on, counted circularly. -/
def runFrom (pass : List Bool) (i : Nat) : Nat :=
  (((List.range 16).map (fun j => pass.getD ((i + j) % 16) false)).takeWhile id).length

/-- The longest run of passing coarse taps: its first index and length. -/
def bestRun (pass : List Bool) : Nat × Nat :=
  (List.range 16).foldl (fun (b : Nat × Nat) i => if runFrom pass i > b.2 then (i, runFrom pass i) else b) (0, 0)

/-- What a tuning run does next: try a tap, or end with the window's lowest tap and width. -/
inductive TuneNext where
  | try (tap : Nat)
  | done (low width : Nat)
  deriving DecidableEq, Repr

/-- The next tap of a run after its results so far, in the order of R541. -/
def tuneNext (res : List (Nat × Bool)) : TuneNext :=
  if res.length < 16 then .try (4 * res.length)
  else
    let b := bestRun ((res.take 16).map (·.2))
    if b.2 = 0 then .done 0 0
    else
      let low := 4 * b.1
      let high := (4 * (b.1 + b.2 - 1)) % 64
      let fine := (res.drop 16).map (·.2)
      let below := ((fine.take 3).takeWhile id).length
      let used := if below = 3 then 3 else below + 1
      if fine.length < used then .try ((low + 63 - below) % 64)
      else
        let rest := fine.drop used
        let above := ((rest.take 3).takeWhile id).length
        let need := if above = 3 then 3 else above + 1
        if rest.length < need then .try ((high + 1 + above) % 64)
        else .done ((low + 64 - below) % 64) (min 64 (4 * (b.2 - 1) + 1 + below + above))

/-! ## The running command (R542, R543, R548–R557) -/

/-- The address argument of a block (R537). -/
def State.sdAddr (s : State) (blk : Nat) : Nat := if s.cards.blockAddr then blk else 512 * blk

/-- The command a running archive verb has to send now. -/
def State.sdIssueNow (s : State) (r : SdRun) : State :=
  match r.phase with
  | .label => s.sdCmd 17 0
  | .journal => (s.sdCmd 18 (s.sdAddr 1)).sdCmd 12 0
  | .erase => ((s.sdCmd 32 (s.sdAddr 1)).sdCmd 33 (s.sdAddr 2048)).sdCmd 38 0
  | .write => match r.todo with
    | [] => s
    | b :: _ => s.sdCmd 24 (s.sdAddr b.1) b.2
  | .newest | .scan => s.sdCmd 17 (s.sdAddr r.blk)
  | .fetch => s
  | .read => (s.sdCmd 18 (s.sdAddr r.blk)).sdCmd 12 0
  | .csdWrite => s.sdCmd 27 0 (csdProtect s.cards.csd (if (s.item r.item).any (fun (it : Item) => dVerb it.desc == 0x0A19) then 13 else 12))
  | .csdRead => ((s.sdCmd 7 0).sdCmd 9 (65536 * s.cards.rca.getD 0)).sdCmd 7 (65536 * s.cards.rca.getD 0)

/-- The command of the running verb is sent; a retune that is due runs first (R542). -/
def State.sdIssue (s : State) : State :=
  match s.cards.run with
  | none => s
  | some r => if s.cards.retuneDue && tunedMode s.cards.sdMode then s.sdTune else s.sdIssueNow r

/-- The running verb goes on with another command. -/
def State.sdGo (s : State) (r : SdRun) : State := ({ s with cards.run := some r, cards.crcTries := 0 }).sdIssue

/-- The card is power-cycled; an open archive stays open (R535, R539, R543, R548). -/
def State.sdCycle (s : State) : State :=
  let t := s.sdPowerDown true
  { t with cards.archive := s.cards.archive, cards.sdArchive := s.cards.sdArchive }

/-- A card is write-protected (R544). -/
def State.sdProtected (s : State) : Bool := s.cards.sdWp || s.cards.tmpWp || s.cards.permWp

end Sys2Proof.Machine
end

