-- ==== Sys2Proof/Machine/Archive.lean ====
section
/-!
DEFINITION. The SD archive: its blocks, the archive verbs, ARCHIVE_PROTECT, and the events of the SD slot
(R535–R558).
-/
namespace Sys2Proof.Machine

/-! ## Blocks (R545–R547) -/

/-- RECORD of a journal block, and of a commit that adds no record. -/
def noRecord : Nat := 0xFFFFFFFF

/-- CHECK of a block's first 0x1F0 bytes (R546). -/
def blockCheck (key id body : Bytes) (addr : Nat) : Bytes := (cmacAes key (body ++ id ++ le 8 addr)).take 16

/-- A block: content, trailer and CHECK (R546). -/
def makeBlock (key id content : Bytes) (generation record index addr : Nat) : Bytes :=
  let body := fit 480 content ++ le 8 generation ++ le 4 record ++ le 4 index
  body ++ blockCheck key id body addr

/-- CHECK verifies at an address. -/
def blockOk (key id b : Bytes) (addr : Nat) : Bool := blockCheck key id (fit 0x1F0 b) addr == sub b 0x1F0 16

/-- An erased block reads all zeros or all ones (assumption log 16). -/
def erasedBlock (b : Bytes) : Bool := b.all (· == 0) || b.all (· == 0xFF)

/-- The block of an archive's current commit, with the record it adds (R546). -/
def Archive.commitBlock (a : Archive) (key : Bytes) (format : Bool) (adds : Option ArchCommit) : Nat × Bytes :=
  let slot := a.generation % 2048
  let tail := match adds with
    | some c => le 4 c.record ++ le 4 c.blocks ++ le 8 c.first ++ fit 48 c.digest
    | none => le 4 noRecord
  (1 + slot, makeBlock key a.id (le 4 0x4A524C43 ++ le 2 1 ++ le 2 (b2n a.sealed + 2 * b2n format) ++ le 4 a.records ++
    zeros 4 ++ le 8 a.nextFree ++ tail) a.generation noRecord slot (1 + slot))

/-- Blocks a record of some data length takes (R547). -/
def recordBlocks (n : Nat) : Nat := ceilDiv (64 + n) 480

/-! ## Opening (R548) -/

/-- A journal block is a valid commit of its slot. -/
def commitValid (key : Bytes) (a : Archive) (slot : Nat) (b : Bytes) : Bool :=
  fld b 0x1E0 8 % 2048 == slot && decide (fld b 0x10 8 ≤ a.capacity) &&
    (fld b 0x18 4 == noRecord || fld b 0x20 8 + fld b 0x1C 4 == fld b 0x10 8) && blockOk key a.id b (1 + slot)

/-- The archive a journal leaves, and whether the next generation's commit was torn; none without a valid commit. -/
def readJournal (key : Bytes) (a : Archive) (journal : Bytes) : Option (Archive × Bool) :=
  let slots := (blocksOf 512 journal).zipIdx
  let valid := sortBy (fun (p : Bytes × Nat) => fld p.1 0x1E0 8) (slots.filter (fun p => commitValid key a p.2 p.1))
  match valid.reverse with
  | [] => none
  | p :: rest =>
    let b := p.1
    let g := fld b 0x1E0 8
    let next := (g + 1) % 2048
    let nb := sub journal (512 * next) 512
    let commits := (((p :: rest).map (·.1)).filter (fun b => fld b 0x18 4 != noRecord)).map (fun b =>
      ({ generation := fld b 0x1E0 8, record := fld b 0x18 4, blocks := fld b 0x1C 4, first := fld b 0x20 8
         digest := sub b 0x28 48 } : ArchCommit))
    some ({ a with sealed := bit (fld b 6 2) 0, records := fld b 8 4, nextFree := fld b 0x10 8, generation := g
                   commits := commits },
      !(erasedBlock nb || (valid.any (fun q => q.2 == next))))

/-! ## The end of a run -/

/-- The verb's run on the card ends; under a re-pour the slot then powers down and initialises again (R64, R558). -/
def State.sdOver (s : State) : State :=
  let s := { s with cards.run := none }
  if s.stage.repourBusy then s.sdPowerDown s.cards.sdPresent else s

/-- An archive verb or ARCHIVE_PROTECT fails: LED[4] blinks after the first (R557), and a session whose lifetime ended
meanwhile ends (R532). -/
def State.archiveFails (s : State) (slot status detail : Nat) : State :=
  let verb := match s.runningItem slot with
    | some it => dVerb it.desc
    | none => 0
  let s := if verb / 16 = 0x15 then { s with cards.led4Until := s.m.now + 12000000 } else s
  let s := if status = 0x0D06 then { s with cards.sdLast := detail } else s
  let s := s.stopItem slot (.late status detail)
  match s.dcc.session with
  | some x => if x.expired && !s.ceremonyAtWork x then s.endSession 2 else s
  | none => s

/-- The block a command of the run concerns. -/
def SdRun.block (r : SdRun) : Nat :=
  match r.phase with
  | .write => (r.todo.head?.map (·.1)).getD 0
  | .newest | .scan | .read => r.blk
  | .journal | .erase => 1
  | _ => 0

/-- The running verb fails; failed transfers are recorded, and a busy limit power-cycles the card (R543). -/
def State.sdFails (s : State) (status detail : Nat) : State :=
  match s.cards.run with
  | none => s
  | some r =>
    let s := if status = 0x0D06 ∧ within 0x1003 0x1006 detail then
        s.logG 0x0A26 (le 2 detail ++ le 4 s.cards.sdR1 ++ le 8 r.block) else s
    let s := s.sdOver
    let s := if detail = 0x1005 then s.sdCycle else s
    s.archiveFails r.item status detail

/-- The running verb succeeds. -/
def State.sdDone (s : State) (it : Item) (result output : Bytes) : State :=
  s.sdOver.finishM it 0 0 result output 0 none []

/-! ## The verbs on an open archive (R553–R557) -/

/-- DCC_SD_STATUS.ARCHIVE follows the open archive. -/
def State.keepArchive (s : State) (a : Archive) : State :=
  { s with cards.archive := some a, cards.sdArchive := if a.sealed then 2 else 1 }

/-- ARCHIVE_WRITE, step 3: the data is read from host memory. -/
def State.fetchRecord (s : State) (r : SdRun) (it : Item) : State :=
  { s with cards.run := some { r with phase := .fetch } }.hostWrite (.dmaRead it.slice (dInAddr it.desc) (dInLen it.desc))

/-- ARCHIVE_WRITE, steps 3 to 5: the record is encrypted and its blocks and commit are to be written. -/
def State.writeRecord (s : State) (r : SdRun) (it : Item) (a : Archive) : State :=
  let key := s.archiveKey
  let n := dInLen it.desc
  let d := s.draw 12
  let g := a.generation + 1
  let blocks := recordBlocks n
  let head := le 4 0x52524C43 ++ le 2 1 ++ sub it.desc 0x38 2 ++ le 4 a.records ++ le 4 n ++ le 8 (dRequest it.desc) ++
    le 8 s.calOr0 ++ fit 12 d.1 ++ le 4 blocks
  let e := gcmEnc key (fit 12 d.1) (a.id ++ head) (it.input.take n)
  let todo := (blocksOf 480 (head ++ e.1 ++ e.2)).zipIdx.map (fun p =>
    (a.nextFree + p.2, makeBlock key a.id p.1 g a.records p.2 (a.nextFree + p.2)))
  let c : ArchCommit := { generation := g, record := a.records, blocks := blocks, first := a.nextFree
                          digest := sha384 ((todo.map (·.2)).flatten) }
  let next : Archive := { a with
    records := a.records + 1, nextFree := a.nextFree + blocks, generation := g
    commits := (c :: a.commits).filter (fun x => decide (g < x.generation + 2048)) }
  d.2.sdGo { r with phase := .write, record := a.records, blocks := blocks, next := some next
                    todo := todo ++ [next.commitBlock key false (some c)] }

/-- ARCHIVE_WRITE's result (R553). -/
def writeResult (record blocks already generation : Nat) : Bytes :=
  le 4 record ++ le 2 blocks ++ le 1 already ++ [0] ++ le 8 generation

/-- ARCHIVE_INFO's flags (R555). -/
def State.infoFlags (s : State) (isSealed other : Bool) : Nat :=
  b2n isSealed + 2 * b2n s.cards.sdWp + 4 * b2n s.cards.tmpWp + 8 * b2n s.cards.permWp + 16 * b2n other

/-- ARCHIVE_INFO completes with what the label and, of this domain, the current commit say (R555). -/
def State.infoDone (s : State) (it : Item) (a : Archive) (other : Bool) : State :=
  let z := fun (n : Nat) => if other then 0 else n
  s.sdDone it (le 4 (z a.records) ++ le 2 (s.infoFlags (!other && a.sealed) other) ++ le 1 s.cards.sdMode ++ [0] ++
      le 8 (z a.generation))
    (fit 16 a.id ++ fit 16 a.domain ++ le 8 a.capacity ++ le 8 (z (a.capacity - a.nextFree)))

/-- The verb goes on with its archive open. -/
def State.sdOpened (s : State) (r : SdRun) (it : Item) (a : Archive) : State :=
  match dVerb it.desc with
  | 0x0151 =>
    if a.sealed || s.sdProtected then s.sdFails 0x0D06 0x1101
    else if a.nextFree + recordBlocks (dInLen it.desc) > a.capacity then s.sdFails 0x0D06 0x1104
    else match a.commits.head? with
      | some c => s.sdGo { r with phase := .newest, blk := c.first, record := c.record }
      | none => s.fetchRecord r it
  | 0x0152 =>
    let n := fld it.desc 0x38 4
    if n ≥ a.records then s.sdFails 0x0D06 0x1105
    else match a.commits.find? (fun (c : ArchCommit) => c.record == n) with
      | some c => s.sdGo { r with phase := .read, blk := c.first, blocks := c.blocks, record := n }
      | none => s.sdGo { r with phase := .scan, blk := 2049, record := 0 }
  | 0x0153 => s.infoDone it a false
  | 0x0154 =>
    if a.sealed then s.sdDone it [] []
    else if s.sdProtected then s.sdFails 0x0D06 0x1101
    else
      let next : Archive := { a with sealed := true, generation := a.generation + 1 }
      s.sdGo { r with phase := .write, next := some next, todo := [next.commitBlock s.archiveKey false none] }
  | 0x0A19 =>
    if it.input.take 16 != a.id then s.sdFails 0x010A 0x10000
    else if !a.sealed then s.sdFails 0x0D06 0x1108
    else s.sdGo { r with phase := .csdWrite }
  | _ => s

/-- A verb whose card is READY begins its run: it opens the archive if needed (R548); ARCHIVE_FORMAT reads block 0
(R552). -/
def State.sdBegin (s : State) (slot : Nat) : State :=
  match s.runningItem slot with
  | none => s
  | some it =>
    let r : SdRun := { item := slot }
    let s := { s with cards.run := some r, cards.crcTries := 0 }
    match s.cards.archive with
    | some a => if dVerb it.desc = 0x0150 then s.sdGo r else s.sdOpened r it a
    | none => s.sdGo r

/-! ## The rows of the archive verbs (R550) -/

/-- A checked archive verb takes the card, waits for READY, or finds the slot FAILED (R550). -/
def State.sdSubmit (s : State) (slot : Nat) : Chk State :=
  if !s.cards.sdPresent then pure (s.archiveFails slot 0x0D04 0)
  else if s.cards.sdState == .failed then pure (s.archiveFails slot 0x0D06 0x1109)
  else if s.cards.run.isSome || s.cards.sdItem.isSome then waitFor
  else
    let s := s.modItem slot (fun i => { i with phase := .waiting, waits := [.flash] })
    if s.cards.sdState == .ready && !s.cards.sdBusy && s.cards.tuning.isNone && s.cards.initStep == 0 then
      pure (s.sdBegin slot)
    else pure { s with cards.sdItem := some slot }

/-- The checks of an archive verb: its inline bytes, its own checks, the domain (R550). -/
def State.archiveChecks (s : State) (it : Item) (named : List (Nat × Nat)) (own : Item → Chk Unit) : Chk Unit := do
  let _ ← s.prologue it []
  checkInline it named
  own it
  ensure s.hasDomain 0x0B02 0

/-- The frame of an archive verb: its checks, then the card. -/
def State.archiveVerb (s : State) (slot code : Nat) (wp : Bool) (named : List (Nat × Nat)) (own : Item → Chk Unit) : State :=
  s.runVerb slot code (fun s it => do
    s.archiveChecks it named own
    { s with cards.sdWp := wp }.sdSubmit slot)

/-- ARCHIVE_FORMAT's FORCE is 0 or 1. -/
def forceOk (it : Item) : Chk Unit := ensure (byteAt it.desc 0x38 ≤ 1) 0x0105 0x38

/-- No checks of its own. -/
def noOwn (_ : Item) : Chk Unit := .ok ()

/-- ARCHIVE_INFO's output. -/
def infoRoom (it : Item) : Chk Unit := checkRoom it 48

/-- ARCHIVE_FORMAT: FORCE is bit 0 of its byte. -/
def execArchiveFormat (slot : Nat) (wp : Bool) (s : State) : Host.Outcome State Fault Refusal :=
  .next (s.archiveVerb slot 0x0150 wp [(0x38, 1)] forceOk)

/-- ARCHIVE_WRITE. -/
def execArchiveWrite (slot : Nat) (wp : Bool) (s : State) : Host.Outcome State Fault Refusal :=
  .next (s.archiveVerb slot 0x0151 wp [(0x38, 2)] noOwn)

/-- ARCHIVE_READ. -/
def execArchiveRead (slot : Nat) (wp : Bool) (s : State) : Host.Outcome State Fault Refusal :=
  .next (s.archiveVerb slot 0x0152 wp [(0x38, 4)] noOwn)

/-- ARCHIVE_INFO. -/
def execArchiveInfo (slot : Nat) (wp : Bool) (s : State) : Host.Outcome State Fault Refusal :=
  .next (s.archiveVerb slot 0x0153 wp [] infoRoom)

/-- ARCHIVE_SEAL. -/
def execArchiveSeal (slot : Nat) (wp : Bool) (s : State) : Host.Outcome State Fault Refusal :=
  .next (s.archiveVerb slot 0x0154 wp [] noOwn)

/-- ARCHIVE_PROTECT: a ceremony verb that runs on the card (R557). -/
def execArchiveProtect (slot : Nat) (second : Option Nat) (s : State) : Host.Outcome State Fault Refusal :=
  .next (s.ceremonyVerb slot 0x0A19 9 false second plainInput (fun _ _ s => do
    ensureLate s.hasDomain 0x0B02 0
    ensureLate s.cards.sdPresent 0x0D04 1
    s.sdSubmit slot))

/-! ## Initialisation goes on (R539–R541) -/

/-- READY: the running verb, or the one that waits for the card, goes on. -/
def State.sdReady (s : State) : State :=
  let s := { s with cards.sdState := .ready, cards.initStep := 0, cards.tuning := none }
  match s.cards.run with
  | some r => s.sdIssueNow r
  | none => match s.cards.sdItem with
    | some i => { s with cards.sdItem := none }.sdBegin i
    | none => s

/-- A step of the initialisation fails: the card is power-cycled and tried once more without S18R, then the slot is
FAILED (R539). -/
def State.initFails (s : State) (detail : Nat) : State :=
  if !s.cards.secondTry then { s with cards.secondTry := true, cards.noS18r := true }.sdCycle
  else
    let s := { s with cards.sdState := .failed, cards.initStep := 0 }.logG 0x0A22 (le 2 detail ++ le 4 s.cards.sdR1)
    match s.cards.sdItem with
    | some i => { s with cards.sdItem := none }.archiveFails i 0x0D06 detail
    | none => s

/-- The bus mode left at the head of the list is set; with none left the default mode of the bus stands. -/
def State.sdTryMode (s : State) : State :=
  if s.cards.modes.isEmpty then { s with cards.sdMode := if s.cards.v18 then 3 else 1 }.sdReady
  else { s with cards.queried := true }.sdStep 7

/-- The next slower mode is tried. -/
def State.sdNextMode (s : State) : State := { s with cards.modes := s.cards.modes.drop 1 }.sdTryMode

/-- A tap's result; the run goes on or ends, and a window narrower than 8 taps steps to the next mode (R541). -/
def State.tuneResult (s : State) (res : List (Nat × Bool)) (ok : Bool) : State :=
  match tuneNext res with
  | .done _ _ => s
  | .try tap =>
    let res := res ++ [(tap, ok)]
    match tuneNext res with
    | .try _ => { s with cards.tuning := some res }.sdCmd 19 0
    | .done low width =>
      let s := { s with
        cards.tuning := none, cards.retunes := sat 16 (s.cards.retunes + 1), cards.tuneCommands := res.length
        cards.window := width, cards.lastTuning := s.m.now, cards.retuneDue := false }
      if width < 8 then (s.logG 0x0A25 []).sdNextMode
      else
        let tap := (low + (width - 1) / 2) % 64
        let s := { s with cards.tap := tap }
        (s.logG 0x0A24 (le 1 s.cards.sdMode ++ le 1 tap ++ le 1 width ++ le 1 res.length)).sdReady

/-- The error bits [31:19] of a card status (R543). -/
def r1Error (r : Nat) : Bool := r % 2 ^ 32 / 2 ^ 19 != 0

/-- The answer to the step of the initialisation in progress (R539, R540). -/
def State.initAnswer (s : State) (a : SdAnswer) : State :=
  match s.cards.initStep with
  | 2 => if a.resp = 0x1AA then { s with cards.v2Card := true, cards.since := s.m.now }.sdStep 3 else s.initFails 0x1002
  | 3 =>
    if bit a.resp 31 then
      let s := { s with cards.blockAddr := s.cards.v2Card && bit a.resp 30 }
      s.sdStep (if bit a.resp 24 && !s.cards.noS18r then 4 else 5)
    else if s.m.now ≥ s.cards.since + 4000000 then s.initFails 0x1001
    else s.sdStep 3
  | 4 =>
    if a.linesOk then { s with cards.v18 := true }.sdStep 5
    else (s.logG 0x0A23 []).initFails 0
  | 5 =>
    if s.cards.rca.isNone then { s with cards.rca := some (a.resp / 65536 % 65536) }.sdStep 5
    else if csdStructure a.data ≥ 2 then s.initFails 0x1002
    else
      let n := csdBlocks a.data
      { s.keepCsd (fit 16 a.data) with
        cards.sdCapacity := n
        cards.sdType := if csdStructure a.data = 0 then 1 else if n ≤ 67108864 then 2 else 3 }.sdStep 6
  | 6 =>
    let s := { s with cards.sdR1 := a.resp % 2 ^ 32 }
    if r1Error a.resp then s.initFails 0x1006 else s.sdStep 7
  | 7 =>
    if !s.cards.queried then
      let can := 256 * byteAt a.data 12 + byteAt a.data 13
      { s with cards.modes := (modeOrder s.cards.v18).filter (fun m => bit can (modeFunction m)) }.sdTryMode
    else
      let mode := s.cards.modes.headD 0
      if byteAt a.data 16 % 16 = modeFunction mode then
        let s := { s with cards.sdMode := mode }
        if tunedMode mode then { s with cards.initStep := 8 }.sdTune else s.sdReady
      else s.sdNextMode
  | _ => s

/-- A CRC error during the initialisation: the command is repeated at most twice (R542). -/
def State.initCrc (s : State) : State :=
  let s := { s with cards.crcErrors := sat 16 (s.cards.crcErrors + 1), cards.crcTries := s.cards.crcTries + 1 }
  if s.cards.crcTries < 3 then s.sdInitIssue
  else if s.cards.initStep = 7 then (if s.cards.queried then s.sdNextMode else s.sdTryMode)
  else s.initFails 0x1003

/-- No answer within 1 ms (R539). -/
def State.initTimeout (s : State) : State :=
  match s.cards.initStep with
  | 2 => { s with cards.since := s.m.now }.sdStep 3
  | 3 => s.initFails 0x1001
  | 4 => (s.logG 0x0A23 []).sdStep 5
  | 7 => if s.cards.queried then s.sdNextMode else s.sdTryMode
  | _ => s.initFails 0x1004

/-! ## A run goes on (R548, R552–R557) -/

/-- ARCHIVE_FORMAT after its erase: the label with a new ARCHIVE_ID, then the first commit (R552). -/
def State.formatWrite (s : State) (r : SdRun) : State :=
  let d := s.draw 16
  let key := s.archiveKey
  let a : Archive := { id := fit 16 d.1, domain := s.domainIdNow, capacity := s.cards.sdCapacity, generation := 1 }
  let label := makeBlock key a.id (le 4 0x41524C43 ++ le 2 1 ++ zeros 2 ++ a.id ++ fit 16 a.domain ++ fit 16 s.fuses.serial ++
    le 8 s.calOr0 ++ le 8 a.capacity) 0 0xFFFFFFFE 0 0
  d.2.sdGo { r with phase := .write, next := some a, todo := [(0, label), a.commitBlock key true none] }

/-- The label answers: ARCHIVE_FORMAT checks it and erases the journal; an opening goes on to the journal
(R548, R552). -/
def State.labelRead (s : State) (r : SdRun) (it : Item) (b : Bytes) : State :=
  if dVerb it.desc = 0x0150 then
    if fld b 0 4 = 0x41524C43 ∧ byteAt it.desc 0x38 % 2 = 0 then s.sdFails 0x0D06 0x1107
    else if s.sdProtected then s.sdFails 0x0D06 0x1101
    else { s with cards.archive := none, cards.sdArchive := 0 }.sdGo { r with phase := .erase }
  else
    let a : Archive := { id := sub b 8 16, domain := sub b 0x18 16, capacity := fld b 0x40 8 }
    if fld b 0 4 ≠ 0x41524C43 ∨ fld b 4 2 ≠ 1 then { s with cards.sdArchive := 4 }.sdFails 0x0D06 0x1102
    else if a.domain ≠ fit 16 s.domainIdNow then
      let s := { s with cards.sdArchive := 3 }
      if dVerb it.desc = 0x0153 then s.infoDone it a true else s.sdFails 0x0D06 0x1103
    else if !blockOk s.archiveKey a.id b 0 then { s with cards.sdArchive := 4 }.sdFails 0x0D06 0x1102
    else s.sdGo { r with phase := .journal, label := b, next := some a }

/-- The journal answers: the archive is open, a torn commit is recorded (R548); without a valid commit it counts as
not formatted. -/
def State.journalRead (s : State) (r : SdRun) (it : Item) (data : Bytes) : State :=
  match r.next with
  | none => s
  | some a => match readJournal s.archiveKey a (fit 1048576 data) with
    | none => { s with cards.sdArchive := 4 }.sdFails 0x0D06 0x1102
    | some (a, torn) =>
      let s := if torn then s.logG 0x0A28 (le 8 a.generation ++ le 8 (a.generation + 1)) else s
      (s.keepArchive a).sdOpened r it a

/-- The newest record's first block: a record of the same request, type and length exists already (R553 step 2). -/
def State.newestRead (s : State) (r : SdRun) (it : Item) (a : Archive) (b : Bytes) : State :=
  match a.commits.head? with
  | none => s
  | some c =>
    if blockOk s.archiveKey a.id b c.first && fld b 0x1E0 8 == c.generation && fld b 0x1E8 4 == c.record &&
        fld b 0 4 == 0x52524C43 && sub b 6 2 == sub it.desc 0x38 2 && fld b 0xC 4 == dInLen it.desc &&
        fld b 0x10 8 == dRequest it.desc then
      s.sdDone it (writeResult c.record c.blocks 1 c.generation) []
    else s.fetchRecord r it

/-- The data of ARCHIVE_WRITE has arrived, or its read faulted (R101, R553 step 3). -/
def State.recordInput (s : State) (it : Item) (input : Bytes) (faults : List Nat) : State :=
  match s.cards.run, s.cards.archive with
  | some r, some a =>
    if r.item != it.slot || r.phase != .fetch then s
    else if faults.contains 0 then s.sdFails 0x0107 0
    else s.writeRecord r { it with input := fit (dInLen it.desc) input } a
  | _, _ => s

/-- A record fails a check (R554). -/
def State.recordBad (s : State) (n : Nat) : State := (s.logG 0x0A29 (le 4 n)).sdFails 0x0D06 0x1106

/-- A first block on the way to an older record: the record itself is read, or the next header (R554 step 1). -/
def State.scanRead (s : State) (r : SdRun) (it : Item) (a : Archive) (b : Bytes) : State :=
  let n := fld it.desc 0x38 4
  let blocks := fld b 0x2C 4
  if !(blockOk s.archiveKey a.id b r.blk && fld b 0x1E8 4 == r.record && fld b 0x1EC 4 == 0 && fld b 0 4 == 0x52524C43 &&
      fld b 8 4 == r.record && blocks == recordBlocks (fld b 0xC 4)) then s.recordBad n
  else if r.record = n then s.sdGo { r with phase := .read, blocks := blocks }
  else s.sdGo { r with blk := r.blk + blocks, record := r.record + 1 }

/-- The record in its blocks, where every check of R554 passes: its header and data. -/
def archiveRecord (key : Bytes) (a : Archive) (r : SdRun) (data : Bytes) : Option (Bytes × Bytes) :=
  let bs := blocksOf 512 data
  let head := data.take 48
  let n := fld head 0xC 4
  let c := a.commits.find? (fun (c : ArchCommit) => c.record == r.record)
  let g := match c with
    | some c => c.generation
    | none => fld data 0x1E0 8
  let stream := (bs.map (fun b => b.take 480)).flatten
  let digestOk := match c with
    | some c => fit 48 c.digest == sha384 data
    | none => true
  if bs.zipIdx.all (fun p => blockOk key a.id p.1 (r.blk + p.2) && fld p.1 0x1E0 8 == g && fld p.1 0x1E8 4 == r.record &&
        fld p.1 0x1EC 4 == p.2) &&
      fld head 0 4 == 0x52524C43 && fld head 4 2 == 1 && fld head 8 4 == r.record && within 1 131072 n &&
      fld head 0x2C 4 == r.blocks && recordBlocks n == r.blocks && digestOk then
    (gcmDec key (sub head 0x20 12) (a.id ++ head) (sub stream 48 n) (sub stream (48 + n) 16)).map (fun p => (head, p))
  else none

/-- The record's blocks are read: MEAS5 is extended, the checks are made, the data goes out (R554). -/
def State.recordRead (s : State) (r : SdRun) (it : Item) (a : Archive) (data : Bytes) : State :=
  let data := fit (512 * r.blocks) data
  let s := s.measExtend 5 (sha384 data)
  match archiveRecord s.archiveKey a r data with
  | none => s.recordBad r.record
  | some (head, d) =>
    if dOutCap it.desc < d.length then
      let s := { s.sdOver with cards.led4Until := s.m.now + 12000000 }
      (s.commitReplay it 0x0104 d.length [] 0 none []).settle it.slot 0x0104 0 d.length [] [] [.commit]
    else s.sdDone it (sub head 6 2 ++ zeros 2 ++ le 4 r.record ++ sub head 0x18 8) d

/-- The CSD is read back: the bit took, or the verb fails (R544, R556, R557). -/
def State.csdBack (s : State) (it : Item) (a : Archive) (csd : Bytes) : State :=
  let s := s.keepCsd (fit 16 csd)
  if dVerb it.desc = 0x0A19 then
    if !s.cards.permWp then s.sdFails 0x0D06 0x1007
    else match s.dcc.session with
      | none => s
      | some x => (s.sdOver.logG 0x0A2B a.id).ceremonyDone it x [] [] 0 none []
  else if !s.cards.tmpWp then s.sdFails 0x0D06 0x1007
  else (s.logG 0x0A2A a.id).sdDone it [] []

/-- The data of a running verb's command has arrived; a write or erase now holds the card busy (R543). -/
def State.runAnswer (s : State) (r : SdRun) (it : Item) (data : Bytes) : State :=
  let a := s.cards.archive.getD {}
  match r.phase with
  | .label => s.labelRead r it (fit 512 data)
  | .journal => s.journalRead r it data
  | .newest => s.newestRead r it a (fit 512 data)
  | .scan => s.scanRead r it a (fit 512 data)
  | .read => s.recordRead r it a data
  | .csdRead => s.csdBack it a data
  | .erase | .write | .csdWrite => { s with cards.sdBusy := true }
  | .fetch => s

/-- All blocks of a run are written (R552, R553, R556). -/
def State.runWritten (s : State) (r : SdRun) (it : Item) : State :=
  match r.next with
  | none => s
  | some a =>
    let s := s.keepArchive a
    match dVerb it.desc with
    | 0x0150 => (s.logG 0x0A27 a.id).sdDone it a.id []
    | 0x0151 => s.sdDone it (writeResult r.record r.blocks 0 a.generation) []
    | _ => s.sdGo { r with phase := .csdWrite }

/-- The busy of a running verb's command is over. -/
def State.runReleased (s : State) (r : SdRun) (it : Item) : State :=
  match r.phase with
  | .erase => s.formatWrite r
  | .write =>
    let todo := r.todo.drop 1
    if todo.isEmpty then s.runWritten r it else s.sdGo { r with todo := todo }
  | .csdWrite => s.sdGo { r with phase := .csdRead }
  | _ => s

/-- A CRC error or a negative CRC status token of a running verb's command: a retune in the tuned modes, and the
command again, at most twice (R542, R543). -/
def State.runCrc (s : State) (r : SdRun) : State :=
  let s := { s with cards.crcErrors := sat 16 (s.cards.crcErrors + 1), cards.crcTries := s.cards.crcTries + 1 }
  if s.cards.crcTries ≥ 3 then s.sdFails 0x0D06 0x1003
  else if tunedMode s.cards.sdMode then s.sdTune
  else s.sdIssueNow r

/-! ## The rows of the SD slot's events -/

/-- SD_INSERTED: SD_CD_N has read low for 50 ms (R536). -/
def execSdInserted (wp : Bool) (s : State) : Host.Outcome State Fault Refusal :=
  .next (
    if !s.slotsLive || !s.sdFitted || s.cards.sdPresent || s.cards.sdState == .chatter then s
    else
      let s := { s with
        cards.sdPresent := true, cards.sdWp := wp, cards.secondTry := false, cards.noS18r := false
        cards.sdChanges := changesWithin s.m.now s.cards.sdChanges [s.m.now - 200000] }
      let s := s.logG 0x0A20 []
      if s.cards.sdHold || s.stage.hubEntryDue then { s with cards.sdState := .powerPending } else s.sdPowerUp)

/-- SD_REMOVED: the first edge that shows the card gone, or a bounce before the debounce ended (R535, R536, R550). -/
def execSdRemoved (s : State) : Host.Outcome State Fault Refusal :=
  .next (
    if !s.slotsLive || !s.sdFitted then s
    else
      let c := s.cards
      let ch := changesWithin s.m.now c.sdChanges (if c.sdPresent then [s.m.now] else [s.m.now, s.m.now])
      let chatter := c.sdState == .chatter || decide (ch.length > 16)
      let s := if c.sdPresent || (chatter && c.sdState != .chatter) then
          s.logG 0x0A21 (le 1 (b2n (chatter && c.sdState != .chatter))) else s
      let hit := (match c.run with
        | some r => [r.item]
        | none => []) ++ c.sdItem.toList
      let s := if c.sdPresent && !c.sdHold then s.sdPowerDown false else s
      let s := { s with
        cards.sdPresent := false, cards.sdWp := false, cards.tmpWp := false, cards.permWp := false
        cards.sdType := 0, cards.sdCapacity := 0, cards.csd := [], cards.run := none, cards.sdItem := none
        cards.archive := none, cards.sdArchive := 0, cards.sdChanges := ch
        cards.sdState := if chatter then .chatter else if s.cards.sdHold then .poweringOff else .empty }
      hit.foldl (fun (s : State) i => s.archiveFails i 0x0D04 0) s)

/-- SD_POWER_HOLD_END: the 5 ms hold is over and a held power-up starts (R24, R535); under a re-pour it waits for stage Full,
where the new pattern may declare the slot absent (R87, R558). -/
def execSdPowerHoldEnd (s : State) : Host.Outcome State Fault Refusal :=
  .next (
    if !s.cards.sdHold then s
    else
      let s := { s with cards.sdHold := false }
      if s.cards.sdState == .powerPending && s.stage.hubEntryDue then s
      else if s.cards.sdState == .powerPending && s.cards.sdPresent && s.sdFitted && s.slotsLive then s.sdPowerUp
      else if s.cards.sdState == .powerPending || s.cards.sdState == .poweringOff then
        { s with cards.sdState := .empty, cards.sdPresent := s.cards.sdPresent && s.sdFitted }
      else s)

/-- SD_COMMAND_RESPONSE: initialisation, tuning or the transfer advances (R539–R543). -/
def execSdCommandResponse (answer : SdAnswer) (s : State) : Host.Outcome State Fault Refusal :=
  .next (
    if !s.slotsLive then s
    else match s.cards.tuning with
      | some res => s.tuneResult res (answer.crcOk && answer.data == tuningBlock)
      | none =>
        if s.cards.initStep ≠ 0 then (if answer.crcOk then s.initAnswer answer else s.initCrc)
        else match s.cards.run with
          | none => s
          | some r => match s.runningItem r.item with
            | none => s
            | some it =>
              if s.cards.sdBusy || r.phase == .fetch then s
              else if !answer.crcOk then s.runCrc r
              else
                let s := { s with cards.sdR1 := answer.resp % 2 ^ 32 }
                if r1Error answer.resp then s.sdFails 0x0D06 0x1006 else s.runAnswer r it answer.data)

/-- SD_COMMAND_TIMEOUT: no response, or a read block not begun in time (R539, R541, R543). -/
def execSdCommandTimeout (s : State) : Host.Outcome State Fault Refusal :=
  .next (
    if !s.slotsLive then s
    else match s.cards.tuning with
      | some res => s.tuneResult res false
      | none =>
        if s.cards.initStep ≠ 0 then s.initTimeout
        else if s.cards.sdBusy || s.cards.run.any (fun r => r.phase == .fetch) then s
        else s.sdFails 0x0D06 0x1004)

/-- SD_BUSY_RELEASE: DAT0 is released and CMD13 polls the card: once it is in state tran and ready for data the next
command may follow (R543). -/
def execSdBusyRelease (r1 : Nat) (s : State) : Host.Outcome State Fault Refusal :=
  .next (
    if !s.slotsLive || !s.cards.sdBusy then s
    else
      let s := { s with cards.sdR1 := r1 % 2 ^ 32 }.sdCmd 13 (65536 * s.cards.rca.getD 0)
      if !r1Error r1 && !(bits r1 9 4 == 4 && bit r1 8) then s
      else
        let s := { s with cards.sdBusy := false }
        match s.cards.run with
        | none => if s.cards.retuneDue && tunedMode s.cards.sdMode then s.sdTune else s.sdReady
        | some r => match s.runningItem r.item with
          | none => s
          | some it => if r1Error r1 then s.sdFails 0x0D06 0x1006 else s.runReleased r it)

/-- SD_BUSY_TIMEOUT: the busy limit passes; the operation ends and the card is power-cycled (R543). -/
def execSdBusyTimeout (s : State) : Host.Outcome State Fault Refusal :=
  .next (
    if !s.slotsLive || !s.cards.sdBusy then s
    else
      let s := { s with cards.sdBusy := false }
      if s.cards.run.isSome then s.sdFails 0x0D06 0x1005 else s.sdCycle)

/-- SD_RETUNE_DUE: 4 s after the last tuning; never within a command (R542). -/
def execSdRetuneDue (s : State) : Host.Outcome State Fault Refusal :=
  .next (
    if !s.slotsLive || s.cards.sdState != .ready || !tunedMode s.cards.sdMode || s.cards.tuning.isSome ||
        s.cards.initStep != 0 then s
    else if s.cards.run.isSome || s.cards.sdBusy then { s with cards.retuneDue := true }
    else s.sdTune)

end Sys2Proof.Machine
end

