-- ==== Sys2Proof/Machine/Emv.lean ====
section
/-!
DEFINITION. Dynamic card verification values and the EMV verbs (R311–R322). Where R313–R322 name EMV Book 2 without a
formula, the formula is that book's (PRESUMED, assumption log 4).
-/
namespace Sys2Proof.Machine

/-! ## Card context and card keys (R313–R316) -/

/-- A card context. -/
structure CardContext where
  /-- PAN digits -/
  pan : List Nat := []
  /-- PSN digits -/
  psn : List Nat := [0, 0]
  /-- ATC, 2 bytes -/
  atc : Bytes := []
  /-- OPTION -/
  option : Nat := 1
  /-- SESSION -/
  session : Nat := 0
  deriving DecidableEq, Repr

/-- The card context at an input offset; EMV_MK_DERIVE ignores SESSION, the DCVV verbs take only 0 (R312, R313,
R317). -/
def cardContext (input : Bytes) (off : Nat) (maxSession : Option Nat) : Chk CardContext := do
  let pan ← panAt input off
  let psn := nibbles (sub input (off + 0x0B) 1)
  ensure (psn == [15, 15] || allDigits psn) 0x010A (0x10000 + off + 0x0B)
  let opt := byteAt input (off + 0x0E)
  ensure (opt == 1 || opt == 2) 0x010A (0x10000 + off + 0x0E)
  let ses := byteAt input (off + 0x0F)
  ensure (match maxSession with
    | some m => decide (ses ≤ m)
    | none => true) 0x010A (0x10000 + off + 0x0F)
  pure { pan := pan, psn := if psn = [15, 15] then [0, 0] else psn, atc := sub input (off + 0x0C) 2, option := opt
         session := ses }

/-- Y of R314: 8 bytes. -/
def cardY (c : CardContext) : Bytes :=
  let d := c.pan ++ c.psn
  if c.option = 1 ∨ d.length ≤ 16 then packNibbles (padLeft 16 d)
  else
    let d := if d.length % 2 = 1 then 0 :: d else d
    packNibbles (takeDigits 16 (nibbles (sha1 (packNibbles d))))

/-- The card master key of an issuer master key of an ALG (R314). -/
def cardMaster (alg : Nat) (imk : Bytes) (c : CardContext) : Bytes :=
  let y := cardY c
  let inv := fun (b : Bytes) => b.map (· ^^^ 0xFF)
  if isTdes alg then oddParity (tdesEnc imk y ++ tdesEnc imk (inv y))
  else
    let z := zeros 8 ++ y
    (aesEnc imk z ++ aesEnc imk (inv z)).take imk.length

/-- The common session key of a card master key (R315). -/
def cardSession (alg : Nat) (mk atc : Bytes) : Bytes :=
  if isTdes alg then
    oddParity (tdesEnc mk (atc ++ [0xF0] ++ zeros 5) ++ tdesEnc mk (atc ++ [0x0F] ++ zeros 5))
  else (aesEnc mk (atc ++ [0xF0] ++ zeros 13) ++ aesEnc mk (atc ++ [0x0F] ++ zeros 13)).take mk.length

/-- The working key of a context; none where the SBU refuses a TDES card or session key of equal halves (R157, R314,
R316). -/
def cardWorking (alg : Nat) (imk : Bytes) (c : CardContext) : Option Bytes :=
  let mk := cardMaster alg imk c
  let w := if c.session = 1 then cardSession alg mk c.atc else mk
  if loadRefused alg mk || loadRefused alg w then none else some w

/-- The card master key and, in a session, its session key reach a key register (R160). -/
def State.loadCard (s : State) (it : Item) (alg : Nat) (imk : Bytes) (c : CardContext) : State :=
  let mk := cardMaster alg imk c
  let s := s.loadWork it alg mk
  if c.session = 1 ∧ !loadRefused alg mk then s.loadWork it alg (cardSession alg mk c.atc) else s

/-- The EMV MAC, 8 bytes (R316). -/
def emvMac (alg : Nat) (key m : Bytes) : Bytes :=
  if isTdes alg then retailMac key (pad2 8 m) else (cmacAes key m).take 8

/-- An issuer master key of listed usages, two-key TDES or AES (R283). -/
def issuerNeed (usages : List String) : KeyNeed :=
  { suit := fun a _ => a == 1 || isAes a, use := useOf 8 usages "X" }

/-! ## Dynamic card verification values (R311, R312) -/

/-- The dynamic three-digit value. -/
def dcvvOf (alg : Nat) (mk : Bytes) (pan : List Nat) (atc un expiry : Bytes) : Bytes :=
  let m := packNibbles (padLeft 16 pan) ++ atc ++ un ++ expiry
  digitText (takeDigits 3 (nibbles (if isTdes alg then retailMac mk m else (cmacAes mk m).take 8)))

/-- The checks of DCVV_GENERATE and DCVV_VERIFY: key A, the card context and the value given (R312). -/
def State.dcvvChecks (s : State) (it : Item) (verify : Bool) : Chk (KeyVal × CardContext × Bytes) := do
  let ks ← s.prologue it [issuerNeed ["E4"]]
  keyed ks do
  let k := ks.headD {}
  checkInline it []
  let c ← cardContext it.input 0 (some 0)
  zeroBytes it.input [0x16, 0x17]
  let want ← if verify then valueAt it.input 0x18 else pure []
  s.checkUses ks
  pure (k, c, want)

/-- DCVV_GENERATE and DCVV_VERIFY. -/
def State.dcvvVerb (s : State) (it : Item) (verify : Bool) (units : UnitReport) : Chk State := do
  let (k, c, want) ← s.dcvvChecks it verify
  let alg := ingotAlg k.ingot
  let s := ((s.reach12 it [k]).loadSbu it k).loadCard it alg k.key c
  match cardWorking alg k.key c with
  | none => pure (s.finishS it units 0x0205 0 [] [])
  | some w =>
    let v := dcvvOf alg w c.pan c.atc (sub it.input 0x10 4) (sub it.input 0x14 2)
    if !verify then pure (s.okS it units (v ++ zeros 13) [])
    else pure (s.finishS it units (if v = want then 0 else 0x0404) 0 [] [])

/-- DCVV_GENERATE. -/
def execDcvvGenerate (slot : Nat) (units : UnitReport) (s : State) : Host.Outcome State Fault Refusal :=
  .next (s.runVerb slot 0x0503 (fun s it => s.dcvvVerb it false units))

/-- DCVV_VERIFY. -/
def execDcvvVerify (slot : Nat) (units : UnitReport) (s : State) : Host.Outcome State Fault Refusal :=
  .next (s.runVerb slot 0x0504 (fun s it => s.dcvvVerb it true units))

/-! ## EMV_MK_DERIVE (R317) -/

/-- Step 6 for key A of EMV_MK_DERIVE: FORM 1 needs EXPORTABLE as well. -/
def masterUse (form : Nat) (i : Bytes) : Option (Nat × Nat) :=
  match useOf 8 ["E0", "E1", "E2", "E3", "E4", "E6"] "X" i with
  | some e => some e
  | none => if form = 1 ∧ !ingExportable i then some (0x020A, 0) else none

/-- The block plan of FORM 1. -/
def masterPlan (i : Bytes) (version : Nat) (keyVersion : Bytes) : BlockPlan :=
  { version := version, us := ingUsage i, alg := ingotAlg i, mode := chr 'X', keyVersion := keyVersion, exp := chr 'N'
    context := chr '0' }

/-- The checks of EMV_MK_DERIVE: its keys and the card context (R317). -/
def State.masterChecks (s : State) (it : Item) : Chk (List KeyVal × CardContext) := do
  let d := it.desc
  let form := byteAt d 0x30
  let v := byteAt d 0x31
  let kv := sub d 0x32 2
  let ks ← s.prologue it ([{ issuerNeed [] with use := masterUse form }] ++ if form = 1 then [wrapNeed 1] else [])
  keyed ks do
  let a := ks.headD {}
  let b := ks.getD 1 {}
  let alg := ingotAlg a.ingot
  let bAlg := ingotAlg b.ingot
  let plan := masterPlan a.ingot v kv
  checkInline it [(0x30, 4)]
  ensure (form ≤ 1) 0x010A 0x30
  ensure (form == 0 || versionSuits v bAlg false) 0x010A 0x31
  ensure (form == 0 || (kv.all printable && byteAt kv 0 != chr 'c')) 0x010A 0x32
  let c ← cardContext it.input 0 none
  ensure (form == 0 || strength alg (ingotBits a.ingot) ≤ strength bAlg (ingotBits b.ingot)) 0x0205 0
  checkRoom it (if form = 0 then 128 else planLen plan a.key bAlg b.key s.calOr0)
  s.checkUses ks
  pure (ks, c)

/-- EMV_MK_DERIVE. -/
def execEmvMkDerive (slot : Nat) (units : UnitReport) (s : State) : Host.Outcome State Fault Refusal :=
  .next (s.runVerb slot 0x0601 (fun s it => do
    let (ks, c) ← s.masterChecks it
    let a := ks.headD {}
    let b := ks.getD 1 {}
    let form := byteAt it.desc 0x30
    let alg := ingotAlg a.ingot
    let plan := masterPlan a.ingot (byteAt it.desc 0x31) (sub it.desc 0x32 2)
    let s := ((s.reach12 it ks).loadSbu it a).loadCard it alg a.key { c with session := 0 }
    match cardWorking alg a.key { c with session := 0 } with
    | none => pure (s.finishS it units 0x0205 0 [] [])
    | some mk =>
      if form = 1 then pure ((s.loadSbu it b).outBlock it units plan mk b)
      else pure (s.randomly it (fun s =>
        let r := s.createSym it { slice := it.slice, alg := alg, attr := 8, mods := b2n (ingExportable a.ingot)
                                  origin := 5, bits := ingotBits a.ingot, us := ingUsage a.ingot, mode := chr 'X'
                                  notBefore := ingNotBefore a.ingot, notAfter := ingNotAfter a.ingot } false mk
        r.1.okS it units r.2.2 r.2.1))))

/-! ## Cryptograms and issuer scripts (R318–R320) -/

/-- The ARPC of a method (R318). -/
def arpcOf (method alg : Nat) (key arqc data : Bytes) : Bytes :=
  match method with
  | 1 => if isTdes alg then tdesEnc key (xorB arqc (data ++ zeros 6))
    else (aesEnc key (xorB (arqc ++ zeros 8) (data ++ zeros 14))).take 8
  | 2 => (emvMac alg key (arqc ++ data)).take 4
  | _ => []

/-- The checks of EMV_ARQC_VERIFY: key A, the card context and the segments (R318). -/
def State.arqcChecks (s : State) (it : Item) : Chk (KeyVal × CardContext × List (Nat × Bytes)) := do
  let m := byteAt it.desc 0x30
  let ks ← s.prologue it [issuerNeed ["E0"]]
  keyed ks do
  checkInline it [(0x30, 1)]
  ensure (m ≤ 2) 0x010A 0x30
  let segs ← segments it [(16, 16), (8, 8), (1, 1024), if m = 0 then (0, 0) else if m = 1 then (2, 2) else (4, 12)]
  let c ← cardContext it.input (segs.headD (0, [])).1 (some 1)
  checkRoom it (if m = 0 then 0 else if m = 1 then 8 else 4)
  s.checkUses ks
  pure (ks.headD {}, c, segs)

/-- EMV_ARQC_VERIFY. -/
def execEmvArqcVerify (slot : Nat) (units : UnitReport) (s : State) : Host.Outcome State Fault Refusal :=
  .next (s.runVerb slot 0x0602 (fun s it => do
    let (k, c, segs) ← s.arqcChecks it
    let m := byteAt it.desc 0x30
    let seg := fun (i : Nat) => (segs.getD i (0, [])).2
    let alg := ingotAlg k.ingot
    let s := ((s.reach12 it [k]).loadSbu it k).loadCard it alg k.key c
    match cardWorking alg k.key c with
    | none => pure (s.finishS it units 0x0205 0 [] [])
    | some w =>
      if emvMac alg w (seg 2) ≠ seg 1 then pure (s.finishS it units 0x0402 0 [] [])
      else pure (s.okS it units [] (arpcOf m alg w (seg 1) (seg 3)))))

/-- The checks of EMV_SCRIPT_MAC: key A, the card context and the message (R319). -/
def State.scriptMacChecks (s : State) (it : Item) : Chk (KeyVal × CardContext × Bytes) := do
  let n := byteAt it.desc 0x30
  let ks ← s.prologue it [issuerNeed ["E2"]]
  keyed ks do
  checkInline it [(0x30, 1)]
  ensure (4 ≤ n && n ≤ 8) 0x010A 0x30
  let segs ← segments it [(16, 16), (1, 1024)]
  let c ← cardContext it.input (segs.headD (0, [])).1 (some 1)
  checkRoom it n
  s.checkUses ks
  pure (ks.headD {}, c, (segs.getD 1 (0, [])).2)

/-- EMV_SCRIPT_MAC. -/
def execEmvScriptMac (slot : Nat) (units : UnitReport) (s : State) : Host.Outcome State Fault Refusal :=
  .next (s.runVerb slot 0x0603 (fun s it => do
    let (k, c, msg) ← s.scriptMacChecks it
    let n := byteAt it.desc 0x30
    let alg := ingotAlg k.ingot
    let s := ((s.reach12 it [k]).loadSbu it k).loadCard it alg k.key c
    match cardWorking alg k.key c with
    | none => pure (s.finishS it units 0x0205 0 [] [])
    | some w => pure (s.okS it units [] ((emvMac alg w msg).take n))))

/-- Script data enciphered in ECB, or in CBC with a zero IV (R320). -/
def scriptEncrypt (alg : Nat) (key : Bytes) (cbc : Bool) (data : Bytes) : Bytes :=
  let b := if isTdes alg then 8 else 16
  let f := fun (x : Bytes) => if isTdes alg then tdesEnc key x else aesEnc key x
  if cbc then cbcEncWith f (zeros b) (blocksOf b data) else ((blocksOf b data).map f).flatten

/-- The checks of EMV_SCRIPT_ENCRYPT: its keys, the card context, the data and the PIN block (R320). -/
def State.scriptEncryptChecks (s : State) (it : Item) : Chk (List KeyVal × CardContext × Bytes × PinSource) := do
  let d := it.desc
  let mode := byteAt d 0x30
  let pad := byteAt d 0x31
  let src := byteAt d 0x32
  let ks ← s.prologue it ([issuerNeed ["E1"]] ++ if src = 1 then [pinNeed 1] else [])
  keyed ks do
  let a := ks.headD {}
  let b := ks.getD 1 {}
  checkInline it [(0x30, 3)]
  ensure (mode ≤ 1) 0x010A 0x30
  ensure (pad ≤ 1) 0x010A 0x31
  ensure (src ≤ 1) 0x010A 0x32
  let segs ← segments it [(16, 16), if src = 1 then (0, 0) else (1, 1024), if src = 1 then (48, 48) else (0, 0)]
  let seg := fun (i : Nat) => segs.getD i (0, [])
  let c ← cardContext it.input (seg 0).1 (some 1)
  let p ← if src = 1 then pinSource it.input (seg 2).1 (fun fmt => fmt == 1) else pure {}
  if src = 1 then pinKeyFits p b 1
  let blk := if isTdes (ingotAlg a.ingot) then 8 else 16
  let n := if src = 1 then 8 else (seg 1).2.length
  ensure (pad == 1 || n % blk == 0) 0x0108 0
  checkRoom it (if pad = 1 then (n / blk + 1) * blk else n)
  s.checkUses ks
  pure (ks, c, (seg 1).2, p)

/-- EMV_SCRIPT_ENCRYPT. -/
def execEmvScriptEncrypt (slot : Nat) (units : UnitReport) (s : State) : Host.Outcome State Fault Refusal :=
  .next (s.runVerb slot 0x0604 (fun s it => do
    let (ks, c, data, p) ← s.scriptEncryptChecks it
    let a := ks.headD {}
    let b := ks.getD 1 {}
    let mode := byteAt it.desc 0x30
    let pad := byteAt it.desc 0x31
    let src := byteAt it.desc 0x32
    let alg := ingotAlg a.ingot
    let blk := if isTdes alg then 8 else 16
    let s := (s.reach12 it ks none (if src = 1 then s.dukptTerm p else 0)).loadSbu it a
    let s := (if src = 1 then s.loadPin it p b else s).loadCard it alg a.key c
    if src = 1 ∧ pinRefused p b then pure (s.finishS it units 0x0205 0 [] []) else
    match cardWorking alg a.key c with
    | none => pure (s.finishS it units 0x0205 0 [] [])
    | some w =>
      let done := fun (data : Bytes) =>
        s.okS it units [] (scriptEncrypt alg w (mode == 1) (if pad = 1 then pad2 blk data else data))
      if src = 0 then pure (done data)
      else match readPin p.fmt (clearPin p.fmt p.pan (pinKey p b) p.block) with
        | none => pure (s.finishS it units 0x0109 0 [] [])
        | some pin => pure (done (packNibbles (pinField 2 pin [])))))

/-! ## EMV_CERT_SIGN (R321, R322) -/

/-- Digits in [lo, hi], then F nibbles to the end. -/
def paddedDigits (b : Bytes) (lo hi : Nat) : Bool :=
  (List.range (hi + 1)).any (fun n => decide (lo ≤ n) && bcdPadded (nibbles b) n)

/-- MMYY in BCD with a month of 01–12. -/
def monthYearOk (b : Bytes) : Bool :=
  let n := nibbles b
  let m := 10 * n.headD 15 + n.getD 1 15
  allDigits n && 1 ≤ m && m ≤ 12

/-- H of R322. -/
def certOverhead (type : Nat) : Nat := if type = 1 then 36 else 42

/-- The representative and the length of the remainder (R322). -/
def certRepresentative (type nS : Nat) (id expiry serial : Bytes) (p : Pub) (stat : Bytes) : Bytes × Nat :=
  let room := nS - certOverhead type
  let m := p.data.take p.k
  let e := if p.e = 3 then [3] else [1, 0, 1]
  let body := le 1 (2 * type) ++ id ++ expiry ++ serial ++ [1, 1] ++ le 1 p.k ++ le 1 e.length ++
    m.take room ++ List.replicate (room - p.k) 0xBB
  ([0x6A] ++ body ++ sha1 (body ++ m.drop room ++ e ++ stat) ++ [0xBC], p.k - room)

/-- The checks of EMV_CERT_SIGN: key A, the representative and the length of the remainder (R321). -/
def State.emvCertChecks (s : State) (it : Item) : Chk (KeyVal × Bytes × Nat) := do
  let t := byteAt it.desc 0x30
  let ks ← s.prologue it
    [{ suit := fun a kb => a == 0x10 && 1024 ≤ kb && kb ≤ 1984, use := useOf 1 ["S1"] "S" }]
  keyed ks do
  let k := ks.headD {}
  checkInline it [(0x30, 1)]
  ensure (t == 1 || t == 2) 0x010A 0x30
  let idLen := if t = 1 then 4 else 10
  let segs ← segments it [(idLen, idLen), (2, 2), (3, 3), (4, 0xFFFF), (0, 2048)]
  let seg := fun (i : Nat) => segs.getD i (0, [])
  let bad := fun (o : Nat) => 0x10000 + o
  let p ← parsePub (seg 3).2 (seg 3).1
  let nS := ingotBits k.ingot / 8
  ensure (p.alg == 0x10) 0x010A (bad (seg 3).1)
  ensure (p.k ≤ nS) 0x010A (bad ((seg 3).1 + 2))
  ensure (if t = 1 then paddedDigits (seg 0).2 3 8 else paddedDigits (seg 0).2 12 19) 0x010A (bad (seg 0).1)
  ensure (monthYearOk (seg 1).2) 0x010A (bad (seg 1).1)
  ensure (p.e == 3 || p.e == 65537) 0x010A (bad ((seg 3).1 + 1))
  ensure (t == 2 || (seg 4).2.isEmpty) 0x010A (bad (seg 4).1)
  checkRoom it nS
  s.checkUses ks
  pure (k, certRepresentative t nS (seg 0).2 (seg 1).2 (seg 2).2 p (seg 4).2)

/-- EMV_CERT_SIGN. -/
def execEmvCertSign (slot : Nat) (s : State) : Host.Outcome State Fault Refusal :=
  .next (s.runBnu slot 0x0605 (fun s it => do
    let (k, r) ← s.emvCertChecks it
    let nS := ingotBits k.ingot / 8
    let key := rsaKeyOf k
    let v := ofBE r.1
    let s := s.reach12 it [k] (some (s.ew (bnuClass 0 0x10 (ingotBits k.ingot))))
    s.onBnu it (fun s =>
      let m := s.bnuCmd it 2 k.ingot
      if v ≥ key.pub.n then .ok (s.issueOut it m (edgeOut 0x0A03))
      else if v ≤ 1 ∨ v = key.pub.n - 1 then .ok (s.issueOut it m (edgeOut 0x0A02))
      else .ok (s.issueBnu it [m.out (key.out v)] 0 0 (le 2 r.2 ++ zeros 14) (be nS (key.apply v))))))

end Sys2Proof.Machine
end

