-- ==== Sys2Proof/Machine/Data.lean ====
section
/-!
DEFINITION. Data encryption, P2PE decryption, raw blocks, MAC, digest, HMAC, FF1 and random verbs (R324–R348).
-/
namespace Sys2Proof.Machine

/-! ## Common -/

/-- Length of a cipher block of an ALG. -/
def cipherBlock (alg : Nat) : Nat := if isTdes alg then 8 else 16

/-- One block enciphered under a key of an ALG. -/
def encBlock (alg : Nat) (key b : Bytes) : Bytes := if isTdes alg then tdesEnc key b else aesEnc key b

/-- One block deciphered under a key of an ALG. -/
def decBlock (alg : Nat) (key b : Bytes) : Bytes := if isTdes alg then tdesDec key b else aesDec key b

/-- The output and input ranges overlap in a way that leaves the output undefined (R331): `inPlace` is the input
offset whose address OUT_ADDR may equal. -/
def overlaps (it : Item) (n : Nat) (inPlace : Option Nat) : Bool :=
  let a := dInAddr it.desc
  let o := dOutAddr it.desc
  n > 0 && dInLen it.desc > 0 && o < a + dInLen it.desc && a < o + n &&
    !(match inPlace with
      | some off => o == a + off
      | none => false)

/-- The output of a data verb, or undefined bytes where its range overlaps the input (R331). -/
def State.outputOver (s : State) (it : Item) (inPlace : Option Nat) (output : Bytes) : Bytes × State :=
  if overlaps it output.length inPlace then
    ((List.range output.length).map (fun i => Config.undefinedByte (s.m.draws + i)),
      { s with m.draws := s.m.draws + output.length })
  else (output, s)

/-- The data length a MAC or HMAC verification and a digest may have. -/
def dataMax : Nat := 16777216

/-! ## DATA_ENCRYPT and DATA_DECRYPT (R333–R336) -/

/-- Data enciphered or deciphered in ECB (0), CBC (1) or CTR (2). -/
def dataCrypt (mode alg : Nat) (key iv data : Bytes) (enc : Bool) : Bytes :=
  let b := cipherBlock alg
  let bs := blocksOf b data
  match mode with
  | 0 => (bs.map (if enc then encBlock alg key else decBlock alg key)).flatten
  | 1 => if enc then cbcEncWith (encBlock alg key) iv bs else cbcDecWith (decBlock alg key) iv bs
  | _ => ctrWith (encBlock alg key) b iv bs

/-- The lengths of the segments of the data verbs (R334). -/
def dataSegments (mode alg tagLen : Nat) (ivGen enc : Bool) : List (Nat → Bool) :=
  let b := cipherBlock alg
  let iv := if mode = 0 ∨ ivGen then 0 else if mode = 3 then 12 else b
  let data := match mode with
    | 2 => within 1 dataMax
    | 3 => within 0 (if enc then dataMax else 65536)
    | _ => fun n => within b dataMax n && n % b == 0
  [within iv iv, within 0 (if mode = 3 then 65536 else 0), data] ++ if mode = 3 ∧ !enc then [within tagLen tagLen] else []

/-- The checks of DATA_ENCRYPT and DATA_DECRYPT: key A and the segments (R334). -/
def State.dataChecks (s : State) (it : Item) (enc : Bool) : Chk (KeyVal × List (Nat × Bytes)) := do
  let d := it.desc
  let mode := byteAt d 0x30
  let tagLen := byteAt d 0x31
  let opts := byteAt d 0x32
  let ivGen := bit opts 0
  let ks ← s.prologue it [{ suit := fun a _ => isAes a || (mode != 3 && isTdes a)
                            use := if enc then useOf 1 ["D0"] "E" else useOf 2 ["D0"] "D" }]
  keyed ks do
  let k := ks.headD {}
  let alg := ingotAlg k.ingot
  checkInline it [(0x30, 3)]
  ensure (mode ≤ 3) 0x010A 0x30
  ensure (if mode = 3 then within 12 16 tagLen else tagLen == 0) 0x010A 0x31
  ensure (!ivGen || (enc && mode != 0)) 0x010A 0x32
  ensure (opts < 2) 0x0105 0x32
  let segs ← segmentsBy it (dataSegments mode alg tagLen ivGen enc)
  checkRoom it ((segs.getD 2 (0, [])).2.length + if mode = 3 ∧ enc then tagLen else 0)
  s.checkUses ks
  pure (k, segs)

/-- DATA_ENCRYPT and DATA_DECRYPT. -/
def State.dataVerb (s : State) (it : Item) (enc : Bool) (units : UnitReport) : Chk State := do
  let (k, segs) ← s.dataChecks it enc
  let mode := byteAt it.desc 0x30
  let tagLen := byteAt it.desc 0x31
  let ivGen := bit (byteAt it.desc 0x32) 0
  let alg := ingotAlg k.ingot
  let seg := fun (i : Nat) => segs.getD i (0, [])
  let data := (seg 2).2
  let here := some (seg 2).1
  let s := (s.reach12 it [k]).loadSbu it k
  let finish := fun (s : State) (iv : Bytes) =>
    let result := if ivGen then fit 16 iv else zeros 16
    if mode = 3 then
      if enc then
        let r := gcmEnc k.key iv (seg 1).2 data
        let o := s.outputOver it here (r.1 ++ r.2.take tagLen)
        o.2.finishP it units result o.1
      else match gcmDec k.key iv (seg 1).2 data (seg 3).2 with
        | none => s.finishS it units 0x0401 0 [] []
        | some p => let o := s.outputOver it here p; o.2.okS it units result o.1
    else
      let o := s.outputOver it here (dataCrypt mode alg k.key iv data enc)
      o.2.finishP it units result o.1
  if ivGen then
    pure (s.randomly it (fun s => let r := s.draw (if mode = 3 then 12 else cipherBlock alg); finish r.2 r.1))
  else pure (finish s (seg 0).2)

/-- DATA_ENCRYPT. -/
def execDataEncrypt (slot : Nat) (units : UnitReport) (s : State) : Host.Outcome State Fault Refusal :=
  .next (s.runVerb slot 0x0701 (fun s it => s.dataVerb it true units))

/-- DATA_DECRYPT. -/
def execDataDecrypt (slot : Nat) (units : UnitReport) (s : State) : Host.Outcome State Fault Refusal :=
  .next (s.runVerb slot 0x0702 (fun s it => s.dataVerb it false units))

/-! ## P2PE_DECRYPT (R337) -/

/-- The checks of P2PE_DECRYPT: key A and the segments (R337). -/
def State.p2peChecks (s : State) (it : Item) : Chk (KeyVal × List (Nat × Bytes)) := do
  let d := it.desc
  let scheme := byteAt d 0x30
  let mode := byteAt d 0x31
  let alg := byteAt d 0x32
  let useIv := byteAt d 0x33
  let ks ← s.prologue it [{ suit := fun a _ => dukptSuits scheme a, use := useOf 8 ["B0", "B1"] "X" }]
  keyed ks do
  let k := ks.headD {}
  checkInline it [(0x30, 4), (0x34, ksnLen scheme)]
  ensure (scheme == 1 || scheme == 2) 0x010A 0x30
  ensure (mode ≤ 1) 0x010A 0x31
  ensure (if scheme = 1 then alg == 1 else isAes alg) 0x010A 0x32
  ensure (useIv ≤ 1 && (mode == 1 || useIv == 0)) 0x010A 0x33
  ensure (ksnOk scheme (sub d 0x34 (ksnLen scheme))) 0x010A 0x34
  let b := cipherBlock alg
  let iv := if useIv = 1 then b else 0
  let segs ← segmentsBy it [within iv iv, fun n => within b 1048576 n && n % b == 0]
  ensure (scheme == 1 || strength alg (aesKeyType alg).2 ≤ strength (ingotAlg k.ingot) (ingotBits k.ingot)) 0x0205 0
  checkRoom it (segs.getD 1 (0, [])).2.length
  s.checkUses ks
  pure (k, segs)

/-- P2PE_DECRYPT. -/
def execP2peDecrypt (slot : Nat) (units : UnitReport) (s : State) : Host.Outcome State Fault Refusal :=
  .next (s.runVerb slot 0x0703 (fun s it => do
    let (k, segs) ← s.p2peChecks it
    let d := it.desc
    let scheme := byteAt d 0x30
    let mode := byteAt d 0x31
    let alg := byteAt d 0x32
    let useIv := byteAt d 0x33
    let ksn := sub d 0x34 (ksnLen scheme)
    let b := cipherBlock alg
    let data := (segs.getD 1 (0, [])).2
    let s := (s.reach12 it [k]).loadSbu it k
    let key := dukptWorking scheme k.ingot k.key ksn 7 alg false
    let s := s.loadDukpt it scheme k.ingot k.key ksn 7 alg false
    if loadRefused alg key then pure (s.finishS it units 0x0205 0 [] []) else
    let start := if useIv = 1 then (segs.headD (0, [])).2 else zeros b
    let o := s.outputOver it (some (segs.getD 1 (0, [])).1) (dataCrypt mode alg key start data false)
    pure (o.2.finishP it units [] o.1)))

/-! ## BLOCK_RAW (R338) -/

/-- The checks of BLOCK_RAW: key A (R338). -/
def State.blockRawChecks (s : State) (it : Item) : Chk KeyVal := do
  let ks ← s.prologue it [{ suit := fun a _ => isAes a || isTdes a
                            use := fun i => (useOf 1 ["D0"] "E" i).bind (fun _ => useOf 2 ["D0"] "D" i) }]
  keyed ks do
  let k := ks.headD {}
  checkInline it []
  ensure (dInLen it.desc == cipherBlock (ingotAlg k.ingot)) 0x0108 0
  s.checkUses ks
  pure k

/-- BLOCK_RAW. -/
def execBlockRaw (slot : Nat) (units : UnitReport) (s : State) : Host.Outcome State Fault Refusal :=
  .next (s.runVerb slot 0x0720 (fun s it => do
    let k ← s.blockRawChecks it
    let alg := ingotAlg k.ingot
    let enc := ingAttr k.ingot == 1
    let s := (s.reach12 it [k]).loadSbu it k
    pure (s.okS it units (fit 16 (if enc then encBlock alg k.key it.input else decBlock alg k.key it.input)) [])))

/-! ## MAC_GENERATE and MAC_VERIFY (R339, R340) -/

/-- A key's ALG is one its usage's row allows (R339). -/
def macAlgOk (i : Bytes) : Bool :=
  let u := ingUsage i
  if u = usage "M0" then isTdes (ingotAlg i) else if u = usage "M3" then ingotAlg i == 1 else true

/-- Data under a padding method of ISO/IEC 9797-1; 0 none. -/
def padData (method b : Nat) (data : Bytes) : Bytes :=
  match method with
  | 1 => pad1 b data
  | 2 => pad2 b data
  | 3 => be b (8 * data.length) ++ (if data.isEmpty ∧ Config.emptyPad3 then zeros b else pad1 b data)
  | _ => data

/-- The final output of a MAC: one block. -/
def macOf (i key data : Bytes) (pad : Nat) : Bytes :=
  let alg := ingotAlg i
  let b := cipherBlock alg
  if ingUsage i = usage "M6" then (if isTdes alg then cmacTdes key data else cmacAes key data)
  else if ingUsage i = usage "M3" then retailMac key (padData pad 8 data)
  else (blocksOf b (padData pad b data)).foldl (fun c x => encBlock alg key (xorB c x)) (zeros b)

/-- The checks of MAC_GENERATE and MAC_VERIFY: key A, the data and the MAC given (R340). -/
def State.macChecks (s : State) (it : Item) (verify : Bool) : Chk (KeyVal × Bytes × Bytes) := do
  let pad := byteAt it.desc 0x30
  let n := byteAt it.desc 0x31
  let us := ["M0", "M1", "M3", "M6"]
  let ks ← s.prologue it [{ suit := fun a _ => isAes a || isTdes a, suitUsage := macAlgOk
                            use := if verify then useVerify us else useGenerate us }]
  keyed ks do
  let k := ks.headD {}
  checkInline it [(0x30, 2)]
  ensure (if ingUsage k.ingot = usage "M6" then pad == 0 else within 1 3 pad) 0x010A 0x30
  ensure (within 4 (cipherBlock (ingotAlg k.ingot)) n) 0x010A 0x31
  let segs ← if verify then segments it [(0, dataMax), (n, n)] else
    if dInLen it.desc ≤ dataMax then pure [(0, fit (dInLen it.desc) it.input)] else stop 0x0108 0
  let data := (segs.headD (0, [])).2
  ensure (pad != 1 || !data.isEmpty) 0x0108 0
  s.checkUses ks
  pure (k, data, (segs.getD 1 (0, [])).2)

/-- MAC_GENERATE and MAC_VERIFY. -/
def State.macVerb (s : State) (it : Item) (verify : Bool) (units : UnitReport) : Chk State := do
  let (k, data, given) ← s.macChecks it verify
  let s := (s.reach12 it [k]).loadSbu it k
  let mac := (macOf k.ingot k.key data (byteAt it.desc 0x30)).take (byteAt it.desc 0x31)
  if !verify then pure (s.okS it units (fit 16 mac) [])
  else pure (s.finishS it units (if mac = given then 0 else 0x0401) 0 [] [])

/-- MAC_GENERATE. -/
def execMacGenerate (slot : Nat) (units : UnitReport) (s : State) : Host.Outcome State Fault Refusal :=
  .next (s.runVerb slot 0x0710 (fun s it => s.macVerb it false units))

/-- MAC_VERIFY. -/
def execMacVerify (slot : Nat) (units : UnitReport) (s : State) : Host.Outcome State Fault Refusal :=
  .next (s.runVerb slot 0x0711 (fun s it => s.macVerb it true units))

/-! ## DIGEST (R341) -/

/-- A digest by ALG code; none where the code is not offered (R341). -/
def digestOf (alg : Nat) : Option (Nat × (Bytes → Bytes)) :=
  match alg with
  | 1 => some (32, sha256) | 2 => some (48, sha384) | 3 => some (64, sha512)
  | 4 => some (32, sha3 32) | 5 => some (48, sha3 48)
  | _ => none

/-- The checks of DIGEST: the length of the digest and its function (R341). -/
def State.digestChecks (s : State) (it : Item) : Chk (Nat × (Bytes → Bytes)) := do
  let _ ← s.prologue it []
  checkInline it [(0x30, 1)]
  match digestOf (byteAt it.desc 0x30) with
  | none => stop 0x010A 0x30
  | some h =>
    checkRoom it h.1
    pure h

/-- DIGEST. -/
def execDigest (slot : Nat) (units : UnitReport) (s : State) : Host.Outcome State Fault Refusal :=
  .next (s.runVerb slot 0x0801 (fun s it => do
    let h ← s.digestChecks it
    let s := (s.reach12 it []).hashed it (dInLen it.desc)
    let o := s.outputOver it none (h.2 (fit (dInLen it.desc) it.input))
    pure (o.2.okS it units [] o.1)))

/-! ## HMAC (R343, R344, R351, R353) -/

/-- Word length, constants, initial value and output length of an HMAC hash: 1 SHA-256, 2 SHA-384, 3 SHA-512. -/
def hashParts (h : Nat) : Nat × List Nat × List Nat × Nat :=
  if h = 1 then (32, sha256K, sha256Init, 32)
  else if h = 2 then (64, sha512K, sha384Init, 48)
  else (64, sha512K, sha512Init, 64)

/-- Inner and outer state of a key shorter than a block, under a hash (R351). -/
def hmacStates (h : Nat) (key : Bytes) : List (List Nat) :=
  let p := hashParts h
  let blk := fit (2 * p.1) key
  [sha2Run p.1 p.2.1 p.2.2.1 (blk.map (· ^^^ 0x36)), sha2Run p.1 p.2.1 p.2.2.1 (blk.map (· ^^^ 0x5C))]

/-- A hash finished from the state after its first block. -/
def finishHash (h : Nat) (st : List Nat) (m : Bytes) : Bytes :=
  let p := hashParts h
  let b := 2 * p.1
  (((sha2Run p.1 p.2.1 st ((mdPad b (p.1 / 4) (zeros b ++ m)).drop b)).map (be (p.1 / 8))).flatten).take p.2.2.2

/-- HMAC from the cached states (R351). -/
def hmacFrom (h : Nat) (states : List (List Nat)) (m : Bytes) : Bytes :=
  finishHash h (states.getD 1 []) (finishHash h (states.headD []) m)

/-- A guard key slot's record; an empty one where none is listed. -/
def State.guardSlot (s : State) (n : Nat) : GuardSlot :=
  (s.mea.slots.find? (fun (g : GuardSlot) => g.slot == n)).getD { slot := n }

/-- A guard key slot's record replaced. -/
def State.setGuardSlot (s : State) (g : GuardSlot) : State :=
  { s with mea.slots := g :: s.mea.slots.filter (fun (x : GuardSlot) => !(x.slot == g.slot)) }

/-- LOAD_PENDING: a load or clear of a slot in use is held (R354). -/
def State.loadPending (s : State) (n : Nat) : Bool :=
  (s.guardSlot n).user.isSome && s.running.any (fun x =>
    x.phase == .processing && dVerb x.desc == 0x0140 && byteAt x.desc 0x38 == n)

/-- A guard key slot for an item's HMAC: its contents, grant, mode and validity, and that no other item uses it
(R343, R353, R354). -/
def State.useSlot (s : State) (it : Item) (n : Nat) (verify : Bool) : Chk GuardSlot := do
  let g := s.guardSlot n
  if s.loadPending n then waitFor
  ensure g.loaded 0x0201 4
  ensure ((g.grantAll && it.slice != 0) || g.grants.contains it.slice) 0x0203 4
  ensure (if verify then g.mode == chr 'C' || g.mode == chr 'V'
    else g.verifyOnly || g.mode == chr 'C' || g.mode == chr 'G') 0x0204 4
  ensure (verify || !g.verifyOnly) 0x020B 4
  ensure (g.notAfter == 0 || s.calendar.isSome) 0x0207 4
  ensure (g.notAfter == 0 || decide (s.calOr0 < g.notAfter)) 0x0206 4
  match g.user with
  | some i => if i = it.slot then pure g else waitFor
  | none => pure g

/-- The checks of HMAC_GENERATE and HMAC_VERIFY: the guard key slot, key A, the data and the MAC given (R344). -/
def State.hmacChecks (s : State) (it : Item) (verify : Bool) : Chk (GuardSlot × KeyVal × Bytes × Bytes) := do
  let d := it.desc
  let h := byteAt d 0x30
  let n := byteAt d 0x31
  let slotNo := byteAt d 0x32
  let bySlot := slotNo != 0xFF
  if bySlot then checkAbsent it 0 0x32
  let g ← if bySlot && slotNo ≤ 15 then s.useSlot it slotNo verify else pure {}
  let ks ← s.prologue it (if bySlot then [] else
    [{ suit := fun a _ => a == 6, use := if verify then useVerify ["M7"] else useGenerate ["M7"] }])
  keyed ks do
  let k := ks.headD {}
  checkInline it [(0x30, 3)]
  ensure (within 1 3 h) 0x010A 0x30
  ensure (within 8 (hashBytes h) n) 0x010A 0x31
  ensure (!bySlot || slotNo ≤ 15) 0x010A 0x32
  let segs ← if verify then segments it [(0, dataMax), (n, n)] else
    if dInLen it.desc ≤ dataMax then pure [(0, fit (dInLen it.desc) it.input)] else stop 0x0108 0
  let data := (segs.headD (0, [])).2
  if !verify then checkRoom it n
  s.checkUses ks
  pure (g, k, data, (segs.getD 1 (0, [])).2)

/-- HMAC_GENERATE and HMAC_VERIFY. -/
def State.hmacVerb (s : State) (it : Item) (verify : Bool) (units : UnitReport) : Chk State := do
  let (g, k, data, given) ← s.hmacChecks it verify
  let h := byteAt it.desc 0x30
  let n := byteAt it.desc 0x31
  let bySlot := byteAt it.desc 0x32 != 0xFF
  let s := (s.reach12 it (if bySlot then [] else [k])).hashed it data.length
  let s := if bySlot then s.setGuardSlot { g with user := some it.slot } else s
  let states := if bySlot then (g.states.drop (2 * (h - 1))).take 2 else hmacStates h k.key
  let s := if bySlot then s else s.keepStates it k h states
  let mac := (hmacFrom h states data).take n
  if !verify then
    let o := s.outputOver it none mac
    pure (o.2.okS it units [] o.1)
  else pure (s.finishS it units (if mac = given then 0 else 0x0401) 0 [] [])

/-- HMAC_GENERATE. -/
def execHmacGenerate (slot : Nat) (units : UnitReport) (s : State) : Host.Outcome State Fault Refusal :=
  .next (s.runVerb slot 0x0802 (fun s it => s.hmacVerb it false units))

/-- HMAC_VERIFY. -/
def execHmacVerify (slot : Nat) (units : UnitReport) (s : State) : Host.Outcome State Fault Refusal :=
  .next (s.runVerb slot 0x0803 (fun s it => s.hmacVerb it true units))

/-! ## FF1 (R345, R346) -/

/-- A number's numerals in a radix, most significant first, m of them. -/
def numerals (radix : Nat) : Nat → Nat → List Nat
  | 0, _ => []
  | m + 1, v => numerals radix m (v / radix) ++ [v % radix]

/-- The number of a numeral string, most significant first. -/
def numOf (radix : Nat) (l : List Nat) : Nat := l.foldl (fun v d => radix * v + d) 0

/-- FF1 of SP 800-38G Rev. 1 over a numeral string. -/
def ff1 (key tweak : Bytes) (radix : Nat) (x : List Nat) (enc : Bool) : List Nat :=
  let n := x.length
  let u := n / 2
  let v := n - u
  let b := ceilDiv (Nat.log2 (radix ^ v - 1) + 1) 8
  let d := 4 * ceilDiv b 4 + 4
  let t := tweak.length
  let p := [1, 2, 1] ++ be 3 radix ++ [10] ++ be 1 (u % 256) ++ be 4 n ++ be 4 t
  let f := fun (i c : Nat) =>
    let q := tweak ++ zeros ((16 - (t + b + 1) % 16) % 16) ++ be 1 i ++ be b c
    ofBE (((blocksOf 16 (p ++ q)).foldl (fun c x => aesEnc key (xorB c x)) (zeros 16)).take d)
  let m := fun (i : Nat) => radix ^ (if i % 2 = 0 then u else v)
  let a0 := numOf radix (x.take u)
  let b0 := numOf radix (x.drop u)
  let r := if enc then
      (List.range 10).foldl (fun (s : Nat × Nat) i => (s.2, (s.1 + f i s.2) % m i)) (a0, b0)
    else
      (List.range 10).reverse.foldl (fun (s : Nat × Nat) i => ((s.2 + m i - f i s.1 % m i) % m i, s.1)) (a0, b0)
  numerals radix u r.1 ++ numerals radix v r.2

/-- The value of an ASCII numeral of a radix. -/
def numeralOf (radix : Nat) (c : Byte) : Option Nat :=
  let v := c.toNat
  let d := if 0x30 ≤ v ∧ v ≤ 0x39 then v - 0x30 else if 0x41 ≤ v ∧ v ≤ 0x5A then v - 0x37 else 99
  if d < radix then some d else none

/-- The ASCII numeral of a value. -/
def numeralChar (d : Nat) : Byte := BitVec.ofNat 8 (if d < 10 then 0x30 + d else 0x37 + d)

/-- The checks of FF1_TOKENIZE and FF1_DETOKENIZE: key A and the numerals (R345). -/
def State.ff1Checks (s : State) (it : Item) (enc : Bool) : Chk (KeyVal × List Nat) := do
  let radix := byteAt it.desc 0x30
  let ks ← s.prologue it
    [{ suit := fun a _ => isAes a, use := if enc then useOf 1 ["D0"] "E" else useOf 2 ["D0"] "D" }]
  keyed ks do
  let k := ks.headD {}
  checkInline it [(0x30, 1)]
  ensure (radix == 10 || radix == 36) 0x010A 0x30
  let n := fld it.input 0 2
  let t := byteAt it.input 2
  ensure (dInLen it.desc ≥ 4 && dInLen it.desc == 4 + t + n) 0x0103 0
  ensure (if radix = 10 then within 6 56 n else within 4 36 n) 0x010A 0x10000
  ensure (t ≤ 64) 0x010A 0x10002
  let txt := sub it.input (4 + t) n
  match (List.range n).find? (fun i => (numeralOf radix (txt.getD i 0)).isNone) with
  | some i => stop 0x0109 (4 + t + i)
  | none => pure ()
  zeroBytes it.input [3]
  checkRoom it n
  s.checkUses ks
  pure (k, txt.map (fun c => (numeralOf radix c).getD 0))

/-- FF1_TOKENIZE and FF1_DETOKENIZE. -/
def State.ff1Verb (s : State) (it : Item) (enc : Bool) (units : UnitReport) : Chk State := do
  let (k, x) ← s.ff1Checks it enc
  let s := (s.reach12 it [k]).loadSbu it k
  let tweak := sub it.input 4 (byteAt it.input 2)
  let o := s.outputOver it none ((ff1 k.key tweak (byteAt it.desc 0x30) x enc).map numeralChar)
  pure (o.2.okS it units [] o.1)

/-- FF1_TOKENIZE. -/
def execFf1Tokenize (slot : Nat) (units : UnitReport) (s : State) : Host.Outcome State Fault Refusal :=
  .next (s.runVerb slot 0x0810 (fun s it => s.ff1Verb it true units))

/-- FF1_DETOKENIZE. -/
def execFf1Detokenize (slot : Nat) (units : UnitReport) (s : State) : Host.Outcome State Fault Refusal :=
  .next (s.runVerb slot 0x0811 (fun s it => s.ff1Verb it false units))

/-! ## RANDOM (R347) -/

/-- The checks of RANDOM: the number of bytes (R347). -/
def State.randomChecks (s : State) (it : Item) : Chk Nat := do
  let _ ← s.prologue it []
  checkInline it [(0x30, 1), (0x34, 4)]
  let n := fld it.desc 0x34 4
  ensure (byteAt it.desc 0x30 < 2) 0x0105 0x30
  ensure (within 1 65536 n) 0x010A 0x34
  checkRoom it n
  pure n

/-- RANDOM: random output is a free value, and so is the same after a reseed. -/
def execRandom (slot : Nat) (units : UnitReport) (s : State) : Host.Outcome State Fault Refusal :=
  .next (s.runVerb slot 0x0820 (fun s it => do
    let n ← s.randomChecks it
    pure ((s.reach12 it []).randomly it (fun s =>
      let r := s.draw n
      r.2.okS it units [] r.1))))

end Sys2Proof.Machine
end

