-- ==== Sys2Proof/Machine/Attest.lean ====
section
/-!
DEFINITION. Guard key slots, customer measurements, the identity chain, Pelyn statements and key-origin statements
(R353, R354, R360–R370). CBOR and COSE are those of RFC 8949 and RFC 9052, which R366 names (PRESUMED, assumption
log 4).
-/
namespace Sys2Proof.Machine

/-! ## GUARD_SLOT_LOAD (R354) -/

/-- The six HMAC states of a key, in pairs by hash (R353). -/
def slotStates (key : Bytes) : List (List Nat) := hmacStates 1 key ++ hmacStates 2 key ++ hmacStates 3 key

/-- Step 6 for the key of a guard slot: ENC, M7, not COUNTED. -/
def slotUse (i : Bytes) : Option (Nat × Nat) :=
  if ingCounted i then some (0x0204, 0) else useOf 1 ["M7"] "CGV" i

/-- The grant list: each entry names an existing tenant slice. -/
def State.grantList (s : State) (input : Bytes) (n : Nat) : Chk (List Nat) := do
  let gs := (List.range (n / 2)).map (fun i => fld input (2 * i) 2)
  match (List.range (n / 2)).find? (fun i =>
    let g := gs.getD i 0
    g == 0 || g > 4095 || (s.slice g).state == 0) with
  | some i => stop 0x010A (0x10000 + 2 * i)
  | none => pure gs

/-- The checks of GUARD_SLOT_LOAD: what the slot will hold (R354). -/
def State.slotLoadChecks (s : State) (it : Item) : Chk GuardSlot := do
  let n := byteAt it.desc 0x38
  let op := byteAt it.desc 0x39
  let ks ← s.prologue it (if op = 0 then
    [{ steps := [1, 2, 3, 4, 5, 6, 7], suit := fun a _ => a == 6, use := slotUse }] else []) (op == 0)
  keyed ks do
  ensure (n ≤ 15) 0x010A 0x38
  ensure (op ≤ 1) 0x010A 0x39
  if op = 1 then pure { slot := n }
  else do
    let k := ks.headD {}
    let gs ← s.grantList it.input (dInLen it.desc)
    pure { slot := n, states := slotStates k.key, keyId := ingKeyId k.ingot, notAfter := ingNotAfter k.ingot
           mode := ingMode k.ingot, verifyOnly := ingVerifyOnly k.ingot, grantAll := bit (byteAt it.desc 0x3A) 0
           grants := gs, loaded := true }

/-- GUARD_SLOT_LOAD: held while an item uses the slot. -/
def execGuardSlotLoad (slot : Nat) (s : State) : Host.Outcome State Fault Refusal :=
  .next (match s.verbItem slot 0x0140 with
    | none => s
    | some it =>
      match s.slotLoadChecks it with
      | .error e => s.stopItem slot e
      | .ok g =>
        if (s.guardSlot g.slot).user.isSome then s
        else (s.setGuardSlot g).finishM it 0 0 (le 8 g.keyId ++ zeros 8) [] 0 none [])

/-! ## MEAS_EXTEND (R362) -/

/-- The checks of MEAS_EXTEND: the register (R362). -/
def State.extendChecks (s : State) (it : Item) : Chk Nat := do
  let _ ← s.prologue it []
  checkInline it [(0x38, 1)]
  let i := byteAt it.desc 0x38
  ensure (within 16 31 i) 0x010A 0x38
  pure i

/-- MEAS_EXTEND. -/
def execMeasExtend (slot : Nat) (s : State) : Host.Outcome State Fault Refusal :=
  .next (s.runVerb slot 0x0B13 (fun s it => do
    let i ← s.extendChecks it
    let s := s.measExtend i (fit 48 it.input)
    pure (s.finishM it 0 0 (le 4 (s.mea.measCount.getD i 0) ++ (s.mea.meas.getD i []).take 12) [] 0 none [])))

/-! ## The signer (R356, R365, R366) -/

/-- A signature of the warden's signer over a digest: hedged nonces, or the deterministic ones of RFC 6979 while
the entropy source is out of service (R356). -/
def State.wardenSignDigest (s : State) (c : Curve) (alg d hash : Nat) (h : Bytes) : Bytes × State :=
  if s.mea.rngHealthy then
    let r := ecSign c alg d h 0 (2 ^ 64) s
    (r.1.output, r.2)
  else (c.sigBytes (c.sign d (c.nonce (hmacOf hash) (hashBytes hash) d h []) h), s)

/-- A signature of the warden's signer over a message: 1 SHA-256, 2 SHA-384. -/
def State.wardenSign (s : State) (c : Curve) (alg d hash : Nat) (m : Bytes) : Bytes × State :=
  s.wardenSignDigest c alg d hash (if hash = 1 then sha256 m else sha384 m)

/-- An item whose outcome is known also waits for `n` signatures, where it did not fail (R365). -/
def State.signed (s : State) (slot n : Nat) : State :=
  match s.runningItem slot with
  | some it =>
    if it.status = 0 then
      let s := s.modItem slot (fun x => { x with waits := List.replicate n Wait.signer ++ x.waits })
      (List.range n).foldl (fun (s : State) _ => s.askSigner slot) s
    else s
  | none => s

/-- No identity root exists (R364). -/
def State.noIdentity (s : State) : Bool :=
  match s.lcState with
  | .blank => true | .test => true | .manufactured => true
  | _ => false

/-- The private scalars of the three identity keys (R207, R208). -/
def State.identityScalar (s : State) : Nat := scalarOf p384.n s.identityKeyBits
/-- The Pelyn attestation key. -/
def State.attestScalar (s : State) : Nat := scalarOf p384.n s.attestKeyBits
/-- The compatibility key. -/
def State.compatScalar (s : State) : Nat := scalarOf p256.n s.compatKeyBits

/-! ## IDENTITY_CHAIN (R363, R364) -/

/-- DER of an ECDSA signature r ‖ s. -/
def derSig (sig : Bytes) : Bytes :=
  let n := sig.length / 2
  der 0x30 (derInt (sig.take n) ++ derInt (sig.drop n))

/-- A device-issued certificate: its to-be-signed part as the manual leaves it (assumption log 12), signed with
ecdsa-with-SHA384 by the device identity key (R363). At most 1,024 bytes (R364). -/
def State.issueCert (s : State) (kind : Nat) (pub : Bytes) : Bytes × State :=
  let tbs := Config.certificate kind s.fuses.serial pub s.calOr0
  let r := s.wardenSign p384 0x21 s.identityScalar 2 tbs
  ((der 0x30 (tbs ++ der 0x30 [0x06, 0x08, 0x2A, 0x86, 0x48, 0xCE, 0x3D, 0x04, 0x03, 0x03] ++
    der 0x03 (0 :: derSig r.1))).take 1024, r.2)

/-- The two device-issued certificates exist from the first request after a cold reset (R363). -/
def State.ensureCerts (s : State) : State :=
  if s.mea.certsIssued then s
  else
    let a := s.issueCert 0 (p384.pubBytes s.attestScalar)
    let b := a.2.issueCert 1 (p256.pubBytes s.compatScalar)
    { b.2 with mea.certsIssued := true, mea.attCert := a.1, mea.compatCert := b.1 }

/-- A segment in the form of R243. -/
def segmentOf (b : Bytes) : Bytes := le 4 b.length ++ pad1 4 b

/-- The checks of IDENTITY_CHAIN (R364). -/
def State.chainChecks (s : State) (it : Item) : Chk Unit := do
  ensure (!s.noIdentity) 0x0B04 0
  let _ ← s.prologue it []
  checkInline it []
  checkRoom it 3084

/-- IDENTITY_CHAIN. -/
def execIdentityChain (slot : Nat) (units : UnitReport) (s : State) : Host.Outcome State Fault Refusal :=
  .next (s.runVerb slot 0x0B12 (fun s it => do
    s.chainChecks it
    let s := s.reach12 it []
    if s.mea.identityCert.isEmpty || cmacAes s.vendorKey s.mea.identityCert != s.mea.identityCertTag then
      pure (((s.logG 0x0604 []).countStop 0x0202).finishS it units 0x0202 5 [] [])
    else
      let n := if s.mea.certsIssued then 0 else 2
      let s := s.ensureCerts
      let out := segmentOf (s.mea.identityCert.take 1024) ++ segmentOf s.mea.attCert ++ segmentOf s.mea.compatCert
      pure ((s.okS it units [] out).signed slot n)))

/-! ## PELYN_ATTEST (R366–R368) -/

/-- A CBOR head of a major type. -/
def cborHead (major n : Nat) : Bytes :=
  let m := 32 * major
  if n < 24 then le 1 (m + n)
  else if n < 256 then le 1 (m + 24) ++ be 1 n
  else if n < 65536 then le 1 (m + 25) ++ be 2 n
  else if n < 2 ^ 32 then le 1 (m + 26) ++ be 4 n
  else le 1 (m + 27) ++ be 8 n

/-- A CBOR unsigned integer. -/
def cborUint (n : Nat) : Bytes := cborHead 0 n
/-- A CBOR byte string. -/
def cborBytes (b : Bytes) : Bytes := cborHead 2 b.length ++ b
/-- A CBOR text string of ASCII characters. -/
def cborText (b : Bytes) : Bytes := cborHead 3 b.length ++ b
/-- A CBOR array of encoded items. -/
def cborArray (l : List Bytes) : Bytes := cborHead 4 l.length ++ l.flatten
/-- A CBOR map of unsigned keys, given in ascending order, to encoded items. -/
def cborMap (l : List (Nat × Bytes)) : Bytes := cborHead 5 l.length ++ (l.map (fun p => cborUint p.1 ++ p.2)).flatten
/-- A CBOR Boolean. -/
def cborBool (b : Bool) : Bytes := [if b then 0xF5 else 0xF4]
/-- CBOR null. -/
def cborNull : Bytes := [0xF6]

/-- The map of one claimed key (key 17 of R367). -/
def claimMap (i : Bytes) : Bytes :=
  cborMap [(1, cborBytes (sub i 24 8)), (2, cborUint (ingotAlg i)), (3, cborUint (ingAttr i)), (4, cborUint (ingMods i)),
    (5, cborUint (byteAt i 11)), (6, cborUint (fld i 48 8)), (7, cborUint (ingGen i)),
    (8, cborBytes (if ingForm i = 1 then sub i 0x60 5 else sub i 0x40 32)), (9, cborUint (ingNotAfter i)),
    (10, cborText (sub i 14 2)), (11, cborText (sub i 16 1))]

/-- The payload of a statement (R367). -/
def State.pelynPayload (s : State) (it : Item) (nonce : Bytes) (mask : Nat) (claims : List Bytes) : Bytes :=
  let opt := fun (o : Option Bytes) => o.getD cborNull
  let regs := ofMask 32 mask
  let c0 := s.capacity0
  let c1 := s.capacity1
  cborMap ([(1, cborUint 1), (2, cborBytes s.fuses.serial), (3, cborUint s.fuses.stepping),
    (4, cborUint s.lcState.code),
    (5, opt (if s.hasDomain then some (cborBytes s.domainIdNow) else none)),
    (6, opt (s.calendar.map cborUint)), (7, cborUint s.devUs), (8, cborBytes nonce),
    (9, cborUint s.pat.version), (10, cborUint s.pat.fwVersion),
    (11, cborMap (regs.map (fun i =>
      (i, cborArray [cborUint (s.mea.measCount.getD i 0), cborBytes (s.mea.meas.getD i [])])))),
    (12, cborMap [(1, cborUint (bits c0 0 8)), (2, cborUint (bits c1 0 16)), (3, cborUint (bits c1 16 16)),
      (4, cborUint (bits c0 8 8)), (5, cborUint (bits c0 16 8)), (6, cborUint (bits c0 24 8))]),
    (13, cborMap [(1, cborUint (maskOf s.tam.latched)), (2, cborBool s.locked), (3, cborBool s.quenched)]),
    (14, cborUint it.slice), (15, cborUint s.newest), (16, cborUint s.stat)] ++
    if claims.isEmpty then [] else [(17, cborArray (claims.map claimMap))])

/-- The statement over a payload (R366). -/
def State.pelynStatement (s : State) (payload : Bytes) : Bytes × State :=
  let protectedHdr : Bytes := [0xA1, 0x01, 0x38, 0x22]
  let tbs := cborArray [cborText (ascii "Signature1"), cborBytes protectedHdr, cborBytes [], cborBytes payload]
  let r := s.wardenSign p384 0x21 s.attestScalar 2 tbs
  let kid := (sha384 (p384.pubBytes s.attestScalar)).take 16
  ([0xD2] ++ cborArray [cborBytes protectedHdr, cborMap [(4, cborBytes kid)], cborBytes payload, cborBytes r.1], r.2)

/-- The ingot a claimed reference names: a pinned entry's, or the bytes fetched for it. -/
def State.claimIngot (s : State) (ref : Nat) (fetched : Bytes) : Bytes :=
  match s.resolveHandle ref with
  | some e => e.ingot
  | none => fetched

/-- One of steps 1–4 of R218 for a claimed key; step 5 asks nothing of it. DETAIL is 0x10 plus its position
(R368). -/
def State.claimStep (s : State) (it : Item) (step pos ref : Nat) (i : Bytes) : Chk Unit :=
  let d := 0x10 + pos
  match step with
  | 1 => ensure (if ref ≥ 2 ^ 63 then (s.resolveHandle ref).isSome else ref != 0 && ref % 8 == 0) 0x0201 d
  | 2 =>
    let owner := match handleParts ref with
      | some p => p.1
      | none => ingSlice i
    ensure (owner == it.slice) 0x0203 d
  | 3 => ensure (s.openIngot it false i).isSome 0x0202 d
  | _ => ensure (decide (ingGen i ≥ s.genOf it.slice)) 0x0209 d

/-- The input of PELYN_ATTEST: its claimed keys by position, reference and ingot, after the lengths and fields (R368). -/
def State.attestRefs (s : State) (it : Item) (claims : List Bytes) : Chk (List (Nat × Nat × Bytes)) := do
  ensure (!s.noIdentity) 0x0B04 0
  -- KEY_COUNT lies in the input, so that the core finds what check 1 asks of it (R63, R368)
  ensure (!(s.quenched && decide (byteAt it.input 1 > 0))) 0x0B02 0
  ensure (!(s.lcState == .provisioned && decide (byteAt it.input 1 > 0))) 0x0B04 0
  let _ ← s.prologue it []
  checkInline it []
  let nl := byteAt it.input 0
  let kc := byteAt it.input 1
  let at_ := 8 + ceilDiv nl 8 * 8
  ensure (dInLen it.desc ≥ 8 && dInLen it.desc == at_ + 8 * kc) 0x0103 0
  ensure (nl ≤ 64) 0x010A 0x10000
  ensure (kc ≤ 8) 0x010A 0x10001
  zeroBytes it.input ([2, 3] ++ span (8 + nl) (at_ - 8 - nl))
  pure ((List.range kc).map (fun p =>
    let ref := fld it.input (at_ + 8 * p) 8
    (p, ref, s.claimIngot ref (claims.getD p []))))

/-- Steps of R218 for every claimed key, step by step. -/
def State.claimSteps (s : State) (it : Item) (keys : List (Nat × Nat × Bytes)) (steps : List Nat) : Chk Unit :=
  steps.forM (fun st => keys.forM (fun k => s.claimStep it st k.1 k.2.1 k.2.2))

/-- The claimed references are looked up in the caches, once steps 1 and 2 have passed (R219, R236). -/
def State.lookClaims (s : State) (slot : Nat) (claims : List Bytes) : State :=
  match s.verbItem slot 0x0B10 with
  | none => s
  | some it =>
    match (do
      let keys ← s.attestRefs it claims
      s.claimSteps it keys [1, 2]
      pure keys) with
    | .ok keys => s.missed it (keys.filter (fun k => decide (k.2.1 < 2 ^ 63) && ingForm k.2.2 == 1 &&
        (s.cachedKey it k.2.2).isNone)).length
    | .error _ => s

/-- The checks of PELYN_ATTEST: the nonce, the register mask and the claimed ingots (R368). -/
def State.attestChecks (s : State) (it : Item) (claims : List Bytes) : Chk (Bytes × Nat × List Bytes) := do
  let keys ← s.attestRefs it claims
  let nl := byteAt it.input 0
  let mask := fld it.input 4 4
  s.claimSteps it keys [1, 2, 3, 4]
  checkRoom it (264 + nl + 58 * (ofMask 32 mask).length + 86 * keys.length)
  pure (sub it.input 8 nl, mask, keys.map (fun k => k.2.2))

/-- PELYN_ATTEST: `claims` are the ingots read for the references by address, by position. -/
def execPelynAttest (slot : Nat) (claims : List Bytes) (units : UnitReport) (s : State) :
    Host.Outcome State Fault Refusal :=
  .next ((s.lookClaims slot claims).runVerb slot 0x0B10 (fun s it => do
    let (nonce, mask, ingots) ← s.attestChecks it claims
    let s := s.reach12 it [] none (ingots.length * s.ew 15)
    let r := s.pelynStatement (s.pelynPayload it nonce mask ingots)
    pure ((r.2.okS it units [] r.1).signed slot 1)))

/-! ## KEY_ORIGIN (R369, R370) -/

/-- The checks of KEY_ORIGIN: key A (R370). -/
def State.originChecks (s : State) (it : Item) : Chk KeyVal := do
  ensure (!s.noIdentity) 0x0B04 0
  let ks ← s.prologue it [{ steps := [1, 2, 3, 4, 5], deep := false, suit := fun a _ => isAsym a }]
  keyed ks do
  checkInline it []
  checkRoom it 132
  pure (ks.headD {})

/-- KEY_ORIGIN. -/
def execKeyOrigin (slot : Nat) (units : UnitReport) (s : State) : Host.Outcome State Fault Refusal :=
  .next (s.runVerb slot 0x0B11 (fun s it => do
    let k ← s.originChecks it
    let i := k.ingot
    let body := be 4 0x4B4F5247 ++ le 2 1 ++ le 2 (b2n (byteAt i 11 == 1) + 2 * b2n (!ingExportable i)) ++
      fit 16 s.fuses.serial ++ sub i 0x40 32 ++ le 1 (ingotAlg i) ++ le 1 (ingAttr i) ++ le 1 (ingMods i) ++ [0] ++
      le 8 s.calOr0
    let s := s.reach12 it [k]
    let r := s.wardenSign p256 0x20 s.compatScalar 1 body
    pure ((r.2.okS it units [] (body ++ r.1)).signed slot 1)))

end Sys2Proof.Machine
end

