-- ==== Sys2Proof/Machine/Smbus.lean ====
section
/-!
DEFINITION. The SMBus target: status commands, ALERT_CAUSE and the SMBus Quench (R68–R70).
-/
namespace Sys2Proof.Machine

/-- The target answers from stage Guard onward (R68). -/
def State.smbusUp (s : State) : Bool := s.stage.stage != .hold && s.pins.mainOn

/-- STG_STATUS.STAGE: 1 Guard, 2 Hub, 3 Full (R66). -/
def State.stageCode (s : State) : Nat :=
  match s.stage.stage with
  | .hold => 0 | .guard => 1 | .hub => 2 | .full => 3

/-- The target's address as the first byte of a write (R68). -/
def State.smbusAddr (s : State) : Nat := 2 * (0x5C + s.pins.sbAddr)

/-- The PEC of a read (R68): SMBus 3.1's CRC-8 over address, command, repeated address, byte count of a block, and data. -/
def State.readPec (s : State) (cmd : Nat) (data : Bytes) : Nat :=
  crcLeft 8 0x07 (le 1 s.smbusAddr ++ le 1 cmd ++ le 1 (s.smbusAddr + 1) ++
    (if data.length > 2 then le 1 data.length else []) ++ data)

/-- A transaction addressed to the device cancels an arm (R70), and a read answers, with its PEC. -/
def State.smbusRead (s : State) (cmd : Nat) (data : Bytes) : State :=
  if s.smbusUp then ({ s with stage.smbArm := none }).emit (.smbus cmd data (s.readPec cmd data))
  else s.emit (.smbusNack cmd)

/-- The STATUS word (R69). -/
def State.smbusStatusWord (s : State) : Nat :=
  s.stageCode + 4 * b2n s.stage.verbs + 8 * b2n s.stage.fullcap + 16 * b2n s.stage.fault +
    32 * b2n s.locked + 64 * b2n s.quenched + 128 * b2n s.stage.riserWait + 256 * s.lcState.code

/-- SMBUS_STATUS (R69). -/
def execSmbusStatus (s : State) : Host.Outcome State Fault Refusal :=
  .next (s.smbusRead 0x01 (le 2 s.smbusStatusWord))

/-- SMBUS_REASON (R69). -/
def execSmbusReason (s : State) : Host.Outcome State Fault Refusal :=
  .next (s.smbusRead 0x02 (le 2 (s.stage.reasonCode + 256 * s.stage.reasonStage)))

/-- SMBUS_CAPACITY (R69). -/
def execSmbusCapacity (s : State) : Host.Outcome State Fault Refusal :=
  .next (s.smbusRead 0x03 (le 1 s.presentClusters.length ++ le 1 (s.capUnits kindBNU) ++
    le 1 (s.capUnits kindDGU) ++ le 1 s.stage.online.length ++ le 2 (s.capUnits kindTC) ++
    le 2 (s.capUnits kindSBU)))

/-- The hottest junction in 0.25 °C; before the hub is up, the guard sensor (R69). -/
def State.smbusThermal (s : State) : Int :=
  match s.stage.stage with
  | .hold | .guard => s.gds.temps.getD 4 0
  | _ => s.chl.hottest

/-- SMBUS_THERMAL (R69). -/
def execSmbusThermal (s : State) : Host.Outcome State Fault Refusal :=
  .next (s.smbusRead 0x04 (le 2 (s.smbusThermal % 65536).toNat))

/-- SMBUS_POWER: 0 before stage Full (R69). -/
def execSmbusPower (s : State) : Host.Outcome State Fault Refusal :=
  .next (s.smbusRead 0x05 (le 2 (if s.stage.stage = .full then s.chl.pkgPower else 0)))

/-- SMBUS_SERIAL (R69). -/
def execSmbusSerial (s : State) : Host.Outcome State Fault Refusal :=
  .next (s.smbusRead 0x06 (fit 16 s.fuses.serial))

/-- SMBUS_TAMPER (R69). -/
def execSmbusTamper (s : State) : Host.Outcome State Fault Refusal :=
  .next (s.smbusRead 0x07 (le 2 (maskOf s.tam.latched)))

/-- SMBUS_HEAT: the newest sealed heat number (R69, R466). -/
def execSmbusHeat (s : State) : Host.Outcome State Fault Refusal :=
  .next (s.smbusRead 0x08 (le 8 s.newest))

/-- SMBUS_ALERT_CAUSE_READ (R69). -/
def execSmbusAlertCauseRead (s : State) : Host.Outcome State Fault Refusal :=
  .next (s.smbusRead 0x09 (le 1 s.stage.alertCause))

/-- SMBUS_ALERT_CAUSE_CLEAR: bits written as 1 clear (R69); ALERT_N follows ALERT_CAUSE (R68). With a wrong PEC it is not
acknowledged there, and discarded (R68). -/
def execSmbusAlertCauseClear (byte : SmbusByte) (s : State) : Host.Outcome State Fault Refusal :=
  .next (if s.smbusUp && byte.pec == some false then ({ s with stage.smbArm := none }).emit (.smbusNack 0x09)
    else if s.smbusUp then
      { s with stage.smbArm := none
               stage.alertCause := s.stage.alertCause &&& (255 - byte.value % 256) }
    else s.emit (.smbusNack 0x09))

/-- SMBUS_ALERT_RESPONSE: the device answers with its address while it asserts ALERT_N (R68). -/
def execSmbusAlertResponse (s : State) : Host.Outcome State Fault Refusal :=
  .next (if s.smbusUp && s.stage.alertCause != 0 then
      s.emit (.smbus 0x0C (le 1 s.smbusAddr) (crcLeft 8 0x07 (0x19 :: le 1 s.smbusAddr)))
    else s.emit (.smbusNack 0x0C))

/-- SMBUS_QUENCH_ARM: with 0xA5 and a valid PEC it arms for 100 ms; anything else cancels an arm; with the
fuse blown it is not acknowledged (R68–R70). -/
def execSmbusQuenchArm (value : Nat) (pec : Option Bool) (s : State) : Host.Outcome State Fault Refusal :=
  .next (if !s.smbusUp || s.fuses.smbusQuenchOff then s.emit (.smbusNack 0x5A)
    else if pec = some false then ({ s with stage.smbArm := none }).emit (.smbusNack 0x5A)
    else if pec = some true ∧ value = 0xA5 then
      ({ s with stage.smbArm := some s.m.now }).logG 0x0809 (le 1 1)
    else { s with stage.smbArm := none })

/-- SMBUS_QUENCH_FIRE: with 0x3C and a valid PEC within 100 ms of an arm it causes a Quench (R70, R477). -/
def execSmbusQuenchFire (value : Nat) (pec : Option Bool) (s : State) : Host.Outcome State Fault Refusal :=
  .next (if !s.smbusUp || s.fuses.smbusQuenchOff then s.emit (.smbusNack 0x5B)
    else
      let inTime := match s.stage.smbArm with
        | some t => decide (s.m.now - t ≤ 400000)
        | none => false
      let s := { s with stage.smbArm := none }
      if pec = some false then s.emit (.smbusNack 0x5B)
      else if pec = some true && value == 0x3C && inTime then s.commandedQuench 1
      else s)

/-- SMBUS_UNKNOWN_COMMAND: not acknowledged, and an arm is cancelled (R68, R70). -/
def execSmbusUnknownCommand (code : Nat) (s : State) : Host.Outcome State Fault Refusal :=
  .next (({ s with stage.smbArm := none }).emit (.smbusNack code))

/-- QUENCH_ARM_EXPIRE: 100 ms pass without a fire and the SMBus arm lapses (R70). -/
def execQuenchArmExpire (s : State) : Host.Outcome State Fault Refusal :=
  .next (if s.stage.smbArm.any (fun t => decide (s.m.now - t ≥ 400000)) then { s with stage.smbArm := none } else s)

/-- SMBUS_BUS_TIMEOUT: SB_SCL low for 30 ms: the bus is released and the interface reset (R604). -/
def execSmbusBusTimeout (s : State) : Host.Outcome State Fault Refusal :=
  .next { s with stage.smbArm := none }

end Sys2Proof.Machine
end

