-- ==== Sys2Proof/Machine/Start.lean ====
section
/-!
DEFINITION. Staged start, Anneal, re-pour, PERST_N, the power-fail save and the keep rail
(02_staged_start.md, 15_riser_persistence_time.md).
-/
namespace Sys2Proof.Machine

/-! ## Entry to Hold and the save (R47, R429–R431, R593) -/

/-- FAULT_N is driven low (R46). -/
def State.faultLow (s : State) : Bool :=
  s.stage.stage == .hold || s.stage.stoppedInGuard || s.stage.hubIdStop || s.stage.fault || s.pins.reposeSaved

/-- Commit entries that were never accepted are lost, newest first (R422, R430). -/
def State.loseWaiting (s : State) : State :=
  { (s.applyUndos ((s.per.waiting.reverse.map (fun (e : CommitEntry) => e.undo)).flatten)) with per.waiting := [] }

/-- The halt: dispatch and fetching stop, items and unwritten completions are gone (R31, R430, R65). -/
def State.haltAll (s : State) : State :=
  let s := s.loseWaiting
  { s with
    tnd.items := [], tnd.delays := [], tnd.blocked := [], tnd.rounds := [], tnd.deficits := [], tnd.dispatching := false
    queues.batches := [], queues.complBuf := [], kst.heldCounted := [], kst.pinHeld := []
    mea.signerItem := none, mea.signerQueue := [], pat.staging := none
    cards.run := none, cards.sdItem := none, ngl.mirrorWaits := [], chl.updating := false
    fabric.clusters := s.fabric.clusters.map Cluster.gated, pins := s.pins.driveHalt true }

/-- The TAP in Hold offers BYPASS and IDCODE alone (R49). -/
def State.tapHold (s : State) : State :=
  { s with lc.tapSelected := if s.lc.tapSelected = 1 then 1 else 0xFF, lc.tapPort := false, lc.extestDriven := false
           stage.held := false }

/-- Every ball takes its Hold state: link down, ports idle, card and SD slots off, the session ended (R47, R49). -/
def State.holdBalls (s : State) : State :=
  let s := (s.portsIdle.endSession 6).tapHold
  { s with host := { s.host with linkUp := false, training := none, linkWidth := 0, heldWrites := [] }
           cards := {}, dcc.keypad := {}, stage.smbArm := none, tam.armedCmd := none }

/-- Stage Hold is entered. -/
def State.enterHold (s : State) : State :=
  let s := (s.holdBalls.flushSummaries.sealRecord).haltAll
  { s with stage.stage := .hold, stage.hubEntryDue := false, pins := (s.pins.resetHub true).resetT true }

/-- HOLD_ENTRY: pin 0 RESET_N, 1 PWR_OK falls from stage Guard on (R47); during a transition the fall is held
off until its step 6 ends (R497). -/
def execHoldEntry (pin : Nat) (s : State) : Host.Outcome State Fault Refusal :=
  .next (
    let s := if pin = 0 then { s with pins.resetN := false } else { s with pins.pwrOk := false }
    let s := { s with stage.heldStart := none }
    if s.stage.stage = .hold || s.lc.running.isSome then s
    else { s.enterHold with stage.draining := true, lc.resumed := false, lc.target := 0 })

/-- POWER_FAIL_SAVE: HALT is raised, the keep rail is isolated onto VRISER, the charger goes off (R429, R430).
`cause` 0 is PFAIL_N. -/
def execPowerFailSave (cause : Nat) (s : State) : Host.Outcome State Fault Refusal :=
  .next (
    let s := if cause = 0 then { s with pins.pfailN := false } else s
    if s.stage.stage = .hold || s.stage.saving || s.pins.reposeSaved then s else
    let s := (s.flushSummaries.sealRecord).haltAll
    { s with stage.saving := true, pins.reposeSaved := true, pins.onRiser := true, per.chargerOn := false, tam.saveMask := true
             per.saveOwed := true })

/-- The drain of journal, line-cache lines, log staging buffer and counter area into MRAM (R430). -/
def State.drainAll (s : State) : State :=
  let s := s.per.journal.foldl State.entryToMram s
  let s := s.per.lines.foldl (fun (s : State) (x : LineEntry) => s.countWrite x.line) s
  let s := { s with per.journal := [], per.lines := [] }
  (s.drainStaging s.log.staging.length).checkpoint

/-- The internal cold reset and every other start of Guard begin from here: what survives a cold reset is kept,
the rest takes its reset values (R65). -/
def State.coldReset (s : State) : State :=
  let z : State := {}
  { z with
    pins := { z.pins with resetN := s.pins.resetN, pwrOk := s.pins.pwrOk, pfailN := s.pins.pfailN, perstN := s.pins.perstN
                          mainOn := s.pins.mainOn, keepRail := s.pins.keepRail, vbatOk := s.pins.vbatOk
                          sbAddr := s.pins.sbAddr }
    stage := { z.stage with reasonCode := s.stage.reasonCode, reasonStage := s.stage.reasonStage
                            reasonDetail := s.stage.reasonDetail, t0 := s.stage.t0 }
    fuses := s.fuses
    tnd := { z.tnd with tick0 := s.m.now }
    fabric := { z.fabric with maps := s.fabric.maps, fieldMap := s.fabric.fieldMap, strikes := s.fabric.strikes
                              lanes := s.fabric.lanes }
    kst := { z.kst with bbram := s.kst.bbram, bbramCheck := s.kst.bbramCheck, bbramFuse := s.kst.bbramFuse
                        counted := s.kst.counted }
    mea := { z.mea with identityCert := s.mea.identityCert, identityCertTag := s.mea.identityCertTag }
    slc := { z.slc with slices := (s.slc.slices.filter (fun x => !(x.state == 10))).map (fun (x : Slice) =>
      { x with state := if x.state = 3 then 4 else x.state, carried := none, peerReport := none, detachItems := []
               recordBad := false, attached := false, detaching := false, heldAttach := none, heldCreate := []
               hubKey := [], stalled := false, notice := 0, noticeTime := 0, statusSeq := 0, fetched := 0, posted := 0
               drainItem := [] }) }
    per := { s.per with
      journal := [], waiting := [], lines := [], counterArea := [], replayHits := 0, vriser := 0
      persistUnsafe := true, everSafe := false, unsafePerm := false, below := 0, aboveSince := none
      gateSince := none, chargerOn := false, chargerSince := 0, riserShort := false, riserFault := false
      battLow := false, wearLow := false, saveIncomplete := false, batteryLost := false, perLoaded := false
      lifeSelect := 0, coldSeq := s.per.coldSeq + 1, scopeSeq := s.per.scopeSeq + 1 }
    log := { z.log with next := s.log.next, store := s.log.store, staging := s.log.staging
                        lastCheck := s.log.lastCheck, cleared := s.log.cleared, acked := s.log.acked }
    tam := { s.tam with
      mainArmed := false, clockArmed := false, clockLost := false, clockLostAt := 0, saveMask := false, chatter := [], tripSince := [], returnSince := []
      quenchAt := none, armedCmd := none, replayed := false, decisions := 0, mismatches := 0, replayEntries := 0
      replayOverflow := 0, alarms := List.replicate 16 0 }
    lc := { z.lc with intentA := s.lc.intentA, intentB := s.lc.intentB, intentSeq := s.lc.intentSeq
                      resumed := s.lc.resumed, target := s.lc.target
                      tapIr := s.lc.tapIr, tapSelected := s.lc.tapSelected, boundaryPre := s.lc.boundaryPre
                      boundaryCap := s.lc.boundaryCap }
    dcc := { z.dcc with domainId := s.dcc.domainId, shareK := s.dcc.shareK, shareEpoch := s.dcc.shareEpoch
                        patKey0 := s.dcc.patKey0, patKey1 := s.dcc.patKey1, records := s.dcc.records }
    m := s.m
    pending := s.pending }

/-! ## Stage Guard (R50, R51) -/

/-- The start stops or is delayed for a reason (R67). -/
def State.setReason (s : State) (code detail : Nat) : State :=
  { s with stage.reasonCode := code, stage.reasonDetail := detail
           stage.reasonStage := match s.stage.stage with
             | .hold => 0 | .guard => 1 | .hub => 2 | .full => 3 }

/-- The first reason found in stage Guard stops the device there (R51). -/
def State.guardStop (s : State) (code : Nat) : State :=
  if s.stage.stoppedInGuard then s else ({ s with stage.stoppedInGuard := true }).setReason code 0

/-- The BBRAM root is compared with its check; a root that fails is erased (R205). -/
def State.checkBbram (s : State) : State :=
  if s.bbramEmpty || s.bbramCheckOf s.kst.bbram == s.kst.bbramCheck then s
  else ({ s with kst.bbram := zeros 32, kst.bbramCheck := zeros 8, kst.bbramBad := true }).logG 0x0603 []

/-- The RTC lost its power: it restarts from the time checkpoint, the calendar unset (R442). -/
def State.restoreClock (s : State) : State :=
  if s.per.rtcLost then
    ({ s with per.rtc := s.per.timeCheckpoint * 4000000, per.calSet := false, per.calSource := 0
              per.rtcHeld := false, per.rtcLost := false, per.batteryLost := true }).logG 0x0509 []
  else s

/-- A power loss whose save did not complete is found (R431). -/
def State.findLostSave (s : State) : State :=
  if s.per.saveOwed then
    (({ s with per.saveOwed := false, per.saveIncomplete := true }).logG 0x0503 []).lifeAdd 32 1
  else s

/-- Enrolment structures whose signature fails are treated as absent (R511). -/
def State.checkEnrolment (s : State) (bad : List Nat) : State :=
  let s := if bad.contains 0 && s.dcc.domainId != [] then
      ({ s with dcc.headerSigOk := false, dcc.domainId := [], dcc.shareK := 0, dcc.shareEpoch := 0
                dcc.patKey0 := [], dcc.patKey1 := [] }).logG 0x0A0D (le 1 0)
    else s
  let gone := s.dcc.records.filter (fun (r : Custodian) => bad.contains r.index)
  let s := { s with dcc.records := s.dcc.records.filter (fun (r : Custodian) => !bad.contains r.index) }
  gone.foldl (fun (s : State) (r : Custodian) => s.logG 0x0A0D (le 1 r.index)) s

/-- A transition that was waiting to be finished is finished at stage Guard, and the internal cold reset
follows (R496, R498). RESUMED and TARGET outlast that reset (R508; DEDUCED, assumption log 23), so that the start after it
can show them. -/
def State.finishPending (s : State) (inst : Installed) : State :=
  let t := s.recoverTransition inst
  if t.lc.resumed && !s.lc.resumed then
    ((t.setReason 0x03 0).sealRecord.haltAll.tapHold).drainAll.coldReset
  else t

/-- Stage Guard begins: the straps are sampled and the fuses read; copies that disagree stop it (R49, R50, R51). -/
def State.guardRead (s : State) (f : GuardFacts) : State :=
  let s := { s with stage.stage := .guard, pins.sbAddr := f.sbAddr % 4, stage.reasonCode := 0, stage.reasonStage := 0
                    stage.reasonDetail := 0, mea.rngHealthy := true }
  let s := if !f.readsAgree || s.fuses.rootA != s.fuses.rootB then s.guardStop 0x01 else s
  s.measExtend 0 (sha384 s.fuses.romPatch)

/-- Life-cycle admission, taken twice: the states decoded are the SUBJECT; a word with a defect stops the start (R481,
R487, R491). -/
def State.guardAdmission (s : State) (f : GuardFacts) : State :=
  let s := { s with tam.decisions := wrap 32 (s.tam.decisions + 1) }
  let s := match f.lcSecond with
    | none => s
    | some o =>
      if o = s.lcState.code then s
      else (s.mismatch 1 (b2n (s.lcState.code == 7)) (b2n (o == 7)) (s.lcState.code + 256 * o)).guardStop 0x02
  if s.wordDefect then (s.guardStop 0x01).logG 0x0908 [] else s

/-- The sources of the main supply are armed, and the riser timeout counts from here, also from a riser that is short (R50,
R60; DEDUCED, assumption log 20). -/
def State.guardArm (s : State) : State :=
  { s with tam := { s.tam with mainArmed := true }, per := { s.per with chargerSince := s.m.now } }

/-- The sources of the main supply are armed and the charger starts, or the riser is short (R50, R434). -/
def State.guardRiser (s : State) (f : GuardFacts) : State :=
  let s := s.guardArm
  if f.riserOk then { s with per.chargerOn := true }
  else ({ s with per.riserShort := true, per.unsafePerm := true, per.riserFault := true }).logG 0x0506 (le 1 0)

/-- The device root registers, the test root and the wear figures as Guard leaves them (R205, R210, R446). -/
def State.guardRoots (s : State) : State :=
  { s with per.perLoaded := true, kst.firOk := s.fuses.rootA == s.fuses.rootB
           kst.testRoot := s.usesTestRoot, stage.unsealed := s.usesTestRoot }.wearFigures

/-- Guard ends: a scrapped device stops there; identity keys are derived and stage Hub is due unless Guard stopped
(R51, R209). -/
def State.guardEnd (s : State) : State :=
  let s := if s.lcState = .scrapped then s.guardStop 0x04 else s
  { s with kst.idKeysReady := !s.stage.stoppedInGuard, stage.hubEntryDue := !s.stage.stoppedInGuard }

/-- STAT[2:0] becomes 001 (R50, R66); a lock flag or a QUENCHED device that Guard finds is shown in ALERT_CAUSE bit 3
(R45, R69). -/
def State.guardUp (s : State) : State :=
  let s := { s with stage.tGuard := (s.m.now - s.stage.t0) / 4 }
  if s.locked || s.quenched then s.alert 8 else s

/-- Stage Guard, its steps in order (R50, R51, R205, R209, R210, R431, R442, R458, R498). -/
def State.guardStage (s : State) (f : GuardFacts) : State :=
  let oldReason := le 2 (s.stage.reasonCode + 256 * s.stage.reasonStage) ++ le 2 s.stage.reasonDetail
  let s := ((s.guardRead f).guardAdmission f).guardRiser f
  let s := s.replayBattery.checkBbram.restoreClock.findLostSave
  let s := s.logG 0x0101 (oldReason ++ le 4 (s.lifeValue 31))
  let s := ((s.checkEnrolment f.badEnrol).guardRoots).guardUp.finishPending f.installed
  if s.stage.stage = .hold then s else s.guardEnd

/-- GUARD_START: RESET_N and PWR_OK are both high. A rise during the drain is held until it ends (R47). -/
def execGuardStart (facts : GuardFacts) (s : State) : Host.Outcome State Fault Refusal :=
  .next (if s.stage.stage != .hold || !s.pins.mainOn || !s.pins.keepRail then s
    else
      let s := { s with pins.resetN := true, pins.pwrOk := true, stage.t0 := s.m.now }
      if s.stage.draining || s.stage.saving then { s with stage.heldStart := some facts }
      else State.logStat s (s.coldReset.guardStage facts))

/-- SAVE_DRAIN_COMPLETE: the drain of Hold or of a save ends; a save writes the marker and its count, and a held
rise starts stage Guard (R47, R430, R431). -/
def execSaveDrainComplete (s : State) : Host.Outcome State Fault Refusal :=
  .next (if !s.stage.draining && !s.stage.saving then s else
    let s := s.drainAll
    let s := { s with per.timeCheckpoint := s.devUs }
    let s := if s.stage.saving then
        { (s.lifeAdd 31 1) with per.saveMarker := some (s.newest, s.per.ringSeq), per.saveOwed := false }
      else s
    let s := { s with stage.draining := false, stage.saving := false }
    match s.stage.heldStart with
    | some f =>
      let s := { s with stage.heldStart := none }
      State.logStat s (s.coldReset.guardStage f)
    | none => s)

/-- What a keep rail that falls takes with it: buffers not yet in MRAM, newest first, the staging buffer and the
open record (R431, R434). -/
def State.loseBuffers (s : State) : State :=
  let s := s.loseWaiting
  let s := s.applyUndos ((s.per.lines.reverse.map (fun (x : LineEntry) => x.undo)).flatten)
  let s := s.applyUndos ((s.per.journal.reverse.map (fun (e : CommitEntry) => e.undo)).flatten)
  let top := match s.log.store with
    | r :: _ => r.heat
    | [] => s.log.cleared
  { s with
    per.journal := [], per.lines := [], per.counterArea := [], per.lineWrites := []
    log.opened := none, log.staging := [], log.queue := [], log.next := top + 1
    log.lastCheck := match s.log.store with
      | r :: _ => r.check
      | [] => zeros 8 }

/-- KEEP_RAIL_OFF: VRISER has fallen below 2.4 V, or main power went with no riser (R430, R593). -/
def execKeepRailOff (s : State) : Host.Outcome State Fault Refusal :=
  .next (if !s.pins.keepRail then s else
    let s := if s.stage.stage = .hold then s else (s.portsIdle.tapHold).haltAll
    let s := s.loseBuffers
    let s := { s with
      stage.stage := .hold, stage.draining := false, stage.saving := false, stage.heldStart := none
      stage.hubEntryDue := false, stage.smbArm := none, lc.running := none, lc.resumed := false, lc.target := 0
      host := { s.host with linkUp := false, training := none, linkWidth := 0, heldWrites := [] }
      dcc.session := none, cards := {}, dcc.keypad := {}
      pins := { (s.pins.resetHub true).resetT true with
                onRiser := false, keepRail := false, mainOn := false, resetN := false, pwrOk := false } }
    if s.pins.vbatOk then s else s.loseBattery)

/-- KEEP_RAIL_UP: VAUX5 above 4.5 V (R593). -/
def execKeepRailUp (s : State) : Host.Outcome State Fault Refusal :=
  .next { s with pins.keepRail := true, pins.mainOn := true, pins.pfailN := true }

/-! ## Stage Hub (R33, R53) -/

/-- The lane map of a link enters the wear record: each failing wire with its spare; wires towards the hub are
numbered from 512 (R28). -/
def State.recordLanes (s : State) (link : Nat) (dn up : List Nat) : State :=
  let m := dn.zipIdx.map (fun p => (link, p.1, p.2)) ++ up.zipIdx.map (fun p => (link, 512 + p.1, p.2))
  let old := s.fabric.lanes.filter (fun e => e.1 == link)
  let s := { s with fabric.lanes := s.fabric.lanes.filter (fun e => !(e.1 == link)) ++ m }
  if old = m then s else s.commit 64 (some (lineWear link)) none []

/-- A re-pour ends the run of the old pattern: what restarts with it (R64, R65, R143, R466, R534). -/
def State.repourReset (s : State) : State :=
  let s := s.flushSummaries
  let z : State := {}
  { s with
    stage.verbs := false, stage.fullcap := false, stage.online := [], stage.restored := false, stage.bringing := none
    stage.firmwareDone := false, stage.fwTried := [], stage.patternDone := false, stage.newRetired := 0
    stage.reasonCode := 0, stage.reasonStage := 0, stage.reasonDetail := 0, stage.riserWait := false
    tnd := { z.tnd with tick0 := s.m.now, seqNo := s.tnd.seqNo, delaySeq := s.tnd.delaySeq, postSeq := s.tnd.postSeq
                        promoted := s.tnd.promoted, aged := s.tnd.aged, dispatches := s.tnd.dispatches
                        locals := s.tnd.locals, badAccess := s.tnd.badAccess, badBar := s.tnd.badBar }
    pat := { z.pat with widthLow := s.pat.widthLow, stageProgress := s.pat.stageProgress }
    queues := { s.queues with ctxs := [], batches := [], complBuf := [] }
    kst.hubCache := [], kst.pinFails := []
    kst.uniq := s.kst.hubCache.foldl (fun u e => assocSet u e.index (wrap 16 (lookupD u e.index 0 + 1))) s.kst.uniq
    log.buckets := [], log.cursor := s.oldest
    fabric.clusters := s.fabric.clusters.map Cluster.gated
    dcc := { s.dcc with session := none, lastClass := 0, lastPhase := 0, endCause := 0, lastAdmitted := []
                        lastQuorum := 0, lastIssued := 0, endedOnce := none, ceremonies := 0, keypad := {} }
    chl.updating := false
    chl.regions := s.chl.regions.map (fun (r : Region) => { r with state := 0, op := 3, bringup := 0, bringupMs := 0
                                                                   katRetired := 0 }) }

/-- The activated pattern slot is read and verified, then the other; the state names the slot in use, the
fallback, or the stop (R53, R73, R82). DESIGN CHOICE (assumption log 15): a slot that does not answer stops the start at once, the
other slot untried. -/
def State.readPattern (s : State) (a b : FlashSlot) : State :=
  let first := s.per.actPattern
  let pick := fun (slotB : Bool) => if slotB then b else a
  let putCause : State → Bool → Nat → State := fun s slotB c =>
    if slotB then { s with pat.causeB := c } else { s with pat.causeA := c }
  let s := { s with pat.rollbackShown := true }.fetchPattern (!s.stage.repourBusy) first (pick first)
  if !(pick first).answered then s.setReason 0x11 0
  else
    let r : Nat × Params × State := s.verifyPattern 4 (b2n first) (pick first)
    let s : State := putCause r.2.2 first r.1
    if r.1 = 0 then s.acceptPattern first (pick first) r.2.1
    else
    let s := s.fetchPattern false (!first) (pick (!first))
    if !(pick (!first)).answered then s.setReason 0x11 0
    else
      let q : Nat × Params × State := s.verifyPattern 4 (b2n (!first)) (pick (!first))
      let s : State := putCause q.2.2 (!first) q.1
      if q.1 = 0 then
        let s := ({ s with pat.fallback := true }).logG 0x0104 (le 1 s.pat.causeA ++ le 1 s.pat.causeB)
        s.acceptPattern (!first) (pick (!first)) q.2.1
      else (s.setReason 0x10 (s.pat.causeA + 256 * s.pat.causeB))

/-- Identifiers are fused at MANUFACTURED and compared from then on (R33). -/
def State.idsFused (s : State) : Bool := s.lcState.code ≥ 3

/-- Dies whose identifier disagrees with its fuse, of T0–T3 (R33). -/
def State.badDies (s : State) (ids : List Nat) : List Nat :=
  if s.idsFused then (List.range 4).filter (fun n => ids.getD n 0 != s.fuses.dieIds.getD n 0) else []

/-- Every shutdown a re-pour began has completed (R24, R64): items finished, slices detached, card slots and SD
off, no port shutting down. -/
def State.repourDrained (s : State) : Bool :=
  s.tnd.items.isEmpty && s.slc.slices.all (fun x => !x.detaching) && !s.slc.slice0.detaching &&
    s.cards.icc.all (fun c => !c.hold) && !s.cards.sdHold && s.ngl.ports.all (fun p => !p.shutting)

/-- The restart that asks for stage Hub is ready for it. -/
def State.hubReady (s : State) : Bool :=
  s.stage.hubEntryDue && !s.halted &&
    ((s.stage.stage == .guard && !s.stage.stoppedInGuard) || (s.stage.repourBusy && s.repourDrained))

/-- The hub leaves DIE_RESET with its stores zeroed and slice 0 in being (R53, R374); the PCIe link may train
once PERST_N is high (R54). -/
def State.hubUp (s : State) : State :=
  let s := { s with stage.tHub := (s.m.now - s.stage.t0) / 4
                    host.training := if s.pins.perstN && !s.host.linkUp then some s.m.now else s.host.training }
  -- slice 0 serves from stage Hub; after a re-pour SLICE0_REATTACH attaches it (R374)
  if s.stage.repourBusy then s else { s with slc.slice0 := { attached := true } }

/-- STAGE_HUB_ENTRY (R33, R53, R82). -/
def execStageHubEntry (start : HubStart) (s : State) : Host.Outcome State Fault Refusal :=
  .next (if !s.hubReady then s else
    let old := s
    let s := if s.stage.repourBusy then s.repourReset else s
    let s := { s with stage.stage := .hub, stage.hubEntryDue := false, pins := s.pins.resetHub false
                      tam.clockArmed := true, gds.dieIdRead := (start.dieIds ++ [0, 0, 0, 0]).take 4 ++ [start.hubId] }
    let s := if s.stage.repourBusy then s
      else (s.modLink 4 (trainLink 2 start.wiresDn start.wiresUp)).recordLanes 4 start.wiresDn start.wiresUp
    let s := if (s.fabric.links.getD 4 {}).state = 3 then s.ghFail else s
    let s :=
      if s.idsFused && start.hubId != s.fuses.dieIds.getD 4 0 then
        -- the hub goes back to reset and the link never trains
        ({ s with stage.hubIdStop := true, pins := s.pins.resetHub true, stage.dieIdBad := 16 }).setReason 0x05 4
      else if s.stage.fault then s
      else
        let s := s.readPattern start.slotA start.slotB
        let bad := s.badDies start.dieIds
        let s := if s.stage.patternDone && !bad.isEmpty then
            ({ s with stage.dieIdBad := maskOf bad }).setReason 0x12 (maskOf bad)
          else s
        s.hubUp
    -- a re-pour that stops in Hub is over (R64)
    let s := if s.stage.reasonCode != 0 then { s with stage.repourBusy := false } else s
    State.logStat old s)

/-! ## Stage Full and Anneal (R55, R57–R63) -/

/-- Unsealing: the domain keys are derived from the BBRAM domain root and released; without a root the gate only
delays the regions (R60, R63). -/
def State.unseal (s : State) : State :=
  let s := { s with stage.riserWait := false }
  let s := if s.stage.reasonCode = 0x22 then { s with stage.reasonCode := 0, stage.reasonStage := 0 } else s
  if s.usesTestRoot || s.bbramEmpty then s else { s with stage.unsealed := true, kst.domain := true }

/-- VRISER has held 4.6 V for 1 ms (R60). -/
def State.gateHeld (s : State) : Bool :=
  match s.per.gateSince with
  | some t => decide (s.m.now - t ≥ 4000)
  | none => false

/-- The riser gate as stage Full begins (R60, R63): none in a test-root state or once unsealed; open at once with
no riser, or with VRISER held. -/
def State.beginGate (s : State) : State :=
  if s.usesTestRoot || s.stage.unsealed then s
  else if s.pat.riserUf = 0 then ({ s with stage.riserTimeout := true }).unseal
  else if s.gateHeld then s.unseal
  else ({ s with stage.riserWait := true }).setReason 0x22 0

/-- A port with a PEER_n entry, enabled and not MISMATCH or shutting down, begins training in stage Full; while
QUENCHED it stays DOWN (R49, R396, R476). -/
def State.startPorts (s : State) : State :=
  (List.range 4).foldl (fun (s : State) n =>
    let p := s.port n
    if (s.pat.peers.lookup n).isSome then
      if p.enable && !p.shutting then s.modPort n (fun p => p.fall (if s.quenched then 1 else 2)) else s
    else s.modPort n (fun p => p.fall 0)) s

/-- Anneal has left no region that is usable: the device stays in Full with ANNEAL_NO_CAPACITY, after a re-pour too, which
keeps the maps; a re-pour that ends so is over (R59, R64). -/
def State.noCapacity (s : State) : State :=
  if s.stage.annealDone && s.liveRegions.isEmpty then { s with stage.repourBusy := false }.setReason 0x21 0 else s

/-- The firmware slot the pattern or the activation record names (R82). -/
def State.firstFwSlot (s : State) : Bool := if s.pat.fwSlotSel = 0xFF then s.per.actFirmware else s.pat.fwSlotSel == 1

/-- The device is held at the end of stage Hub (R55). -/
def State.hubHeld (s : State) : Bool := s.lc.tapSelected == 0x10 || s.stage.hubHold

/-- The card slots as stage Full finds them: a slot declared absent is off and its inputs are ignored; an SD power-up that a
re-pour held begins (R87, R558). -/
def State.fitSlots (s : State) : State :=
  let s := { s with cards.icc := s.cards.icc.mapIdx (fun n (c : IccSlot) =>
    if s.iccFitted n then c else { c with state := .empty, present := false, refused := false }) }
  if !s.sdFitted then { s with cards.sdState := .empty, cards.sdPresent := false, cards.archive := none, cards.sdArchive := 0 }
  else if s.cards.sdState == .powerPending && !s.cards.sdHold && s.cards.sdPresent then s.sdPowerUp else s

/-- STAGE_FULL_ENTRY: the hold of R55, or stage Full with the T-H links trained and the gate begun (R57, R60). -/
def execStageFullEntry (wiresDn wiresUp : List (List Nat)) (s : State) : Host.Outcome State Fault Refusal :=
  .next (if !(s.stage.stage == .hub && s.stage.patternDone && !s.stage.fault && !s.halted && !s.stage.hubEntryDue &&
      (s.stage.reasonCode == 0 || s.stage.reasonCode == 0x13)) then s
    else if s.hubHeld then ({ s with stage.held := true }).setReason 0x13 0
    else
      let old := s
      -- links are trained at Anneal, and again for dies that were put back in reset
      let train := !s.stage.annealDone || s.pins.dieResetT
      let s := { s with stage.stage := .full, stage.held := false, stage.reasonCode := 0, stage.reasonStage := 0
                        stage.tFull := (s.m.now - s.stage.t0) / 4, pins := s.pins.resetT false, stage.rwlLocked := true
                        chl.updating := true }
      let s := (List.range 4).foldl (fun (s : State) d =>
        if !train || s.dieOff d then s else
        let dn := wiresDn.getD d []
        let up := wiresUp.getD d []
        let s := (s.modLink d (trainLink 16 dn up)).recordLanes d dn up
        if (s.fabric.links.getD d {}).state = 3 then s.dieOffline d else s) s
      -- the firmware slot is read beside Anneal (R57)
      State.logStat old (s.startPorts.fitSlots.beginGate.noCapacity.readSlot s.pat.flash true s.firstFwSlot))

/-- One unit that failed BIST is retired and recorded (R59). -/
def State.bistUnit (s : State) (u : Nat × Nat × Nat) : State :=
  if s.unitLive u.1 u.2.1 u.2.2 then
    (s.retireUnit u.1 u.2.1 u.2.2).logEv 0x0201 (srcUnit u.1 u.2.1 u.2.2) 0xFFFF []
  else s

/-- One cluster at Anneal: it fails on an SRAM fault or with all TCs or SBUs failed, else its failed units are
retired (R19, R59). DESIGN CHOICE (assumption log 20): where several cases hold the record's cause is 3 before 1 before 2. -/
def State.bistCluster (s : State) (b : BistResult) (p : Nat) : State :=
  if !s.posUsable (physRegion p) (physPos p) then s
  else
    let bad := b.units.filter (fun u => u.1 == p)
    let dead := fun (kind : Nat) =>
      (s.liveUnits p kind).all (fun i => bad.any (fun u => u.2.1 == kind && u.2.2 == i))
    let cause := if b.sram.contains p then 3 else if dead kindTC then 1 else if dead kindSBU then 2 else 0
    if cause ≠ 0 then (s.retirePosition p).logEv 0x020A (srcCluster p) 0xFFFF (le 1 cause ++ le 1 1)
    else bad.foldl State.bistUnit s

/-- ANNEAL_BIST_COMPLETE: units, clusters, regions; the logical maps are built and CAPACITY follows (R22, R57,
R59). -/
def execAnnealBistComplete (bist : BistResult) (s : State) : Host.Outcome State Fault Refusal :=
  .next (if s.stage.stage != .full || s.stage.annealDone || s.stage.hubEntryDue || s.halted then s else
    let before := s.fabric.fieldMap.length
    let s := ((List.range 144).filter (fun p => !s.dieOff (p / 36))).foldl (fun (s : State) p => s.bistCluster bist p) s
    let s := { s with fabric.maps := (List.range 16).map s.buildMap }
    let s := (List.range 4).foldl (fun (s : State) d => s.commit 64 (some (lineWear d)) none []) s
    let badRegion := fun (g : Nat) => bist.pll.contains g || bist.switch.contains g || bist.sensor.contains g
    let s := (List.range 16).foldl (fun (s : State) g =>
      s.modRegion g (fun r => { r with
        pllFail := bist.pll.contains g, switchFail := bist.switch.contains g, bistSensor := bist.sensor.contains g
        bistFailed := (List.range 9).filter (fun k =>
          !s.posUsable g k || bist.units.any (fun u => u.1 == physNo (g / 4) (g % 4) k)) })) s
    let s := ((List.range 16).filter badRegion).foldl (fun (s : State) g =>
      s.logEv 0x020B (srcRegion g) 0xFFFF (le 1 g)) s
    let s := { s with
      stage.annealDone := true
      stage.newRetired := sat 8 (s.fabric.fieldMap.length - before)
      stage.usable := (List.range 16).filter (fun g => !badRegion g && !s.dieOff (g / 4)
        && !(s.usablePos g).isEmpty) }
    s.noCapacity)

/-- FIRMWARE_READ_COMPLETE: the slot is verified and measured, or the other slot is tried, or the device goes
back to Hub (R57, R58). -/
def execFirmwareReadComplete (slot : FlashSlot) (s : State) : Host.Outcome State Fault Refusal :=
  .next (if s.stage.stage != .full || s.stage.firmwareDone || s.stage.hubEntryDue || s.halted then s else
    let slotB := if s.stage.fwTried.isEmpty then s.firstFwSlot else !s.firstFwSlot
    let d := s.verifyFirmware 6 (b2n slotB) slot
    if d.1 = 0 then
      let s := d.2.acceptFirmware slotB slot
      if s.stage.fwTried.isEmpty then s else s.logG 0x0108 (le 1 (b2n slotB))
    else
      let s : State := { d.2 with stage.fwTried := s.stage.fwTried ++ [b2n slotB] }
      if s.stage.fwTried.length < 2 then s.readSlot s.pat.flash true (!slotB)
      else
        let old := s
        let t := { s with stage.stage := .hub, pins := s.pins.resetT true, stage.riserWait := false
                          chl.updating := false, stage.repourBusy := false, stage.patternDone := false
                          stage.online := [] }
        State.logStat old ((t.portsIdle).setReason 0x20 0))

/-! ## The riser (R60, R433) -/

/-- RISER_SAMPLE: every 100 µs: VRISER, the unseal gate and the persist-unsafe state (R60, R433). -/
def execRiserSample (mv : Nat) (s : State) : Host.Outcome State Fault Refusal :=
  .next (if s.stage.stage = .hold || s.stage.stoppedInGuard || s.pins.halt then s else
    let s := { s with per.gateSince := if mv ≥ 4600 then some (s.per.gateSince.getD s.m.now) else none }
    let s := s.riserMeasure mv
    if s.stage.riserWait && s.gateHeld then s.unseal else s)

/-- The riser timeout in ticks of 250 ns: 2 × C × 5.0 V ÷ 60 mA, at least 100 ms (R60): C in µF gives C ÷ 6 ms. -/
def State.riserTimeoutTicks (s : State) : Nat := max 400000 (ceilDiv (s.pat.riserUf * 4000) 6)

/-- RISER_TIMEOUT: the timeout, counted from the enabling of the charger, expires and the gate opens anyway (R60). -/
def execRiserTimeout (s : State) : Host.Outcome State Fault Refusal :=
  .next (if s.stage.riserWait && !s.pins.halt && decide (s.m.now - s.per.chargerSince ≥ s.riserTimeoutTicks) then
      (({ s with stage.riserTimeout := true }).logG 0x0107 []).unseal
    else s)

/-! ## Restore and bring-up (R61, R62) -/

/-- A logical map that Anneal changed waits for the commit buffer, and is not used before (R22). -/
def State.mapsWait (s : State) : Bool :=
  s.per.waiting.any (fun (e : CommitEntry) => (List.range 4).any (fun d => e.line == some (lineWear d)))

/-- SLICE_RESTORE_COMPLETE: records that fail their check are FENCED, mismatched counted records marked, lockout
timers made again, and the regions begin (R61, R148, R231, R375, R428). -/
def execSliceRestoreComplete (badSlices badCounted : List Nat) (s : State) : Host.Outcome State Fault Refusal :=
  .next (if !(s.stage.stage == .full && s.stage.annealDone && s.stage.firmwareDone && !s.stage.riserWait &&
      !s.stage.restored && !s.stage.fault && !s.stage.hubEntryDue && !s.mapsWait && !s.halted) then s
    else
      let bad := s.slc.slices.filter (fun (x : Slice) => badSlices.contains x.number && x.state != 0)
      let s := { s with
        stage.restored := true
        slc.slices := s.slc.slices.map (fun (x : Slice) =>
          if badSlices.contains x.number && x.state != 0 then { x with state := 8, recordBad := true } else x)
        kst.counted := s.kst.counted.map (fun (c : CountedRec) =>
          if badCounted.contains c.index then { c with check := [] } else c)
        per.ring := validSlots s.per.ring }
      let s := bad.foldl (fun (s : State) (x : Slice) => s.logEv 0x0B01 srcGuard x.number (le 2 x.number)) s
      let s := s.slc.slices.foldl (fun (s : State) (x : Slice) => x.lockouts.foldl (fun (s : State) l =>
        if s.hasDelay (.pinLockout x.number l.1) || x.state == 6 then s
        else s.armLockout x.number l.1 ((l.2 - s.rtcSec) * 1000000)) s) s
      s.startBringUp)

/-- REGION_BRINGUP_COMPLETE: units that failed their known-answer tests retire (recorded, by DESIGN CHOICE of assumption log
20, under the code 0x0201 of a unit that Anneal retires), the region is online, verbs are
accepted from the first region on, FULLCAP with the last, and the next region starts (R61, R62). -/
def execRegionBringupComplete (region katMs : Nat) (failed : List (Nat × Nat × Nat)) (s : State) :
    Host.Outcome State Fault Refusal :=
  .next (if s.stage.bringing != some region || !s.liveRegions.contains region || s.stage.fault || s.halted then s else
    let old := s
    let mine := failed.filter (fun u => physRegion u.1 == region && s.unitLive u.1 u.2.1 u.2.2)
    let s := mine.foldl State.bistUnit s
    let s := s.modRegion region (fun r => { r with bringup := 6, bringupMs := sat 16 katMs, katRetired := sat 8 mine.length })
    let s := (s.regionOn region)
    let s := { s with stage.online := s.stage.online ++ [region] }
    let first := !s.stage.verbs
    let s := if first then
        { s with stage.verbs := true, tnd.dispatching := true, stage.tVerbs := (s.m.now - s.stage.t0) / 4
                 stage.repourBusy := false }
      else s
    let s := s.bringNext
    (State.logStat old s).dropNoCapacity.offerAll)

/-! ## Re-pour, holds, PERST_N and the link (R54, R55, R64, R65, R121, R374) -/

/-- A re-pour begins: every slice detaches, the card slots, keypad and ports shut down (R64). -/
def State.beginRepour (s : State) : State :=
  let s := { (s.logG 0x0102 []) with
    stage.repourBusy := true, stage.repourPending := false, stage.held := false, stage.bringing := none
    stage.t0 := s.m.now, stage.tGuard := 0, stage.tHub := 0, stage.tFull := 0, stage.tVerbs := 0, stage.tFullcap := 0
    per.scopeSeq := s.per.scopeSeq + 1, tnd.dispatching := false }
  let s := ((s.slc.slices.filter (fun x => x.attached)).map (fun x => x.number)).foldl
    (fun (s : State) n => s.beginDetach n false) s
  let s := s.beginDetach 0 false
  let nums := s.slc.offers.map (fun o => o.slice)
  let s := { s with slc.offers := [], slc.slices := s.slc.slices.filter (fun x => !(nums.contains x.number && x.state == 10)) }
  let s := (s.endSession 6).deactivateCards
  let s := if s.cards.sdState = .empty || s.cards.sdState = .disabled || s.cards.run.isSome || s.cards.sdItem.isSome then s
    else s.sdPowerDown s.cards.sdPresent
  let s := { s with dcc.keypad := {}
                    ngl.ports := s.ngl.ports.map (fun (p : Port) =>
                      if p.state = 0 then p else { p.fall 1 with shutting := true }) }
  { s with stage.hubEntryDue := true }

/-- STG_REPOUR: acted on only with KEY 0xC1A5; held while a re-pour runs (R64). -/
def execStgRepour (key : Nat) (s : State) : Host.Outcome State Fault Refusal :=
  .next (if key % 65536 != 0xC1A5 || !s.gBlock || s.halted then s
    else if s.stage.repourBusy then { s with stage.repourPending := true }
    else s.beginRepour)

/-- REPOUR_PENDING_START: a held re-pour starts once the running one reaches STAT 100 or stops in Hub (R64). -/
def execRepourPendingStart (s : State) : Host.Outcome State Fault Refusal :=
  .next (if s.stage.repourPending && !s.stage.repourBusy && !s.halted then s.beginRepour else s)

/-- STG_HUB_HOLD_WRITE: sets or clears the hold of R55; clearing it releases a held device unless the TAP's
HUB_HOLD still stands. -/
def execStgHubHoldWrite (value : Bool) (s : State) : Host.Outcome State Fault Refusal :=
  .next (if !s.gBlock then s else
    let s := { s with stage.hubHold := value }
    if !value && s.stage.held && s.lc.tapSelected != 0x10 then { s with stage.held := false } else s)

/-- PERST_N_ASSERT: the host port goes down, configuration space resets, and every slice begins to detach (R65,
R121). Before stage Hub PERST_N is ignored (R49). -/
def execPerstNAssert (s : State) : Host.Outcome State Fault Refusal :=
  .next (
    let s := { s with pins.perstN := false }
    if !s.fromHub || s.pins.halt then s else
    let s := { s with
      host := { s.host with linkUp := false, training := none, linkWidth := 0, cfg := {}, pasidEnable := false, d3hot := false
                            heldWrites := [], msix := [] }
      per.scopeSeq := s.per.scopeSeq + 1 }
    let s := ((s.slc.slices.filter (fun x => x.attached)).map (fun x => x.number)).foldl
      (fun (s : State) n => s.beginDetach n true) s
    s.beginDetach 0 true)

/-- PERST_N_DEASSERT: from stage Hub on, the training anchor (R54); with the hub held in reset it never trains
(R33). -/
def execPerstNDeassert (s : State) : Host.Outcome State Fault Refusal :=
  .next (
    let s := { s with pins.perstN := true }
    if s.fromHub && !s.stage.hubIdStop && !s.ghFailed && !s.host.linkUp && !s.halted then { s with host.training := some s.m.now } else s)

/-- PCIE_LINK_TRAINED: the link is up at its trained width and speed; a width below the pattern's sets WIDTH_LOW
(R54, R87). -/
def execPcieLinkTrained (width speed : Nat) (s : State) : Host.Outcome State Fault Refusal :=
  .next (if s.host.training.isNone || s.halted then s else
    let s := { s with host.linkUp := true, host.training := none, host.linkWidth := width, host.linkSpeed := speed }
    let low := s.pat.accepted && decide (width < s.pat.pcieWidth)
    let s := { s with pat.widthLow := low }
    if low then s.logH 0x0305 (le 1 width) else s)

/-- SLICE0_REATTACH: drained and with the port up, the hub attaches slice 0 again by itself (R374). -/
def execSlice0Reattach (s : State) : Host.Outcome State Fault Refusal :=
  .next (if s.fromHub && s.host.linkUp && !s.slc.slice0.attached && !s.slc.slice0.detaching && !s.halted &&
      !s.stage.hubEntryDue then
      { s with slc.slice0 := { attached := true } }
    else s)

/-! ## The end of a life-cycle transition (R496–R501) -/

/-- LC_TRANSITION_DONE: the running transition erases, blows, verifies and clears its intent; the internal cold
reset follows, and stage Guard starts again from Hold (R496). -/
def execLcTransitionDone (installed : Installed) (second : Option Nat) (s : State) :
    Host.Outcome State Fault Refusal :=
  .next (match s.lc.running with
    | none => s
    | some t =>
      let s := s.transitionErase t.target installed
      let d := s.decide2 1 0 t.target 1 second
      -- a mismatch at step 5 leaves step 6 to the next stage Guard (R506)
      let s := if d.1 = 0 then d.2.transitionDone t.target t.token else { d.2 with lc.running := none }
      let s := { s.enterHold.drainAll with lc.testUnlocked := false, lc.tapPort := false }
      s)

end Sys2Proof.Machine
end

