-- ==== Sys2Proof/Machine/Balls.lean ====
section
/-!
DEFINITION. The states of the ball groups, stage by stage (R46, R49 02_staged_start.md).
-/
namespace Sys2Proof.Machine

/-- The ball groups of R49. -/
inductive BallGroup where
  | peTx | peRx | perstN | ngueth | xspiCs | xspiClk | xspiDq | xspiReset | sdDrive | sdData | sdDetect
  | iccDrive | iccPresent | keypad | led | extTamp | xt32 | smbus | sbAddr | stat | faultN | alertN | tdo
  deriving DecidableEq, Repr

/-- What a ball group does (R49). -/
inductive BallState where
  /-- High impedance with no internal pull. -/
  | hiZ
  /-- Driven low. -/
  | low
  /-- Driven high. -/
  | high
  /-- Weak pull-down. -/
  | pullDown
  /-- Receiver termination off. -/
  | terminationOff
  /-- Receiver termination on. -/
  | terminationOn
  /-- Electrical idle. -/
  | idle
  /-- The link trains. -/
  | training
  /-- Operating, or trained, by the chapter of its unit. -/
  | operating
  /-- An input that is ignored. -/
  | ignored
  /-- An input that is acted on, debounced where its chapter says so. -/
  | input
  /-- Sampled once and then latched. -/
  | latched
  /-- Monitored by the battery domain or the warden. -/
  | monitored
  /-- The crystal oscillates. -/
  | oscillating
  /-- An SMBus target that acknowledges nothing. -/
  | noAcknowledge
  /-- An SMBus target that answers. -/
  | target
  /-- An open-drain output that is released. -/
  | released
  /-- The three bits of STAT. -/
  | code (v : Nat)
  deriving DecidableEq, Repr

/-- The column of R49: 0 main supply off, 1 Hold, 2 Guard, 3 Hub, 4 Full. -/
def State.ballColumn (s : State) : Nat :=
  if !s.pins.mainOn then 0 else match s.stage.stage with
    | .hold => 1
    | .guard => 2
    | .hub => 3
    | .full => 4

/-- The state of a ball group (R46, R49, R68). The xSPI bus is idle in stage Full but for PATTERN_STAGE and the firmware
read. -/
def State.ball (s : State) (g : BallGroup) : BallState :=
  let at' := fun (l : List BallState) => l.getD s.ballColumn .hiZ
  let linking := s.host.training.isSome || s.host.linkUp
  let busy := s.pat.staging.isSome || !s.stage.firmwareDone
  match g with
  | .peTx => at' [.hiZ, .hiZ, .hiZ, if linking then .training else .idle, .operating]
  | .peRx => at' [.hiZ, .terminationOff, .terminationOff, if linking then .terminationOn else .terminationOff, .operating]
  | .perstN => at' [.ignored, .ignored, .ignored, .input, .input]
  | .ngueth => at' [.hiZ, .hiZ, .hiZ, .idle, .operating]
  | .xspiCs => at' [.hiZ, .high, .high, .operating, if busy then .operating else .high]
  | .xspiClk => at' [.hiZ, .low, .low, .operating, if busy then .operating else .low]
  | .xspiDq => at' [.hiZ, .pullDown, .pullDown, .operating, if busy then .operating else .pullDown]
  | .xspiReset => at' [.hiZ, .low, .low, .high, .high]
  | .sdDrive => at' [.hiZ, .low, .low, .low, .operating]
  | .sdData => at' [.hiZ, .hiZ, .hiZ, .hiZ, .operating]
  | .sdDetect => at' [.ignored, .ignored, .ignored, .ignored, .input]
  | .iccDrive => at' [.hiZ, .low, .low, .low, .operating]
  | .iccPresent => at' [.ignored, .ignored, .ignored, .ignored, .input]
  | .keypad => at' [.hiZ, .hiZ, .hiZ, .hiZ, if bit s.pat.fitted 3 then .operating else .hiZ]
  | .led => at' [.low, .low, .low, .low, .operating]
  | .extTamp => if s.pins.keepRail || s.pins.vbatOk then .monitored else .ignored
  | .xt32 => if s.pins.keepRail || s.pins.vbatOk then .oscillating else .hiZ
  | .smbus => at' [.hiZ, .noAcknowledge, .target, .target, .target]
  | .sbAddr => at' [.ignored, .ignored, .latched, .latched, .latched]
  | .stat => if s.ballColumn = 0 then .hiZ else .code s.stat
  | .faultN => if s.ballColumn = 0 then .hiZ else if s.faultLow then .low else .released
  | .alertN =>
    if s.ballColumn = 0 then .hiZ
    else if s.ballColumn = 1 || s.stage.alertCause == 0 then .released else .low
  | .tdo => .hiZ

end Sys2Proof.Machine
end

