-- ==== Sys2Proof/Machine/FlashStage.lean ====
section
/-!
DEFINITION. PATTERN_STAGE: a pattern or firmware image is erased, programmed, read back, verified and perhaps
activated (R88–R90, R92).
-/
namespace Sys2Proof.Machine

/-- The length the input of PATTERN_STAGE must have, from the two headers fetched (R89 step 1). -/
def stagedLen (firmware : Bool) (d : Bytes) : Nat :=
  sigOff (statedLen firmware d) + 8 + 196 * fld d (hdrLen firmware + 4) 2

/-- The running PATTERN_STAGE ends: its status, and no more flash work. -/
def State.stageOver (s : State) (x : StageRun) (status detail : Nat) : State :=
  { s with pat.staging := none }.stopItem x.item (.late status detail)

/-- The flash offset of the block or page in progress (R72, R89). -/
def StageRun.addr (x : StageRun) : Nat :=
  slotBase x.firmware x.slotB + (if x.phase = 0 then 65536 else 256) * x.done

/-- The bytes of the page in progress (R89 step 3). -/
def StageRun.page (x : StageRun) : Bytes := sub x.image (256 * x.done) (min 256 (x.image.length - 256 * x.done))

/-- The next piece of the image is read from host memory (R89 step 3). -/
def State.fetchPiece (s : State) (x : StageRun) : State :=
  let s := { s with pat.staging := some { x with pieceDue := true } }
  s.hostWrite (.dmaRead 0 (x.inAddr + x.image.length) (min 65536 (x.inLen - x.image.length)))

/-- The next flash operation: the next block's erase, then the next page's program, each after a write enable and with the
status read after it (R75, R89 steps 2 and 3). -/
def State.flashNext (s : State) (x : StageRun) : State :=
  let s := { s with pat.staging := some { x with since := s.m.now } }.emit (.flash (.wren8d x.cfg.wrenCmd))
  let s := s.emit (.flash (if x.phase = 0 then .erase8d x.cfg.eraseCmd x.addr else .program8d x.cfg.programCmd x.addr x.page))
  s.emit (.flash (.status8d x.cfg.statusCmd))

/-- The checks of PATTERN_STAGE: the run it begins. Another run is never begun beside the first (R88, R89, R90). -/
def State.stageChecks (s : State) (it : Item) : Chk StageRun := do
  let _ ← s.prologue it []
  let target := byteAt it.desc 0x38
  let activate := bit (byteAt it.desc 0x39) 0
  ensure (target ≤ 1) 0x0110 1
  let firmware := target == 1
  ensure (!firmware || s.pat.accepted) 0x0B04 0
  let n := dInLen it.desc
  ensure (n == stagedLen firmware it.input && n ≤ slotSize firmware) 0x0103 0
  s.checkRiser activate
  ensure s.pat.staging.isNone 0x0B06 0
  pure {
    item := it.slot, firmware := firmware, activate := activate
    slotB := if firmware then !s.stage.fwSlot else !s.stage.patSlot
    inAddr := dInAddr it.desc, inLen := n, cfg := if firmware then s.pat.flash else flashCfg it.input }

/-- PATTERN_STAGE: checks, the length against the staged header, and the first block's erase (R88, R89). -/
def execPatternStage (slot : Nat) (s : State) : Host.Outcome State Fault Refusal :=
  .next (s.runVerb slot 0x0130 (fun s it => do
    let x ← s.stageChecks it
    let s := s.modItem slot (fun i => { i with phase := .waiting, waits := [.flash] })
    pure ({ s with pat.stageProgress := 0 }.flashNext x)))

/-- The cause a staged firmware image is rejected with, by the step of R81 whose check it fails; R92 numbers none
(assumption log 15). -/
def State.fwCause (s : State) (d : Bytes) : Nat :=
  let il := fwImageLen d
  if !(fld d 0 4 == 0x49574643 && fld d 4 2 == 1 && fld d 6 2 == 0x40 && decide (fld d 12 4 ≥ 1) &&
      decide (fld d 16 4 ≥ 1) && fld d 20 4 == s.fuses.stepping && zeroAt d 0x18 40) then 0x01
  else if !sigBlockOk d il fwSlotBytes 1 then 0x02
  else if !tailErased d (il + 204) then 0x03
  else if sigKey d il 0 != s.fuses.vendorFwDigest then 0x04
  else if !sigVerifies d il 0 (sha384 (d.take il)) then 0x05
  else if fld d 8 4 < s.pat.minFw then 0x0A
  else 0

/-- Step 4 of R89: the cause of the slot read back, 0 where it is accepted, after the twice-taken decision. -/
def State.verifyStaged (s : State) (x : StageRun) (r : FlashSlot) : Nat × State :=
  if x.firmware then
    let c := if r.answered then s.fwCause r.data else 1
    let d := s.decide2 5 (b2n (c != 0)) (b2n x.slotB + 256) 0x10 r.second
    (if d.1 = 1 then c else d.1, d.2)
  else
    let v := s.verifyPattern 5 (b2n x.slotB) r
    (v.1, v.2.2)

/-- Steps 4 to 6 of R89: the slot is read back and verified, the activation record written, the result given. DESIGN CHOICE
(assumption log 15): ACTIVATED repeats ACTIVATE, also where the record named the slot before. -/
def State.stageVerify (s : State) (x : StageRun) (r : FlashSlot) : State :=
  let s := { s with pat.staging := some { x with phase := 2 } }.readSlot x.cfg x.firmware x.slotB
  let v := s.verifyStaged x r
  let s := v.2
  match s.runningItem x.item with
  | none => s
  | some it =>
    if v.1 ≠ 0 then s.stageOver x 0x0110 v.1
    else
      let old := s.per
      let result := le 4 (if x.firmware then fld x.image 8 4 else fld x.image 0x10 4) ++ le 1 (b2n x.slotB) ++ le 1 (b2n x.activate)
      let s := { s with pat.staging := none }
      if x.activate then
        let s := if x.firmware then { s with per.actFirmware := x.slotB } else { s with per.actPattern := x.slotB }
        s.finishM it 0 0 result [] 64 (some (lineLife 4)) [.activation old.actPattern old.actFirmware]
      else s.finishM it 0 0 result [] 0 none []

/-- FLASH_OPERATION_COMPLETE: the next erase, piece or page, or after the last page the read back; a Quench stops here. `readBack` is what the
slot reads as, where it is not the image just programmed. -/
def execFlashOperationComplete (readBack : Option FlashSlot) (s : State) : Host.Outcome State Fault Refusal :=
  .next (s.clocked <| match s.pat.staging with
    | none => s
    | some x =>
      let k := x.done + 1
      if x.pieceDue then s
      else if x.phase = 0 then
        if x.aborting then s.stageOver x 0x0C01 0
        else if k < slotSize x.firmware / 65536 then s.flashNext { x with done := k }
        else s.fetchPiece { x with phase := 1, done := 0 }
      else
        let s := { s with pat.stageProgress := min (256 * k) x.image.length }
        if x.aborting then s.stageOver x 0x0C01 0
        else if 256 * k < x.image.length then s.flashNext { x with done := k }
        else if x.image.length < x.inLen then s.fetchPiece { x with done := k }
        else s.stageVerify x (readBack.getD { data := x.image }))

/-- The timeout of the block or page in progress in ticks of 250 ns: ERASE_TIMEOUT in ms, PROGRAM_TIMEOUT in µs (R75). -/
def StageRun.limit (x : StageRun) : Nat := if x.phase = 0 then 4000 * x.cfg.eraseMs else 4 * x.cfg.programUs

/-- FLASH_TIMEOUT: the block erase or page program has outlasted its timeout and the verb fails with its flash offset; one
that a Quench was to stop ends ABORTED (R89, R90). -/
def execFlashTimeout (s : State) : Host.Outcome State Fault Refusal :=
  .next (s.clocked <| match s.pat.staging with
    | none => s
    | some x =>
      if x.pieceDue || decide (s.m.now - x.since < x.limit) then s
      else if x.aborting then s.stageOver x 0x0C01 0
      else s.stageOver x 0x0B07 x.addr)

end Sys2Proof.Machine
end

