-- ==== Sys2Proof/Machine/ConfigSpace.lean ====
section
/-!
DEFINITION. The configuration space of the host port, and what its registers do (R94, R95, R97, R100, R118
04_host_port_and_queues.md).
-/
namespace Sys2Proof.Machine

/-! ## Configuration space (R94, R95, R100; fields of PCIe Base 5.0: assumption log 22) -/

/-- The header's register at an offset. -/
def State.cfgHeader (s : State) (off : Nat) : Nat :=
  let c := s.host.cfg
  match off with
  | 0x00 => 0x88001FD6
  | 0x04 => 0x00100000 + c.command
  | 0x08 => 0x108000B0
  | 0x0C => c.cacheLine
  | 0x10 => c.bar0 % 2 ^ 32 + 4
  | 0x14 => c.bar0 / 2 ^ 32
  | 0x18 => c.bar2 % 2 ^ 32 + 4
  | 0x1C => c.bar2 / 2 ^ 32
  | 0x20 => c.bar4 % 2 ^ 32 + 4
  | 0x24 => c.bar4 / 2 ^ 32
  | 0x2C => 0x00011FD6
  | 0x34 => Config.nextCapability 0 % 256
  | 0x3C => c.intLine
  | _ => 0

/-- The code of the trained width in Link Status, and of the speed 1–5. -/
def State.linkStatus (s : State) : Nat := s.host.linkSpeed % 16 + 16 * (s.host.linkWidth % 64)

/-- Capabilities present (R94). -/
def capabilities : List Nat := [1, 0x10, 0x11, 0x10001, 0x1001B, 0x10003, 0x10019, 0x10025, 0x10026, 0x1002A, 0x10027]

/-- The first word of a capability: its ID, version and pointer. -/
def capHeader (cap : Nat) : Nat :=
  if cap < 0x10000 then cap + 256 * (Config.nextCapability cap % 256)
  else cap % 65536 + 65536 * (if cap = 0x10001 then 2 else 1) + 2 ^ 20 * (Config.nextCapability cap % 4096)

/-- The register of a capability at an offset above its first word, or the upper half of that word. -/
def State.cfgCap (s : State) (cap off : Nat) : Nat :=
  let c := s.host.cfg
  match cap, off with
  -- Power Management: No_Soft_Reset reads 1
  | 0x01, 0x00 => 0x00030000
  | 0x01, 0x04 => 8 + (if s.host.d3hot then 3 else 0)
  -- PCI Express: payload 512 B, ASPM L1, 32 GT/s by 16, completion timeout ranges A and B with its disable, 10-bit tags
  | 0x10, 0x00 => 0x00020000
  | 0x10, 0x04 => 0x00008022
  | 0x10, 0x08 => c.devCtl + 65536 * c.devStatus
  | 0x10, 0x0C => 0x00000905
  | 0x10, 0x10 => c.linkCtl + 65536 * s.linkStatus
  | 0x10, 0x24 => 0x00030013
  | 0x10, 0x28 => c.devCtl2
  | 0x10, 0x2C => 0x0000003E
  | 0x10, 0x30 => c.linkCtl2
  -- MSI-X: 2,048 vectors, table and pending bits in BAR4
  | 0x11, 0x00 => (2047 + 16384 * b2n c.functionMask + 32768 * b2n c.msixEnable) * 65536
  | 0x11, 0x04 => 4
  | 0x11, 0x08 => 0x8004
  -- AER, with ECRC generation and checking
  | 0x10001, 0x04 => c.uncStatus
  | 0x10001, 0x08 => c.uncMask
  | 0x10001, 0x0C => c.uncSeverity
  | 0x10001, 0x10 => c.corStatus
  | 0x10001, 0x14 => c.corMask
  | 0x10001, 0x18 => c.firstError + 32 + 64 * (c.ecrc % 2) + 128 + 256 * (c.ecrc / 2 % 2)
  -- Device Serial Number: bytes 0–7 of the serial
  | 0x10003, 0x04 => fld s.fuses.serial 0 4
  | 0x10003, 0x08 => fld s.fuses.serial 4 4
  -- PASID: 20 bits, neither Execute Permission nor Privileged Mode
  | 0x1001B, 0x04 => 0x1400 + 65536 * b2n s.host.pasidEnable
  -- Data Link Feature: scaled flow control
  | 0x10025, 0x04 => 0x80000001
  | _, _ => if cap = 0x10001 ∧ 0x1C ≤ off ∧ off < 0x2C then fld c.headerLog (off - 0x1C) 4 else 0

/-- What a configuration read returns; a capability that is absent has no registers (R94). -/
def State.cfgRead (s : State) (cap off : Nat) : Nat :=
  if cap = 0 then s.cfgHeader off
  else if !capabilities.contains cap then 0
  else s.cfgCap cap off + (if off = 0 then capHeader cap else 0)

/-- A BAR takes the address bits above its size. -/
def barSet (old size value : Nat) (upper : Bool) : Nat :=
  if upper then old % 2 ^ 32 + 2 ^ 32 * value else old / 2 ^ 32 * 2 ^ 32 + value / size * size

/-- Bits written as 1 are cleared. -/
def clearOnes (old value : Nat) : Nat := old - (old &&& value)

/-- A configuration write of one word: its writable fields take effect (R94, R95, R100, R118). -/
def State.cfgWrite (s : State) (cap off v : Nat) : State :=
  let c := s.host.cfg
  let put := fun (c : CfgSpace) => { s with host.cfg := c }
  match cap, off with
  | 0, 0x04 => put { c with command := v &&& 0x0546 }
  | 0, 0x0C => put { c with cacheLine := v % 256 }
  | 0, 0x10 => put { c with bar0 := barSet c.bar0 0x4000000 v false }
  | 0, 0x14 => put { c with bar0 := barSet c.bar0 0x4000000 v true }
  | 0, 0x18 => put { c with bar2 := barSet c.bar2 0x1000000 v false }
  | 0, 0x1C => put { c with bar2 := barSet c.bar2 0x1000000 v true }
  | 0, 0x20 => put { c with bar4 := barSet c.bar4 0x10000 v false }
  | 0, 0x24 => put { c with bar4 := barSet c.bar4 0x10000 v true }
  | 0, 0x3C => put { c with intLine := v % 256 }
  | 0x01, 0x04 => if v % 4 = 3 then s.toD3hot else if v % 4 = 0 && s.host.d3hot then s.toD0 else s
  | 0x10, 0x08 => put { c with devCtl := v % 32768, devStatus := clearOnes c.devStatus (v / 65536) }
  | 0x10, 0x10 => put { c with linkCtl := v % 65536 &&& 0x01C2 }
  | 0x10, 0x28 => put { c with devCtl2 := v % 65536 &&& 0x101F }
  | 0x10, 0x30 => put { c with linkCtl2 := v % 65536 }
  | 0x11, 0x00 =>
    let t := put { c with functionMask := bit v 30, msixEnable := bit v 31 }
    ((List.range 2048).filter (fun n => !(t.vec n).masked && (t.vec n).pba)).foldl State.unmask t
  | 0x10001, 0x04 => put { c with uncStatus := clearOnes c.uncStatus v }
  | 0x10001, 0x08 => put { c with uncMask := v % 2 ^ 32 }
  | 0x10001, 0x0C => put { c with uncSeverity := v % 2 ^ 32 }
  | 0x10001, 0x10 => put { c with corStatus := clearOnes c.corStatus v }
  | 0x10001, 0x14 => put { c with corMask := v % 2 ^ 32 }
  | 0x10001, 0x18 => put { c with ecrc := v / 64 % 2 + 2 * (v / 256 % 2) }
  | 0x1001B, 0x04 => { s with host.pasidEnable := bit v 16 }
  | _, _ => s

/-- Max Payload Size and Max Read Request Size in bytes, as programmed: 128–512 and 128–4,096 (R94). -/
def CfgSpace.payload (c : CfgSpace) : Nat := 128 * 2 ^ min 2 (c.devCtl / 32 % 8)

/-- Max Read Request Size in bytes. -/
def CfgSpace.readRequest (c : CfgSpace) : Nat := 128 * 2 ^ min 5 (c.devCtl / 4096 % 8)

/-- A completion timeout is an uncorrectable, non-fatal error (R94; PCIe Base 5.0). -/
def State.timeoutError (s : State) : State :=
  let c := s.host.cfg
  { s with host.cfg := { c with
      uncStatus := c.uncStatus ||| 0x4000, devStatus := c.devStatus ||| 2
      firstError := if c.uncStatus = 0 then 14 else c.firstError } }

/-- The PASID prefix of a request: the slice's PASID, none for slice 0, and none on MSI-X messages (R100). -/
def State.pasidPrefix (s : State) (e : OutEvent) : Option Nat :=
  let of := fun (n : Nat) => if n = 0 then none else some (s.slice n).pasid
  match e with
  | .dmaRead n .. | .dmaWrite n .. => of n
  | .completion q _ => of (q / 64)
  | _ => none

end Sys2Proof.Machine
end

