-- ==== Sys2Proof/Machine/Inputs.lean ====
section
/-!
DEFINITION. The reads of an item's input and ingots: their arrival, and their faults (R101, R109, R120, R180, R328, R329).
-/
namespace Sys2Proof.Machine

/-- Bytes of an ingot that its header makes the device read: TOTAL_LEN of an asymmetric header in range, else the first 128
alone (R109, R218). -/
def ingotLen (i : Bytes) : Nat :=
  let n := ingTotal i
  if ingForm i = 2 ∧ 184 ≤ n ∧ n ≤ 1952 ∧ n % 8 = 0 then n else 128

/-- The rest of an asymmetric ingot is read once its header is in (R109, R180). -/
def State.readRest (s : State) (slice addr : Nat) (i : Bytes) : State :=
  if ingotLen i > 128 then s.hostWrite (.dmaRead slice (addr + 128) (ingotLen i - 128)) else s

/-- The output a progressive verb is to write chunk by chunk, and its result, as its row computes them (R328, R334). -/
def State.preview (s : State) (it : Item) : Bytes × Bytes :=
  if !progressive it.desc then ([], []) else
  let r := match dVerb it.desc with
    | 0x0701 => execDataEncrypt it.slot {} s
    | 0x0702 => execDataDecrypt it.slot {} s
    | _ => execP2peDecrypt it.slot {} s
  match r with
  | .next t => (t.item it.slot).elim ([], []) (fun x => (x.output, x.result))
  | _ => ([], [])

/-- The reads of an item are over: it calls its blocks and works on its output. -/
def State.startProcessing (s : State) (slot : Nat) : State :=
  match s.item slot with
  | none => s
  | some it =>
    let s := (s.modItem slot (fun x => { x with phase := .processing })).callBlocks it
    let out := s.preview it
    s.modItem slot (fun x => { x with output := out.1, result := out.2 })

/-- What PATTERN_STAGE reads: the header, the signature block header behind the image (R89 step 1), and from step 3 on the
pieces, each programmed as it arrives. -/
def State.stageInput (s : State) (it : Item) (input : Bytes) (faults : List Nat) : State :=
  let fw := byteAt it.desc 0x38 == 1
  let hdr := fit (hdrLen fw) input
  let off := sigOff (statedLen fw hdr)
  match s.pat.staging with
  | some x =>
    if x.item != it.slot || !x.pieceDue then s
    else if faults.contains 0 then s.stageOver x 0x0107 0
    else
      let n := min 65536 (x.inLen - x.image.length)
      s.flashNext { x with pieceDue := false, image := x.image ++ fit n input }
  | none =>
    if it.phase != .fetching then s
    else
      let first := it.input.isEmpty
      let s := s.modItem it.slot (fun x => { x with
        faults := x.faults ++ faults, input := if first then hdr else x.input ++ fit 8 input })
      if first && !faults.contains 0 && decide (off + 8 ≤ dInLen it.desc) then
        s.hostWrite (.dmaRead 0 (dInAddr it.desc + off) 8)
      else s.startProcessing it.slot

/-- INPUT_FETCH_COMPLETE: the input (exactly IN_LEN bytes) and the ingots have arrived, or faulted, and the item is ready for
its verb (R101, R120). An input longer than 64 KiB is kept as delivered. -/
def execInputFetchComplete (slot : Nat) (input keyA keyB : Bytes) (faults : List Nat) (s : State) :
    Host.Outcome State Fault Refusal :=
  .next (s.clocked <| match s.runningItem slot with
    | none => s
    | some it =>
      if dVerb it.desc = 0x0130 then s.stageInput it input faults
      else if dVerb it.desc = 0x0151 then s.recordInput it input faults
      else if it.phase != .fetching then s else
      let n := dInLen it.desc
      let a := takesKeyA (dVerb it.desc) && ingotAddr (dKeyA it.desc) && !(it.faults ++ faults).contains 1
      let b := takesKeyB (dVerb it.desc) && ingotAddr (dKeyB it.desc) && !(it.faults ++ faults).contains 2
      let s := if a then s.readRest it.slice (dKeyA it.desc) keyA else s
      let s := if b then s.readRest it.slice (dKeyB it.desc) keyB else s
      let s := s.modItem slot (fun x => { x with
        keyA := if a then keyA.take (ingotLen keyA) else [], keyB := if b then keyB.take (ingotLen keyB) else []
        faults := x.faults ++ faults
        input := if n ≤ 65536 then fit n input else input.take n })
      s.startProcessing slot)

/-- The reads an item has asked for: 0 its input, 1 key A, 2 key B. -/
def readsOf (d : Bytes) : List Nat :=
  (if dInLen d > 0 then [0] else []) ++ (if takesKeyA (dVerb d) && ingotAddr (dKeyA d) then [1] else []) ++
    (if takesKeyB (dVerb d) && ingotAddr (dKeyB d) then [2] else [])

/-- A read of a fetching item has faulted: the item goes on to its checks where no other read is outstanding; the operands of
a BNU command, read 3, are its input (R101, R180). -/
def State.readFault (s : State) (it : Item) (which : Nat) : State :=
  let faults := it.faults ++ [which]
  let s := s.modItem it.slot (fun x => { x with faults := faults })
  if (readsOf it.desc).all (fun r => faults.contains r || (r == 0 && faults.contains 3)) then s.startProcessing it.slot
  else s

/-- The item in slot `id` has read `which` outstanding: while it fetches, while its image is staged or its record fetched, or a later chunk of a
progressive verb (R89, R328, R553). -/
def State.readOutstanding (s : State) (it : Item) (which : Nat) : Bool :=
  if dVerb it.desc = 0x0130 then which == 0 && (it.phase == .fetching || s.pat.staging.any (fun x => x.item == it.slot && x.pieceDue))
  else if dVerb it.desc = 0x0151 then
    which == 0 && s.cards.run.any (fun (r : SdRun) => r.item == it.slot && r.phase == .fetch)
  else it.phase == .fetching ||
    (it.phase == .processing && which == 0 && progressive it.desc && decide (dInLen it.desc > 4096))

/-- COMPLETION_TIMEOUT: while the timeout is not disabled, a descriptor read of queue `id`, or read `which` (0 input, 1 key A,
2 key B, 3 an operand) of the item in slot `id`, got no completion: a DMA read fault (R94, R101, R328, R329). -/
def execCompletionTimeout (descriptor : Bool) (id which : Nat) (s : State) : Host.Outcome State Fault Refusal :=
  .next (s.clocked <| if bit s.host.cfg.devCtl2 4 then s
    else if descriptor then
      if s.queues.batches.any (fun b => b.qid == id) then
        { s with queues.batches := s.queues.batches.filter (fun x => !(x.qid == id)) }.timeoutError.batchFault id
      else s
    else match s.runningItem id with
      | none => s
      | some it =>
        if !s.readOutstanding it which then s
        else
          let s := s.timeoutError
          if dVerb it.desc = 0x0130 then s.stageInput it [] [0]
          else if dVerb it.desc = 0x0151 then s.recordInput it [] [0]
          else if it.phase == .fetching then s.readFault it which
          else
            let r := s.progressOf id
            (r.1.cutAt id r.2 0x0107 0x0107 0x0107).offerAll)

end Sys2Proof.Machine
end

