-- ==== Sys2Proof/Machine/Ngueth.lean ====
section
/-!
DEFINITION. Peer packages: attestation of a peer, Ngueth ports and their flits, mirror updates as the peer commits
them, leases, fencing and calendar agreement (R388, R394–R401, R403, R440).
-/
namespace Sys2Proof.Machine

/-! ## Attesting a peer (R388, R396) -/

/-- The subject's public key octets in a certificate (RFC 5280; assumption log 4). -/
def certKey (b : Bytes) : Chk Bytes := do
  let c ← derExpect b 0 b.length 0x30
  let t ← derExpect b c.1 c.2 0x30
  let v ← derExpect b t.1 t.2 0xA0
  let serial ← derExpect b v.2 t.2 0x02
  let alg ← derExpect b serial.2 t.2 0x30
  let issuer ← derExpect b alg.2 t.2 0x30
  let val ← derExpect b issuer.2 t.2 0x30
  let subject ← derExpect b val.2 t.2 0x30
  let spki ← derExpect b subject.2 t.2 0x30
  let kalg ← derExpect b spki.1 spki.2 0x30
  let key ← derExpect b kalg.2 spki.2 0x03
  pure (sub b (key.1 + 1) (key.2 - key.1 - 1))

/-- ECDSA P-384 verification of r ‖ s over a digest under a public point. -/
def p384Digest (pub h sig : Bytes) : Bool :=
  match p384.decodePoint pub with
  | some q => sig.length == 96 && p384.verify q.1 q.2 h (ofBE (sub sig 0 48)) (ofBE (sub sig 48 48))
  | none => false

/-- ECDSA P-384 with SHA-384 over a message. -/
def p384Verify (pub m sig : Bytes) : Bool := p384Digest pub (sha384 m) sig

/-- r ‖ s of a DER-encoded ECDSA signature. -/
def rawSig (b : Bytes) : Chk Bytes := do
  let q ← derExpect b 0 b.length 0x30
  let r ← derExpect b q.1 q.2 0x02
  let t ← derExpect b r.2 q.2 0x02
  pure (be 48 (ofBE (sub b r.1 (r.2 - r.1))) ++ be 48 (ofBE (sub b t.1 (t.2 - t.1))))

/-- A certificate verifies under a public point: the key it certifies. -/
def certUnder (signer cert : Bytes) : Option Bytes :=
  let r : Chk Bytes := do
    let c ← certRead cert 0 cert.length
    let sig ← rawSig c.sig
    ensure (p384Verify signer c.tbs sig) 0x0E02 0
    certKey cert
  match r with
  | .ok k => some k
  | .error _ => none

/-- The attestation key a peer's two certificates give under the fused device-CA key (R388). -/
def State.attestedKey (s : State) (idCert attCert : Bytes) : Option Bytes :=
  match certUnder s.fuses.deviceCa idCert with
  | some id => certUnder id attCert
  | none => none

/-- The one-step KDF of SP 800-56C with SHA-384 (R388, R396). -/
def oneStep384 (z info : Bytes) (n : Nat) : Bytes :=
  (((List.range (ceilDiv n 48)).map (fun i => sha384 (be 4 (i + 1) ++ z ++ info))).flatten).take n

/-- Z of P-384 ECDH: the X coordinate; none where the point is invalid. -/
def p384Shared (priv : Nat) (point : Bytes) : Option Bytes :=
  match p384.decodePoint point with
  | none => none
  | some q => match p384.mul priv (some q) with
    | some xy => some (be 48 xy.1)
    | none => none

/-- A fresh P-384 scalar. -/
def State.drawP384 (s : State) : Nat × State := s.drawScalar p384

/-! ## Ports: enable, disable, training (R395, R396, R403) -/

/-- The ports serve: stage Full, not halted, and not QUENCHED (R476). -/
def State.portsLive (s : State) : Bool := s.stage.stage == .full && !s.halted && !s.quenched

/-- A port has a PEER_n entry. -/
def State.hasPeer (s : State) (n : Nat) : Bool := decide (n < 4) && (s.pat.peers.lookup n).isSome

/-- A SLICE_MIRROR whose peer no port reaches any more fails with PEER_UNREACHABLE (R397). -/
def State.mirrorVerbsLost (s : State) : State :=
  (s.ngl.mirrorWaits.filter (fun (w : MirrorWait) => !w.erase && (s.portTo w.peer).isNone)).foldl (fun s w =>
    match s.item w.item with
    | some it =>
      if dVerb it.desc = 0x0920 then
        { s.settle w.item 0x0E07 0 0 [] [] (it.waits.filter (fun v => !(v == Wait.mirror))) with
          ngl.mirrorWaits := s.ngl.mirrorWaits.filter (fun (x : MirrorWait) => !(x.update == w.update)) }
      else s
    | none => s) s

/-- A port goes down: electrical idle, and what it carried looks for another port (R395). -/
def State.portDown (s : State) (n : Nat) : State :=
  let p := s.port n
  if p.state = 2 ∨ p.state = 3 ∨ p.state = 4 then
    ((s.modPort n (fun p => p.fall 1)).resendMirrors).mirrorVerbsLost
  else s

/-- NGL_PORT_DISABLE: the port shuts down; a held enable is cancelled; ignored while QUENCHED (R24, R396,
R476). -/
def execNglPortDisable (port : Nat) (s : State) : Host.Outcome State Fault Refusal :=
  .next (if !s.hostUp || !s.hasPeer port || s.quenched then s else
    let p := s.port port
    if p.shutting then s.modPort port (fun p => { p with enable := false, state := 1 })
    else if !p.enable then s
    else (((s.modPort port (fun p => { p.fall 1 with enable := false, shutting := true, attestFailed := false })).resendMirrors)).mirrorVerbsLost)

/-- NGL_PORT_ENABLE: held while the port shuts down; clears MISMATCH; no effect on an enabled port, or
while QUENCHED (R24, R396, R476). -/
def execNglPortEnable (port : Nat) (s : State) : Host.Outcome State Fault Refusal :=
  .next (if !s.hostUp || !s.hasPeer port || s.quenched then s else
    let p := s.port port
    if p.shutting then s.modPort port (fun p => { p with enable := true, state := 6 })
    else if !p.enable || p.state = 5 then s.modPort port (fun p => { p.fall 2 with enable := true, attestFailed := false })
    else s)

/-- NGUETH_PORT_SHUTDOWN_COMPLETE: DISABLED, or training where an enable is held; in a re-pour, and while QUENCHED,
the port waits DOWN (R24, R64, R396, R476). -/
def execNguethPortShutdownComplete (port : Nat) (s : State) : Host.Outcome State Fault Refusal :=
  .next (s.clocked <| if (s.port port).shutting then
      s.modPort port (fun p => { p.fall (if !p.enable then 0 else if s.stage.repourBusy || s.quenched then 1 else 2) with shutting := false })
    else s)

/-- NGL_LANE_PRBS_WRITE: only on a DOWN or DISABLED port; setting RUN restarts the error count (R403). -/
def execNglLanePrbsWrite (port lane : Nat) (run : Bool) (errors : Nat) (s : State) : Host.Outcome State Fault Refusal :=
  .next (
    let p := s.port port
    if !s.hostUp || port ≥ 4 || lane ≥ 4 || !(p.state = 0 || p.state = 1) then s
    else
      let was := p.prbs.getD lane false
      s.modPort port (fun p => { p with
        prbs := modAt p.prbs lane (fun _ => run)
        prbsErr := modAt p.prbsErr lane (fun e => if run && !was then 0 else if was then wrap 32 errors else e) }))

/-- The device's own handshake material on a port, not yet signed. -/
def State.ownHello (s : State) (p : Port) : PeerHello :=
  { serial := s.fuses.serial, nonce := p.nonce, point := p384.pubBytes p.ephPriv, lcState := s.lcState.code
    idCert := s.mea.identityCert, attCert := s.mea.attCert }

/-- NGUETH_TRAINING_COMPLETE: the lanes' results are kept and the handshake begins (R396). -/
def execNguethTrainingComplete (port : Nat) (lanes : LaneReport) (s : State) : Host.Outcome State Fault Refusal :=
  .next (s.clocked <|
    let p := s.port port
    if !s.portsLive || !s.hasPeer port || p.shutting || p.attestFailed || !(p.state = 1 || p.state = 2) then s
    else
      let s := s.ensureCerts
      let a := s.draw 32
      let b := a.2.drawP384
      let s := b.2.modPort port (fun p => { p with
        state := 3, nonce := a.1, ephPriv := b.1, lanes := maskOf lanes.lock
        laneMarginT := lanes.marginT, laneMarginV := lanes.marginV, laneEq := lanes.eq, laneCdr := lanes.cdr
        laneErr := (p.laneErr.zip (lanes.errors ++ zeros4)).map (fun e => wrap 32 (e.1 + e.2)) })
      s.sendAll port 1 (Config.helloOctets (s.ownHello (s.port port))))
where
  /-- Four zeros, for a report of fewer lanes. -/
  zeros4 : List Nat := [0, 0, 0, 0]

/-! ## Flits received (R395) -/

/-- Valid flits have arrived on a port: counted, acknowledged, and a sign of life of the peer (R395, R399). -/
def State.validFlits (s : State) (n k ack : Nat) : State :=
  let p := s.port n
  let s := s.modPort n (fun p => ({ p with
    rx := wrap 64 (p.rx + k), rxCount := p.rxCount + k, rxSeq := (p.rxSeq + k) % 4096, ackSeq := ack % 4096
    retryOf := 0 } : Port).rekey)
  if p.state = 4 then { s with ngl.peerSeen := assocSet s.ngl.peerSeen p.peer s.m.now } else s

/-- The lease summary for a peer: the slices this package shares with it (R401). -/
def State.leaseSummary (s : State) (peer : Bytes) : List (Nat × Nat × Nat) :=
  (sortBy (fun (x : Slice) => x.number) (s.slc.slices.filter (fun (x : Slice) =>
    x.state != 0 && (x.mirrorPeer == peer || x.formerOwner == peer)))).map (fun x => (x.number, x.state, x.epoch))

/-- A port came up: lease summaries and waiting updates go out where the domain is proved (R396, R401). -/
def State.portUp (s : State) (n : Nat) : State :=
  let p := s.port n
  if !p.matched then s
  else (s.sendAll n 4 (Config.leaseOctets (s.leaseSummary p.peer))).resendMirrors

/-- NGUETH_HANDSHAKE: the peer's material is complete: MISMATCH, DOWN, or UP with its keys (R396). -/
def execNguethHandshake (port flits ack : Nat) (hello : PeerHello) (s : State) : Host.Outcome State Fault Refusal :=
  .next (s.clocked <|
    if !s.portsLive || (s.port port).state ≠ 3 then s else
    let s := s.validFlits port flits ack
    let p := s.port port
    let own := s.ownHello p
    let bare : PeerHello := { hello with sig := [], tag := [] }
    let first := ofBE own.serial ≤ ofBE hello.serial
    let hash := if first then Config.transcriptHash own bare else Config.transcriptHash bare own
    let signed := s.wardenSignDigest p384 0x21 s.attestScalar 2 hash
    let s := signed.2
    let tag := fun (s : State) => cmacAes s.proofKey hash
    let s := s.sendAll port 1 (Config.helloOctets { own with sig := signed.1
                                                             tag := if s.hasDomain then tag s else zeros 16 })
    if (s.pat.peers.lookup port).getD [] != hello.serial then
      (s.modPort port (fun p => p.fall 5)).logEv 0x0306 (srcPort port) 0xFFFF []
    else
      let good := hello.lcState == Lc.deployed.code &&
        (match s.attestedKey hello.idCert hello.attCert with
          | some k => p384Digest k hash hello.sig
          | none => false)
      match good, p384Shared p.ephPriv hello.point with
      | true, some z =>
        let lo := if first then own.serial else hello.serial
        let hi := if first then hello.serial else own.serial
        let keys := oneStep384 z (Config.linkContext lo hi) 64
        let up := keys.take 32
        let down := keys.drop 32
        let s := s.modPort port (fun p => { p with
          state := 4, domainMatch := s.hasDomain && hello.tag == tag s, peer := hello.serial
          txKey := if first then up else down, rxKey := if first then down else up
          txCount := 0, rxCount := 0, ephPriv := 0, nonce := [] })
        ({ s with ngl.peerSeen := assocSet s.ngl.peerSeen hello.serial s.m.now }).portUp port
      | _, _ =>
        (s.modPort port (fun p => { p.fall 1 with attestFailed := true, failedAt := s.m.now })).logEv 0x0307 (srcPort port) 0xFFFF [])

/-- NGUETH_RETRAIN_DUE: 1 s after an attestation failure (R396). -/
def execNguethRetrainDue (port : Nat) (s : State) : Host.Outcome State Fault Refusal :=
  .next (s.clocked <|
    let p := s.port port
    if s.portsLive && p.state = 1 && p.attestFailed && p.enable && !p.shutting && decide (s.m.now - p.failedAt ≥ 4000000) then
      s.modPort port (fun p => { p with state := 2, attestFailed := false })
    else s)

/-- NGUETH_HEARTBEAT (R395). -/
def execNguethHeartbeat (port ack : Nat) (s : State) : Host.Outcome State Fault Refusal :=
  .next (s.clocked <| if s.portsLive && (s.port port).state = 4 then s.validFlits port 1 ack else s)

/-- NGUETH_HEARTBEAT_SEND (R395). -/
def execNguethHeartbeatSend (port : Nat) (s : State) : Host.Outcome State Fault Refusal :=
  .next (s.clocked <| if s.portsLive && (s.port port).state = 4 then s.sendFlit port 0 [] else s)

/-- NGUETH_RETRY_REQUEST: the same bytes go out again, from the flit asked for on (R395). -/
def execNguethRetryRequest (port ack seq : Nat) (s : State) : Host.Outcome State Fault Refusal :=
  .next (s.clocked <| if s.portsLive && ((s.port port).state = 3 || (s.port port).state = 4) then
      let s := s.validFlits port 1 ack
      let b := (s.port port).buffer
      if b.any (fun e => e.1 == seq) then
        let later := (b.takeWhile (fun e => !(e.1 == seq))) ++ (b.filter (fun e => e.1 == seq)).take 1
        s.emitAll (later.reverse.map (fun e => OutEvent.flit port (byteAt e.2 0) e.2))
      else s
    else s)

/-- Why a port drops the 256 bytes of a flit: 0 its CRC, 2 its SEQ, LEN, TYPE or a reserved field, 1 its GCM tag once the port is
attested; none where the flit is valid (R394, R395). DEDUCED: the first of R395's list that holds is the cause (assumption log 13). -/
def State.flitCause (s : State) (p : Port) (f : Bytes) : Option Nat :=
  let tagged := fit 232 f
  let iv := be 4 (1 - s.direction p) ++ be 8 p.rxCount
  if f.length ≠ 256 ∨ crc32 (f.take 252) ≠ fld f 252 4 then some 0
  else if fld f 2 2 ≠ p.rxSeq ∨ byteAt f 6 > 224 ∨ byteAt f 0 > 6 ∨ byteAt f 1 ≠ 0 ∨ fld f 4 2 ≥ 4096 ∨ byteAt f 7 ≠ 0 ∨
      fld f 0xF8 4 ≠ 0 then some 2
  else if p.state = 4 ∧ (gcmDec p.rxKey iv (tagged.take 8) (tagged.drop 8) (sub f 0xE8 16)).isNone then some 1
  else none

/-- NGUETH_BAD_FLIT: dropped, counted by its cause, a retry requested; the eighth consecutive retry of one flit that
fails takes the port down (R395). -/
def execNguethBadFlit (port : Nat) (flit : Bytes) (s : State) : Host.Outcome State Fault Refusal :=
  .next (s.clocked <| if !s.portsLive || !((s.port port).state = 3 || (s.port port).state = 4) then s else
    match s.flitCause (s.port port) flit with
    | none => s
    | some cause =>
    let n := (s.port port).retryOf
    let s := s.modPort port (fun p => { p with
      crcErr := if cause = 0 then wrap 32 (p.crcErr + 1) else p.crcErr
      tagErr := if cause = 1 then wrap 32 (p.tagErr + 1) else p.tagErr
      formatErr := if cause ≥ 2 then wrap 32 (p.formatErr + 1) else p.formatErr })
    if n ≥ 8 then s.portDown port
    else
      (s.modPort port (fun p => { p with retryOf := n + 1, retries := wrap 32 (p.retries + 1) })).sendFlit port 6
        (le 2 (s.port port).rxSeq))

/-- NGUETH_RX_TIMEOUT (R395). -/
def execNguethRxTimeout (port : Nat) (s : State) : Host.Outcome State Fault Refusal :=
  .next (s.clocked <| if s.portsLive && (s.port port).state ≥ 3 then s.portDown port else s)

/-- NGUETH_ACK_TIMEOUT (R395). -/
def execNguethAckTimeout (port : Nat) (s : State) : Host.Outcome State Fault Refusal :=
  .next (s.clocked <| if s.portsLive && (s.port port).state ≥ 3 then s.portDown port else s)

/-- NGUETH_LOCK_LOSS (R395). -/
def execNguethLockLoss (port : Nat) (s : State) : Host.Outcome State Fault Refusal :=
  .next (s.clocked <| if s.portsLive then s.portDown port else s)

/-! ## Mirror updates (R397, R398) -/

/-- The records of a copy replace what this package holds of the slice, in one commit entry: it is the peer's
MIRROR. -/
def State.adoptCopy (s : State) (peer : Bytes) (u : MirrorUpdate) : State :=
  let r := u.record
  let old := s.slice r.slice
  let mine := s.kst.counted.filter (fun (c : CountedRec) => c.slice == r.slice)
  let new : List CountedRec := u.counted.map (fun c =>
    s.sealCount { index := c.1, slice := r.slice, keyId := c.2.1, limit := c.2.2.1, count := c.2.2.2 })
  let added := new.filter (fun (c : CountedRec) => !mine.any (fun (d : CountedRec) => d.index == c.index))
  let s := { (s.forgetCounts (fun i => (mine ++ new).any (fun (c : CountedRec) => c.index == i))).modSlice r.slice (fun x => { x with
      state := 7, epoch := r.epoch, generation := r.generation, wrapped := kwpWrap s.sliceKey r.key, pasid := r.pasid
      min := r.min, cap := r.cap, weight := r.weight, ceiling := r.ceiling, vecBase := r.vecBase, vecCount := r.vecCount
      countBase := r.countBase, countQuota := r.countQuota, statusAddr := r.statusAddr, lockouts := r.lockouts
      mirrorPeer := peer, formerOwner := [] }) with
    kst.counted := new ++ s.kst.counted.filter (fun (c : CountedRec) => !(c.slice == r.slice)) }
  s.commit (256 + 24 * new.length) (some (lineSlice r.slice)) none
    (mine.map (fun (c : CountedRec) => Undo.counted c.index (some c)) ++
      added.map (fun (c : CountedRec) => Undo.counted c.index none) ++ [.slice r.slice old])

/-- Tenant slices counted under R374. -/
def State.existing (s : State) : Nat :=
  (s.slc.slices.filter (fun (x : Slice) => x.state != 0 && x.state != 9 && x.state != 10)).length

/-- What a mirror update does here; none where this package holds no copy it may change (R397, R401). -/
def State.applyUpdate (s : State) (peer : Bytes) (u : MirrorUpdate) : Option State :=
  let n := u.record.slice
  let x := s.slice n
  if n = 0 ∨ n > 4095 then none
  else if u.erase then
    if x.state = 7 ∧ x.mirrorPeer = peer then some ((s.zeroSlice n).eraseRecords n { number := n } none) else some s
  else if (x.state = 0 ∧ s.existing < s.pat.maxSlices) ∨ (x.state = 7 ∧ x.mirrorPeer = peer) then some (s.adoptCopy peer u)
  else if x.state = 8 ∧ x.mirrorPeer = peer ∧ u.record.epoch > x.epoch then
    some ((((s.adoptCopy peer u).writeStatus n).sliceEvent n).logEv 0x0B02 srcHub n [])
  else none

/-- Acknowledgements whose commit entries have all been accepted are sent, in order (R398). -/
def State.sendAcks (s : State) : State :=
  if s.per.waiting.any (fun e => e.item == none) then s
  else
    { s.ngl.ackDue.foldl (fun (s : State) a => if (s.port a.1).matched then s.sendAll a.1 3 (le 4 a.2) else s) s with
      ngl.ackDue := [] }

/-- NGUETH_MIRROR_UPDATE: committed here, then acknowledged (R398). -/
def execNguethMirrorUpdate (port flits ack : Nat) (update : MirrorUpdate) (s : State) : Host.Outcome State Fault Refusal :=
  .next (s.clocked <| if !s.portsLive || !(s.port port).matched then s else
    let s := s.validFlits port flits ack
    match s.applyUpdate (s.port port).peer update with
    | none => s
    | some t =>
      let t := t.acceptFirst t.per.waiting []
      ({ t with ngl.ackDue := t.ngl.ackDue ++ [(port, update.number)] }).sendAcks)

/-- COMMIT_ENTRY_ACCEPT: the warden accepts the oldest waiting entry that fits whole (R422); mirror
acknowledgements that waited for it go out (R398). -/
def execCommitEntryAccept (s : State) : Host.Outcome State Fault Refusal :=
  .next (if s.pins.halt then s else (s.acceptFirst s.per.waiting []).sendAcks.offerAll)

/-- A SLICE_MIRROR's new copy is committed at the peer: the peer becomes the slice's mirror, the old copy is erased
(R397). -/
def State.mirrorMade (s : State) (n slot : Nat) (peer : Bytes) : State :=
  let old := s.slice n
  let s := s.modSlice n (fun x => { x with mirrorPeer := peer, formerOwner := [] })
  let s := (s.commit 256 (some (lineSlice n)) (if slot < 65536 then some slot else none) [.slice n old]).writeStatus n
  if old.mirrorPeer.isEmpty || old.mirrorPeer == peer then s else s.sendMirror n 65536 old.mirrorPeer true

/-- NGUETH_MIRROR_ACK: the peer has committed an update; the completion that waits for it may proceed (R398). -/
def execNguethMirrorAck (port ack update : Nat) (s : State) : Host.Outcome State Fault Refusal :=
  .next (s.clocked <| if !s.portsLive || !(s.port port).matched then s else
    let s := s.validFlits port 1 ack
    match s.ngl.mirrorWaits.find? (fun (w : MirrorWait) => w.update == update && w.peer == (s.port port).peer) with
    | none => s
    | some w =>
      let s := { s with ngl.mirrorWaits := s.ngl.mirrorWaits.filter (fun (x : MirrorWait) => !(x.update == update)) }
      let made := !w.erase && (match s.item w.item with
        | some it => dVerb it.desc == 0x0920
        | none => w.item == 65536 && (s.slice w.slice).formerOwner == w.peer)
      let s := if made then s.mirrorMade w.slice w.item w.peer else s
      if s.ngl.mirrorWaits.any (fun (x : MirrorWait) => x.item == w.item) then s
      else if made && w.item < 65536 then
        s.modItem w.item (fun x => { x with waits := .commit :: x.waits.filter (fun v => !(v == Wait.mirror || v == Wait.commit)) })
      else s.unwait w.item .mirror)

/-! ## Leases and fencing (R399–R401) -/

/-- The slice is fenced: fetching stops, waiting items complete with SLICE_FENCED, running items finish, and a result
whose mirror acknowledgement is missing becomes SLICE_FENCED (R399). -/
def State.fenceSlice (s : State) (n : Nat) : State :=
  let s := s.setSliceState n 8 7 none
  let lost := (s.ngl.mirrorWaits.filter (fun (w : MirrorWait) => w.slice == n)).map (fun (w : MirrorWait) => w.item)
  let s := { s with ngl.mirrorWaits := s.ngl.mirrorWaits.filter (fun (w : MirrorWait) => !(w.slice == n)) }
  let s := lost.foldl (fun (s : State) i =>
    match s.item i with
    | some it => s.settle i 0x0E06 0 0 [] [] (it.waits.filter (fun v => !(v == Wait.mirror)))
    | none => s) s
  let wait := s.tnd.items.filter (fun (x : Item) => x.slice == n &&
    (x.state == .ready || x.state == .fenced || x.state == .delayed))
  s.endItems (wait.map (fun (x : Item) => x.slot)) 0x0E06 0

/-- LEASE_EXPIRE: no valid flit from the mirror peer for LEASE_MS (R399). -/
def execLeaseExpire (slice : Nat) (s : State) : Host.Outcome State Fault Refusal :=
  .next (
    let seen := (s.ngl.peerSeen.lookup (s.slice slice).mirrorPeer).getD s.stage.t0
    if s.mirrored slice && !s.halted && decide (s.m.now - seen ≥ s.pat.leaseMs * 4000) then s.fenceSlice slice else s)

/-- One entry of a lease summary against the local copy (R401). -/
def State.leaseEntry (s : State) (peer : Bytes) (e : Nat × Nat × Nat) : State :=
  let n := e.1
  let st := e.2.1
  let ep := e.2.2
  let x := s.slice n
  if n = 0 ∨ !(x.mirrorPeer == peer || x.formerOwner == peer) then s
  else
    let s := s.modSlice n (fun y => { y with peerReport := some (st, ep) })
    if x.state = 8 ∧ st = 7 ∧ ep = x.epoch then s.sendMirror n 65536 peer false
    else if x.state = 1 ∧ st = 8 ∧ ep < x.epoch ∧ x.formerOwner = peer then s.sendMirror n 65536 peer false
    else if x.state = 1 ∧ st = 1 then (s.fenceSlice n).logEv 0x0B03 srcHub n []
    else s

/-- NGUETH_LEASE_SUMMARY (R401). -/
def execNguethLeaseSummary (port flits ack : Nat) (copies : List (Nat × Nat × Nat)) (s : State) :
    Host.Outcome State Fault Refusal :=
  .next (s.clocked <| if !s.portsLive || !(s.port port).matched then s else
    let s := s.validFlits port flits ack
    copies.foldl (fun (s : State) e => s.leaseEntry (s.port port).peer e) s)

/-! ## Calendar agreement (R440) -/

/-- Differences of the set peers within 60 s of this calendar, one per peer: the lowest port's (R440). -/
def State.nearPeers (s : State) : List Int :=
  ((List.range 4).filterMap (fun n =>
    let p := s.port n
    match p.calDiff with
    | some d => if p.matched && d.natAbs ≤ 60000000 && s.portTo p.peer == some n then some d else none
    | none => none))

/-- The slew that closes the gap to the mean of this RTC and its set peers in one second, at most 100 ppm. -/
def slewOf (ds : List Int) : Int :=
  if ds.isEmpty then 0 else max (-100) (min 100 (ds.sum / ((ds.length : Int) + 1)))

/-- NGUETH_CALENDAR: adopt, slew, or report skew (R440). -/
def execNguethCalendar (port ack rtcUs : Nat) (calSet : Bool) (s : State) : Host.Outcome State Fault Refusal :=
  .next (s.clocked <| if !s.portsLive || !(s.port port).matched then s else
    let s := s.validFlits port 1 ack
    let peer := (s.port port).peer
    let d : Int := (rtcUs : Int) - (s.devUs : Int)
    if !calSet then
      let s := s.modPort port (fun p => { p with calDiff := none })
      { s with ngl.slewPpm := if s.per.calSet then slewOf s.nearPeers else 0 }
    else if !s.per.calSet then
      let s := { s with per.rtc := min (rtcUs * 4000000) (rtcMaxSec * 4000000000000), per.calSet := true, per.calSource := 2 }
      (s.modPort port (fun p => { p with calDiff := some 0 })).logG 0x0507 peer
    else
      let s := s.modPort port (fun p => { p with calDiff := some d })
      let s := { s with ngl.slewPpm := slewOf s.nearPeers }
      let recent := match s.ngl.skewLogged.lookup peer with
        | some t => decide (s.m.now - t < 14400000000)
        | none => false
      if d.natAbs > 60000000 && !recent then
        { s with ngl.skewLogged := assocSet s.ngl.skewLogged peer s.m.now }.logG 0x0508 peer
      else s)

/-- CALENDAR_FLIT_SEND: once per second on each port with DOMAIN_MATCH (R440). -/
def execCalendarFlitSend (s : State) : Host.Outcome State Fault Refusal :=
  .next (s.clocked <| if !s.portsLive then s else
    let s := { s with ngl.slewPpm := if s.per.calSet then slewOf s.nearPeers else 0 }
    (List.range 4).foldl (fun (s : State) n =>
      if (s.port n).matched then s.sendAll n 5 (Config.calendarOctets s.devUs s.per.calSet) else s) s)

/-! ## Offers (R387) -/

/-- OFFER_EXPIRE: 10 minutes after issue (R387). -/
def execOfferExpire (slice : Nat) (s : State) : Host.Outcome State Fault Refusal :=
  .next (if s.slc.offers.any (fun (o : Offer) => o.slice == slice && decide (s.m.now - o.since ≥ 2400000000)) then
      { s with slc.offers := s.slc.offers.filter (fun (o : Offer) => !(o.slice == slice))
               slc.slices := s.slc.slices.filter (fun (x : Slice) => !(x.number == slice && x.state == 10)) }
    else s)

end Sys2Proof.Machine
end

