-- ==== Sys2Proof/Machine/LogVerbs.lean ====
section
/-!
DEFINITION. The heat-log verbs: LOG_READ_SLICE, LOG_EXPORT and LOG_ACK (R459–R462).
-/
namespace Sys2Proof.Machine

/-! ## LOG_READ_SLICE (R461) -/

/-- The records of a slice among `n` sealed records from heat number `h`, up to `max`: the records and the number to
continue from. -/
def State.scanLog (s : State) (slice : Nat) : Nat → Nat → Nat → List HeatRec × Nat
  | 0, h, _ => ([], h)
  | _ + 1, h, 0 => ([], h)
  | n + 1, h, m + 1 =>
    if h > s.newest then ([], h)
    else match s.findRec h with
      | some r =>
        if r.slice = slice then
          let t := s.scanLog slice n (h + 1) m
          (r :: t.1, t.2)
        else s.scanLog slice n (h + 1) (m + 1)
      | none => s.scanLog slice n (h + 1) (m + 1)

/-- The checks of LOG_READ_SLICE: the first heat number and the most records (R461). -/
def State.logReadChecks (s : State) (it : Item) : Chk (Nat × Nat) := do
  let _ ← s.prologue it []
  checkInline it [(0x30, 8), (0x38, 4)]
  let most := fld it.desc 0x38 4
  ensure (within 1 1024 most) 0x010A 0x38
  checkRoom it (64 * most)
  pure (fld it.desc 0x30 8, most)

/-- LOG_READ_SLICE. -/
def execLogReadSlice (slot : Nat) (units : UnitReport) (s : State) : Host.Outcome State Fault Refusal :=
  .next (s.runVerb slot 0x0B01 (fun s it => do
    let (start, most) ← s.logReadChecks it
    let s := s.reach12 it []
    let r := s.scanLog it.slice 4096 (max start s.oldest) most
    let flags := b2n (decide (r.2 > s.newest)) + 2 * b2n (decide (start < s.oldest))
    pure (s.okS it units (le 8 r.2 ++ le 4 r.1.length ++ le 4 flags) ((r.1.map HeatRec.bytes).flatten))))

/-! ## LOG_EXPORT (R461) -/

/-- The trailer up to its signature (R461). -/
def State.exportTrailer (s : State) (first last count prev : Nat) (records : List HeatRec) : Bytes :=
  let before := if prev = 0 then some (zeros 8) else (s.findRec prev).map (fun (r : HeatRec) => fit 8 r.check)
  let ok := !records.any (fun r => s.chainFails r)
  le 4 0x58454C48 ++ le 2 1 ++ le 2 0 ++ fit 16 s.fuses.serial ++ le 8 first ++ le 8 last ++ le 4 count ++
    le 4 (b2n ok + 2 * b2n before.isNone) ++ before.getD (zeros 8) ++ sha384 ((records.map HeatRec.bytes).flatten)

/-- The checks of LOG_EXPORT: the first heat number and the count (R461). -/
def State.logExportChecks (s : State) (it : Item) : Chk (Nat × Nat) := do
  let _ ← s.prologue it []
  checkInline it []
  let count := fld it.input 8 4
  zeroBytes it.input (span 12 4)
  ensure (within 1 4096 count) 0x010A 0x10008
  checkRoom it (64 * count + 200)
  pure (fld it.input 0 8, count)

/-- LOG_EXPORT: pending summaries are written, the sealed records exported with a signed trailer, and LOG_EXPORTED
written. -/
def execLogExport (slot : Nat) (s : State) : Host.Outcome State Fault Refusal :=
  .next (s.runVerb slot 0x0B02 (fun s it => do
    let (first, count) ← s.logExportChecks it
    let s := s.flushSummaries
    let start := max first s.oldest
    let rs := (List.range (min count (s.newest + 1 - start))).filterMap (fun i => s.findRec (start + i))
    let ends := if rs.isEmpty then Config.emptyExport first else (start, start + rs.length - 1)
    let body := s.exportTrailer ends.1 ends.2 rs.length (start - 1) rs
    let sg := s.wardenSign p384 0x21 s.attestScalar 2 body
    let s := sg.2.logG 0x0F03 (le 8 ends.1 ++ le 8 ends.2)
    pure ((s.finishM it 0 0 (le 8 ends.1 ++ le 8 ends.2) ((rs.map HeatRec.bytes).flatten ++ body ++ sg.1) 0 none []).signed slot 1)))

/-! ## LOG_ACK (R462) -/

/-- The signature of an export trailer verifies with the device's attestation key (R462). -/
def State.trailerSigned (s : State) (d : Bytes) : Bool :=
  p384Verify (p384.pubBytes s.attestScalar) (d.take 0x68) (sub d 0x68 96)

/-- The checks of LOG_ACK: the trailer's FIRST and LAST (R462). -/
def State.logAckChecks (s : State) (it : Item) : Chk (Nat × Nat) := do
  let _ ← s.prologue it []
  checkInline it []
  let d := it.input
  ensure (fld d 0 4 == 0x58454C48) 0x010A 0x10000
  ensure (fld d 4 2 == 1) 0x010A 0x10004
  ensure (sub d 8 16 == fit 16 s.fuses.serial) 0x010A 0x10008
  s.checkRiser true
  ensureLate (s.trailerSigned d) 0x0400 0
  ensureLate (fld d 0x18 8 ≤ s.log.acked + 1) 0x010A 0x10018
  pure (fld d 0x18 8, fld d 0x20 8)

/-- LOG_ACK. -/
def execLogAck (slot : Nat) (s : State) : Host.Outcome State Fault Refusal :=
  .next (s.runVerb slot 0x0B03 (fun s it => do
    let (first, last) ← s.logAckChecks it
    let old := s.log
    let s := (s.setBounds s.log.cleared (max s.log.acked last)).logG 0x0F02 (le 8 first ++ le 8 last)
    pure (s.finishM it 0 0 [] [] 64 (some (lineLife 3)) [.bounds old.cleared old.acked])))

end Sys2Proof.Machine
end

