-- ==== Sys2Proof/Machine/Slices.lean ====
section
/-!
DEFINITION. The slice verbs of group 0x09xx: creation, attachment, deletion, migration and mirroring
(R374–R393, R397, R400, R401).
-/
namespace Sys2Proof.Machine

/-! ## The common frame (R383) -/

/-- TARGET. -/
def sliceTarget (it : Item) : Nat := fld it.desc 0x38 2

/-- TARGET is in a state the verb admits; slice 0 is never admitted, and its state code is taken as ACTIVE
(assumption log 14). A slice whose record is bad admits SLICE_DELETE alone (R375). -/
def State.checkTarget (s : State) (n : Nat) (states : List Nat) (del : Bool := false) : Chk Unit :=
  if n = 0 then .error (.late 0x0E01 1)
  else ensureLate (states.contains (s.slice n).state && (del || !(s.slice n).recordBad)) 0x0E01 (s.slice n).state

/-- The checks of a slice verb: its input and inline bytes, its own parameter checks, the output's room, the riser, the
state of its target, whose number they give. -/
def State.sliceChecks (s : State) (it : Item) (states : List Nat) (pre : Item → Nat → Chk Unit) (room : Nat → Nat)
    (del : Bool := false) : Chk Nat := do
  let _ ← s.prologue it []
  checkInline it [(0x38, 2)]
  let n := sliceTarget it
  ensure (n ≤ 4095) 0x010A 0x38
  pre it n
  checkRoom it (room n)
  s.checkRiser true
  s.checkTarget n states del
  pure n

/-- A slice verb: its checks, then its effect. -/
def State.sliceVerb (s : State) (slot v : Nat) (states : List Nat) (pre : Item → Nat → Chk Unit) (room : Nat → Nat)
    (f : Item → Nat → Chk State) (del : Bool := false) : State :=
  s.runVerb slot v (fun s it => do
    let n ← s.sliceChecks it states pre room del
    f it n)

/-- No parameter checks of its own. -/
def noPre (_ : Item) (_ : Nat) : Chk Unit := .ok ()

/-- No output. -/
def noRoom (_ : Nat) : Nat := 0

/-- The slice's record takes a new form, with a NOTICE where `notice` is not 0; the verb's commit entry carries it. A
mirrored slice's change waits for its mirror (R375, R382, R398). -/
def State.changeSlice (s : State) (it : Item) (n notice : Nat) (f : Slice → Slice) (output : Bytes := []) : State :=
  let old := s.slice n
  let s := s.modSlice n (fun x =>
    let y := f x
    if notice = 0 then y else { y with notice := notice, noticeTime := s.devUs })
  let s := (s.writeStatus n).sliceEvent n
  (s.finishM it 0 0 [] output 256 (some (lineSlice n)) [.slice n old]).mirrorItem n it.slot

/-! ## SLICE_CREATE (R374, R379, R383) -/

/-- SLICE_CREATE's own check: a record is left below MAX_SLICES, or the number is being deleted. -/
def State.createPre (s : State) (_ : Item) (n : Nat) : Chk Unit :=
  ensure (decide (s.existing < s.pat.maxSlices) || (s.slice n).state == 2) 0x010A 0x38

/-- SLICE_CREATE: of a number whose deletion drains it is held, beside any held before it (R24, R379). -/
def execSliceCreate (slot : Nat) (s : State) : Host.Outcome State Fault Refusal :=
  .next (s.sliceVerb slot 0x0901 [0, 2, 9] s.createPre noRoom
    (fun it n => do
      s.checkRng
      let x := s.slice n
      if x.state = 2 then
        pure (((s.modSlice n (fun x => { x with heldCreate := x.heldCreate ++ [slot] })).finishM it 0 0 [] [] 0 none [] [.drain]).sliceDrained n)
      else pure ((s.createSlice n slot).finishM it 0 0 [] [] 0 none [])))

/-! ## SLICE_ATTACH and SLICE_DETACH (R377, R378) -/

/-- Two ranges given by base and length share a number. -/
def rangesMeet (a n b m : Nat) : Bool := n > 0 && m > 0 && a < b + m && b < a + n

/-- The checks of an attach's 64-byte input, in the order of its fields (R377). -/
def State.checkAttach (s : State) (n : Nat) (d : Bytes) : Chk Unit := do
  let bad := fun (o : Nat) => 0x10000 + o
  let others := s.slc.slices.filter (fun (x : Slice) => x.number != n)
  let bound := others.filter (fun (x : Slice) => x.attached)
  let pasid := fld d 0 4
  match ([15] ++ (List.range 4).map (· + 28) ++ (List.range 24).map (· + 40)).find? (fun o => byteAt d o != 0) with
  | some o => stop 0x0105 (bad o)
  | none =>
    ensure (pasid < 2 ^ 20) 0x0105 (bad (if bits pasid 20 4 ≠ 0 then 2 else 3))
    ensure (s.host.pasidEnable && !bound.any (fun x => x.pasid == pasid)) 0x010A (bad 0)
    let mn := if fld d 4 4 = 0 then s.pat.minSlots else fld d 4 4
    ensure (decide (fld d 4 4 ≤ 64) && decide (bound.foldl (fun k x => k + x.min) mn ≤ 61440)) 0x010A (bad 4)
    ensure (fld d 8 4 == 0 || (mn ≤ fld d 8 4 && fld d 8 4 ≤ 65536)) 0x010A (bad 8)
    ensure (fld d 12 2 ≤ 1024) 0x010A (bad 12)
    ensure (byteAt d 14 ≤ 7) 0x010A (bad 14)
    let vb := fld d 16 2
    let vc := fld d 18 2
    ensure (1 ≤ vc && vc ≤ 64) 0x010A (bad 18)
    ensure (64 ≤ vb && vb + vc ≤ 2048 && !rangesMeet vb vc s.slc.mbVector 1 &&
      !bound.any (fun x => rangesMeet vb vc x.vecBase x.vecCount)) 0x010A (bad 16)
    let cb := fld d 20 4
    let cq := fld d 24 4
    ensure (cq ≤ 65536) 0x010A (bad 24)
    ensure (cb + cq ≤ 65536 && !others.any (fun x => x.state != 0 && rangesMeet cb cq x.countBase x.countQuota) &&
      !s.kst.counted.any (fun (c : CountedRec) => c.slice == 0 && decide (cb ≤ c.index) && decide (c.index < cb + cq)) &&
      !s.kst.counted.any (fun (c : CountedRec) => c.slice == n && !(decide (cb ≤ c.index) && decide (c.index < cb + cq))))
      0x010A (bad 20)
    ensure (fld d 32 8 % 4096 == 0) 0x010A (bad 32)

/-- SLICE_ATTACH's own checks. -/
def State.attachPre (s : State) (it : Item) (n : Nat) : Chk Unit := s.checkAttach n it.input

/-- SLICE_ATTACH: held while the slice's detachment drains, the latest request replacing an earlier one (R24,
R377). -/
def execSliceAttach (slot : Nat) (s : State) : Host.Outcome State Fault Refusal :=
  .next (s.sliceVerb slot 0x0902 [1, 8, 3, 4, 5, 6] s.attachPre noRoom (fun it n =>
    let x := s.slice n
    pure (if x.detaching then
        let s := match x.heldAttach with
          | some (i, _) => s.settle i 0x0C03 0 0 [] [] []
          | none => s
        (s.modSlice n (fun x => { x with heldAttach := some (slot, it.input) })).finishM it 0 0 [] [] 0 none [] [.drain]
      else ((s.bindSlice n it.input (some slot)).finishM it 0 0 [] [] 0 none []).mirrorItem n slot)))

/-- The checks of SLICE_DETACH: the slice, which is attached (R378). -/
def State.detachChecks (s : State) (it : Item) : Chk Nat := do
  let _ ← s.prologue it []
  checkInline it [(0x38, 2)]
  let n := sliceTarget it
  ensure (n ≤ 4095) 0x010A 0x38
  ensureLate (n != 0 && (s.slice n).attached) 0x0E01 (if n = 0 then 1 else (s.slice n).state)
  pure n

/-- SLICE_DETACH: has no persistent effect and is accepted while QUENCHED (R378, R383). -/
def execSliceDetach (slot : Nat) (s : State) : Host.Outcome State Fault Refusal :=
  .next (s.runVerb slot 0x0903 (fun s it => do
    let n ← s.detachChecks it
    let s := s.modSlice n (fun x => { x with detachItems := x.detachItems ++ [slot] })
    pure ((s.finishM it 0 0 [] [] 0 none [] [.drain]).beginDetach n true).offerAll))

/-! ## SLICE_DELETE and SLICE_GENERATION (R212, R230, R379) -/

/-- SLICE_DELETE: items that wait for nothing but their commit entries finish in silence, every other item goes; the
erasure follows once the slice has drained. Held creates are cancelled; a deletion that runs already serves this request too
(R24, R379). -/
def execSliceDelete (slot : Nat) (s : State) : Host.Outcome State Fault Refusal :=
  .next (s.sliceVerb slot 0x0904 [1, 2, 3, 4, 5, 6, 8, 9] noPre noRoom (del := true) (fun it n =>
    let x := s.slice n
    let cancel := fun (s : State) (l : List Nat) => l.foldl (fun (s : State) i => s.settle i 0x0C03 0 0 [] [] []) s
    let was := x.state
    let s := cancel s x.heldCreate
    let s := if x.state = 3 then cancel s x.drainItem else s
    let s := if x.state = 2 then s else s.setSliceState n 2 10 (some slot)
    let s := s.modSlice n (fun x => { x with
      heldCreate := [], drainItem := if was = 2 then x.drainItem ++ [slot] else [slot] })
    let s := s.finishM it 0 0 [] [] 0 none [] [.drain]
    let s := { s with
      queues.complBuf := s.queues.complBuf.filter (fun c => !(c.qid / 64 == n))
      queues.batches := s.queues.batches.filter (fun b => !(b.qid / 64 == n))
      tnd.items := s.tnd.items.map (fun (i : Item) => if i.slice == n then { i with quiet := true } else i) }
    let gone := s.tnd.items.filter (fun (i : Item) => i.slice == n && !(i.state == .running && i.phase == .waiting &&
      i.waits.all (fun w => w == Wait.commit)))
    let s := gone.foldl (fun (s : State) (i : Item) => s.dropItem i.slot) s
    pure ((if (s.slice n).state = 2 then s.sliceDrained n else s).offerAll)))

/-- Older generations lose their cache entries; their pins are withdrawn (R229, R230). -/
def State.staleKeys (s : State) (n : Nat) : State :=
  let s := (s.kst.hubCache.filter (fun (e : HubEntry) => e.slice == n && !e.pinned)).foldl State.freeHub s
  { s with
    kst.hubCache := s.kst.hubCache.map (fun (e : HubEntry) => if e.slice == n then { e with withdrawn := true } else e)
    fabric.clusters := s.fabric.clusters.map (fun (c : Cluster) =>
      { c with sbuKeys := c.sbuKeys.filter (fun (k : SbuKey) => !(k.slice == n))
               keys := c.keys.filter (fun (k : CachedKey) => !(k.slice == n)) }) }.freeDrained

/-- SLICE_GENERATION's own check: the generation can still rise. -/
def State.generationPre (s : State) (_ : Item) (n : Nat) : Chk Unit := ensure ((s.slice n).generation < 65535) 0x010A 0x38

/-- SLICE_GENERATION. -/
def execSliceGeneration (slot : Nat) (s : State) : Host.Outcome State Fault Refusal :=
  .next (s.sliceVerb slot 0x0905 [1, 8] s.generationPre noRoom (fun it n =>
    pure ((s.staleKeys n).changeSlice it n 9 (fun x => { x with generation := x.generation + 1 }))))

/-! ## SLICE_FREEZE and SLICE_THAW (R386, R392) -/

/-- Remaining time of a NOT_BEFORE item in units of 250 ns. -/
def State.remaining (s : State) (slot : Nat) : Nat :=
  match s.tnd.delays.find? (fun e => e.kind == .notBefore slot) with
  | some e => s.tnd.tick0 + e.due * 2 ^ s.pat.tickExp - s.m.now
  | none => 0

/-- SLICE_FREEZE: fetching stops, NOT_BEFORE items are removed with their remaining time, the rest runs; the freeze
completes when the slice has drained. -/
def execSliceFreeze (slot : Nat) (s : State) : Host.Outcome State Fault Refusal :=
  .next (s.sliceVerb slot 0x0910 [1] noPre noRoom (fun it n => do
    ensureLate (s.slice n).mirrorPeer.isEmpty 0x0E01 1
    let delayed := sortBy (fun (i : Item) => i.seq) (s.tnd.items.filter (fun (i : Item) =>
      i.slice == n && i.state == .delayed && s.hasDelay (.notBefore i.slot)))
    let carried := delayed.map (fun (i : Item) => (i.qid % 64, i.desc, s.remaining i.slot))
    let s := s.setSliceState n 3 1 (some slot)
    let s := s.modSlice n (fun x => { x with drainItem := [slot], carried := some { delayed := carried } })
    let s := s.finishM it 0 0 [] [] 0 none [] [.drain]
    let s := delayed.foldl (fun (s : State) (i : Item) => s.dropItem i.slot) s
    pure ((if (s.slice n).state = 3 then s.sliceDrained n else s).offerAll)))

/-- A captured completion is written first, or parked while its CQ is full (R391). The image does not carry NOTIFY;
each is announced (assumption log 14). -/
def State.reinstateEntry (s : State) (n : Nat) (c : Nat × Bytes) : State :=
  let q := 64 * n + c.1
  if (s.queue q).state = 0 then s
  else if s.parked q > 0 || (s.queue q).cqFull then
    { s with queues.complBuf := s.queues.complBuf ++ [{ qid := q, entry := c.2, notify := true, order := s.tnd.postSeq }]
             tnd.postSeq := s.tnd.postSeq + 1 }
  else s.writeEntry q (withPflags c.2 2) true

/-- A carried delayed item re-enters a delay list with its remaining time in ticks, rounded up, at least 1 (R391). -/
def State.reinstateDelayed (s : State) (n : Nat) (c : Nat × Bytes × Nat) : State :=
  let q := 64 * n + c.1
  if (s.queue q).state = 0 then s
  else
    let slot := (s.newSlots 1).headD 0
    let it := s.newItem slot q c.2.1
    let s := { s with tnd.items := s.tnd.items ++ [{ it with state := .delayed }], tnd.seqNo := s.tnd.seqNo + 1 }
    s.addDelay it.prio (max 1 (ceilDiv c.2.2 (2 ^ s.pat.tickExp))) false (.notBefore slot)

/-- What a slice carries is reinstated: contexts, then completions, then delayed items (R391, R392). -/
def State.reinstate (s : State) (n : Nat) : State :=
  match (s.slice n).carried with
  | none => s
  | some r =>
    let s := r.queues.foldl (fun (s : State) c => s.setQueue c) s
    let s := r.completions.foldl (fun (s : State) c => s.reinstateEntry n c) s
    let s := r.delayed.foldl (fun (s : State) c => s.reinstateDelayed n c) s
    (s.modSlice n (fun x => { x with carried := none })).updateStall n

/-- SLICE_THAW. -/
def execSliceThaw (slot : Nat) (s : State) : Host.Outcome State Fault Refusal :=
  .next (s.sliceVerb slot 0x0916 [4, 5] noPre noRoom (fun it n =>
    pure ((s.reinstate n).changeSlice it n 4 (fun x =>
      { x with state := 1, peerKey := [], offerId := [], imageDigest := [] }))))

/-! ## Migration objects (R387–R391) -/

/-- The end of a migration object: DOMAIN_TAG and SIGNATURE over what precedes each (R387). -/
def State.sealObject (s : State) (body : Bytes) : Bytes × State :=
  let tagged := body ++ cmacAes s.proofKey body
  let r := s.wardenSign p384 0x21 s.attestScalar 2 tagged
  (tagged ++ r.1, r.2)

/-- The common start: MAGIC, FORMAT and SLICE. -/
def objectHead (magic n : Nat) : Bytes := le 4 magic ++ le 2 1 ++ le 2 n

/-- An object's signature verifies under a key: its last 96 bytes. -/
def signedUnder (key o : Bytes) : Bool := p384Verify key (o.take (o.length - 96)) (o.drop (o.length - 96))

/-- SLICE_OFFER (R387). -/
def execSliceOffer (slot : Nat) (s : State) : Host.Outcome State Fault Refusal :=
  .next (s.sliceVerb slot 0x0911 [0] noPre (fun _ => 264) (fun it n => do
    ensureLate (s.slc.offers.length < 16) 0x0E01 0x100
    s.checkRng
    let k := s.drawP384
    let i := k.2.draw 16
    let s := i.2
    let o := s.sealObject (objectHead 0x464F4C53 n ++ fit 16 s.fuses.serial ++ i.1 ++ le 1 s.lcState.code ++ zeros 7 ++
      p384.pubBytes k.1 ++ zeros 7)
    let s := o.2
    let s : State := s.modSlice n (fun _ => ({ number := n, state := 10 } : Slice))
    let s := { s with
      slc.offers := s.slc.offers ++ [({ slice := n, id := i.1, priv := k.1, since := s.m.now } : Offer)] }
    pure ((s.finishM it 0 0 [] o.1 0 none []).signed slot 1)))

/-- The context of a queue in an image (R102, R388). -/
def contextOf (q : Nat) (d : Bytes) : QueueCtx :=
  { qid := q, sqBase := fld d 0 8, cqBase := fld d 8 8, sqLog2 := byteAt d 0x10, cqLog2 := byteAt d 0x11, prio := byteAt d 0x12
    ordered := bit (byteAt d 0x13) 0, intr := bit (byteAt d 0x13) 1, vector := fld d 0x14 2, sqTail := fld d 0x18 2
    sqHead := fld d 0x1A 2, cqTail := fld d 0x1C 2, cqHead := fld d 0x1E 2, phase := byteAt d 0x20, state := byteAt d 0x21
    err := fld d 0x22 2, fetched := fld d 0x30 8, posted := fld d 0x38 8 }

/-- Queue contexts of a slice that are not DISABLED, in order. -/
def State.liveQueues (s : State) (n : Nat) : List QueueCtx :=
  sortBy (fun (c : QueueCtx) => c.qid) (s.queues.ctxs.filter (fun (c : QueueCtx) => c.qid / 64 == n && c.state != 0))

/-- The body of an image (R388). A context carries its local queue number in its reserved bytes 0x16 (assumption
log 13). -/
def State.imageBody (s : State) (n : Nat) : Bytes :=
  let x := s.slice n
  let r := x.carried.getD {}
  let qs := s.liveQueues n
  let cs := s.countedCopy n
  let now := s.rtcSec
  let locks := x.lockouts.map (fun l => (l.1, l.2 - now))
  Config.imageHead { queues := qs.length, counted := cs.length, delayed := r.delayed.length
                     completions := r.completions.length, record := s.copyOf n } ++
    (qs.map (fun (c : QueueCtx) =>
      let b := s.contextImage c.qid
      b.take 0x16 ++ le 2 (c.qid % 64) ++ b.drop 0x18)).flatten ++
    (cs.map (fun c => le 4 c.1 ++ le 8 c.2.1 ++ le 4 c.2.2.1 ++ le 4 c.2.2.2 ++ zeros 4)).flatten ++
    (r.delayed.map (fun d => fit 64 d.2.1 ++ le 8 d.2.2)).flatten ++
    (r.completions.map (fun c => le 1 c.1 ++ zeros 7 ++ fit 32 c.2)).flatten ++
    fit 96 ((locks.map (fun l => fit 8 l.1 ++ le 4 l.2)).flatten)

/-- Length of a slice's image with a chain of `chain` bytes (R388). -/
def imageLen (body chain : Nat) : Nat := ceilDiv (0xB0 + body + 16 + 4 + chain) 8 * 8 + 96

/-- The device's own chain: its identity and attestation key certificates as two segments. -/
def State.ownChain (s : State) : Bytes := segmentOf s.mea.identityCert ++ segmentOf s.mea.attCert

/-- Length of the body of a slice's image. -/
def State.bodyLen (s : State) (n : Nat) : Nat :=
  let r := (s.slice n).carried.getD {}
  32 + 256 + 64 * (s.liveQueues n).length + 24 * (s.countedCopy n).length + 72 * r.delayed.length +
    40 * r.completions.length + 96

/-- The transfer key (R388). -/
def transferKey (z src dst offer : Bytes) : Bytes := oneStep384 z (ascii "CLR SLICE TRANSFER" ++ src ++ dst ++ offer) 32

/-- SLICE_SAVE's input: the three segments parse, and the offer names TARGET. -/
def saveInput (it : Item) (n : Nat) : Chk (Bytes × Bytes × Bytes) := do
  let gs ← segmentsBy it [fun _ => true, fun _ => true, fun _ => true]
  let o := (gs.getD 0 (0, [])).2
  ensure (o.length == 264) 0x0103 0
  ensure (fld o 0 4 == 0x464F4C53) 0x010A 0x10004
  ensure (fld o 4 2 == 1) 0x010A 0x10008
  ensure (fld o 6 2 == n) 0x010A 0x1000A
  pure (o, (gs.getD 1 (0, [])).2, (gs.getD 2 (0, [])).2)

/-- SLICE_SAVE's own checks. -/
def savePre (it : Item) (n : Nat) : Chk Unit := (saveInput it n).map (fun _ => ())

/-- SLICE_SAVE (R388). -/
def execSliceSave (slot : Nat) (s : State) : Host.Outcome State Fault Refusal :=
  .next (
    let s := s.ensureCerts
    s.sliceVerb slot 0x0912 [4] savePre
      (fun n => imageLen (s.bodyLen n) s.ownChain.length) (fun it n => do
      let (o, idCert, attCert) ← saveInput it n
      match s.attestedKey idCert attCert with
      | none => .error (.late 0x0E02 0)
      | some key =>
        ensureLate (signedUnder key o && byteAt o 0x28 == Lc.deployed.code) 0x0E02 0
        ensureLate (cmacAes s.proofKey (o.take 0x98) == sub o 0x98 16) 0x0E03 0
        s.checkRng
        let e := s.drawP384
        match p384Shared e.1 (sub o 0x30 97) with
        | none => .error (.late 0x0E02 0)
        | some z =>
          let iv := e.2.draw 12
          let s := iv.2
          let src := fit 16 s.fuses.serial
          let chain := s.ownChain
          let body := s.imageBody n
          let total := imageLen body.length chain.length
          let hdr := objectHead 0x4D494C53 n ++ le 4 total ++ le 4 body.length ++ src ++ sub o 8 16 ++ sub o 0x18 16 ++
            p384.pubBytes e.1 ++ zeros 3 ++ iv.1
          let enc := gcmEnc (transferKey z src (sub o 8 16) (sub o 0x18 16)) iv.1 hdr body
          let pre := fit (total - 96) (hdr ++ enc.1 ++ enc.2 ++ le 4 chain.length ++ chain)
          let sg := s.wardenSign p384 0x21 s.attestScalar 2 pre
          let image := pre ++ sg.1
          let s := sg.2.zeroSlice n
          pure ((s.changeSlice it n 3 (fun x => { x with
            state := 5, offerId := sub o 0x18 16, imageDigest := sha384 image, peerKey := key }) image).signed slot 1)))

/-! ## SLICE_RESTORE (R389) -/

/-- Step 1: the lengths of an image agree. -/
def imageLengths (it : Item) (_ : Nat) : Chk Unit := do
  let d := it.input
  let total := fld d 8 4
  let body := fld d 0xC 4
  let at_ := 0xB0 + body + 16
  ensure (dInLen it.desc ≥ 0xB0 && total == dInLen it.desc) 0x0103 8
  ensure (at_ + 4 + 96 ≤ total) 0x0103 0xC
  ensure (imageLen body (fld d at_ 4) == total) 0x0103 at_
  ensure (fld d 0 4 == 0x4D494C53) 0x010A 0x10000
  ensure (fld d 4 2 == 1) 0x010A 0x10004

/-- What a body holds once its head is read. -/
structure ImageBody where
  /-- the record -/
  record : SliceCopy
  /-- counted-key records -/
  counted : List CountedRec
  /-- contexts, delayed items, completions -/
  carried : Restored
  /-- lockouts: PAN tag and remaining seconds -/
  lockouts : List (Bytes × Nat)
  deriving DecidableEq, Repr

/-- A deciphered body read for slice n; none where its counts disagree with its length. A delayed item is given to the
lowest carried unordered queue (assumption log 14). -/
def readBody (n : Nat) (b : Bytes) : Option ImageBody :=
  match Config.imageHeadRead (b.take 288) with
  | none => none
  | some h =>
    let q0 := 288
    let c0 := q0 + 64 * h.queues
    let d0 := c0 + 24 * h.counted
    let e0 := d0 + 72 * h.delayed
    let l0 := e0 + 40 * h.completions
    if l0 + 96 ≠ b.length then none
    else
      let qs := (List.range h.queues).map (fun i =>
        let o := q0 + 64 * i
        contextOf (64 * n + fld b (o + 0x16) 2 % 64) (sub b o 64))
      let home := ((qs.filter (fun (c : QueueCtx) => !c.ordered)).map (fun (c : QueueCtx) => c.qid % 64)).foldl min 63
      some {
        record := h.record
        counted := (List.range h.counted).map (fun i =>
          let o := c0 + 24 * i
          { index := fld b o 4, slice := n, keyId := fld b (o + 4) 8, limit := fld b (o + 12) 4, count := fld b (o + 16) 4 })
        carried := {
          queues := qs
          delayed := (List.range h.delayed).map (fun i => (home, sub b (d0 + 72 * i) 64, fld b (d0 + 72 * i + 64) 8))
          completions := (List.range h.completions).map (fun i =>
            (byteAt b (e0 + 40 * i) % 64, sub b (e0 + 40 * i + 8) 32)) }
        lockouts := ((List.range 8).map (fun i => (sub b (l0 + 12 * i) 8, fld b (l0 + 12 * i + 8) 4))).filter
          (fun l => l.1.any (· != 0) || l.2 != 0) }

/-- The source's attestation key, where the image's chain and signature verify (step 3). -/
def State.imageSigner (s : State) (d : Bytes) : Option Bytes :=
  let at_ := 0xB0 + fld d 0xC 4 + 16
  let len := fld d at_ 4
  let c0 := at_ + 4
  let l1 := fld d c0 4
  let c1 := c0 + 4 + ceilDiv l1 4 * 4
  let l2 := fld d c1 4
  if c1 + 4 + l2 > c0 + len then none
  else match s.attestedKey (sub d (c0 + 4) l1) (sub d (c1 + 4) l2) with
    | some k => if signedUnder k d then some k else none
    | none => none

/-- SLICE_RESTORE's own checks. -/
def State.restorePre (s : State) (it : Item) (n : Nat) : Chk Unit := do
  imageLengths it n
  ensure (s.existing < s.pat.maxSlices) 0x010A 0x38

/-- SLICE_RESTORE: whatever the target's state, an image without a live offer is IMAGE_INVALID (R389, R393). -/
def execSliceRestore (slot : Nat) (s : State) : Host.Outcome State Fault Refusal :=
  .next (s.sliceVerb slot 0x0913 (List.range 11) s.restorePre (fun _ => 200) (fun it n => do
    let d := it.input
    let serial := fit 16 s.fuses.serial
    match s.slc.offers.find? (fun (o : Offer) => o.slice == n && o.id == sub d 0x30 16) with
    | none => .error (.late 0x0E04 1)
    | some o =>
      ensureLate (fld d 6 2 == n && sub d 0x20 16 == serial) 0x0E04 1
      match s.imageSigner d with
      | none => .error (.late 0x0E02 0)
      | some key =>
        let body := fld d 0xC 4
        let plain := match p384Shared o.priv (sub d 0x40 97) with
          | some z => gcmDec (transferKey z (sub d 0x10 16) serial o.id) (sub d 0xA4 12) (d.take 0xB0) (sub d 0xB0 body)
              (sub d (0xB0 + body) 16)
          | none => none
        match plain with
        | none => .error (.late 0x0E04 2)
        | some p =>
          match readBody n p with
          | none => stop 0x0103 0xC
          | some b =>
            let r := b.record
            ensureLate (!s.slc.slices.any (fun (x : Slice) => x.number != n && x.state != 0 &&
                rangesMeet r.countBase r.countQuota x.countBase x.countQuota) &&
              !b.counted.any (fun c => s.kst.counted.any (fun (e : CountedRec) => e.index == c.index))) 0x0208 2
            let s := { s.forgetCounts (fun i => b.counted.any (fun c => c.index == i)) with
              slc.offers := s.slc.offers.filter (fun (x : Offer) => !(x.slice == n))
              kst.counted := b.counted.map s.sealCount ++ s.kst.counted }
            let dig := sha384 (d.take (fld d 8 4))
            let out := s.sealObject (objectHead 0x43524C53 n ++ serial ++ o.id ++ dig)
            let s := out.2
            let s := s.commit (24 * b.counted.length) none (some slot) (b.counted.map (fun c => Undo.counted c.index none))
            pure ((s.changeSlice it n 0 (fun _ => {
              number := n, state := 6, epoch := r.epoch, generation := r.generation, wrapped := kwpWrap s.sliceKey r.key
              pasid := r.pasid, min := r.min, cap := r.cap, weight := r.weight, ceiling := r.ceiling, vecBase := r.vecBase
              vecCount := r.vecCount, countBase := r.countBase, countQuota := r.countQuota, statusAddr := r.statusAddr
              lockouts := b.lockouts, peerKey := key, offerId := o.id, imageDigest := dig
              carried := some b.carried }) out.1).signed slot 1)))

/-! ## SLICE_DISCARD and SLICE_ACTIVATE (R390, R391) -/

/-- SLICE_DISCARD: one commit entry erases the slice and leaves its tombstone; a resubmission on the tombstone
returns the same certificate. -/
def execSliceDiscard (slot : Nat) (s : State) : Host.Outcome State Fault Refusal :=
  .next (s.sliceVerb slot 0x0914 [5, 9] noPre (fun _ => 224) (fun it n => do
    let d := it.input
    let x := s.slice n
    ensureLate (x.state == 5 || sub d 0x18 16 == x.offerId) 0x0E01 9
    ensureLate (fld d 0 4 == 0x43524C53 && fld d 4 2 == 1 && fld d 6 2 == n && sub d 0x18 16 == x.offerId &&
      sub d 0x28 48 == x.imageDigest && signedUnder x.peerKey d) 0x0E05 0
    if x.state = 9 then pure (s.finishM it 0 0 [] x.release 0 none [])
    else
      let c := s.sealObject (objectHead 0x4C524C53 n ++ fit 16 s.fuses.serial ++ sub d 8 16 ++ x.offerId ++ x.imageDigest ++
        le 4 (wrap 32 (x.epoch + 1)) ++ zeros 4)
      let s := (c.2.zeroSlice n).clearQueues n
      let stone : Slice := { x with
        state := 9, wrapped := [], hubKey := [], lockouts := [], carried := none, release := c.1
        countBase := 0, countQuota := 0, notice := 5, noticeTime := s.devUs }
      let s := ((s.eraseRecords n stone (some slot)).writeStatus n).sliceEvent n
      pure ((s.finishM it 0 0 [] c.1 0 none []).signed slot 1)))

/-- One entry of a rebind table (R391). -/
structure Rebind where
  /-- local queue -/
  index : Nat
  /-- VECTOR -/
  vector : Nat
  /-- SQ_BASE -/
  sqBase : Nat
  /-- CQ_BASE -/
  cqBase : Nat
  deriving DecidableEq, Repr

/-- SLICE_ACTIVATE's input: the certificate and the rebind table, its values in range (R102, R391). -/
def State.activateInput (s : State) (it : Item) (n : Nat) : Chk (Bytes × List Rebind) := do
  let gs ← segmentsBy it [within 224 224, fun k => within 0 1536 k && k % 24 == 0]
  let g := gs.getD 1 (0, [])
  let v := s.vectorsOf n
  let es := (List.range (g.2.length / 24)).map (fun i =>
    let o := 24 * i
    (0x10000 + g.1 + o, sub g.2 o 24))
  es.forM (fun e => do
    ensure (byteAt e.2 0 < 64) 0x010A e.1
    match [1, 4, 5, 6, 7].find? (fun o => byteAt e.2 o != 0) with
    | some o => stop 0x0105 (e.1 + o)
    | none => pure ()
    ensure (v.1 ≤ fld e.2 2 2 && fld e.2 2 2 < v.1 + v.2) 0x010A (e.1 + 2)
    ensure (fld e.2 8 8 % 64 == 0) 0x010A (e.1 + 8)
    ensure (fld e.2 16 8 % 32 == 0) 0x010A (e.1 + 16))
  pure ((gs.getD 0 (0, [])).2, es.map (fun e =>
    { index := byteAt e.2 0, vector := fld e.2 2 2, sqBase := fld e.2 8 8, cqBase := fld e.2 16 8 }))

/-- SLICE_ACTIVATE's own checks. -/
def State.activatePre (s : State) (it : Item) (n : Nat) : Chk Unit := (s.activateInput it n).map (fun _ => ())

/-- SLICE_ACTIVATE. -/
def execSliceActivate (slot : Nat) (s : State) : Host.Outcome State Fault Refusal :=
  .next (s.sliceVerb slot 0x0915 [6] s.activatePre noRoom (fun it n => do
    let (c, rs) ← s.activateInput it n
    let x := s.slice n
    ensureLate x.attached 0x0E01 6
    ensureLate (fld c 0 4 == 0x4C524C53 && fld c 4 2 == 1 && fld c 6 2 == n && sub c 0x18 16 == fit 16 s.fuses.serial &&
      sub c 0x28 16 == x.offerId && sub c 0x38 48 == x.imageDigest && cmacAes s.proofKey (c.take 0x70) == sub c 0x70 16 &&
      signedUnder x.peerKey c) 0x0E05 0
    let rebound := (x.carried.getD {}).queues.map (fun (q : QueueCtx) =>
      match rs.find? (fun (r : Rebind) => r.index == q.qid % 64) with
      | some r => { q with vector := r.vector, sqBase := r.sqBase, cqBase := r.cqBase }
      | none => q)
    let s := s.modSlice n (fun x => { x with carried := x.carried.map (fun (r : Restored) => { r with queues := rebound }) })
    let s := s.reinstate n
    let now := s.rtcSec
    let s := x.lockouts.foldl (fun (s : State) l => s.armLockout n l.1 (l.2 * 1000000)) s
    pure (s.changeSlice it n 6 (fun x => { x with
      state := 1, epoch := fld c 0x68 4, lockouts := x.lockouts.map (fun l => (l.1, now + l.2))
      peerKey := [], offerId := [], imageDigest := [] }))))

/-! ## Mirroring (R397, R400, R401) -/

/-- SLICE_MIRROR: the record set goes to the peer, and the verb completes when the peer has committed it; naming none
erases the copy. How the descriptor names the peer is not given: the row carries it (assumption log 14). -/
def execSliceMirror (slot : Nat) (peer : Option Bytes) (s : State) : Host.Outcome State Fault Refusal :=
  .next (s.sliceVerb slot 0x0920 [1] noPre noRoom (fun it n =>
    match peer with
    | none =>
      let old := (s.slice n).mirrorPeer
      let s := s.changeSlice it n 0 (fun x => { x with mirrorPeer := [], formerOwner := [] })
      pure (if old.isEmpty then s else s.sendMirror n 65536 old true)
    | some p => do
      ensureLate (s.portTo p).isSome 0x0E07 0
      pure ((s.finishM it 0 0 [] [] 0 none [] [.mirror]).sendMirror n slot p false)))

/-- MIRROR_TAKEOVER: no valid flit from the owner for 2 × LEASE_MS (R400). A peer not heard since the start counts
from it. -/
def execMirrorTakeover (slot : Nat) (s : State) : Host.Outcome State Fault Refusal :=
  .next (s.sliceVerb slot 0x0921 [7] noPre noRoom (fun it n => do
    let x := s.slice n
    let seen := (s.ngl.peerSeen.lookup x.mirrorPeer).getD s.stage.t0
    ensureLate (s.m.now - seen ≥ 2 * s.pat.leaseMs * 4000) 0x0E01 0x200
    pure (s.changeSlice it n 0 (fun x => { x with
      state := 1, epoch := wrap 32 (x.epoch + 1), mirrorPeer := [], formerOwner := x.mirrorPeer, attached := false
      hubKey := [] }))))

/-- SLICE_UNFENCE: the mirror peer is reachable and reports the same epoch (R401). -/
def execSliceUnfence (slot : Nat) (s : State) : Host.Outcome State Fault Refusal :=
  .next (s.sliceVerb slot 0x0922 [8] noPre noRoom (fun it n => do
    let x := s.slice n
    ensureLate (s.portTo x.mirrorPeer).isSome 0x0E07 0
    ensureLate (match x.peerReport with
      | some r => r.2 == x.epoch
      | none => false) 0x0E01 8
    pure (s.changeSlice it n 8 (fun x => { x with state := 1 }))))

end Sys2Proof.Machine
end

