-- ==== Sys2Proof/Machine/Registers.lean ====
section
/-!
DEFINITION. The register map of BAR0: what every register reads (R569–R583 and the field tables of the blocks'
chapters), the latched halves of 64-bit pairs (R8), and the writes of registers that have no row of their own (R570).
-/
namespace Sys2Proof.Machine

/-! ## Words of fields -/

/-- A word from its fields: lowest bit, width, value. -/
def pack (fields : List (Nat × Nat × Nat)) : Nat := fields.foldl (fun n f => n + wrap f.2.1 f.2.2 * 2 ^ f.1) 0

/-- Two's complement in `w` bits. -/
def twos (w : Nat) (i : Int) : Nat := (i % (2 ^ w : Nat)).toNat

/-- Word `i` of a byte string, byte 4i in bits [7:0]. -/
def wordAt (b : Bytes) (i : Nat) : Nat := fld b (4 * i) 4

/-- Bit i set where a condition holds, for i below `n`. -/
def bitsWhere (n : Nat) (f : Nat → Bool) : Nat := (List.range n).foldl (fun m i => m + b2n (f i) * 2 ^ i) 0

/-- Items that count, on the in-flight table. -/
def State.countItems (s : State) (f : Item → Bool) : Nat := (s.tnd.items.filter f).length

/-! ## GDS (R577–R579) -/

/-- GDS_LCLU of logical cluster L. -/
def State.lcluReg (s : State) (l : Nat) : Nat :=
  if !s.present l then 0xFF
  else
    let p := s.phys l
    let tested := s.fabric.spareTest.any (fun t => t.2 == l)
    pack [(0, 8, p), (8, 1, 1), (9, 1, b2n (s.stage.online.contains (l / 8) && (s.region (l / 8)).state == 2 && !tested)),
      (10, 1, (s.liveUnits p kindBNU).length), (11, 1, (s.liveUnits p kindDGU).length), (12, 3, (s.liveUnits p kindTC).length),
      (15, 3, (s.liveUnits p kindSBU).length), (18, 2, s.aItems l), (20, 3, (s.itemsIn l).length)]

/-- A word of 32 wires of a link's failure mask (R578). -/
def wireWord (wires : List Nat) (j : Nat) : Nat := bitsWhere 32 (fun i => wires.contains (32 * j + i))

/-- A die-link register (R578). -/
def State.linkReg (s : State) (k off : Nat) : Nat :=
  let l := s.fabric.links.getD k {}
  let words := if k = 4 then 2 else 17
  if off = 0 then pack [(0, 2, l.state), (2, 5, l.sparesDn), (7, 5, l.sparesUp)]
  else if off = 4 then l.retries
  else if off = 8 then min 2047 (l.recent.filter (fun t => decide (s.m.now < t + 4000000))).length
  else if off = 0xC then l.crcErr
  else if off = 0x10 then l.seqErr
  else if off = 0x1C then l.trainings
  else if 0x100 ≤ off ∧ off < 0x100 + 4 * words then wireWord l.failDn ((off - 0x100) / 4)
  else if 0x200 ≤ off ∧ off < 0x200 + 4 * words then wireWord l.failUp ((off - 0x200) / 4)
  else 0

/-- An entry of a factory repair map (R579). -/
def State.fmapReg (s : State) (d e : Nat) : Nat :=
  match (s.fuses.factoryMap.filter (fun x => x.die == d))[e]? with
  | some x => pack [(0, 1, 1), (1, 2, x.kind), (4, 2, x.region), (6, 4, x.position), (16, 16, x.row)]
  | none => 0

/-- An entry of a field repair map (R579). -/
def State.rmapReg (s : State) (d e : Nat) : Nat :=
  match (s.fabric.fieldMap.filter (fun x => x.die == d))[e]? with
  | some x => pack [(0, 1, 1), (1, 1, x.kind), (2, 2, x.region), (4, 4, x.position), (8, 2, x.unitKind), (10, 2, x.unit),
      (16, 16, x.hours)]
  | none => 0

/-- The GDS block. -/
def State.gdsReg (s : State) (off : Nat) : Nat :=
  let g := s.gds
  if off = 0 then 0x01B08800
  else if off = 4 then pack [(0, 1, b2n s.stage.fault), (1, 1, b2n s.locked), (2, 1, b2n s.quenched), (3, 3, s.stat),
    (6, 3, s.lcState.code), (9, 1, b2n s.kst.testRoot)]
  else if off = 8 then pack [(0, 4, s.stage.faultCause), (4, 3, g.faultDie), (8, 3, g.faultMemory)]
  else if off = 0xC then g.scratch
  else if 0x10 ≤ off ∧ off < 0x20 then wordAt s.fuses.serial ((off - 0x10) / 4)
  else if off = 0x48 then pack [(0, 17, g.sysclkKhz), (17, 1, b2n g.refclk)]
  else if off = 0x4C then pack [(0, 17, g.guardKhz)]
  else if 0x100 ≤ off ∧ off < 0x300 then s.lcluReg ((off - 0x100) / 4)
  else if 0x400 ≤ off ∧ off < 0x470 then
    let n := (off - 0x400) / 8
    wrap 16 (if off % 8 = 0 then g.railMv.getD n 0 else g.railMa.getD n 0)
  else if 0x480 ≤ off ∧ off < 0x4B0 then
    let n := (off - 0x480) / 8
    if off % 8 = 0 then g.hmemCorr.getD n 0 else g.hmemUnc.getD n 0
  else if 0x4C0 ≤ off ∧ off < 0x4D4 then twos 16 (g.temps.getD ((off - 0x4C0) / 4) 0)
  else if 0x1000 ≤ off ∧ off < 0x2400 then s.linkReg ((off - 0x1000) / 0x400) (off % 0x400)
  else if 0x3000 ≤ off ∧ off < 0x3140 then s.fmapReg ((off - 0x3000) / 0x40) (off % 0x40 / 4)
  else if 0x4000 ≤ off ∧ off < 0x4280 then s.rmapReg ((off - 0x4000) / 0x80) (off % 0x80 / 4)
  else 0

/-! ## STG and PAT (R66, R93) -/

/-- The STG block. -/
def State.stgReg (s : State) (off : Nat) : Nat :=
  let t := s.stage
  match off with
  | 0x00 => pack [(0, 3, s.stageCode), (3, 1, b2n t.verbs), (4, 1, b2n t.fullcap), (5, 1, b2n t.unsealed),
      (6, 1, b2n t.riserWait), (7, 1, b2n t.riserTimeout), (8, 1, b2n t.fault), (9, 1, b2n s.locked), (10, 1, b2n s.quenched),
      (11, 1, b2n t.held), (12, 1, b2n t.repourBusy), (13, 1, b2n t.repourPending), (14, 1, b2n t.patSlot),
      (15, 1, b2n t.fwSlot)]
  | 0x04 => pack [(0, 8, t.reasonCode), (8, 3, t.reasonStage), (16, 16, t.reasonDetail)]
  | 0x08 => pack [(1, 1, b2n t.hubHold)]
  | 0x0C => pack [(0, 16, bitsWhere 16 (fun g => t.online.contains g)), (16, 16, bitsWhere 16 (fun g => t.usable.contains g))]
  | 0x10 => wrap 32 t.tGuard
  | 0x14 => wrap 32 t.tHub
  | 0x18 => wrap 32 t.tFull
  | 0x1C => wrap 32 t.tVerbs
  | 0x20 => wrap 32 t.tFullcap
  | 0x24 => s.capacity0
  | 0x28 => s.capacity1
  | 0x2C => pack [(0, 4, bitsWhere 4 (fun d => t.dieOffline.contains d)), (8, 8, t.newRetired)]
  | _ => 0

/-- A PATTERN_STAGE is running, from its start on (R93). -/
def State.stageRunning (s : State) : Bool := s.running.any (fun x => dVerb x.desc == 0x0130)

/-- The PAT block. -/
def State.patReg (s : State) (off : Nat) : Nat :=
  let p := s.pat
  match off with
  | 0x00 => pack [(0, 1, b2n p.accepted), (1, 1, b2n p.slotB), (2, 1, b2n p.fallback), (3, 1, b2n s.per.actPattern),
      (4, 1, b2n s.per.actFirmware), (5, 1, b2n p.cosigned), (6, 1, b2n p.floorRaised), (7, 1, b2n p.widthLow),
      (8, 8, p.causeA), (16, 8, p.causeB), (24, 1, b2n s.stageRunning)]
  | 0x04 => p.version
  | 0x08 => if p.rollbackShown then s.per.rollback else 0
  | 0x0C => pack [(0, 6, s.fuses.epoch), (8, 6, p.imageEpoch)]
  | 0x40 => p.fwVersion
  | 0x44 => p.stageProgress
  | 0x48 => pack [(0, 1, b2n (s.dcc.patKey0 != [])), (1, 1, b2n (s.dcc.patKey1 != [])), (2, 1, b2n s.fuses.cosignRequired),
      (3, 1, b2n p.keyUsed)]
  | _ => if 0x10 ≤ off ∧ off < 0x40 then wordAt p.digest ((off - 0x10) / 4) else 0

/-! ## TND, QAW, CHL, SLC, KST (R106, R151, R236, R402, R419) -/

/-- The TND block. AT_CEILING reads 0: the model's takes never wait for the dispatch ceiling (assumption log 17). -/
def State.tndReg (s : State) (off : Nat) : Nat :=
  let t := s.tnd
  let mustRun := fun (x : Item) => x.state == .ready && x.mustRun
  let ready := fun (cls p : Nat) => s.countItems (fun x => x.state == .ready && x.cls == cls && x.prio == p)
  match off with
  | 0x00 => pack [(0, 1, b2n t.dispatching), (2, 1, b2n t.wakeDemand), (3, 1, b2n (t.items.any mustRun)),
      (4, 1, b2n (s.stage.annealDone && !s.hasCapacity kindBNU)),
      (5, 1, b2n (s.stage.annealDone && !s.hasCapacity kindDGU)), (8, 4, s.pat.tickExp)]
  | 0x04 => pack [(0, 24, t.badAccess), (24, 2, t.badBar)]
  | 0x10 => t.delays.length
  | 0x14 => s.countItems mustRun
  | 0x18 => t.promoted
  | 0x1C => t.aged
  | 0x30 => t.blocked.length
  | 0x34 => s.countItems (fun x => x.state == .fenced)
  | 0x38 => pack [(0, 16, sat 16 (s.countItems (fun x => x.state == .ready && x.cls == 2))),
      (16, 16, sat 16 (s.countItems (fun x => x.state == .ready && x.cls == 3)))]
  | _ => if 0x40 ≤ off ∧ off < 0x60 then ready 0 ((off - 0x40) / 4)
    else if 0x60 ≤ off ∧ off < 0x80 then ready 1 ((off - 0x60) / 4)
    else 0

/-- The QAW block; a command ends within its step, so BUSY reads 0. -/
def State.qawReg (s : State) (off : Nat) : Nat :=
  let q := s.queues
  if off = 0 then q.qawSelect
  else if off = 8 then pack [(1, 1, b2n q.qawRefused), (4, 4, q.qawCause), (8, 3, q.qawState)]
  else if 0x40 ≤ off ∧ off < 0x80 then q.qawData.getD ((off - 0x40) / 4) 0
  else 0

/-- The CHL block. -/
def State.chlReg (s : State) (off : Nat) : Nat :=
  let c := s.chl
  match off with
  | 0x00 => pack [(0, 5, s.regionsOn.length), (5, 1, b2n s.throttling), (6, 1, b2n c.staticOver),
      (7, 1, b2n ((List.range 16).any (fun g => decide ((s.region g).credit < 0))))]
  | 0x04 => pack [(0, 11, c.pplCap), (12, 2, c.opCap)]
  | 0x08 => if s.pat.accepted then pack [(0, 11, s.pplEff), (16, 7, s.pat.throttleC)] else 0
  | 0x0C => pack [(0, 16, c.pkgPower), (16, 16, c.pStatic)]
  | 0x10 => pack [(0, 16, twos 16 c.hottest), (16, 4, c.hottestRegion), (20, 1, b2n c.noRegion)]
  | 0x1C => c.stepdowns
  | 0x20 => c.wakes
  | 0x24 => c.gates
  | 0x28 => c.thermalGates
  | _ => 0

/-- The SLC block; SLC_MB_NEXT has a row of its own. -/
def State.slcReg (s : State) (off : Nat) : Nat :=
  let n := s.slc.select
  let shown := n == 0 || s.stage.restored
  let x : Slice := if shown then s.slice n else {}
  let when_ := fun (c : Bool) (v : Nat) => if c then v else 0
  match off with
  | 0x00 => n
  | 0x04 => pack [(0, 4, x.state), (4, 1, b2n (s.sliceAttached n)), (5, 1, b2n (if n = 0 then s.slc.slice0.stalled else x.stalled)),
      (6, 1, b2n (x.mirrorPeer != [] && x.state != 7)), (7, 1, b2n (x.heldAttach.isSome || !x.heldCreate.isEmpty))]
  | 0x08 => if x.attached then x.pasid else 0
  | 0x0C => s.held n
  | 0x10 => s.countItems (fun i => i.slice == n && i.state == .ready)
  | 0x14 => s.countItems (fun i => i.slice == n && i.state == .delayed)
  | 0x18 => s.countItems (fun i => i.slice == n && i.state == .ready && i.mustRun)
  | 0x1C => pack [(0, 15, s.pinsOf n), (16, 16, when_ shown (s.genOf n))]
  | 0x20 => when_ s.stage.restored (s.countedOf n)
  | 0x24 => x.countQuota
  | 0x28 => x.epoch
  | 0x48 => s.slc.mbVector
  | 0x4C => pack [(0, 13, when_ s.stage.restored s.existing), (16, 13, s.attachedTenants.length)]
  | 0x50 => s.slc.offers.length
  | _ => 0

/-- The KST block. -/
def State.kstReg (s : State) (off : Nat) : Nat :=
  let k := s.kst
  match off with
  | 0x00 => pack [(0, 1, b2n k.firOk), (1, 1, b2n (!s.bbramEmpty)), (2, 1, b2n s.stage.unsealed),
      (3, 1, b2n k.testRoot), (4, 1, b2n k.bbramBad), (5, 1, b2n (s.stage.restored && decide (k.counted.length ≥ 65536))),
      (6, 1, b2n (decide (s.hubPinned ≥ 16384)))]
  | 0x20 => s.hubUsed
  | 0x24 => s.hubPinned
  | 0x28 => if s.stage.restored then k.counted.length else 0
  | 0x38 => k.corruptCount
  | 0x3C => k.staleCount
  | _ => if 0x10 ≤ off ∧ off < 0x20 ∧ (s.usesTestRoot ∨ !s.bbramEmpty) then wordAt s.domainIdNow ((off - 0x10) / 4) else 0

/-! ## HLW, TAM, LCS, PER, MEA (R372, R446, R466, R488, R508) -/

/-- The HLW block; HLW_DATA15 has a row of its own. -/
def State.hlwReg (s : State) (off : Nat) : Nat :=
  let l := s.log
  match off with
  | 0x08 => pack [(0, 1, b2n l.valid), (1, 1, b2n l.gone), (2, 1, b2n l.atEnd), (3, 1, b2n l.chainBad),
      (4, 1, b2n s.pat.fullPolicyHold), (5, 1, b2n l.logFull), (6, 1, b2n l.unacked90),
      (7, 1, b2n (s.running.any (fun i => dVerb i.desc == 0x0B02)))]
  | 0x28 => l.dropped
  | 0x2C => l.suppressedCount
  | _ => if 0x40 ≤ off ∧ off < 0x80 then wordAt l.data ((off - 0x40) / 4) else 0

/-- The TAM block. -/
def State.tamReg (s : State) (off : Nat) : Nat :=
  let t := s.tam
  match off with
  | 0x00 => pack [(0, 1, b2n s.locked), (1, 1, b2n s.quenched), (2, 1, b2n s.quenchBusy), (3, 1, b2n t.armedCmd.isSome),
      (4, 1, b2n s.fuses.smbusQuenchOff), (5, 1, b2n t.replayed)]
  | 0x04 => bitsWhere 16 (fun n => t.latched.contains n)
  | 0x08 => bitsWhere 16 (fun n => t.active.contains n)
  | 0x0C => pack [(0, 16, bitsWhere 16 s.sourceArmed), (16, 16, bitsWhere 16 (fun n => t.chatter.contains n))]
  | 0x10 => pack ((List.range 16).map (fun n => (2 * n, 2, s.responseOf n)))
  | 0x14 => pack ((List.range 16).map (fun n => (2 * n, 2, s.floorOf n)))
  | 0x18 => pack [(0, 4, bitsWhere 4 (fun i => t.extLevel.getD i false)), (4, 4, s.pat.extFitted), (8, 4, s.pat.extPolarity)]
  | 0x1C => pack [(0, 13, t.vbat)]
  | 0x24 => t.decisions
  | 0x28 => t.mismatches
  | 0x2C => pack [(0, 4, t.replayEntries), (16, 16, t.replayOverflow)]
  | _ => if 0x40 ≤ off ∧ off < 0x80 then t.alarms.getD ((off - 0x40) / 4) 0 else 0

/-- The LCS block. The fuses of a partial position count from the lowest (assumption log 17). -/
def State.lcsReg (s : State) (off : Nat) : Nat :=
  let l := s.lc
  match off with
  | 0x00 => pack [(0, 3, s.lcState.code), (3, 1, b2n l.running.isSome), (4, 1, b2n l.resumed), (5, 1, b2n l.debugOpen),
      (8, 3, l.target)]
  | 0x04 => pack [(0, 8, bitsWhere 8 (fun n => !s.tokenConsumed (8 + n))), (8, 6, bitsWhere 6 s.tokenConsumed)]
  | 0x08 => pack ((List.range 6).map (fun p => (4 * p, 4, 2 ^ min 4 (s.fuses.lcWord.getD p 0) - 1)))
  | 0x0C => pack [(0, 1, b2n (intentValid l.intentA).isSome), (1, 1, b2n (intentValid l.intentB).isSome), (8, 3, l.step)]
  | 0x10 => pack [(0, 16, s.fuses.fusesFree)]
  | _ => 0

/-- The PER block; it reads 0 but for PERSIST_UNSAFE until stage Guard has loaded it. -/
def State.perReg (s : State) (off : Nat) : Nat :=
  let p := s.per
  let stuck := match p.waiting.head? with
    | some e => decide (s.journalUsed + e.size > journalBytes)
    | none => false
  match off with
  | 0x00 => pack [(0, 1, b2n p.persistUnsafe), (1, 1, b2n (s.pat.accepted && s.pat.riserUf == 0)), (2, 1, b2n p.riserFault), (3, 1, b2n p.calSet),
      (4, 2, p.calSource), (6, 1, b2n p.battLow), (7, 1, b2n p.saveIncomplete), (8, 1, b2n stuck),
      (9, 1, b2n (decide (p.counterArea.length ≥ 680))), (10, 1, b2n (decide (p.lines.length ≥ 256))), (11, 1, b2n p.batteryLost)]
  | 0x04 => pack [(0, 13, p.vriser), (16, 13, if !s.pat.accepted then 0 else if s.pat.riserUf = 0 || p.riserShort then 0x1FFF else vpMv s.pat.riserUf)]
  | 0x08 => pack [(0, 9, ceilDiv s.journalUsed 1024), (16, 10, p.counterArea.length)]
  | 0x0C => p.lines.length
  | 0x28 => pack [(0, 13, p.replay.length), (16, 16, p.replayHits)]
  | 0x2C => wrap 32 p.ringSeq
  | 0x30 => p.lifeSelect
  | 0x34 => if p.perLoaded then s.lifeValue p.lifeSelect else 0
  | 0x38 => if p.perLoaded then pack [(0, 7, p.wearRemaining), (8, 2, p.wearLimit), (16, 10, p.wearYears)] else 0
  | _ => 0

/-- The MEA block. -/
def State.meaReg (s : State) (off : Nat) : Nat :=
  let m := s.mea
  match off with
  | 0x00 => m.select
  | 0x04 => m.latchedCount
  | 0x40 => pack [(0, 1, b2n m.rngHealthy), (1, 1, b2n m.rngFailed), (2, 1, b2n m.rngDead), (8, 5, m.rngConsec)]
  | 0x44 => m.rngFails
  | 0x48 => m.statements
  | 0x4C => pack [(0, 1, b2n (match s.pat.staging with
        | some x => x.phase == 2
        | none => false)),
      (1, 1, b2n s.dcc.session.isSome),
      (2, 1, b2n (match s.cards.run with
        | some r => r.phase == .read
        | none => false))]
  | _ =>
    if 0x10 ≤ off ∧ off < 0x40 then wordAt m.latchedValue ((off - 0x10) / 4)
    else if 0x80 ≤ off ∧ off < 0xC0 then
      let n := (off - 0x80) / 4
      match m.slots.find? (fun (g : GuardSlot) => g.slot == n) with
      | some g => pack [(0, 1, b2n g.loaded), (1, 1, b2n g.user.isSome), (2, 1, b2n (s.loadPending n)), (3, 1, b2n g.grantAll),
          (8, 7, g.grants.length)]
      | none => 0
    else 0

/-! ## DCC (R518, R534, R568) -/

/-- An archive verb or ARCHIVE_PROTECT is at work (R557). -/
def State.archiveBusy (s : State) : Bool := s.cards.run.isSome || s.cards.sdItem.isSome

/-- LED[n] is driven on (R518, R557). -/
def State.ledOn (s : State) (n : Nat) : Bool :=
  let blink := Config.blinkLit n s.m.now
  let slot := s.icc (n / 2)
  if !bit s.pat.fitted 4 then false
  else if n = 4 then (if s.archiveBusy then true else if s.m.now < s.cards.led4Until then blink else false)
  else if n = 5 then
    match s.dcc.session with
    | some _ => blink
    | none => s.stat == 4 || s.stat == 5
  else if n % 2 = 0 then
    if s.m.now < slot.greenOffUntil || !slot.present || s.dcc.session.isNone then false
    else if s.dcc.keypad.slot == some (n / 2) then blink else slot.sealed
  else if slot.refused then true
  else if s.m.now < slot.redUntil then blink else false

/-- DCC_KEYPAD.STEP of a slot: 1 PIN, 2 new PIN, 3 component or check value. -/
def State.keypadStep (s : State) (n : Nat) : Nat :=
  match (s.exch n).step with
  | .pin => 1
  | .newPin | .newPin2 => 2
  | .component | .kcv => 3
  | _ => 0

/-- The dual-control registers, offsets 0x000–0x0FF. -/
def State.dualReg (s : State) (off : Nat) : Nat :=
  let d := s.dcc
  let admitted := match d.session with
    | some x => x.admitted.map (fun (a : Admitted) => a.index)
    | none => d.lastAdmitted
  let issued := match d.session with
    | some x => match x.issuing with
      | some i => i.written.length
      | none => 0
    | none => d.lastIssued
  let byState := fun (st : Nat) => bitsWhere 16 (fun i => d.records.any (fun (r : Custodian) => r.index == i + 1 && r.state == st))
  match off with
  | 0x00 => pack [(0, 4, match d.session with
        | some x => x.cls
        | none => d.lastClass),
      (4, 3, match d.session with
        | some x => s.phaseOf x
        | none => d.lastPhase),
      (8, 5, admitted.length), (16, 4, match d.session with
        | some x => s.quorumOf x
        | none => d.lastQuorum),
      (20, 4, d.endCause), (24, 5, issued)]
  | 0x04 => bitsWhere 16 (fun i => admitted.contains (i + 1))
  | 0x08 => match d.session with
    | some x => pack [(0, 12, (x.endsAt - s.m.now) / 4000000)]
    | none => 0
  | 0x0C => match d.session with
    | some x => pack [(0, 2, x.comps.length)]
    | none => 0
  | 0x10 =>
    let stuck := bitsWhere 16 (fun i => d.keypad.stuck.contains i)
    match d.keypad.slot with
    | some n => pack [(0, 7, d.keypad.entry.length), (8, 2, s.keypadStep n), (10, 1, n), (16, 16, stuck)]
    | none => pack [(16, 16, stuck)]
  | 0x14 => bitsWhere 6 s.ledOn
  | 0x20 => pack [(0, 16, byState 1), (16, 16, byState 2)]
  | 0x24 => pack [(0, 4, d.shareK), (8, 8, d.shareEpoch)]
  | 0x28 => d.ceremonies
  | _ => 0

/-- DCC_ICC_STATUS.STATE. -/
def IccState.code : IccState → Nat
  | .empty => 0 | .present => 1 | .activating => 2 | .active => 3 | .deactivating => 4
  | .activatePending => 5 | .refused => 6 | .chatter => 7 | .disabled => 8

/-- The registers of a contact-card slot: which of STATUS, PARAM, CLOCK, ERRORS, LAST. A slot not fitted reads 8 in
STATE and 0 elsewhere; a refused card shows REFUSED once its slot is off. -/
def State.iccReg (s : State) (n which : Nat) : Nat :=
  let c := s.icc n
  if !s.iccFitted n then (if which = 0 then 8 else 0)
  else match which with
  | 0 => pack [(0, 4, if c.refused && c.state == .present then 6 else c.state.code), (4, 2, c.cls), (6, 1, b2n c.protoT1),
      (7, 1, b2n c.present), (8, 1, b2n c.clockStopped), (9, 1, b2n c.edcCrc)]
  | 1 => pack [(0, 12, c.fi), (12, 6, c.di), (18, 8, if c.protoT1 then c.ifsc else 0)]
  | 2 => if c.clockStopped then 0 else pack [(0, 14, c.khz)]
  | 3 => pack [(0, 16, c.failed), (16, 16, c.retries)]
  | _ => pack [(0, 16, c.lastDetail)]

/-- DCC_SD_STATUS.STATE: BUSY while a verb or a card's busy holds a READY slot. -/
def State.sdStateCode (s : State) : Nat :=
  match s.cards.sdState with
  | .empty => 0 | .powering => 1 | .initialising => 2
  | .ready => if s.cards.run.isSome || s.cards.sdBusy then 4 else 3
  | .busy => 4 | .poweringOff => 5 | .powerPending => 6 | .failed => 7 | .disabled => 8 | .chatter => 9

/-- The SD slot's registers. -/
def State.sdReg (s : State) (off : Nat) : Nat :=
  let c := s.cards
  if !s.sdFitted then (if off = 0x140 then 8 else 0)
  else match off with
  | 0x140 => pack [(0, 4, s.sdStateCode), (4, 1, b2n c.sdPresent), (5, 1, b2n c.sdWp), (6, 1, b2n c.tmpWp), (7, 1, b2n c.permWp),
      (8, 1, b2n c.v18), (9, 3, c.sdMode), (12, 2, c.sdType), (14, 3, c.sdArchive)]
  | 0x144 => pack [(0, 6, c.tap), (8, 7, c.window), (16, 6, c.tuneCommands)]
  | 0x158 => wrap 32 ((c.archive.map (fun (a : Archive) => a.records)).getD 0)
  | 0x15C => pack [(0, 16, c.crcErrors), (16, 16, c.retunes)]
  | 0x160 => pack [(0, 16, c.sdLast)]
  | 0x164 => c.sdR1
  | _ => 0

/-- The DCC block. -/
def State.dccReg (s : State) (off : Nat) : Nat :=
  if off < 0x100 then s.dualReg off
  else if off < 0x128 then s.iccReg (off / 4 % 2) ((off - 0x100) / 8)
  else s.sdReg off

/-! ## NGL (R403) -/

/-- A lane register. -/
def Port.laneReg (p : Port) (l which : Nat) : Nat :=
  match which with
  | 0 => b2n (bit p.lanes l)
  | 1 => p.laneErr.getD l 0
  | 2 => wrap 8 (p.laneMarginT.getD l 0)
  | 3 => wrap 8 (p.laneMarginV.getD l 0)
  | 4 => wrap 16 (p.laneEq.getD l 0)
  | 5 => twos 16 (p.laneCdr.getD l 0)
  | 6 => b2n (p.prbs.getD l false)
  | _ => p.prbsErr.getD l 0

/-- A port's registers. -/
def State.nglReg (s : State) (n off : Nat) : Nat :=
  let p := s.port n
  let redundant := p.state == 4 && s.ngl.ports.any (fun (q : Port) => q.number != n && q.state == 4 && q.peer == p.peer)
  match off with
  | 0x00 => pack [(0, 3, p.state), (3, 1, b2n p.domainMatch), (4, 1, b2n redundant), (8, 4, p.lanes)]
  | 0x04 => b2n p.enable
  | 0x30 => p.retries
  | 0x34 => p.crcErr
  | 0x38 => p.tagErr
  | 0x3C => p.formatErr
  | 0x40 => p.downs
  | 0x44 => p.rekeys
  | _ =>
    if 0x10 ≤ off ∧ off < 0x20 then wordAt p.peer ((off - 0x10) / 4)
    else if 0x100 ≤ off ∧ off < 0x180 then p.laneReg ((off - 0x100) / 0x20) (off % 0x20 / 4)
    else 0

/-! ## RGN and CLU (R171, R201, R373, R420, R572, R580, R581) -/

/-- Ticks of 250 ns left on a region's idle timer. -/
def State.idleLeft (s : State) (g : Nat) : Nat :=
  match s.tnd.delays.find? (fun (e : DelayEntry) => e.kind == .regionIdle g) with
  | some e => (e.due - s.tickNow) * 2 ^ s.pat.tickExp
  | none => 0

/-- Units of a kind retired one by one in a region's field entries. -/
def State.retiredIn (s : State) (g kind : Nat) : Nat :=
  (s.fabric.fieldMap.filter (fun e => e.kind == 0 && e.unitKind == kind && e.die == g / 4 && e.region == g % 4)).length

/-- Positions of a region in a map, as bits. -/
def positionBits (l : List RepairEntry) (g kind : Nat) : Nat :=
  bitsWhere 9 (fun k => l.any (fun e => e.kind == kind && e.die == g / 4 && e.region == g % 4 && e.position == k))

/-- A region window (R420, R580): of a region that is not usable only RGN_ID, RGN_REPAIR and RGN_BIST read, and of an
offline die none. -/
def State.rgnReg (s : State) (g off : Nat) : Nat :=
  let r := s.region g
  if s.dieOff (g / 4) then 0
  else match off with
  | 0x40 => pack [(0, 4, g), (4, 2, g / 4), (6, 2, g % 4)]
  | 0x4C => pack [(0, 9, positionBits s.fuses.factoryMap g 0), (16, 9, positionBits s.fabric.fieldMap g 1)]
  | 0x50 => pack [(0, 9, bitsWhere 9 (fun k => r.bistFailed.contains k)), (16, 1, b2n r.pllFail), (17, 1, b2n r.switchFail),
      (18, 1, b2n r.bistSensor)]
  | _ =>
    if !s.liveRegions.contains g then 0
    else match off with
    | 0x00 => pack [(0, 3, r.state), (4, 2, r.op), (6, 1, b2n r.thermalGated), (7, 1, b2n r.mustrunSince), (8, 1, b2n r.sensorFail)]
    | 0x04 => twos 32 r.credit
    | 0x08 => r.pool
    | 0x0C => pack [(0, 16, r.dynMw), (16, 16, r.leakMw)]
    | 0x10 => pack [(0, 16, twos 16 r.hottest), (16, 8, r.factor)]
    | 0x14 => pack ((List.range 4).map (fun i => (8 * i, 8, twos 8 (r.sensors.getD i 0))))
    | 0x20 => wrap 32 (r.timeOp.getD 0 0 / 100)
    | 0x24 => wrap 32 (r.timeOp.getD 1 0 / 100)
    | 0x28 => wrap 32 (r.timeOp.getD 2 0 / 100)
    | 0x2C => pack [(0, 16, r.wakes), (16, 16, r.stepdowns)]
    | 0x44 => pack [(0, 1, 1), (1, 1, b2n (s.stage.online.contains g)), (2, 3, r.bringup),
        (5, 4, ((List.range 8).filter (fun i => s.present (8 * g + i))).length), (9, 1, b2n (!(s.spares g).isEmpty)),
        (10, 1, b2n (s.fabric.subst.any (fun p => p.1 / 8 == g)))]
    | 0x48 => pack ((List.range 8).map (fun i => (4 * i, 4, if s.present (8 * g + i) then physPos (s.phys (8 * g + i)) else 0xF)))
    | 0x54 => pack [(0, 1, b2n (r.pllLock.getD 0 false)), (1, 1, b2n (r.pllLock.getD 1 false)), (2, 1, b2n (r.pllLock.getD 2 false)),
        (16, 16, r.lockLosses)]
    | 0x58 => pack [(0, 16, r.bringupMs), (16, 8, r.katRetired)]
    | 0x5C => pack [(0, 8, s.retiredIn g kindTC), (8, 8, s.retiredIn g kindSBU), (16, 8, s.retiredIn g kindBNU),
        (24, 8, s.retiredIn g kindDGU)]
    | 0x60 => s.idleLeft g / 4
    | 0x6C => r.mustrun
    | _ => 0

/-- A cluster window (R171, R201, R373, R581), dark outside a powered cluster (R572). A known-answer test lasts only within
one step and reads 0; an abort lasts 2 µs (R199). -/
def State.cluReg (s : State) (p off : Nat) : Nat :=
  let c := s.cluster p
  let l := s.logicalOf p
  let tested := s.fabric.spareTest.any (fun t => t.1 == p)
  let up := s.stage.online.contains (physRegion p)
  let bnuCode := fun (i : Nat) => (c.bnuQueue[i]?.map (fun (m : BnuCmd) => m.code)).getD 0
  let work := fun (n : Nat) => c.sbuWork.getD n {}
  let borrows := fun (i : Nat) => (List.range 4).any (fun n => n != i && (work n).cores.contains i)
  let aborting := match c.abortAt with
    | some t => decide (s.m.now < t + 8)
    | none => false
  let holds := fun (i : Nat) => match l with
    | some l => s.running.any (fun x => x.executor == some (.core (4 * l + i)))
    | none => false
  let keyBits := fun (n : Nat) (f : SbuKey → Bool) => bitsWhere 4 (fun r => c.sbuKeys.any (fun k => k.sbu == n && k.reg == r && f k))
  if !s.clusterLit p then 0
  else match off with
  | 0x00 => pack [(0, 8, p), (8, 8, l.getD 0xFF), (16, 2, physRegion p % 4), (18, 2, p / 36), (20, 4, physPos p)]
  | 0x04 => pack [(0, 2, if tested then 2 else if l.isSome then 0 else 1), (2, 1, (s.liveUnits p kindBNU).length),
      (3, 1, (s.liveUnits p kindDGU).length), (4, 2, (l.map s.aItems).getD 0), (6, 3, ((l.map s.itemsIn).getD []).length)]
  | 0x08 => pack [(0, 4, bitsWhere 4 (s.unitLive p kindTC)), (4, 4, bitsWhere 4 holds), (8, 4, bitsWhere 4 borrows),
      (12, 4, bitsWhere 4 (fun i => !(s.strikesOf p kindTC i).isEmpty))]
  | 0x20 => pack [(0, 16, c.eccOperand), (16, 16, c.eccKeyCache)]
  | 0x24 => pack [(0, 12, (c.keys.map CachedKey.entries).sum + c.wraps.length + c.transients.length), (12, 7, c.transients.length),
      (19, 5, c.wraps.length)]
  | 0x130 => bitsWhere 4 (fun i => c.sbuInject.getD i false)
  | 0x140 => pack [(0, 1, b2n (up && s.unitLive p kindBNU 0)), (1, 1, b2n (!c.bnuQueue.isEmpty)), (2, 1, b2n (decide (c.bnuQueue.length ≥ 2))),
      (3, 1, b2n aborting), (4, 1, b2n (!(s.strikesOf p kindBNU 0).isEmpty)), (8, 5, c.tenantKeys.length), (16, 4, bnuCode 0), (20, 4, bnuCode 1)]
  | 0x144 => c.bnuOps
  | 0x148 => wrap 32 (c.bnuBusyUs / 64)
  | 0x14C => pack [(0, 8, c.bnuInvariant), (8, 8, c.bnuCorrupt), (16, 8, c.bnuAborts), (24, 8, c.bnuRegen)]
  | 0x150 => pack [(0, 16, c.bnuEdge)]
  | 0x154 => b2n c.bnuInject
  | 0x160 => pack [(0, 1, b2n (up && s.unitLive p kindDGU 0)), (1, 1, b2n (s.dguBusy p)), (3, 1, b2n c.katDue)]
  | 0x16C => pack [(0, 24, c.dguKats)]
  | _ =>
    if 0x10 ≤ off ∧ off < 0x20 then c.tcItems.getD ((off - 0x10) / 4) 0
    else if 0x100 ≤ off ∧ off < 0x110 then
      let n := (off - 0x100) / 4
      pack [(0, 1, b2n (up && s.unitLive p kindSBU n)), (1, 1, b2n (!(work n).cores.isEmpty)), (2, 2, (work n).queue.length),
        (4, 2, min 2 (s.strikesOf p kindSBU n).length), (8, 4, keyBits n (fun _ => true)),
        (12, 4, keyBits n (fun k => k.finalRk)), (16, 4, keyBits n (fun k => k.inverse))]
    else if 0x110 ≤ off ∧ off < 0x120 then c.sbuBlocks.getD ((off - 0x110) / 4) 0
    else if 0x120 ≤ off ∧ off < 0x130 then
      let n := (off - 0x120) / 4
      pack [(0, 8, c.sbuMismatch.getD n 0), (8, 8, c.sbuRetryOk.getD n 0), (16, 8, c.sbuRetryFail.getD n 0)]
    else 0

/-! ## The whole window (R569, R570, R572, R573) -/

/-- GDS_LINKk_FLITS: 0 until the link's first training since the cold reset; after that the count of traffic no row
carries, a free value (R578, assumption log 5). -/
def State.flitsOf (s : State) (k : Nat) : Nat :=
  if (s.fabric.links.getD k {}).trainings = 0 then 0 else Config.linkFlits k s.m.now

/-- The 64-bit value behind the _LO register at an address, for every pair of BAR0 but those of the region and cluster
windows. -/
def State.pairGlobal (s : State) (addr : Nat) : Option Nat :=
  match addr with
  | 0x30008 => some s.tickNow
  | 0x30020 => some s.tnd.dispatches
  | 0x30028 => some s.tnd.locals
  | 0x50014 => some (s.chl.energyNj / 1000)
  | 0x70030 => some s.kst.missCount
  | 0x80000 => some s.log.cursor
  | 0x80010 => some s.oldest
  | 0x80018 => some s.newest
  | 0x80020 => some s.log.acked
  | 0xB0010 => some (if s.per.perLoaded then s.rtcSec else 0)
  | 0xB0020 => some (if s.per.perLoaded then s.devUs else 0)
  | 0xD0148 => some (if s.sdFitted then s.cards.sdCapacity else 0)
  | 0xD0150 => some (if s.sdFitted then (s.cards.archive.map (fun (a : Archive) => a.generation)).getD 0 else 0)
  | _ =>
    if 0x20 ≤ addr ∧ addr < 0x48 then (if addr % 8 = 0 then some (s.gds.dieIdRead.getD ((addr - 0x20) / 8) 0) else none)
    else if 0x1000 ≤ addr ∧ addr < 0x2400 then
      (if addr % 0x400 = 0x14 then some (s.flitsOf ((addr - 0x1000) / 0x400)) else none)
    else if 0xE0000 ≤ addr ∧ addr < 0xE4000 then
      (if addr % 0x1000 = 0x20 then some (s.port ((addr - 0xE0000) / 0x1000)).tx
       else if addr % 0x1000 = 0x28 then some (s.port ((addr - 0xE0000) / 0x1000)).rx else none)
    else none

/-- The 64-bit value behind a _LO register of a region or cluster window. -/
def State.pairWindow (s : State) (addr : Nat) : Option Nat :=
  let off := addr % 0x10000
  if 0x100000 ≤ addr ∧ addr < 0x200000 then
    let g := (addr - 0x100000) / 0x10000
    let live := fun (n : Nat) => if s.liveRegions.contains g then n else 0
    if off = 0x18 then some (live ((s.region g).energyNj / 1000))
    else if off = 0x64 then some (live (s.region g).items) else none
  else if 0x1000000 ≤ addr ∧ addr < 0x1900000 then
    let p := (addr - 0x1000000) / 0x10000
    if off = 0x164 then some (if s.clusterLit p then (s.cluster p).dguBytes else 0) else none
  else none

/-- The value of a 64-bit pair, by the address of its _LO register. -/
def State.regPair (s : State) (addr : Nat) : Option Nat := if addr < 0x100000 then s.pairGlobal addr else s.pairWindow addr

/-- The half or fraction latched for a register at the last read of its _LO register (R8, R446). -/
def State.latchedAt (s : State) (addr : Nat) : Nat := lookupD s.host.latches addr 0

/-- A block hosted on the guard die (R569). -/
def guardBlock (b : Nat) : Bool := [1, 2, 8, 9, 0xA, 0xB, 0xC, 0xD].contains b

/-- A register that is half of a pair, or one of no pair, in its block. -/
def State.regWord (s : State) (addr : Nat) : Nat :=
  let off := addr % 0x10000
  if addr < 0x100000 then
    match addr / 0x10000 with
    | 0 => s.gdsReg off
    | 1 => s.stgReg off
    | 2 => s.patReg off
    | 3 => s.tndReg off
    | 4 => s.qawReg off
    | 5 => s.chlReg off
    | 6 => s.slcReg off
    | 7 => s.kstReg off
    | 8 => s.hlwReg off
    | 9 => s.tamReg off
    | 0xA => s.lcsReg off
    | 0xB => if off = 0x18 then s.latchedAt addr else s.perReg off
    | 0xC => s.meaReg off
    | 0xD => s.dccReg off
    | 0xE => if off < 0x4000 then s.nglReg (off / 0x1000) (off % 0x1000) else 0
    | _ => 0
  else if 0x100000 ≤ addr ∧ addr < 0x200000 then s.rgnReg ((addr - 0x100000) / 0x10000) off
  else if 0x1000000 ≤ addr ∧ addr < 0x1900000 then s.cluReg ((addr - 0x1000000) / 0x10000) off
  else 0

/-- What a BAR0 read at an address returns: all ones from a guard block whose link has failed, the low half of a pair,
the latched half of its _HI register, or the register's word (R8, R570, R572). -/
def State.regRead (s : State) (addr : Nat) : Nat :=
  if s.ghFailed && addr < 0x100000 && guardBlock (addr / 0x10000) then 0xFFFFFFFF
  else match s.regPair addr with
    | some v => wrap 32 v
    | none => wrap 32 (if (s.regPair (addr - 4)).isSome && 4 ≤ addr then s.latchedAt addr else s.regWord addr)

/-- A BAR0 read. Of a _LO register it also latches the _HI half; of PER_RTC_SEC_LO the RTC fraction with it (R8, R446,
R576). -/
def State.bar0Read (s : State) (addr : Nat) : State :=
    let t := s.emit (.mmioData addr (s.regRead addr))
    if s.ghFailed && addr < 0x100000 && guardBlock (addr / 0x10000) then t
    else match s.regPair addr with
      | none => t
      | some v =>
        let latches := assocSet s.host.latches (addr + 4) (wrap 32 (v / 2 ^ 32))
        let frac := if s.per.perLoaded then s.devUs % 1000000 * 32768 / 1000000 else 0
        { t with host.latches := if addr = 0xB0010 then assocSet latches 0xB0018 frac else latches }

/-- What a read of a doorbell page returns: SQ_HEAD below, CQ_TAIL above; other offsets read 0 (R98). -/
def State.bar2Read (s : State) (addr : Nat) : Nat :=
  let c := s.queue (64 * (addr / 0x1000) + addr % 0x1000 / 8)
  if addr % 0x1000 ≥ 0x200 then 0 else if addr % 8 = 0 then c.sqHead else c.cqTail

/-- What a read of BAR4 returns: the MSI-X table, the pending bits, the moderation table (R118). -/
def State.bar4Read (s : State) (addr : Nat) : Nat :=
  if addr < 0x8000 then
    let x := s.vec (addr / 16)
    match addr % 16 / 4 with
    | 0 => x.addr % 2 ^ 32
    | 1 => x.addr / 2 ^ 32
    | 2 => x.data
    | _ => b2n x.masked
  else if addr < 0x8100 then bitsWhere 32 (fun i => (s.vec (8 * (addr - 0x8000) + i)).pba)
  else if 0xC000 ≤ addr ∧ addr < 0xE000 then
    let x := s.vec ((addr - 0xC000) / 4)
    x.maxCount + 256 * x.maxDelay
  else 0

/-- An 8-byte read gives the word above in its upper half (R97). -/
def wideRead (f : Nat → Nat) (addr : Nat) (wide : Bool) : Nat :=
  f addr + (if wide then 2 ^ 32 * f (addr + 4) else 0)

/-- REG_PAIR_LO_READ: a register read (R8, R94, R97, R98, R118). -/
def execRegPairLoRead (read : RegRead) (s : State) : Host.Outcome State Fault Refusal :=
  .next (if !s.hostUp || !s.fromHub then s else match read.space with
    | .bar0 => s.bar0Read read.addr
    | .bar2 => s.emit (.mmioData read.addr (wideRead s.bar2Read read.addr read.wide))
    | .bar4 => s.emit (.mmioData read.addr (wideRead s.bar4Read read.addr read.wide))
    | .config cap => s.emit (.cfgData cap read.addr (s.cfgRead cap read.addr)))

/-! ## Writes -/

/-- An MSI-X table word (R118): address halves, data, and the vector control, whose mask bit going to 0 sends a pending
message (R119). -/
def State.msixWrite (s : State) (v which value : Nat) : State :=
  let x := s.vec v
  match which with
  | 0 => s.setVec { x with addr := x.addr / 2 ^ 32 * 2 ^ 32 + value }
  | 1 => s.setVec { x with addr := value * 2 ^ 32 + x.addr % 2 ^ 32 }
  | 2 => s.setVec { x with data := value }
  | _ => if bit value 0 then s.setVec { x with masked := true } else s.unmask v

/-- A write to BAR4 (R118, R582). -/
def State.bar4Write (s : State) (addr value : Nat) : State :=
  if addr < 0x8000 then s.msixWrite (addr / 16) (addr % 16 / 4) value
  else if 0xC000 ≤ addr ∧ addr < 0xE000 then
    s.setVec { s.vec ((addr - 0xC000) / 4) with maxCount := value % 256, maxDelay := value / 256 % 65536 }
  else s

/-- A write to a writable BAR0 register that has no row of its own; every other write changes nothing (R570). -/
def State.bar0Write (s : State) (addr value : Nat) : State :=
  if addr = 0xC then { s with gds.scratch := value }
  else if addr = 0x40000 then { s with queues.qawSelect := value % 2 ^ 18 }
  else if 0x40040 ≤ addr ∧ addr < 0x40080 then
    { s with queues.qawData := modAt s.queues.qawData ((addr - 0x40040) / 4) (fun _ => value) }
  else if addr = 0x50004 then { s with chl.pplCap := value % 2048, chl.opCap := value / 4096 % 4 }
  else if addr = 0x60000 then { s with slc.select := value % 4096 }
  else if addr = 0x60048 then { s with slc.mbVector := value % 2048 }
  else if s.ghFailed then s
  else if addr = 0x80000 then { s with log.cursorLo := value }
  else if addr = 0xB0030 then { s with per.lifeSelect := value % 1024 }
  else s

/-- REGISTER_WRITE: a write of one word, or of two words of the MSI-X table; the offsets of BAR2 that have no row of their
own ignore writes (R94, R97, R98, R570, R572, R582). -/
def execRegisterWrite (space : Space) (addr : Nat) (data : RegValue) (s : State) : Host.Outcome State Fault Refusal :=
  .next (if !s.hostUp || !s.fromHub then s else match space with
    | .bar0 => s.bar0Write addr (wrap 32 data.value)
    | .bar2 => s
    | .bar4 =>
      let t := s.bar4Write addr (wrap 32 data.value)
      if data.wide then t.bar4Write (addr + 4) (wrap 32 (data.value / 2 ^ 32)) else t
    | .config cap => s.cfgWrite cap addr (wrap 32 data.value))

/-- MEA_SELECT_WRITE: the register named is latched with its count in one step (R372). -/
def execMeaSelectWrite (value : Nat) (s : State) : Host.Outcome State Fault Refusal :=
  .next (if !s.gBlock then s
    else
      let i := value % 32
      { s with mea.select := i, mea.latchedValue := fit 48 (s.mea.meas.getD i []), mea.latchedCount := s.mea.measCount.getD i 0 })

end Sys2Proof.Machine
end

