-- ==== Sys2Proof/Machine/Dispatch.lean ====
section
/-!
DEFINITION. The command dispatch: one arm per constructor of Instr, each one direct call of its meaning.
-/
namespace Sys2Proof.Machine

/-- The effect of a command on everything but the queue. -/
def exec (i : Instr) (s : State) : Host.Outcome State Fault Refusal :=
  match i with
  | .holdEntry pin => Sys2Proof.Machine.execHoldEntry pin s
  | .keepRailUp => Sys2Proof.Machine.execKeepRailUp s
  | .guardStart facts => Sys2Proof.Machine.execGuardStart facts s
  | .stageHubEntry start => Sys2Proof.Machine.execStageHubEntry start s
  | .stageFullEntry wiresDn wiresUp => Sys2Proof.Machine.execStageFullEntry wiresDn wiresUp s
  | .annealBistComplete bist => Sys2Proof.Machine.execAnnealBistComplete bist s
  | .firmwareReadComplete slot => Sys2Proof.Machine.execFirmwareReadComplete slot s
  | .riserSample mv => Sys2Proof.Machine.execRiserSample mv s
  | .riserTimeout => Sys2Proof.Machine.execRiserTimeout s
  | .sliceRestoreComplete badSlices badCounted => Sys2Proof.Machine.execSliceRestoreComplete badSlices badCounted s
  | .regionBringupComplete region katMs failed => Sys2Proof.Machine.execRegionBringupComplete region katMs failed s
  | .stgRepour key => Sys2Proof.Machine.execStgRepour key s
  | .repourPendingStart => Sys2Proof.Machine.execRepourPendingStart s
  | .stgHubHoldWrite value => Sys2Proof.Machine.execStgHubHoldWrite value s
  | .powerFailSave cause => Sys2Proof.Machine.execPowerFailSave cause s
  | .saveDrainComplete => Sys2Proof.Machine.execSaveDrainComplete s
  | .keepRailOff => Sys2Proof.Machine.execKeepRailOff s
  | .perstNAssert => Sys2Proof.Machine.execPerstNAssert s
  | .perstNDeassert => Sys2Proof.Machine.execPerstNDeassert s
  | .slice0Reattach => Sys2Proof.Machine.execSlice0Reattach s
  | .pmD3hotEntry => Sys2Proof.Machine.execPmD3hotEntry s
  | .pmD0Return => Sys2Proof.Machine.execPmD0Return s
  | .smbusStatus => Sys2Proof.Machine.execSmbusStatus s
  | .smbusReason => Sys2Proof.Machine.execSmbusReason s
  | .smbusCapacity => Sys2Proof.Machine.execSmbusCapacity s
  | .smbusThermal => Sys2Proof.Machine.execSmbusThermal s
  | .smbusPower => Sys2Proof.Machine.execSmbusPower s
  | .smbusSerial => Sys2Proof.Machine.execSmbusSerial s
  | .smbusTamper => Sys2Proof.Machine.execSmbusTamper s
  | .smbusHeat => Sys2Proof.Machine.execSmbusHeat s
  | .smbusAlertCauseRead => Sys2Proof.Machine.execSmbusAlertCauseRead s
  | .smbusAlertCauseClear value => Sys2Proof.Machine.execSmbusAlertCauseClear value s
  | .smbusAlertResponse => Sys2Proof.Machine.execSmbusAlertResponse s
  | .smbusQuenchArm value pec => Sys2Proof.Machine.execSmbusQuenchArm value pec s
  | .smbusQuenchFire value pec => Sys2Proof.Machine.execSmbusQuenchFire value pec s
  | .smbusUnknownCommand code => Sys2Proof.Machine.execSmbusUnknownCommand code s
  | .quenchArmExpire => Sys2Proof.Machine.execQuenchArmExpire s
  | .smbusBusTimeout => Sys2Proof.Machine.execSmbusBusTimeout s
  | .tapIdcode => Sys2Proof.Machine.execTapIdcode s
  | .tapBypass opcode => Sys2Proof.Machine.execTapBypass opcode s
  | .tapExtest update => Sys2Proof.Machine.execTapExtest update s
  | .tapSamplePreload capture update => Sys2Proof.Machine.execTapSamplePreload capture update s
  | .tapHubHold => Sys2Proof.Machine.execTapHubHold s
  | .tapLcRequest target index token second => Sys2Proof.Machine.execTapLcRequest target index token second s
  | .tapLcFuse field index value rest token digest second => Sys2Proof.Machine.execTapLcFuse field index value rest token digest second s
  | .tapVdbg second => Sys2Proof.Machine.execTapVdbg second s
  | .tapReset => Sys2Proof.Machine.execTapReset s
  | .barBadAccess bar addr write => Sys2Proof.Machine.execBarBadAccess bar addr write s
  | .regPairLoRead addr => Sys2Proof.Machine.execRegPairLoRead addr s
  | .registerWrite bar addr value => Sys2Proof.Machine.execRegisterWrite bar addr value s
  | .doorbellSqTail qid tail => Sys2Proof.Machine.execDoorbellSqTail qid tail s
  | .doorbellCqHead qid head => Sys2Proof.Machine.execDoorbellCqHead qid head s
  | .mbNotify slice => Sys2Proof.Machine.execMbNotify slice s
  | .fetchBatch => Sys2Proof.Machine.execFetchBatch s
  | .descriptorArrival qid fault descs => Sys2Proof.Machine.execDescriptorArrival qid fault descs s
  | .msixDelayExpire vector => Sys2Proof.Machine.execMsixDelayExpire vector s
  | .msixVectorUnmask vector => Sys2Proof.Machine.execMsixVectorUnmask vector s
  | .qawRead => Sys2Proof.Machine.execQawRead s
  | .qawWrite => Sys2Proof.Machine.execQawWrite s
  | .qawEnable => Sys2Proof.Machine.execQawEnable s
  | .qawDisable => Sys2Proof.Machine.execQawDisable s
  | .qawResetError => Sys2Proof.Machine.execQawResetError s
  | .take core => Sys2Proof.Machine.execTake core s
  | .inputFetchComplete slot input keyA keyB faults => Sys2Proof.Machine.execInputFetchComplete slot input keyA keyB faults s
  | .bnuCommandComplete slot report => Sys2Proof.Machine.execBnuCommandComplete slot report s
  | .signerComplete => Sys2Proof.Machine.execSignerComplete s
  | .commitAck slot => Sys2Proof.Machine.execCommitAck slot s
  | .itemFinish slot => Sys2Proof.Machine.execItemFinish slot s
  | .mustRunPromote slot => Sys2Proof.Machine.execMustRunPromote slot s
  | .agePromote slot => Sys2Proof.Machine.execAgePromote slot s
  | .notBeforeDue slot => Sys2Proof.Machine.execNotBeforeDue slot s
  | .retryDue slot => Sys2Proof.Machine.execRetryDue slot s
  | .retryWaitPoll slot => Sys2Proof.Machine.execRetryWaitPoll slot s
  | .pinLockoutTimerDue slice tag => Sys2Proof.Machine.execPinLockoutTimerDue slice tag s
  | .quorumSessionExpire => Sys2Proof.Machine.execQuorumSessionExpire s
  | .regionIdleTimerDue region => Sys2Proof.Machine.execRegionIdleTimerDue region s
  | .chillUpdate sense => Sys2Proof.Machine.execChillUpdate sense s
  | .regionWakeComplete region => Sys2Proof.Machine.execRegionWakeComplete region s
  | .regionDrainComplete region => Sys2Proof.Machine.execRegionDrainComplete region s
  | .tcEccCorrected core => Sys2Proof.Machine.execTcEccCorrected core s
  | .tcEccUncorrectable core written => Sys2Proof.Machine.execTcEccUncorrectable core written s
  | .clusterSramEcc phys keyCache uncorrectable => Sys2Proof.Machine.execClusterSramEcc phys keyCache uncorrectable s
  | .spareSelftestComplete logical pass => Sys2Proof.Machine.execSpareSelftestComplete logical pass s
  | .bnuDrbgReseed phys => Sys2Proof.Machine.execBnuDrbgReseed phys s
  | .dguKatDue phys pass => Sys2Proof.Machine.execDguKatDue phys pass s
  | .dieLinkFlitError link arrival again => Sys2Proof.Machine.execDieLinkFlitError link arrival again s
  | .hubMemoryEcc memory uncorrectable => Sys2Proof.Machine.execHubMemoryEcc memory uncorrectable s
  | .entropyHealthFail => Sys2Proof.Machine.execEntropyHealthFail s
  | .rngRetestDue pass => Sys2Proof.Machine.execRngRetestDue pass s
  | .commitEntryAccept => Sys2Proof.Machine.execCommitEntryAccept s
  | .journalDrain count => Sys2Proof.Machine.execJournalDrain count s
  | .linePaceExpire line => Sys2Proof.Machine.execLinePaceExpire line s
  | .counterCheckpoint => Sys2Proof.Machine.execCounterCheckpoint s
  | .timeCheckpoint => Sys2Proof.Machine.execTimeCheckpoint s
  | .lifeCounterWrite bands batteryUah => Sys2Proof.Machine.execLifeCounterWrite bands batteryUah s
  | .calendarFlitSend => Sys2Proof.Machine.execCalendarFlitSend s
  | .heatOccurrence code source slice time payload => Sys2Proof.Machine.execHeatOccurrence code source slice time payload s
  | .recordSealTimeout => Sys2Proof.Machine.execRecordSealTimeout s
  | .summaryFlushDue => Sys2Proof.Machine.execSummaryFlushDue s
  | .stagingDrain count => Sys2Proof.Machine.execStagingDrain count s
  | .hlwCursorHiWrite value => Sys2Proof.Machine.execHlwCursorHiWrite value s
  | .hlwData15Read => Sys2Proof.Machine.execHlwData15Read s
  | .tamperSample sense => Sys2Proof.Machine.execTamperSample sense s
  | .batteryPulse sense => Sys2Proof.Machine.execBatteryPulse sense s
  | .batteryInputEdge input level => Sys2Proof.Machine.execBatteryInputEdge input level s
  | .tamQuenchArm key => Sys2Proof.Machine.execTamQuenchArm key s
  | .tamQuenchFire key => Sys2Proof.Machine.execTamQuenchFire key s
  | .tamQuenchCancel op key => Sys2Proof.Machine.execTamQuenchCancel op key s
  | .tamLatchedClear mask => Sys2Proof.Machine.execTamLatchedClear mask s
  | .meaSelectWrite value => Sys2Proof.Machine.execMeaSelectWrite value s
  | .slcMbNextRead => Sys2Proof.Machine.execSlcMbNextRead s
  | .slcNotifyWrite slice => Sys2Proof.Machine.execSlcNotifyWrite slice s
  | .cluSbuInjectWrite phys mask => Sys2Proof.Machine.execCluSbuInjectWrite phys mask s
  | .cluBnuInjectWrite phys value => Sys2Proof.Machine.execCluBnuInjectWrite phys value s
  | .nglPortDisable port => Sys2Proof.Machine.execNglPortDisable port s
  | .nglPortEnable port => Sys2Proof.Machine.execNglPortEnable port s
  | .nglLanePrbsWrite port lane run errors => Sys2Proof.Machine.execNglLanePrbsWrite port lane run errors s
  | .nguethTrainingComplete port lanes => Sys2Proof.Machine.execNguethTrainingComplete port lanes s
  | .nguethHandshake port flits ack hello => Sys2Proof.Machine.execNguethHandshake port flits ack hello s
  | .nguethHeartbeat port ack => Sys2Proof.Machine.execNguethHeartbeat port ack s
  | .nguethMirrorUpdate port flits ack update => Sys2Proof.Machine.execNguethMirrorUpdate port flits ack update s
  | .nguethMirrorAck port ack update => Sys2Proof.Machine.execNguethMirrorAck port ack update s
  | .nguethLeaseSummary port flits ack copies => Sys2Proof.Machine.execNguethLeaseSummary port flits ack copies s
  | .nguethCalendar port ack rtcUs calSet => Sys2Proof.Machine.execNguethCalendar port ack rtcUs calSet s
  | .nguethRetryRequest port ack seq => Sys2Proof.Machine.execNguethRetryRequest port ack seq s
  | .nguethBadFlit port flit => Sys2Proof.Machine.execNguethBadFlit port flit s
  | .nguethRxTimeout port => Sys2Proof.Machine.execNguethRxTimeout port s
  | .nguethAckTimeout port => Sys2Proof.Machine.execNguethAckTimeout port s
  | .nguethLockLoss port => Sys2Proof.Machine.execNguethLockLoss port s
  | .nguethHeartbeatSend port => Sys2Proof.Machine.execNguethHeartbeatSend port s
  | .nguethRetrainDue port => Sys2Proof.Machine.execNguethRetrainDue port s
  | .leaseExpire slice => Sys2Proof.Machine.execLeaseExpire slice s
  | .offerExpire slice => Sys2Proof.Machine.execOfferExpire slice s
  | .iccInserted slot => Sys2Proof.Machine.execIccInserted slot s
  | .iccRemoved slot => Sys2Proof.Machine.execIccRemoved slot s
  | .iccPowerHoldEnd slot => Sys2Proof.Machine.execIccPowerHoldEnd slot s
  | .iccAtrReceived slot atr pps => Sys2Proof.Machine.execIccAtrReceived slot atr pps s
  | .iccResponse slot data parity => Sys2Proof.Machine.execIccResponse slot data parity s
  | .iccWaitTimeout slot begun => Sys2Proof.Machine.execIccWaitTimeout slot begun s
  | .keypadKey key => Sys2Proof.Machine.execKeypadKey key s
  | .keypadStuck key => Sys2Proof.Machine.execKeypadStuck key s
  | .keypadEntryTimeout => Sys2Proof.Machine.execKeypadEntryTimeout s
  | .sdInserted wp => Sys2Proof.Machine.execSdInserted wp s
  | .sdRemoved => Sys2Proof.Machine.execSdRemoved s
  | .sdPowerHoldEnd => Sys2Proof.Machine.execSdPowerHoldEnd s
  | .sdCommandResponse answer => Sys2Proof.Machine.execSdCommandResponse answer s
  | .sdCommandTimeout => Sys2Proof.Machine.execSdCommandTimeout s
  | .sdBusyRelease r1 => Sys2Proof.Machine.execSdBusyRelease r1 s
  | .sdBusyTimeout => Sys2Proof.Machine.execSdBusyTimeout s
  | .sdRetuneDue => Sys2Proof.Machine.execSdRetuneDue s
  | .patternStage slot => Sys2Proof.Machine.execPatternStage slot s
  | .guardSlotLoad slot => Sys2Proof.Machine.execGuardSlotLoad slot s
  | .archiveFormat slot wp => Sys2Proof.Machine.execArchiveFormat slot wp s
  | .archiveWrite slot wp => Sys2Proof.Machine.execArchiveWrite slot wp s
  | .archiveRead slot wp => Sys2Proof.Machine.execArchiveRead slot wp s
  | .archiveInfo slot wp => Sys2Proof.Machine.execArchiveInfo slot wp s
  | .archiveSeal slot wp => Sys2Proof.Machine.execArchiveSeal slot wp s
  | .keyGenerate slot units => Sys2Proof.Machine.execKeyGenerate slot units s
  | .keyCheck slot units => Sys2Proof.Machine.execKeyCheck slot units s
  | .componentCombine slot => Sys2Proof.Machine.execComponentCombine slot s
  | .tr31Import slot units => Sys2Proof.Machine.execTr31Import slot units s
  | .tr31Export slot units => Sys2Proof.Machine.execTr31Export slot units s
  | .tr31Translate slot units => Sys2Proof.Machine.execTr31Translate slot units s
  | .dukptIkDerive slot units => Sys2Proof.Machine.execDukptIkDerive slot units s
  | .dukptKeyDerive slot units => Sys2Proof.Machine.execDukptKeyDerive slot units s
  | .kdfDerive slot units => Sys2Proof.Machine.execKdfDerive slot units s
  | .ingotInspect slot units => Sys2Proof.Machine.execIngotInspect slot units s
  | .ingotRestrict slot units => Sys2Proof.Machine.execIngotRestrict slot units s
  | .ingotPin slot units => Sys2Proof.Machine.execIngotPin slot units s
  | .ingotUnpin slot => Sys2Proof.Machine.execIngotUnpin slot s
  | .counterRelease slot units => Sys2Proof.Machine.execCounterRelease slot units s
  | .keypairGenerate slot => Sys2Proof.Machine.execKeypairGenerate slot s
  | .sign slot => Sys2Proof.Machine.execSign slot s
  | .verify slot => Sys2Proof.Machine.execVerify slot s
  | .ecdhDerive slot => Sys2Proof.Machine.execEcdhDerive slot s
  | .oaepEncrypt slot => Sys2Proof.Machine.execOaepEncrypt slot s
  | .oaepDecrypt slot => Sys2Proof.Machine.execOaepDecrypt slot s
  | .publicExport slot units => Sys2Proof.Machine.execPublicExport slot units s
  | .pubkeyTicket slot units => Sys2Proof.Machine.execPubkeyTicket slot units s
  | .tr34Bind slot => Sys2Proof.Machine.execTr34Bind slot s
  | .tr34Send slot => Sys2Proof.Machine.execTr34Send slot s
  | .tr34Receive slot => Sys2Proof.Machine.execTr34Receive slot s
  | .pinTranslate slot units => Sys2Proof.Machine.execPinTranslate slot units s
  | .pinVerifyPvv slot units => Sys2Proof.Machine.execPinVerifyPvv slot units s
  | .pinVerifyOffset slot units => Sys2Proof.Machine.execPinVerifyOffset slot units s
  | .pvvGenerate slot units => Sys2Proof.Machine.execPvvGenerate slot units s
  | .offsetGenerate slot units => Sys2Proof.Machine.execOffsetGenerate slot units s
  | .pinChange slot units => Sys2Proof.Machine.execPinChange slot units s
  | .pinTryStatus slot units => Sys2Proof.Machine.execPinTryStatus slot units s
  | .cvvGenerate slot units => Sys2Proof.Machine.execCvvGenerate slot units s
  | .cvvVerify slot units => Sys2Proof.Machine.execCvvVerify slot units s
  | .dcvvGenerate slot units => Sys2Proof.Machine.execDcvvGenerate slot units s
  | .dcvvVerify slot units => Sys2Proof.Machine.execDcvvVerify slot units s
  | .emvMkDerive slot units => Sys2Proof.Machine.execEmvMkDerive slot units s
  | .emvArqcVerify slot units => Sys2Proof.Machine.execEmvArqcVerify slot units s
  | .emvScriptMac slot units => Sys2Proof.Machine.execEmvScriptMac slot units s
  | .emvScriptEncrypt slot units => Sys2Proof.Machine.execEmvScriptEncrypt slot units s
  | .emvCertSign slot => Sys2Proof.Machine.execEmvCertSign slot s
  | .dataEncrypt slot units => Sys2Proof.Machine.execDataEncrypt slot units s
  | .dataDecrypt slot units => Sys2Proof.Machine.execDataDecrypt slot units s
  | .p2peDecrypt slot units => Sys2Proof.Machine.execP2peDecrypt slot units s
  | .macGenerate slot units => Sys2Proof.Machine.execMacGenerate slot units s
  | .macVerify slot units => Sys2Proof.Machine.execMacVerify slot units s
  | .blockRaw slot units => Sys2Proof.Machine.execBlockRaw slot units s
  | .digest slot units => Sys2Proof.Machine.execDigest slot units s
  | .hmacGenerate slot units => Sys2Proof.Machine.execHmacGenerate slot units s
  | .hmacVerify slot units => Sys2Proof.Machine.execHmacVerify slot units s
  | .ff1Tokenize slot units => Sys2Proof.Machine.execFf1Tokenize slot units s
  | .ff1Detokenize slot units => Sys2Proof.Machine.execFf1Detokenize slot units s
  | .random slot units => Sys2Proof.Machine.execRandom slot units s
  | .sliceCreate slot => Sys2Proof.Machine.execSliceCreate slot s
  | .sliceAttach slot => Sys2Proof.Machine.execSliceAttach slot s
  | .sliceDetach slot => Sys2Proof.Machine.execSliceDetach slot s
  | .sliceDelete slot => Sys2Proof.Machine.execSliceDelete slot s
  | .sliceGeneration slot => Sys2Proof.Machine.execSliceGeneration slot s
  | .sliceFreeze slot => Sys2Proof.Machine.execSliceFreeze slot s
  | .sliceOffer slot => Sys2Proof.Machine.execSliceOffer slot s
  | .sliceSave slot => Sys2Proof.Machine.execSliceSave slot s
  | .sliceRestore slot => Sys2Proof.Machine.execSliceRestore slot s
  | .sliceDiscard slot => Sys2Proof.Machine.execSliceDiscard slot s
  | .sliceActivate slot => Sys2Proof.Machine.execSliceActivate slot s
  | .sliceThaw slot => Sys2Proof.Machine.execSliceThaw slot s
  | .sliceMirror slot peer => Sys2Proof.Machine.execSliceMirror slot peer s
  | .mirrorTakeover slot => Sys2Proof.Machine.execMirrorTakeover slot s
  | .sliceUnfence slot => Sys2Proof.Machine.execSliceUnfence slot s
  | .quorumOpen slot => Sys2Proof.Machine.execQuorumOpen slot s
  | .quorumClose slot => Sys2Proof.Machine.execQuorumClose slot s
  | .domainCreate slot second token => Sys2Proof.Machine.execDomainCreate slot second token s
  | .domainJoin slot second token => Sys2Proof.Machine.execDomainJoin slot second token s
  | .domainRestore slot second => Sys2Proof.Machine.execDomainRestore slot second s
  | .unlock slot second release => Sys2Proof.Machine.execUnlock slot second release s
  | .lifecycle slot second token => Sys2Proof.Machine.execLifecycle slot second token s
  | .custodianEnrol slot second => Sys2Proof.Machine.execCustodianEnrol slot second s
  | .calendarSet slot second => Sys2Proof.Machine.execCalendarSet slot second s
  | .patternKeyEnrol slot second => Sys2Proof.Machine.execPatternKeyEnrol slot second s
  | .logClear slot second => Sys2Proof.Machine.execLogClear slot second s
  | .archiveProtect slot second => Sys2Proof.Machine.execArchiveProtect slot second s
  | .logReadSlice slot units => Sys2Proof.Machine.execLogReadSlice slot units s
  | .logExport slot => Sys2Proof.Machine.execLogExport slot s
  | .logAck slot => Sys2Proof.Machine.execLogAck slot s
  | .pelynAttest slot claims units => Sys2Proof.Machine.execPelynAttest slot claims units s
  | .keyOrigin slot units => Sys2Proof.Machine.execKeyOrigin slot units s
  | .identityChain slot units => Sys2Proof.Machine.execIdentityChain slot units s
  | .measExtend slot => Sys2Proof.Machine.execMeasExtend slot s
  | .pcieLinkTrained width speed => Sys2Proof.Machine.execPcieLinkTrained width speed s
  | .completionTimeout descriptor id which => Sys2Proof.Machine.execCompletionTimeout descriptor id which s
  | .bnuKeygenLong slot => Sys2Proof.Machine.execBnuKeygenLong slot s
  | .flashOperationComplete readBack => Sys2Proof.Machine.execFlashOperationComplete readBack s
  | .flashTimeout => Sys2Proof.Machine.execFlashTimeout s
  | .lcTransitionDone installed second => Sys2Proof.Machine.execLcTransitionDone installed second s
  | .nguethPortShutdownComplete port => Sys2Proof.Machine.execNguethPortShutdownComplete port s
  | .extTampFilterExpire input => Sys2Proof.Machine.execExtTampFilterExpire input s
  | .slotChatterEnd slot => Sys2Proof.Machine.execSlotChatterEnd slot s
  | .keypadKeyRelease key => Sys2Proof.Machine.execKeypadKeyRelease key s
  | .rtcHold => Sys2Proof.Machine.execRtcHold s
  | .pllLockLoss region pll => Sys2Proof.Machine.execPllLockLoss region pll s

end Sys2Proof.Machine
end

