-- ==== Sys2Proof/Machine/Step.lean ====
section
/-!
DEFINITION. The step of the block: the command at the front of the queue runs with the queue's rest; on an empty
queue one tick of 250 ns passes (assumption log 1).
-/
namespace Sys2Proof.Machine

/-- One step (assumption log 1): the front command's effect, or a tick of time on an empty queue. -/
def step (s : State) : Host.Outcome State Fault Refusal :=
  match s.pending with
  | [] => .next s.tick
  | c :: rest => exec c { s with pending := rest }

/-- The command a table word spells, put at the front of the queue; the state unchanged where the word spells
none. -/
def State.withFetchWord (s : State) (nbits w : Nat) : State :=
  match decodeTableWord nbits w with
  | none => s
  | some c => { s with pending := c :: s.pending }

end Sys2Proof.Machine
end

