-- ==== Sys2Proof/Safety.lean ====
section
/-!
DEFINITION. The terms the statements are written in: what it is for a command to complete, the answer of a verb, which
blocks of the state a command may change, and the one-way facts of the fuses.
-/
namespace Sys2Proof.Machine

/-- The command answers a next state, and `P` holds of it. -/
def Reaches (i : Instr) (s : State) (P : State → Prop) : Prop := ∃ t, exec i s = .next t ∧ P t

/-- A run of `n` steps never stops. -/
def RunsFor : Nat → State → Prop
  | 0, _ => True
  | n + 1, s => ∃ t, step s = .next t ∧ RunsFor n t

/-- What the item in a slot answers: its status, DETAIL, result and output. -/
def State.answer (s : State) (slot : Nat) : Option (Nat × Nat × Bytes × Bytes) :=
  (s.item slot).map (fun x => (x.status, x.detail, x.result, x.output))

/-- The units report no fault for an item: no mismatch, nothing cut short, no SBU of its cluster armed for injection
(R165, R172). -/
def State.unitsClean (s : State) (it : Item) (u : UnitReport) : Prop :=
  u.faults = [] ∧ u.cut = none ∧ injectedFaults (s.cluster (s.physOfItem it)) u = []

/-- The output a data verb wrote: what its rule gives, unless OUT_ADDR overlaps the input, where the bytes are
undefined (R331); `inPlace` is the input offset OUT_ADDR may equal. -/
def Written (it : Item) (inPlace : Option Nat) (want out : Bytes) : Prop :=
  out.length = want.length ∧ (overlaps it want.length inPlace = false → out = want)

/-- A ceremony verb's item passes its checks in a session whose quorum decision holds both times it is taken (R524,
R481). -/
def State.quorumMet (s : State) (it : Item) (cls : Nat) (persistent : Bool) (pre : Item → Chk Unit) (x : Session)
    (second : Option Nat) : Prop :=
  s.ceremonyChecks it cls persistent pre = .ok x ∧ (second = none ∨ second = some 0)

/-- The root registers of the key store alone: the battery-backed root and what the start found of it. -/
def Keys.rootPart (k : Keys) : Keys :=
  { bbram := k.bbram, bbramCheck := k.bbramCheck, bbramFuse := k.bbramFuse, firOk := k.firOk, domain := k.domain,
    testRoot := k.testRoot, bbramBad := k.bbramBad, idKeysReady := k.idKeysReady }

/-- Everything else of the same block. -/
def Keys.otherPart (k : Keys) : Keys :=
  { k with
    bbram := [], bbramCheck := [], bbramFuse := false, firOk := false, domain := false, testRoot := false,
    bbramBad := false, idKeysReady := false }

/-- The measurement registers alone. -/
def Measure.registerPart (k : Measure) : Measure :=
  { meas := k.meas, measCount := k.measCount }

/-- Everything else of the same block. -/
def Measure.otherPart (k : Measure) : Measure :=
  { k with
    meas := [], measCount := [] }

/-- The domain and its custody alone: identity, shares, key ids and custodian records. -/
def DualCtl.custodyPart (k : DualCtl) : DualCtl :=
  { domainId := k.domainId, shareK := k.shareK, shareEpoch := k.shareEpoch, headerSigOk := k.headerSigOk,
    patKey0 := k.patKey0, patKey1 := k.patKey1, records := k.records }

/-- Everything else of the same block. -/
def DualCtl.otherPart (k : DualCtl) : DualCtl :=
  { k with
    domainId := [], shareK := 0, shareEpoch := 0, headerSigOk := true, patKey0 := [], patKey1 := [], records := [] }

/-- The commit path alone: the journal, the waiting entries, the lines, the counts with their checkpoints and the replay
table. -/
def Persist.commitPart (k : Persist) : Persist :=
  { journal := k.journal, waiting := k.waiting, lines := k.lines, lineWrites := k.lineWrites,
    counterArea := k.counterArea, ring := k.ring, ringSeq := k.ringSeq, ringNext := k.ringNext, replay := k.replay
    replayHits := k.replayHits }

/-- Everything else of the same block. -/
def Persist.otherPart (k : Persist) : Persist :=
  { k with
    journal := [], waiting := [], lines := [], lineWrites := [], counterArea := [], ring := [], ringSeq := 0
    ringNext := 0, replay := [], replayHits := 0 }

/-- The heat-log store and its reading window alone. -/
def HeatLog.storePart (k : HeatLog) : HeatLog :=
  { store := k.store, cleared := k.cleared, acked := k.acked, cursor := k.cursor, cursorLo := k.cursorLo,
    data := k.data, valid := k.valid, gone := k.gone, atEnd := k.atEnd, chainBad := k.chainBad }

/-- Everything else of the same block. -/
def HeatLog.otherPart (k : HeatLog) : HeatLog :=
  { k with
    store := [], cleared := 0, acked := 0, cursor := 0, cursorLo := 0, data := [], valid := false, gone := false,
    atEnd := false, chainBad := false }

/-- The blocks of the state, for saying what a command may change. Parts of a block that few commands may change are
apart from the rest of it: of the stage block ALERT_CAUSE, which every record of a heat-log event may set (R69), and
the unsealed flag, which an erasure of the domain root clears (R63, R476); of the fabric the clusters; of the key store
its root registers; of the measurement block the measurement registers; of Chill its regions; of the persistence
block the commit path; of the heat log its store; of the dual-control block the domain and its custody. -/
inductive Block where
  | pins | stage | alert | unsealed | fuses | pat | host | queues | tnd | fabric | clusters | kst | roots | mea
  | meas | slc | ngl | chl | regions | per | commits | log | store | tam | lc | dcc | custody | cards | gds | m
  deriving DecidableEq, Repr

/-- A block is the same in two states. -/
def Same (b : Block) (s t : State) : Prop :=
  match b with
  | .pins => t.pins = s.pins
  | .stage => { t.stage with alertCause := 0, unsealed := false } = { s.stage with alertCause := 0, unsealed := false }
  | .alert => t.stage.alertCause = s.stage.alertCause
  | .unsealed => t.stage.unsealed = s.stage.unsealed
  | .fuses => t.fuses = s.fuses
  | .pat => t.pat = s.pat
  | .host => t.host = s.host
  | .queues => t.queues = s.queues
  | .tnd => t.tnd = s.tnd
  | .fabric => { t.fabric with clusters := [] } = { s.fabric with clusters := [] }
  | .clusters => t.fabric.clusters = s.fabric.clusters
  | .kst => t.kst.otherPart = s.kst.otherPart
  | .roots => t.kst.rootPart = s.kst.rootPart
  | .mea => t.mea.otherPart = s.mea.otherPart
  | .meas => t.mea.registerPart = s.mea.registerPart
  | .slc => t.slc = s.slc
  | .ngl => t.ngl = s.ngl
  | .chl => { t.chl with regions := [] } = { s.chl with regions := [] }
  | .regions => t.chl.regions = s.chl.regions
  | .per => t.per.otherPart = s.per.otherPart
  | .commits => t.per.commitPart = s.per.commitPart
  | .log => t.log.otherPart = s.log.otherPart
  | .store => t.log.storePart = s.log.storePart
  | .tam => t.tam = s.tam
  | .lc => t.lc = s.lc
  | .dcc => t.dcc.otherPart = s.dcc.otherPart
  | .custody => t.dcc.custodyPart = s.dcc.custodyPart
  | .cards => t.cards = s.cards
  | .gds => t.gds = s.gds
  | .m => t.m = s.m

/-- Nothing but the blocks of `ch` differs between two states, the queue of waiting commands is the same, and what the
block drove out is still there: outputs only follow. -/
structure Frame (ch : List Block) (s t : State) : Prop where
  /-- the queue of waiting commands -/
  queue : t.pending = s.pending
  /-- the outputs, newest first -/
  out : s.m.out <:+ t.m.out
  /-- every other block -/
  rest : ∀ b, b ∉ ch → Same b s t

/-- Whatever state the command answers, only the blocks of `ch` differ. -/
def Touches (i : Instr) (ch : List Block) : Prop := ∀ s t, exec i s = .next t → Frame ch s t

/-- The life-cycle word is a word: six positions of at most four blown fuses each (R490). -/
def LegalWord (f : Fuses) : Prop := f.lcWord.length = 6 ∧ ∀ n ∈ f.lcWord, n ≤ 4

/-- Fuses only blow: no position of the life-cycle word loses a fuse, the epoch does not fall, and a blown single
fuse stays blown (R83, R490, R472, R80). -/
structure OneWay (a b : Fuses) : Prop where
  /-- the word stays a word -/
  legal : LegalWord a → LegalWord b
  /-- positions gain fuses only -/
  word : LegalWord a → ∀ p, a.lcWord.getD p 0 ≤ b.lcWord.getD p 0
  /-- the epoch -/
  epoch : a.epoch ≤ b.epoch
  /-- identity killed -/
  killed : a.identityKilled = true → b.identityKilled = true
  /-- SMBus Quench disabled -/
  quench : a.smbusQuenchOff = true → b.smbusQuenchOff = true
  /-- cosigning required -/
  cosign : a.cosignRequired = true → b.cosignRequired = true

/-- The measurement registers stand as R360 has them: thirty-two with their counts, each count within 32 bits, and
MEAS6 to MEAS15, which nothing ever extends, at their start value with count 0. -/
structure State.Measured (s : State) : Prop where
  /-- thirty-two registers -/
  values : s.mea.meas.length = 32
  /-- thirty-two counts -/
  counts : s.mea.measCount.length = 32
  /-- a count saturates -/
  bounded : ∀ i, s.mea.measCount.getD i 0 < 2 ^ 32
  /-- registers of no use -/
  spare : ∀ i, 6 ≤ i → i ≤ 15 → s.mea.meas.getD i [] = zeros 48 ∧ s.mea.measCount.getD i 0 = 0

/-- The blocks each command of its family may change: the start, the rails, the host port, the SMBus, the TAP and a
life-cycle transition. -/
def startFrame : Instr → Option (List Block)
  | .holdEntry .. => some [.pins, .stage, .pat, .host, .queues, .tnd, .clusters, .kst, .mea, .meas, .slc, .ngl,
    .chl, .per, .commits, .log, .store, .tam, .lc, .dcc, .custody, .cards, .m]
  | .keepRailUp => some [.pins]
  | .guardStart .. | .saveDrainComplete => some [.pins, .stage, .alert, .unsealed, .fuses, .pat, .host, .queues,
    .tnd, .fabric, .clusters, .kst, .roots, .mea, .meas, .slc, .ngl, .chl, .regions, .per, .commits, .log, .store,
    .tam, .lc, .dcc, .custody, .cards, .gds, .m]
  | .stageHubEntry .. => some [.pins, .stage, .alert, .unsealed, .pat, .host, .queues, .tnd, .fabric, .clusters,
    .kst, .roots, .mea, .meas, .slc, .ngl, .chl, .regions, .per, .commits, .log, .store, .tam, .dcc, .custody,
    .cards, .gds, .m]
  | .stageFullEntry .. => some [.pins, .stage, .alert, .unsealed, .host, .queues, .tnd, .fabric, .clusters, .kst,
    .roots, .mea, .slc, .ngl, .chl, .regions, .commits, .log, .cards, .m]
  | .annealBistComplete .. => some [.stage, .tnd, .fabric, .regions, .commits, .log]
  | .firmwareReadComplete .. => some [.pins, .stage, .alert, .unsealed, .pat, .host, .queues, .tnd, .clusters, .kst,
    .roots, .mea, .meas, .slc, .ngl, .chl, .per, .commits, .log, .store, .tam, .dcc, .custody, .cards, .m]
  | .riserSample .. => some [.stage, .unsealed, .roots, .per, .log]
  | .riserTimeout => some [.stage, .unsealed, .roots, .log]
  | .sliceRestoreComplete .. => some [.stage, .tnd, .kst, .slc, .regions, .commits, .log]
  | .regionBringupComplete .. => some [.stage, .alert, .host, .queues, .tnd, .fabric, .clusters, .kst, .mea, .slc,
    .ngl, .regions, .commits, .log, .m]
  | .stgRepour .. | .repourPendingStart => some [.stage, .host, .queues, .tnd, .clusters, .kst, .mea, .meas, .slc,
    .ngl, .per, .commits, .log, .store, .dcc, .custody, .cards, .m]
  | .stgHubHoldWrite .. | .quenchArmExpire | .smbusBusTimeout => some [.stage]
  | .powerFailSave .. => some [.pins, .stage, .pat, .queues, .tnd, .clusters, .kst, .mea, .slc, .ngl, .chl, .per,
    .commits, .log, .store, .tam, .custody, .cards]
  | .keepRailOff => some [.pins, .stage, .pat, .host, .queues, .tnd, .clusters, .kst, .roots, .mea, .slc, .ngl,
    .chl, .per, .commits, .log, .store, .tam, .lc, .dcc, .custody, .cards]
  | .perstNAssert => some [.pins, .host, .queues, .tnd, .clusters, .kst, .mea, .slc, .ngl, .per, .commits, .m]
  | .perstNDeassert => some [.pins, .host]
  | .slice0Reattach => some [.slc]
  | .pmD3hotEntry => some [.host]
  | .pmD0Return => some [.host, .m]
  | .smbusStatus | .smbusReason | .smbusCapacity | .smbusThermal | .smbusPower | .smbusSerial | .smbusTamper |
    .smbusHeat | .smbusAlertCauseRead | .smbusUnknownCommand .. => some [.stage, .m]
  | .smbusAlertCauseClear .. => some [.stage, .alert, .m]
  | .smbusAlertResponse => some [.m]
  | .smbusQuenchArm .. => some [.stage, .log, .m]
  | .smbusQuenchFire .. => some [.stage, .alert, .unsealed, .pat, .host, .queues, .tnd, .clusters, .kst, .roots,
    .mea, .meas, .slc, .ngl, .per, .commits, .log, .store, .tam, .dcc, .custody, .cards, .m]
  | .tapIdcode | .tapBypass .. => some [.stage, .lc, .m]
  | .tapExtest .. | .tapSamplePreload .. | .tapHubHold | .tapReset => some [.stage, .lc]
  | .tapLcRequest .. | .tapLcFuse .. => some [.stage, .alert, .unsealed, .fuses, .pat, .host, .queues, .tnd,
    .clusters, .kst, .roots, .mea, .meas, .slc, .ngl, .per, .commits, .log, .store, .tam, .lc, .dcc, .custody,
    .cards, .m]
  | .tapVdbg .. => some [.stage, .alert, .unsealed, .pat, .host, .queues, .tnd, .clusters, .kst, .roots, .mea,
    .meas, .slc, .ngl, .per, .commits, .log, .store, .tam, .lc, .dcc, .custody, .cards, .m]
  | .pcieLinkTrained .. => some [.pat, .host, .log]
  | .lcTransitionDone .. => some [.pins, .stage, .alert, .unsealed, .fuses, .pat, .host, .queues, .tnd, .fabric,
    .clusters, .kst, .roots, .mea, .meas, .slc, .ngl, .chl, .per, .commits, .log, .store, .tam, .lc, .dcc, .custody,
    .cards, .m]
  | _ => none

/-- The blocks each command of its family may change: host accesses, queues, the Tundish, units, Chill, persistence,
time and the heat log. -/
def workFrame : Instr → Option (List Block)
  | .barBadAccess .. => some [.tnd, .log, .m]
  | .regPairLoRead .. | .msixDelayExpire .. | .msixVectorUnmask .. => some [.host, .m]
  | .registerWrite .. => some [.host, .queues, .slc, .chl, .per, .store, .gds, .m]
  | .doorbellSqTail .. | .doorbellCqHead .. => some [.host, .queues, .tnd, .slc, .m]
  | .mbNotify .. => some [.host, .slc, .m]
  | .fetchBatch => some [.queues, .m]
  | .descriptorArrival .. | .qawDisable | .itemFinish .. | .retryWaitPoll .. => some [.host, .queues, .tnd,
    .clusters, .kst, .mea, .slc, .ngl, .regions, .commits, .log, .m]
  | .qawRead | .qawWrite | .qawEnable | .qawResetError => some [.queues]
  | .take .. | .mustRunPromote .. | .agePromote .. | .notBeforeDue .. | .retryDue .. => some [.host, .tnd,
    .clusters, .regions, .log, .m]
  | .inputFetchComplete .. | .completionTimeout .. => some [.pat, .host, .queues, .tnd, .clusters, .kst, .mea,
    .meas, .slc, .ngl, .regions, .per, .commits, .log, .store, .dcc, .custody, .cards, .m]
  | .bnuCommandComplete .. => some [.host, .queues, .tnd, .fabric, .clusters, .kst, .mea, .slc, .ngl, .regions,
    .commits, .log, .dcc, .m]
  | .signerComplete => some [.tnd, .mea]
  | .commitAck .. => some [.alert, .unsealed, .tnd, .clusters, .kst, .roots, .mea, .meas, .slc, .ngl, .per,
    .commits, .log, .store, .dcc, .custody, .cards, .m]
  | .pinLockoutTimerDue .. => some [.tnd, .slc, .commits]
  | .quorumSessionExpire => some [.tnd, .kst, .mea, .meas, .slc, .ngl, .per, .commits, .log, .store, .dcc, .custody,
    .cards, .m]
  | .regionIdleTimerDue .. => some [.tnd, .clusters, .regions]
  | .chillUpdate .. => some [.alert, .host, .tnd, .clusters, .chl, .regions, .log, .gds, .m]
  | .regionWakeComplete .. => some [.host, .tnd, .fabric, .clusters, .regions, .commits, .log, .m]
  | .regionDrainComplete .. => some [.chl, .regions]
  | .tcEccCorrected .. | .heatOccurrence .. | .recordSealTimeout | .summaryFlushDue | .bnuKeygenLong .. => some
    [.log]
  | .tcEccUncorrectable .. | .clusterSramEcc .. => some [.host, .queues, .tnd, .fabric, .clusters, .kst, .mea, .slc,
    .ngl, .regions, .commits, .log, .m]
  | .spareSelftestComplete .. | .dguKatDue .. => some [.host, .queues, .tnd, .fabric, .clusters, .kst, .mea, .slc,
    .ngl, .commits, .log, .m]
  | .bnuDrbgReseed .. => some [.clusters]
  | .dieLinkFlitError .. => some [.stage, .alert, .host, .queues, .tnd, .fabric, .clusters, .kst, .mea, .slc, .ngl,
    .regions, .commits, .log, .gds, .m]
  | .hubMemoryEcc .. => some [.stage, .alert, .host, .queues, .tnd, .clusters, .kst, .mea, .slc, .ngl, .commits,
    .gds, .m]
  | .entropyHealthFail | .rngRetestDue .. => some [.mea, .log]
  | .commitEntryAccept => some [.host, .tnd, .fabric, .clusters, .ngl, .regions, .commits, .log, .m]
  | .journalDrain .. | .linePaceExpire .. => some [.per, .commits]
  | .counterCheckpoint => some [.kst, .commits]
  | .timeCheckpoint => some [.tnd, .per, .commits]
  | .lifeCounterWrite .. => some [.tnd, .per, .commits, .log]
  | .calendarFlitSend => some [.ngl, .m]
  | .stagingDrain .. => some [.per, .log, .store]
  | .hlwCursorHiWrite .. => some [.store]
  | .hlwData15Read => some [.store, .m]
  | .rtcHold => some [.per]
  | .pllLockLoss .. => some [.regions]
  | _ => none

/-- The blocks each command of its family may change: tamper, injection, measurement select, Ngueth, cards and the
keypad. -/
def deviceFrame : Instr → Option (List Block)
  | .tamperSample .. => some [.pins, .alert, .unsealed, .pat, .host, .queues, .tnd, .clusters, .kst, .roots, .mea,
    .meas, .slc, .ngl, .regions, .per, .commits, .log, .store, .tam, .dcc, .custody, .cards, .gds, .m]
  | .batteryPulse .. | .extTampFilterExpire .. => some [.unsealed, .roots, .tam]
  | .batteryInputEdge .. => some [.pins, .unsealed, .roots, .per, .tam]
  | .tamQuenchArm .. | .tamLatchedClear .. => some [.log, .tam]
  | .tamQuenchFire .. => some [.alert, .unsealed, .pat, .host, .queues, .tnd, .clusters, .kst, .roots, .mea, .meas,
    .slc, .ngl, .per, .commits, .log, .store, .tam, .dcc, .custody, .cards, .m]
  | .tamQuenchCancel .. => some [.tam]
  | .meaSelectWrite .. => some [.mea]
  | .slcMbNextRead => some [.slc, .m]
  | .slcNotifyWrite .. => some [.host, .m]
  | .cluSbuInjectWrite .. | .cluBnuInjectWrite .. => some [.clusters]
  | .nglPortDisable .. | .nguethBadFlit .. | .nguethRxTimeout .. | .nguethAckTimeout .. | .nguethLockLoss .. => some
    [.tnd, .ngl, .m]
  | .nglPortEnable .. | .nglLanePrbsWrite .. | .nguethHeartbeat .. | .nguethRetrainDue .. |
    .nguethPortShutdownComplete .. => some [.ngl]
  | .nguethTrainingComplete .. => some [.mea, .ngl, .m]
  | .nguethHandshake .. => some [.ngl, .log, .m]
  | .nguethMirrorUpdate .. => some [.host, .tnd, .fabric, .clusters, .kst, .slc, .ngl, .commits, .log, .m]
  | .nguethMirrorAck .. => some [.host, .tnd, .slc, .ngl, .commits, .m]
  | .nguethLeaseSummary .. => some [.host, .queues, .tnd, .clusters, .kst, .mea, .slc, .ngl, .commits, .log, .m]
  | .nguethCalendar .. => some [.ngl, .per, .log]
  | .nguethRetryRequest .. | .nguethHeartbeatSend .. => some [.ngl, .m]
  | .leaseExpire .. => some [.host, .queues, .tnd, .clusters, .kst, .mea, .slc, .ngl, .commits, .m]
  | .offerExpire .. => some [.slc]
  | .iccInserted .. => some [.log, .cards]
  | .iccRemoved .. | .iccWaitTimeout .. | .keypadEntryTimeout => some [.log, .dcc, .cards]
  | .iccPowerHoldEnd .. | .slotChatterEnd .. => some [.cards]
  | .iccAtrReceived .. => some [.mea, .log, .dcc, .cards, .m]
  | .iccResponse .. | .keypadKey .. => some [.tnd, .kst, .mea, .meas, .slc, .ngl, .per, .commits, .log, .store,
    .dcc, .custody, .cards, .m]
  | .keypadStuck .. => some [.log, .dcc]
  | .sdInserted .. => some [.log, .cards, .m]
  | .sdRemoved | .sdCommandResponse .. | .sdCommandTimeout | .sdBusyRelease .. | .sdBusyTimeout => some [.host,
    .queues, .tnd, .clusters, .kst, .mea, .meas, .slc, .ngl, .regions, .per, .commits, .log, .store, .dcc, .custody,
    .cards, .m]
  | .sdPowerHoldEnd | .sdRetuneDue => some [.cards, .m]
  | .keypadKeyRelease .. => some [.dcc]
  | _ => none

/-- The blocks each command of its family may change: the verbs, and the flash and archive operations of a verb. -/
def verbFrame : Instr → Option (List Block)
  | .patternStage .. | .flashTimeout => some [.pat, .host, .queues, .tnd, .clusters, .kst, .mea, .slc, .ngl,
    .regions, .commits, .log, .dcc, .m]
  | .guardSlotLoad .. | .componentCombine .. | .keypairGenerate .. | .sign .. | .verify .. | .oaepEncrypt .. |
    .oaepDecrypt .. | .emvCertSign .. | .sliceCreate .. | .sliceAttach .. | .sliceDetach .. | .sliceDelete .. |
    .sliceGeneration .. | .sliceFreeze .. | .sliceOffer .. | .sliceSave .. | .sliceRestore .. | .sliceDiscard .. |
    .sliceActivate .. | .sliceThaw .. | .sliceMirror .. | .mirrorTakeover .. | .sliceUnfence .. | .logExport .. =>
    some [.host, .queues, .tnd, .clusters, .kst, .mea, .slc, .ngl, .regions, .commits, .log, .dcc, .m]
  | .archiveFormat .. | .archiveWrite .. | .archiveRead .. | .archiveInfo .. | .archiveSeal .. | .quorumClose .. =>
    some [.host, .queues, .tnd, .clusters, .kst, .mea, .meas, .slc, .ngl, .regions, .per, .commits, .log, .store,
    .dcc, .custody, .cards, .m]
  | .keyGenerate .. | .keyCheck .. | .tr31Import .. | .tr31Export .. | .tr31Translate .. | .dukptIkDerive .. |
    .dukptKeyDerive .. | .kdfDerive .. | .ingotInspect .. | .ingotRestrict .. | .ingotPin .. | .ingotUnpin .. |
    .counterRelease .. | .ecdhDerive .. | .publicExport .. | .pubkeyTicket .. | .tr34Bind .. | .tr34Send .. |
    .tr34Receive .. | .pinTranslate .. | .pinVerifyPvv .. | .pinVerifyOffset .. | .pvvGenerate .. | .offsetGenerate
    .. | .pinChange .. | .pinTryStatus .. | .cvvGenerate .. | .cvvVerify .. | .dcvvGenerate .. | .dcvvVerify .. |
    .emvMkDerive .. | .emvArqcVerify .. | .emvScriptMac .. | .emvScriptEncrypt .. | .dataEncrypt .. | .dataDecrypt
    .. | .p2peDecrypt .. | .macGenerate .. | .macVerify .. | .blockRaw .. | .digest .. | .hmacGenerate .. |
    .hmacVerify .. | .ff1Tokenize .. | .ff1Detokenize .. | .random .. | .logReadSlice .. | .pelynAttest .. |
    .keyOrigin .. | .identityChain .. => some [.host, .queues, .tnd, .fabric, .clusters, .kst, .mea, .slc, .ngl,
    .regions, .commits, .log, .dcc, .m]
  | .quorumOpen .. => some [.host, .queues, .tnd, .clusters, .kst, .mea, .slc, .ngl, .regions, .commits, .log, .dcc,
    .cards, .m]
  | .domainCreate .. | .domainJoin .. | .lifecycle .. => some [.alert, .unsealed, .fuses, .pat, .host, .queues,
    .tnd, .clusters, .kst, .roots, .mea, .meas, .slc, .ngl, .regions, .per, .commits, .log, .store, .tam, .lc, .dcc,
    .custody, .cards, .m]
  | .domainRestore .. | .unlock .. | .custodianEnrol .. | .calendarSet .. | .logClear .. | .archiveProtect .. |
    .flashOperationComplete .. => some [.alert, .unsealed, .pat, .host, .queues, .tnd, .clusters, .kst, .roots,
    .mea, .meas, .slc, .ngl, .regions, .per, .commits, .log, .store, .tam, .dcc, .custody, .cards, .m]
  | .patternKeyEnrol .. => some [.alert, .unsealed, .fuses, .pat, .host, .queues, .tnd, .clusters, .kst, .roots,
    .mea, .meas, .slc, .ngl, .regions, .per, .commits, .log, .store, .tam, .dcc, .custody, .cards, .m]
  | .logAck .. => some [.host, .queues, .tnd, .clusters, .kst, .mea, .slc, .ngl, .regions, .per, .commits, .log,
    .store, .dcc, .m]
  | .measExtend .. => some [.host, .queues, .tnd, .clusters, .kst, .mea, .meas, .slc, .ngl, .regions, .commits,
    .log, .dcc, .m]
  | _ => none

/-- A creating verb wrote its ingots for a key `key` of the header choices `k`: one, or the ENC and DEC halves of a
split pair, under the wrap key of the owning slice, and the creation result (R214, R226, R248). -/
def State.Wrote (s : State) (it : Item) (k : NewKey) (split : Bool) (key result output : Bytes) : Prop :=
  ∃ idx id id2,
    let wk := if k.slice = it.slice then s.wrapKey k.slice
      else if k.slice = 0 then s.wrapKey 0
      else (kwpUnwrap s.sliceKey (s.slice k.slice).wrapped).getD []
    let first := s.symIngot wk (if split then { k with attr := 1, mode := chr 'E' } else k) idx id key
    result = creationResult first (if split then 2 else 1) ∧
    output = (if split then first ++ s.symIngot wk { k with attr := 2, mode := chr 'D' } idx id2 key else first) ∧
    (bit k.mods 1 = false → idx = 0xFFFFFFFF)

end Sys2Proof.Machine
end

