-- ==== Sys2Proof/Certificates/Slice0/Obligations.lean ====
section
/-!
DEFINITION. The statements of this model for the provers. Statements that name an open value of Config hold for every
such value.
-/

open Sys2Proof Sys2Proof.Machine

/-- A step with a command at the front of the queue is that command's effect on the state with the queue's rest; on an
empty queue it is one tick of 250 ns, the model's own choice (assumption log 1). -/
def Obligations.StepRunsFrontCommand : Prop :=
  (∀ (c : Instr) (rest : List Instr) (s : State), s.pending = c :: rest →
    step s = exec c { s with pending := rest }) ∧
  (∀ s : State, s.pending = [] → step s = .next s.tick ∧ s.tick.m.now = s.m.now + 1)

/-- Every step answers a next state, whatever the state and the command: it takes its command from the queue and no
other, and what the block drove out before still stands, outputs only following (the queue is the model's own,
assumption log 1; that no command stops is assumption log 2). -/
def Obligations.StepsGoOn : Prop :=
  ∀ s : State, ∃ t, step s = .next t ∧ t.pending = s.pending.tail ∧ s.m.out <:+ t.m.out

/-- Fuses only blow, by any command whatever: no position of the life-cycle word loses a fuse, the epoch does not
fall, a killed identity stays killed, and the fuses that take the SMBus Quench away and require cosigning stay blown
(R83, R472, R490, R500). -/
def Obligations.FusesOnlyBlow : Prop :=
  ∀ s t : State, step s = .next t → OneWay s.fuses t.fuses

/-- The measurement registers keep the form R360 gives them through every step: counts saturate, and no command ever
extends MEAS6 to MEAS15. -/
def Obligations.MeasurementRegistersStand : Prop :=
  ∀ s t : State, s.Measured → step s = .next t → t.Measured

/-- What State.reset holds: Hold, with the dies unpowered, the link down, nothing accepted, fetched or in flight; the
measurement registers at 48 zero bytes; and, by the model's choice of a new part (assumption log 3), a legal
life-cycle word that spells BLANK, with no domain root. -/
def Obligations.ResetHolds : Prop :=
  State.reset.Measured ∧ (∀ i < 32, State.reset.mea.meas.getD i [] = zeros 48) ∧
  State.reset.stage.stage = .hold ∧ State.reset.host.linkUp = false ∧ State.reset.pat.accepted = false ∧
  State.reset.queues.ctxs = [] ∧ State.reset.tnd.items = [] ∧ State.reset.kst.hubCache = [] ∧
  State.reset.pending = [] ∧ LegalWord State.reset.fuses ∧ State.reset.lcState = .blank ∧
  State.reset.bbramEmpty = true

/-- The life-cycle word decodes as R490 states: SCRAPPED where position 6 is complete, otherwise the highest complete
position p such that positions 1 to p are all complete, BLANK for p = 0; TEST_UNLOCKED is the volatile flag over TEST
and changes no other state. -/
def Obligations.LifeCycleWordDecodes : Prop :=
  ∀ s : State, LegalWord s.fuses →
    let complete := fun (p : Nat) => s.fuses.lcWord.getD (p - 1) 0 = 4
    (complete 6 → s.lcState = .scrapped) ∧
    (¬complete 6 → ∀ p ≤ 5, (∀ q, 1 ≤ q → q ≤ p → complete q) → (p < 5 → ¬complete (p + 1)) →
      s.lcState = (match p with
        | 0 => .blank
        | 1 => if s.lc.testUnlocked then .testUnlocked else .test
        | 2 => .manufactured
        | 3 => .provisioned
        | 4 => .deployed
        | _ => .returned))

/-- TAM_LATCHED is written while the register block answers (R485): the latch of an inactive source whose applied
response was RECORD clears where its bit is written as 1, and TAMPER_RECORD_CLEARED is written for it; a bit of an
active source, or of a LOCK or QUENCH source, is ignored; a block that does not answer keeps everything. -/
def Obligations.TamperLatchClears : Prop :=
  ∀ (s : State) (mask : Nat),
    let clears := fun (n : Nat) => n < 16 ∧ bit mask n = true ∧ n ∈ s.tam.latched ∧
      lookupD s.tam.latchedResp n 0 = 1 ∧ n ∉ s.tam.active
    (s.gBlock = true →
      Reaches (.tamLatchedClear mask) s (fun t => (∀ n, n ∈ t.tam.latched ↔ n ∈ s.tam.latched ∧ ¬clears n) ∧
        t.tam.lockFlag = s.tam.lockFlag ∧ t.kst = s.kst) ∧
      (∀ n, clears n → (∀ k, clears k → k = n) → exec (.tamLatchedClear mask) s = .next
        (State.logEv { s with tam.latched := s.tam.latched.filter (fun k => !(k == n))
                              tam.latchedResp := s.tam.latchedResp.filter (fun p => !(p.1 == n)) }
          0x0808 (srcTamper n) 0xFFFF (le 1 n))) ∧
      ((∀ n, ¬clears n) → exec (.tamLatchedClear mask) s = .next s)) ∧
    (s.gBlock = false → exec (.tamLatchedClear mask) s = .next s)

/-- What the commands of the start, the rails, the host port, the SMBus, the TAP and a life-cycle transition leave
unchanged: every block outside their row, the queue and the outputs so far. -/
def Obligations.StartCommandsKeepTheRest : Prop :=
  ∀ (i : Instr) (ch : List Block), startFrame i = some ch → Touches i ch

/-- What host accesses, queue commands, the Tundish, units, Chill, persistence, time and the heat log leave unchanged:
every block outside their row, the queue and the outputs so far. -/
def Obligations.WorkCommandsKeepTheRest : Prop :=
  ∀ (i : Instr) (ch : List Block), workFrame i = some ch → Touches i ch

/-- What the commands of tamper, injection, measurement select, Ngueth, cards and the keypad leave unchanged: every
block outside their row, the queue and the outputs so far. -/
def Obligations.DeviceCommandsKeepTheRest : Prop :=
  ∀ (i : Instr) (ch : List Block), deviceFrame i = some ch → Touches i ch

/-- What the verbs, and the flash and archive operations of a verb, leave unchanged: every block outside their row,
the queue and the outputs so far. -/
def Obligations.VerbsKeepTheRest : Prop :=
  ∀ (i : Instr) (ch : List Block), verbFrame i = some ch → Touches i ch

/-- Every read command of the SMBus target answers with the content R69 gives it, little-endian, and cancels an arm of
QUENCH_FIRE (R70); in Hold, or with the main supply away, it is not acknowledged (R68). ALERT_CAUSE, the Alert
Response Address, unknown commands, the bus timeout and the two commands of an SMBus Quench: what each does when it is
accepted, and what it does when it is not; a write with a wrong PEC is not acknowledged and writes nothing (R68–R70,
R604). An arm stands until 100 ms have passed, counted from the last accepted QUENCH_ARM. The PEC is SMBus 3.1's
CRC-8 (assumption log 4). -/
def Obligations.SmbusCommandsWork : Prop :=
  (
    ∀ s : State,
      let reads : List (Instr × Nat × Bytes) := [
        (.smbusStatus, 0x01, le 2 (s.stageCode + 4 * b2n s.stage.verbs + 8 * b2n s.stage.fullcap + 16 * b2n s.stage.fault +
          32 * b2n s.tam.lockFlag + 64 * b2n s.quenched + 128 * b2n s.stage.riserWait + 256 * s.lcState.code)),
        (.smbusReason, 0x02, le 2 (s.stage.reasonCode + 256 * s.stage.reasonStage)),
        (.smbusCapacity, 0x03, le 1 s.presentClusters.length ++ le 1 (s.capUnits kindBNU) ++ le 1 (s.capUnits kindDGU) ++
          le 1 s.stage.online.length ++ le 2 (s.capUnits kindTC) ++ le 2 (s.capUnits kindSBU)),
        (.smbusThermal, 0x04, le 2 ((if s.stage.stage = .hub ∨ s.stage.stage = .full then s.chl.hottest
          else s.gds.temps.getD 4 0) % 65536).toNat),
        (.smbusPower, 0x05, le 2 (if s.stage.stage = .full then s.chl.pkgPower else 0)),
        (.smbusSerial, 0x06, fit 16 s.fuses.serial),
        (.smbusTamper, 0x07, le 2 (maskOf s.tam.latched)),
        (.smbusHeat, 0x08, le 8 s.newest),
        (.smbusAlertCauseRead, 0x09, le 1 s.stage.alertCause)]
      (s.stage.stage ≠ .hold → s.pins.mainOn = true → ∀ r ∈ reads,
        exec r.1 s = .next { s with stage.smbArm := none
                                    m.out := .smbus r.2.1 r.2.2 (s.readPec r.2.1 r.2.2) :: s.m.out }) ∧
      (s.stage.stage = .hold ∨ s.pins.mainOn = false → ∀ r ∈ reads,
        exec r.1 s = .next { s with m.out := .smbusNack r.2.1 :: s.m.out })
  ) ∧ (
    ∀ s : State,
      (s.smbusUp = true →
        (∀ value < 256, ∀ pec, pec ≠ some false → ∃ t, exec (.smbusAlertCauseClear ⟨value, pec⟩) s = .next t ∧
          t.stage.smbArm = none ∧
          (s.stage.alertCause < 256 → ∀ i < 8, bit t.stage.alertCause i = (bit s.stage.alertCause i && !bit value i)) ∧
          t.m.out = s.m.out) ∧
        (∀ value, exec (.smbusAlertCauseClear ⟨value, some false⟩) s = .next
          { s with stage.smbArm := none, m.out := .smbusNack 0x09 :: s.m.out }) ∧
        (s.stage.alertCause ≠ 0 → exec .smbusAlertResponse s = .next
          { s with m.out := .smbus 0x0C (le 1 (2 * (0x5C + s.pins.sbAddr)))
                             (crcLeft 8 0x07 (0x19 :: le 1 (2 * (0x5C + s.pins.sbAddr)))) :: s.m.out }) ∧
        (s.stage.alertCause = 0 → exec .smbusAlertResponse s = .next { s with m.out := .smbusNack 0x0C :: s.m.out })) ∧
      (∀ code, exec (.smbusUnknownCommand code) s = .next
        { s with stage.smbArm := none, m.out := .smbusNack code :: s.m.out }) ∧
      (∀ n, s.stage.smbArm = some n → 400000 ≤ s.m.now - n → exec .quenchArmExpire s = .next
        { s with stage.smbArm := none }) ∧
      (s.stage.smbArm = none ∨ (∃ n, s.stage.smbArm = some n ∧ s.m.now - n < 400000) →
        exec .quenchArmExpire s = .next s) ∧
      exec .smbusBusTimeout s = .next { s with stage.smbArm := none } ∧
      (s.smbusUp = true → s.fuses.smbusQuenchOff = false →
        (∃ t, exec (.smbusQuenchArm 0xA5 (some true)) s = .next t ∧ t.stage.smbArm = some s.m.now) ∧
        (∀ value pec, ¬(value = 0xA5 ∧ pec = some true) →
          ∃ t, exec (.smbusQuenchArm value pec) s = .next t ∧ t.stage.smbArm = none ∧ t.kst = s.kst) ∧
        (∀ value pec, ¬(value = 0x3C ∧ pec = some true ∧ ∃ n, s.stage.smbArm = some n ∧ s.m.now - n ≤ 400000) →
          ∃ t, exec (.smbusQuenchFire value pec) s = .next t ∧ t.stage.smbArm = none ∧ t.kst = s.kst)) ∧
      (s.smbusUp = true → s.fuses.smbusQuenchOff = true → ∀ value pec,
        exec (.smbusQuenchArm value pec) s = .next { s with m.out := .smbusNack 0x5A :: s.m.out } ∧
        exec (.smbusQuenchFire value pec) s = .next { s with m.out := .smbusNack 0x5B :: s.m.out })
  )

/-- A commanded Quench, over SMBus or by TAM_QUENCH, armed within 100 ms, and what a Quench clears: the domain root,
the domain keys, the caches of keys, the guard key slots and offers, the session, and every item that waits (R70,
R476, R477, R488). The writes of TAM_QUENCH (R488): ARM with its key arms now, and any other write but the right FIRE
cancels. A guard block that cannot be written keeps everything. -/
def Obligations.CommandedQuenchRuns : Prop :=
  (
    ∀ s : State, s.quenchBusy = false →
      let erased := fun t : State =>
        t.kst.bbram = zeros 32 ∧ t.kst.bbramCheck = zeros 8 ∧ t.kst.domain = false ∧ t.kst.hubCache = [] ∧
        t.mea.slots = [] ∧ t.slc.offers = [] ∧ t.dcc.session = none ∧ t.tam.quenchAt = some s.m.now ∧
        (∀ c ∈ t.fabric.clusters, c.keys = [] ∧ c.wraps = [] ∧ c.tenantKeys = []) ∧
        (s.usesTestRoot = false → t.stage.unsealed = false)
      (∀ n, s.smbusUp = true → s.fuses.smbusQuenchOff = false → s.stage.smbArm = some n → s.m.now - n ≤ 400000 →
        Reaches (.smbusQuenchFire 0x3C (some true)) s (fun t => erased t ∧ t.stage.smbArm = none)) ∧
      (∀ n, s.gBlock = true → s.tam.armedCmd = some n → s.m.now - n ≤ 400000 →
        Reaches (.tamQuenchFire 0xC3A5) s (fun t => erased t ∧ t.tam.armedCmd = none))
  ) ∧ (
    ∀ s : State,
      (s.gBlock = true →
        (∀ key, Reaches (.tamQuenchArm key) s (fun t =>
          t.tam.armedCmd = (if key = 0x5A3C then some s.m.now else none) ∧ t.kst = s.kst)) ∧
        (∀ key, ¬(key = 0xC3A5 ∧ ∃ n, s.tam.armedCmd = some n ∧ s.m.now - n ≤ 400000) →
          exec (.tamQuenchFire key) s = .next { s with tam.armedCmd := none }) ∧
        (∀ op key, ¬(op % 4 = 1 ∧ key = 0x5A3C) → ¬(op % 4 = 2 ∧ key = 0xC3A5) →
          exec (.tamQuenchCancel op key) s = .next { s with tam.armedCmd := none })) ∧
      (s.gBlock = false → ∀ key op, exec (.tamQuenchArm key) s = .next s ∧ exec (.tamQuenchFire key) s = .next s ∧
        exec (.tamQuenchCancel op key) s = .next s)
  )

/-- Loading the TAP's instruction register (R49, R55, R502, R605): an instruction that the state does not offer
selects BYPASS, in Hold only BYPASS and IDCODE are offered, EXTEST and SAMPLE/PRELOAD move the boundary register,
HUB_HOLD holds the device at the end of stage Hub, and leaving it releases the hold; TRST_N selects IDCODE. That
TRST_N selects IDCODE is presumed from IEEE 1149.1 (assumption log 3). The vendor debug port opens in TEST_UNLOCKED
and RETURNED alone, after a decision that is taken twice: a second reading that disagrees refuses it (R481, R503).
With the main supply off the TAP does not answer (R48). -/
def Obligations.TapInstructionsWork : Prop :=
  (
    ∀ s : State, s.pins.mainOn = true →
      (s.stage.stage = .hold → ∀ op, s.tapAvailable op = true → op = 0x01 ∨ op = 0xFF) ∧
      Reaches .tapIdcode s (fun t => t.lc.tapIr = 1 ∧ t.lc.tapSelected = 1 ∧ t.lc.tapPort = false ∧
        t.lc.extestDriven = false ∧ t.m.out = .tdo 0x01 0x1880014F :: s.m.out) ∧
      (∀ op, Reaches (.tapBypass op) s (fun t => t.lc.tapSelected = 0xFF ∧ t.lc.tapPort = false ∧
        t.m.out = .tdo 0xFF 0 :: s.m.out)) ∧
      (∀ u, s.tapAvailable 0x00 = true → Reaches (.tapExtest u) s (fun t => t.lc.tapSelected = 0 ∧
        t.lc.boundaryPre = u ∧ t.lc.extestDriven = true)) ∧
      (∀ u, s.tapAvailable 0x00 = false → Reaches (.tapExtest u) s (fun t => t.lc.tapSelected = 0xFF ∧
        t.lc.boundaryPre = s.lc.boundaryPre ∧ t.lc.extestDriven = false)) ∧
      (∀ c u, s.tapAvailable 0x02 = true → Reaches (.tapSamplePreload c u) s (fun t => t.lc.tapSelected = 2 ∧
        t.lc.boundaryCap = c ∧ t.lc.boundaryPre = u)) ∧
      (∀ c u, s.tapAvailable 0x02 = false → Reaches (.tapSamplePreload c u) s (fun t => t.lc.tapSelected = 0xFF ∧
        t.lc.boundaryCap = s.lc.boundaryCap ∧ t.lc.boundaryPre = s.lc.boundaryPre)) ∧
      (s.tapAvailable 0x10 = true → Reaches .tapHubHold s (fun t => t.lc.tapSelected = 0x10 ∧ t.hubHeld = true)) ∧
      (s.tapAvailable 0x10 = false → Reaches .tapHubHold s (fun t => t.lc.tapSelected = 0xFF)) ∧
      (s.lc.tapSelected = 0x10 → s.stage.hubHold = false → Reaches .tapIdcode s (fun t => t.stage.held = false)) ∧
      Reaches .tapReset s (fun t => t.lc.tapSelected = 1 ∧ t.lc.tapPort = false ∧ t.lc.extestDriven = false ∧
        t.lc.boundaryPre = [] ∧ t.lc.boundaryCap = [])
  ) ∧ (
    ∀ s : State, s.stage.stage ≠ .hold → s.pins.mainOn = true →
      let allowed := s.lcState = .testUnlocked ∨ s.lcState = .returned
      (allowed → ∀ o, o = none ∨ o = some 0 → Reaches (.tapVdbg o) s (fun t =>
        t.lc.tapSelected = 0x40 ∧ t.lc.tapPort = true ∧ t.lc.debugOpen = true)) ∧
      (¬allowed → ∀ o, o = none ∨ o = some 1 → Reaches (.tapVdbg o) s (fun t =>
        t.lc.tapSelected = 0xFF ∧ t.lc.tapPort = false ∧ t.lc.debugOpen = s.lc.debugOpen)) ∧
      (∀ o, (allowed → o ≠ 0) → (¬allowed → o ≠ 1) → Reaches (.tapVdbg (some o)) s (fun t =>
        t.lc.tapSelected = 0xFF ∧ t.lc.tapPort = false ∧ t.lc.debugOpen = s.lc.debugOpen ∧
        t.tam.mismatches = wrap 32 (s.tam.mismatches + 1)))
  ) ∧ (
    ∀ s : State, s.pins.mainOn = false →
      exec .tapIdcode s = .next s ∧ (∀ op, exec (.tapBypass op) s = .next s) ∧ (∀ u, exec (.tapExtest u) s = .next s) ∧
      (∀ c u, exec (.tapSamplePreload c u) s = .next s) ∧ exec .tapHubHold s = .next s ∧ exec .tapReset s = .next s ∧
      (∀ o, exec (.tapVdbg o) s = .next s) ∧
      (∀ target index token o, exec (.tapLcRequest target index token o) s = .next s) ∧
      (∀ field index value rest token digest o, exec (.tapLcFuse field index value rest token digest o) s = .next s)
  )

/-- LC_REQUEST (R492–R495, R504): the right token starts the transition and is used up, a test token unlocks TEST
until the next cold reset, and a refused request uses no fuse and starts nothing. LC_FUSE (R505): the fields it
programs, the authorising token it checks and does not consume, and that a refused write blows no fuse. A field that
is programmed already takes added bits only. -/
def Obligations.LifeCycleTokensWork : Prop :=
  (
    ∀ s : State, s.tapAvailable 0x20 = true → s.pins.mainOn = true → s.lc.running = none →
      (∀ target tok token, tokenFor s.lcState target = some tok → tok ≠ 3 → tok ≠ 4 → ¬(tok = 5 ∧ s.lcState = .deployed) →
        ¬(s.lcState = .blank ∧ target = 1 ∧ ¬s.allDigests) →
        (s.tokenGood tok token = true → Reaches (.tapLcRequest target 0 token none) s (fun t =>
          t.lc.running = some { target := target, token := tok, ceremony := none } ∧ t.lc.lcResult = 0x01 ∧
          lookupD t.fuses.tokenUsed tok 0 = 2 ∧ t.fuses.lcWord = s.fuses.lcWord ∧
          t.m.out = .tdo 0x20 0x01 :: s.m.out)) ∧
        (s.tokenGood tok token = false → Reaches (.tapLcRequest target 0 token none) s (fun t =>
          t.lc.running = none ∧ t.lc.lcResult = 0x10 ∧ t.fuses = s.fuses))) ∧
      (∀ index token, index < 8 → s.lcState = .test → s.testTokensLeft ≠ 0 → s.tokenConsumed (8 + index) = false →
        (s.tokenGood (8 + index) token = true → Reaches (.tapLcRequest 2 index token none) s (fun t =>
          t.lc.testUnlocked = true ∧ t.lcState = .testUnlocked ∧ t.lc.lcResult = 0x02 ∧
          lookupD t.fuses.tokenUsed (8 + index) 0 = 2)) ∧
        (s.tokenGood (8 + index) token = false → Reaches (.tapLcRequest 2 index token none) s (fun t =>
          t.lc.testUnlocked = s.lc.testUnlocked ∧ t.lc.lcResult = 0x10 ∧ t.fuses = s.fuses))) ∧
      (∀ target index token o, target ≠ 2 → tokenFor s.lcState target = none →
        Reaches (.tapLcRequest target index token o) s (fun t =>
          t.lc.running = none ∧ t.lc.lcResult = 0x11 ∧ t.fuses = s.fuses)) ∧
      (∀ index token o, s.lcState ≠ .test → Reaches (.tapLcRequest 2 index token o) s (fun t =>
          t.lc.testUnlocked = s.lc.testUnlocked ∧ t.lc.lcResult = 0x11 ∧ t.fuses = s.fuses))
  ) ∧ (
    ∀ s : State, s.tapAvailable 0x21 = true → s.pins.mainOn = true → s.lc.running = none →
      (∀ index token digest o, s.lcState = .blank → (1 ≤ index ∧ index ≤ 5) ∨ (8 ≤ index ∧ index ≤ 15) →
        Reaches (.tapLcFuse 1 index 0 0 token digest o) s (fun t =>
          t.fuses.tokenDigests = assocSet s.fuses.tokenDigests index
            (List.zipWith (· ||| ·) (fit 48 (s.tokenDigest index)) (fit 48 digest)) ∧
          t.fuses.tokenUsed = s.fuses.tokenUsed ∧ t.lc.fuseResult = 0x02)) ∧
      (∀ tok token digest, (s.lcState = .manufactured ∧ tok = 2) ∨ (s.lcState = .provisioned ∧ tok = 3) →
        (s.tokenGood tok token = true →
          (∀ index < 16, ∀ value < 16, Reaches (.tapLcFuse 2 index value 0 token digest none) s (fun t =>
            t.fuses.floors = s.fuses.floors.set index (s.fuses.floors.getD index 0 ||| value) ∧
            t.fuses.tokenUsed = s.fuses.tokenUsed ∧ t.lc.fuseResult = 0x02)) ∧
          Reaches (.tapLcFuse 3 0 1 0 token digest none) s (fun t => t.fuses.smbusQuenchOff = true ∧
            t.fuses.tokenUsed = s.fuses.tokenUsed ∧ t.fuses.floors = s.fuses.floors ∧ t.lc.fuseResult = 0x02) ∧
          Reaches (.tapLcFuse 4 0 1 0 token digest none) s (fun t => t.fuses.cosignRequired = true ∧
            t.fuses.tokenUsed = s.fuses.tokenUsed ∧ t.fuses.floors = s.fuses.floors ∧ t.lc.fuseResult = 0x02)) ∧
        (s.tokenGood tok token = false → ∀ field index value, field = 2 ∧ index < 16 ∧ value < 16 ∨
            (field = 3 ∨ field = 4) ∧ index = 0 ∧ value = 1 →
          Reaches (.tapLcFuse field index value 0 token digest none) s (fun t =>
            t.fuses = s.fuses ∧ t.lc.fuseResult = 0x10))) ∧
      (∀ field index value rest token digest o, s.lcState ≠ .blank → s.lcState ≠ .manufactured →
        s.lcState ≠ .provisioned → Reaches (.tapLcFuse field index value rest token digest o) s (fun t =>
          t.fuses = s.fuses ∧ t.lc.fuseResult = 0x11))
  )

/-- A sample of the tamper sources on main power (R469, R471, R475, R476): an armed source whose condition appears is
latched and answered, QUENCH by erasing the domain root, LOCK by the lock flag unless a stronger source of the same
sample or a running Quench takes its place; a sample in which no source trips latches nothing, records nothing, and
reads VBAT. While the sources are not armed nothing happens. The battery domain alone (R473, R480, R609): a pulse
latches and answers the sources it checks, an edge of a fitted input starts its filter, an input that has held its
level through its filter is an alarm, VBAT outside its window is TS5, below 0.5 V the battery domain loses all it
keeps, and a fitted cell powers it again. From stage Guard on, and with neither rail nor cell, none of these acts. -/
def Obligations.TamperSourcesRespond : Prop :=
  (
    ∀ (s : State) (x : TamperSense),
      (s.tam.mainArmed = true → s.pins.mainOn = true → s.stage.stage ≠ .hold → ∀ n < 11, n ≠ 5 →
        s.sourceArmed n = true → n ∉ s.tam.active → s.tripsNow x n = true → Reaches (.tamperSample x) s (fun t =>
          n ∈ t.tam.latched ∧ n ∈ t.tam.active ∧
          (s.responseOf n = 3 → s.quenchBusy = false → t.kst.bbram = zeros 32 ∧ t.kst.domain = false ∧
            t.dcc.session = none) ∧
          (s.responseOf n = 2 → s.quenchBusy = false → t.tam.lockFlag = true ∨ t.kst.bbram = zeros 32))) ∧
      (s.tam.mainArmed = true → s.pins.mainOn = true → s.stage.stage ≠ .hold → (∀ n < 11, s.tripsNow x n = false) →
        s.pat.extFitted = 0 → s.tam.active = [] → s.tam.clockLost = false → Reaches (.tamperSample x) s (fun t =>
          t.tam.latched = s.tam.latched ∧ t.tam.lockFlag = s.tam.lockFlag ∧ t.tam.active = [] ∧ t.kst = s.kst ∧
          t.log = s.log ∧ t.tam.vbat = min x.vbatMv 8191 ∧ t.pins.vbatOk = decide (x.vbatMv ≥ 500))) ∧
      (s.tam.mainArmed = false ∨ s.pins.mainOn = false ∨ s.stage.stage = .hold →
        exec (.tamperSample x) s = .next s) ∧
      (s.tam.mainArmed = true → s.pins.mainOn = true → s.stage.stage ≠ .hold → s.fromHub = true →
        s.tam.clockLost = false → s.tripsNow x 8 = true → Reaches (.tamperSample x) s (fun t =>
          t.tam.clockLost = true ∧ t.halted = true))
  ) ∧ (
    ∀ s : State,
      (s.onBattery = true →
        (∀ x n, n ∈ pulseSources → s.floorOf n ≠ 0 → s.tripsNow x n = true → n ∉ s.tam.disarmed →
          Reaches (.batteryPulse x) s (fun t => n ∈ t.tam.latched ∧ n ∈ t.tam.disarmed ∧
            (s.battResponseOf n = 3 → t.kst.bbram = zeros 32) ∧
            (s.battResponseOf n = 2 → t.tam.lockFlag = true ∨ t.kst.bbram = zeros 32))) ∧
        (∀ x, (∀ n ∈ pulseSources, s.tripsNow x n = false) → (∀ n ∈ s.tam.active, n ∉ pulseSources) →
          Reaches (.batteryPulse x) s (fun t => t.tam.latched = s.tam.latched ∧ t.tam.battBuf = s.tam.battBuf ∧
            t.kst = s.kst)) ∧
        (∀ input level, input < 4 → bit s.tam.fittedCopy input = true → s.floorOf (11 + input) ≠ 0 →
          s.tam.filterRunning.length = 4 → s.tam.extRaw.length = 4 →
          Reaches (.batteryInputEdge input level) s (fun t => t.tam.filterRunning.getD input false = true ∧
            t.tam.extRaw.getD input false = rawActive s.tam.polarityCopy input (level ≠ 0))) ∧
        (∀ input level, 4 ≤ input → s.pins.keepRail = false → level < 500 → Reaches (.batteryInputEdge input level) s (fun t =>
          t.pins.vbatOk = false ∧ t.kst.bbram = zeros 32 ∧ t.tam.latched = [] ∧ t.tam.lockFlag = false ∧
          t.tam.battBuf = [] ∧ t.per.rtcLost = true ∧ t.per.calSet = false)) ∧
        (∀ input level, 4 ≤ input → 500 ≤ level ∨ s.pins.keepRail = true → level < 2200 ∨ 4000 < level →
          s.floorOf 5 ≠ 0 → 5 ∉ s.tam.disarmed → Reaches (.batteryInputEdge input level) s (fun t => 5 ∈ t.tam.latched ∧ 5 ∈ t.tam.active)) ∧
        (∀ input level, 4 ≤ input → 2400 ≤ level → level ≤ 3800 → Reaches (.batteryInputEdge input level) s (fun t =>
          5 ∉ t.tam.active ∧ 5 ∉ t.tam.disarmed ∧ t.kst = s.kst)) ∧
        (∀ input < 4, s.tam.filterRunning.getD input false = true → s.tam.extRaw.getD input false = true →
          4 * s.tam.filterCopy.getD input 32 ≤ s.m.now - s.tam.extSince.getD input 0 → 11 + input ∉ s.tam.disarmed → 11 + input ∉ s.tam.chatter →
          Reaches (.extTampFilterExpire input) s (fun t => 11 + input ∈ t.tam.latched ∧ 11 + input ∈ t.tam.active ∧
            (s.battResponseOf (11 + input) = 3 → t.kst.bbram = zeros 32) ∧
            (s.battResponseOf (11 + input) = 2 → t.tam.lockFlag = true))) ∧
        (∀ input < 4, s.tam.filterRunning.getD input false = true → s.tam.extRaw.getD input false = false →
          4 * s.tam.filterCopy.getD input 32 ≤ s.m.now - s.tam.extSince.getD input 0 → Reaches (.extTampFilterExpire input) s (fun t => 11 + input ∉ t.tam.active ∧ 11 + input ∉ t.tam.disarmed ∧
            t.tam.latched = s.tam.latched ∧ t.kst = s.kst))) ∧
      (s.onBattery = false → (∀ x, exec (.batteryPulse x) s = .next s) ∧
        (∀ input < 4, ∀ level, exec (.batteryInputEdge input level) s = .next s) ∧
        ∀ input, exec (.extTampFilterExpire input) s = .next s) ∧
      (s.stage.stage ≠ .hold → ∀ input level, exec (.batteryInputEdge input level) s = .next s) ∧
      (s.pins.keepRail = false → s.pins.vbatOk = false → s.stage.stage = .hold → ∀ input level, 4 ≤ input → 500 ≤ level →
        Reaches (.batteryInputEdge input level) s (fun t => t.pins.vbatOk = true ∧ t.kst = s.kst))
  )

/-- Entry to Hold, the power-fail save, and the keep rail (R47, R49, R430, R431, R593): what each clears, what it
keeps, and what happens where it does not apply. The end of a drain or of a save (R47, R430, R431): what was waiting
for MRAM is in it, a save counts and leaves its marker, and a rise of RESET_N and PWR_OK that was held starts stage
Guard now. -/
def Obligations.PowerFallsAndSaves : Prop :=
  (
    ∀ s : State,
      (∀ pin, s.stage.stage ≠ .hold → s.lc.running = none → Reaches (.holdEntry pin) s (fun t =>
        t.stage.stage = .hold ∧ t.stage.draining = true ∧ (pin = 0 → t.pins.resetN = false) ∧
        (pin ≠ 0 → t.pins.pwrOk = false) ∧ t.pins.dieResetHub = true ∧ t.pins.dieResetT = true ∧ t.pins.halt = true ∧
        t.host.linkUp = false ∧ t.tnd.items = [] ∧ t.queues.batches = [] ∧ t.dcc.session = none ∧
        (t.lc.tapSelected = 0x01 ∨ t.lc.tapSelected = 0xFF) ∧ t.lc.tapPort = false ∧ t.fuses = s.fuses ∧
        t.kst.bbram = s.kst.bbram)) ∧
      (∀ pin, s.stage.stage = .hold ∨ s.lc.running ≠ none → Reaches (.holdEntry pin) s (fun t =>
        t = { s with pins := t.pins, stage.heldStart := none } ∧ (pin = 0 → t.pins = { s.pins with resetN := false }) ∧
        (pin ≠ 0 → t.pins = { s.pins with pwrOk := false }))) ∧
      (∀ cause, s.stage.stage ≠ .hold → s.stage.saving = false → s.pins.reposeSaved = false →
        Reaches (.powerFailSave cause) s (fun t =>
          t.stage.saving = true ∧ t.pins.reposeSaved = true ∧ t.pins.onRiser = true ∧ t.pins.halt = true ∧
          (cause = 0 → t.pins.pfailN = false) ∧ t.per.chargerOn = false ∧ t.tnd.items = [] ∧ t.tnd.dispatching = false ∧
          t.queues.batches = [] ∧ t.queues.complBuf = [] ∧ t.per.waiting = [] ∧ t.stage.stage = s.stage.stage ∧
          t.faultLow = true ∧ t.kst.bbram = s.kst.bbram)) ∧
      (s.pins.keepRail = true → Reaches .keepRailOff s (fun t =>
        t.stage.stage = .hold ∧ t.pins.keepRail = false ∧ t.pins.mainOn = false ∧ t.pins.resetN = false ∧
        t.pins.pwrOk = false ∧ t.per.journal = [] ∧ t.per.waiting = [] ∧ t.per.lines = [] ∧ t.log.staging = [] ∧
        t.log.opened = none ∧ t.dcc.session = none ∧ t.lc.running = none ∧ t.fuses = s.fuses ∧
        (s.pins.vbatOk = true → t.kst.bbram = s.kst.bbram ∧ t.tam = s.tam) ∧
        (s.pins.vbatOk = false → t.kst.bbram = zeros 32 ∧ t.tam.lockFlag = false ∧ t.tam.latched = [] ∧
          t.per.rtcLost = true))) ∧
      (s.pins.keepRail = false → exec .keepRailOff s = .next s) ∧
      exec .keepRailUp s = .next { s with pins.keepRail := true, pins.mainOn := true, pins.pfailN := true }
  ) ∧ (
    ∀ s : State, s.pins.halt = true →
      (s.stage.draining = true ∨ s.stage.saving = true → s.stage.heldStart = none →
        Reaches .saveDrainComplete s (fun t =>
          t.stage.draining = false ∧ t.stage.saving = false ∧ t.per.journal = [] ∧ t.per.lines = [] ∧
          t.log.staging = [] ∧ t.per.counterArea = [] ∧ t.stage.stage = s.stage.stage ∧
          (s.stage.saving = true → t.per.saveMarker.isSome = true ∧ t.per.saveOwed = false) ∧ t.kst.bbram = s.kst.bbram)) ∧
      (s.stage.draining = false → s.stage.saving = false → exec .saveDrainComplete s = .next s)
  )

/-- Stage Guard (R47, R50, R51, R491): with RESET_N and PWR_OK high it begins from Hold, samples the straps, arms the
sources of the main supply and starts the charger where the riser is good; copies that disagree, a defective fuse word
or a scrapped part stop it there, nothing else does; stage Hub is due unless it stopped. A rise during a drain is
held. -/
def Obligations.GuardStarts : Prop :=
  ∀ (s : State) (f : GuardFacts), s.stage.stage = .hold → s.pins.mainOn = true → s.pins.keepRail = true →
    let fresh := s.lc.intentA = none ∧ s.lc.intentB = none ∧
      ∀ p ∈ [(0, 1), (1, 3), (2, 4), (3, 5), (4, 6), (5, 7)],
        s.tokenConsumed p.1 = true → s.fuses.lcWord.getD (positionOf p.2 - 1) 0 ≥ 4
    let begun := fun t : State =>
      t.stage.stage = .guard ∧ t.pins.halt = false ∧
      t.pins.sbAddr = f.sbAddr % 4 ∧ t.tam.mainArmed = true ∧ t.per.chargerOn = f.riserOk ∧ t.fuses = s.fuses ∧
      t.tnd.items = [] ∧ t.host.linkUp = false ∧ t.dcc.session = none ∧ t.lc.testUnlocked = false ∧
      t.stage.hubEntryDue = !t.stage.stoppedInGuard ∧
      (f.lcSecond = none → (t.stage.stoppedInGuard = true ↔ f.readsAgree = false ∨ s.fuses.rootA ≠ s.fuses.rootB ∨
        s.wordDefect = true ∨ s.fuses.lcWord.getD 5 0 ≥ 4))
    (s.stage.draining = false → s.stage.saving = false → fresh →
      Reaches (.guardStart f) s (fun t => begun t ∧ t.pins.resetN = true ∧ t.pins.pwrOk = true)) ∧
    (s.stage.draining = true ∨ s.stage.saving = true → exec (.guardStart f) s = .next
      { s with pins.resetN := true, pins.pwrOk := true, stage.heldStart := some f }) ∧
    (s.pins.halt = true → s.stage.draining = true ∨ s.stage.saving = true → s.stage.heldStart = some f → fresh →
      Reaches .saveDrainComplete s begun)

/-- Stage Hub (R33, R53, R82): it begins when it is due, compares the hub's identifier with its fuse and stops with
reason HUB_ID_MISMATCH where they differ, and otherwise ends with an accepted pattern or with the reason there is
none. Stage Full (R55, R57, R60, R63): entered from stage Hub with an accepted pattern unless the device is held
there; the transaction dies leave reset and the riser gate is open, or waits with reason 0x22; with no region left
that Anneal found usable the reason is 0x21 (R59). -/
def Obligations.StagesHubAndFullBegin : Prop :=
  (
    ∀ (s : State) (h : HubStart),
      (s.hubReady = true → Reaches (.stageHubEntry h) s (fun t =>
        t.stage.stage = .hub ∧ t.stage.hubEntryDue = false ∧ t.tam.clockArmed = true ∧
        t.gds.dieIdRead = (h.dieIds ++ [0, 0, 0, 0]).take 4 ++ [h.hubId] ∧
        (s.idsFused = true → h.hubId ≠ s.fuses.dieIds.getD 4 0 → t.stage.hubIdStop = true ∧ t.pins.dieResetHub = true ∧
          t.stage.reasonCode = 0x05) ∧
        (s.idsFused = false ∨ h.hubId = s.fuses.dieIds.getD 4 0 → t.pins.dieResetHub = false ∧
          (t.stage.fault = false → t.stage.patternDone = true ∨ t.stage.reasonCode = 0x10 ∨ t.stage.reasonCode = 0x11)))) ∧
      (s.hubReady = false → exec (.stageHubEntry h) s = .next s)
  ) ∧ (
    ∀ (s : State) (dn up : List (List Nat)),
      let may := s.stage.stage = .hub ∧ s.stage.patternDone = true ∧ s.stage.fault = false ∧ s.halted = false ∧
        s.stage.hubEntryDue = false ∧ (s.stage.reasonCode = 0 ∨ s.stage.reasonCode = 0x13)
      let empty := fun t : State => t.stage.annealDone = true ∧ t.liveRegions = []
      (may → s.hubHeld = true → Reaches (.stageFullEntry dn up) s (fun t => t.stage.stage = .hub ∧ t.stage.held = true ∧
        t.stage.reasonCode = 0x13 ∧ t.pins = s.pins ∧ t.fabric = s.fabric)) ∧
      (may → s.hubHeld = false → Reaches (.stageFullEntry dn up) s (fun t => t.stage.stage = .full ∧
        t.stage.held = false ∧ t.pins.dieResetT = false ∧ t.stage.rwlLocked = true ∧ t.pat = s.pat ∧ t.fuses = s.fuses ∧
        (empty t → t.stage.reasonCode = 0x21) ∧
        (s.usesTestRoot = true ∨ s.stage.unsealed = true → (¬empty t → t.stage.reasonCode = 0) ∧
          t.kst.rootPart = s.kst.rootPart) ∧
        (s.usesTestRoot = false → s.stage.unsealed = false → s.pat.riserUf ≠ 0 → s.gateHeld = false →
          t.stage.riserWait = true ∧ (¬empty t → t.stage.reasonCode = 0x22) ∧ t.stage.unsealed = false) ∧
        (s.usesTestRoot = false → s.stage.unsealed = false → s.bbramEmpty = false →
          s.pat.riserUf = 0 ∨ s.gateHeld = true → t.stage.riserWait = false ∧ t.stage.unsealed = true ∧
          t.kst.domain = true))) ∧
      (¬may → exec (.stageFullEntry dn up) s = .next s)
  )

/-- Anneal's two results (R22, R57–R59, R82, R92): BIST leaves as usable only regions whose PLLs, switches and sensors
passed, on dies that are online, and builds their maps; firmware that passes both decisions runs and is measured into
MEAS2 and MEAS3; firmware that fails in both slots returns the device to stage Hub with reason 0x20. The riser gate
opens (R60, R63): on a sample that completes a held VRISER, or when its timeout expires, the domain root is unsealed
and the domain keys are ready; otherwise a sample keeps the gate as it was. -/
def Obligations.RestartQualifies : Prop :=
  (
    ∀ s : State,
      (∀ b, s.stage.stage = .full → s.stage.annealDone = false → s.halted = false → s.stage.hubEntryDue = false →
        Reaches (.annealBistComplete b) s (fun t => t.stage.annealDone = true ∧ t.stage.stage = .full ∧
          (t.fabric.maps.map (fun m => m.region)) = List.range 16 ∧ t.fuses = s.fuses ∧
          (∀ g ∈ t.stage.usable, g < 16 ∧ g ∉ b.pll ∧ g ∉ b.switch ∧ g ∉ b.sensor ∧ s.dieOff (g / 4) = false) ∧
          (t.stage.usable = [] → t.stage.reasonCode = 0x21))) ∧
      (∀ b, s.stage.annealDone = true → exec (.annealBistComplete b) s = .next s) ∧
      (∀ x, s.stage.stage = .full → s.stage.firmwareDone = false → s.halted = false → s.stage.hubEntryDue = false →
        let slotB := if s.stage.fwTried.isEmpty then s.firstFwSlot else !s.firstFwSlot
        let good := x.answered = true ∧ s.fwShape x.data = true ∧
          sigKey x.data (fwImageLen x.data) 0 = s.fuses.vendorFwDigest ∧
          sigVerifies x.data (fwImageLen x.data) 0 (sha384 (x.data.take (fwImageLen x.data))) = true
        (good → x.second = none → Reaches (.firmwareReadComplete x) s (fun t =>
          t.stage.firmwareDone = true ∧ t.stage.fwSlot = slotB ∧ t.stage.stage = .full ∧
          t.pat.fwVersion = fld x.data 8 4 ∧
          (s.mea.meas.length = 32 →
            t.mea.meas.getD 2 [] = sha384 (s.mea.meas.getD 2 [] ++ fit 48 (sha384 (sub x.data 64 (fld x.data 12 4)))) ∧
            t.mea.meas.getD 3 [] = sha384 (s.mea.meas.getD 3 [] ++
              fit 48 (sha384 (sub x.data (64 + roundUp (fld x.data 12 4) 8) (fld x.data 16 4))))))) ∧
        (¬good → x.second = none → s.stage.fwTried.length = 0 → Reaches (.firmwareReadComplete x) s (fun t =>
          t.stage.firmwareDone = false ∧ t.stage.stage = .full ∧ t.stage.fwTried = [b2n slotB] ∧ t.mea.meas = s.mea.meas)) ∧
        (¬good → x.second = none → s.stage.fwTried.length = 1 → Reaches (.firmwareReadComplete x) s (fun t =>
          t.stage.firmwareDone = false ∧ t.stage.stage = .hub ∧ t.stage.reasonCode = 0x20 ∧ t.pins.dieResetT = true ∧
          t.mea.meas = s.mea.meas)))
  ) ∧ (
    ∀ s : State, s.stage.riserWait = true → s.halted = false → s.usesTestRoot = false →
      (s.m.now - s.per.chargerSince < s.riserTimeoutTicks → exec .riserTimeout s = .next s) ∧
      (s.riserTimeoutTicks ≤ s.m.now - s.per.chargerSince → s.bbramEmpty = false → Reaches .riserTimeout s (fun t => t.stage.riserWait = false ∧ t.stage.riserTimeout = true ∧
        t.stage.unsealed = true ∧ t.kst.domain = true ∧ t.kst.bbram = s.kst.bbram)) ∧
      (s.riserTimeoutTicks ≤ s.m.now - s.per.chargerSince → s.bbramEmpty = true → Reaches .riserTimeout s (fun t => t.stage.riserWait = false ∧ t.stage.riserTimeout = true ∧
        t.stage.unsealed = s.stage.unsealed ∧ t.kst = s.kst)) ∧
      (s.stage.stage ≠ .hold → s.stage.stoppedInGuard = false →
        (∀ mv n, 4600 ≤ mv → s.per.gateSince = some n → 4000 ≤ s.m.now - n → s.bbramEmpty = false →
          Reaches (.riserSample mv) s (fun t => t.stage.riserWait = false ∧ t.stage.unsealed = true ∧
            t.kst.domain = true ∧ t.per.vriser = mv ∧ t.per.gateSince = some n)) ∧
        (∀ mv, 4600 ≤ mv → s.per.gateSince = none → Reaches (.riserSample mv) s (fun t => t.stage.riserWait = true ∧
          t.per.gateSince = some s.m.now ∧ t.kst = s.kst)) ∧
        (∀ mv < 4600, Reaches (.riserSample mv) s (fun t => t.stage.riserWait = true ∧ t.per.gateSince = none ∧
          t.kst = s.kst)))
  )

/-- Slice records are restored, those whose check fails become FENCED, and the regions come up one at a time in the
order of R61; verbs are accepted from the first region on and FULLCAP stands once none is left (R61, R62, R375). A
re-pour (R64): STG_CONTROL with its key begins it, one asked for while another runs is held and begins after it, a
wrong key is ignored, and the hold at the end of stage Hub is set and cleared (R55). A re-pour keeps the
battery-backed root, the fuses and the measurement registers' number. -/
def Obligations.RegionsComeAndRepour : Prop :=
  (
    ∀ s : State, s.stage.fault = false → s.halted = false →
      (∀ bad badC, s.stage.stage = .full → s.stage.annealDone = true → s.stage.firmwareDone = true →
        s.stage.riserWait = false → s.stage.restored = false → s.stage.hubEntryDue = false → s.mapsWait = false →
        Reaches (.sliceRestoreComplete bad badC) s (fun t => t.stage.restored = true ∧
          t.stage.bringing = s.nextBringUp ∧
          (∀ x ∈ t.slc.slices, x.number ∈ bad → x.state ≠ 0 → x.state = 8 ∧ x.recordBad = true) ∧
          t.slc.slices.map (fun x => x.number) = s.slc.slices.map (fun x => x.number) ∧
          (∀ c ∈ t.kst.counted, c.index ∈ badC → c.check = []))) ∧
      (∀ bad badC, s.stage.restored = true → exec (.sliceRestoreComplete bad badC) s = .next s) ∧
      (∀ g ms failed, s.stage.bringing = some g → g ∈ s.liveRegions → Reaches (.regionBringupComplete g ms failed) s (fun t =>
        t.stage.online = s.stage.online ++ [g] ∧ t.stage.verbs = true ∧
        (∀ h, t.stage.bringing = some h → h ∉ t.stage.online ∧ h ∈ bringUpOrder ∧ h ∈ s.liveRegions) ∧
        (t.stage.bringing = none → t.stage.fullcap = true) ∧
        (s.stage.verbs = false → t.stage.repourBusy = false))) ∧
      (∀ g ms failed, s.stage.bringing ≠ some g → exec (.regionBringupComplete g ms failed) s = .next s)
  ) ∧ (
    ∀ s : State, s.halted = false →
      let begun := fun t : State => t.stage.repourBusy = true ∧ t.stage.repourPending = false ∧
        t.stage.hubEntryDue = true ∧ t.dcc.session = none ∧ t.dcc.keypad = {} ∧ t.slc.offers = [] ∧
        (∀ p ∈ t.ngl.ports, p.state ≠ 0 → p.shutting = true ∧ p.state = 1) ∧ t.pins = s.pins ∧ t.fuses = s.fuses ∧
        t.kst.bbram = s.kst.bbram ∧ t.per.scopeSeq = s.per.scopeSeq + 1
      (s.gBlock = true → s.stage.repourBusy = false → s.stage.repourPending = false → ∀ k, k % 65536 = 0xC1A5 →
        Reaches (.stgRepour k) s begun) ∧
      (s.gBlock = true → s.stage.repourBusy = true → ∀ k, k % 65536 = 0xC1A5 → exec (.stgRepour k) s = .next
        { s with stage.repourPending := true }) ∧
      (∀ k, k % 65536 ≠ 0xC1A5 → exec (.stgRepour k) s = .next s) ∧
      (s.stage.repourPending = true → s.stage.repourBusy = false → Reaches .repourPendingStart s begun) ∧
      (s.stage.repourPending = false ∨ s.stage.repourBusy = true → exec .repourPendingStart s = .next s) ∧
      (s.gBlock = true → ∀ v, Reaches (.stgHubHoldWrite v) s (fun t => t.stage.hubHold = v ∧
        t.stage.held = (s.stage.held && (v || s.lc.tapSelected == 0x10)) ∧ t.stage.stage = s.stage.stage)) ∧
      (s.gBlock = false → ∀ v, exec (.stgHubHoldWrite v) s = .next s)
  )

/-- The host port comes and goes (R54, R65, R87, R95, R374): PERST_N, training, the trained width, D3hot and D0, and
the hub's own attachment of slice 0. -/
def Obligations.HostPortComesAndGoes : Prop :=
  ∀ s : State, s.halted = false →
    (s.fromHub = true → Reaches .perstNAssert s (fun t => t.pins = { s.pins with perstN := false } ∧
      t.host.linkUp = false ∧ t.host.training = none ∧ t.host.d3hot = false ∧ t.per.scopeSeq = s.per.scopeSeq + 1 ∧
      t.kst.bbram = s.kst.bbram ∧ t.fuses = s.fuses)) ∧
    (s.fromHub = false → exec .perstNAssert s = .next { s with pins.perstN := false }) ∧
    (s.fromHub = true → s.stage.hubIdStop = false → s.ghFailed = false → s.host.linkUp = false →
      exec .perstNDeassert s = .next { s with pins.perstN := true, host.training := some s.m.now }) ∧
    (s.fromHub = false ∨ s.stage.hubIdStop = true ∨ s.host.linkUp = true →
      exec .perstNDeassert s = .next { s with pins.perstN := true }) ∧
    (∀ n w v, s.host.training = some n → Reaches (.pcieLinkTrained w v) s (fun t => t.host.linkUp = true ∧
      t.host.training = none ∧ t.host.linkWidth = w ∧ t.host.linkSpeed = v ∧
      (t.pat.widthLow = true ↔ s.pat.accepted = true ∧ w < s.pat.pcieWidth))) ∧
    (∀ w v, s.host.training = none → exec (.pcieLinkTrained w v) s = .next s) ∧
    (s.fromHub = true → s.host.linkUp = true → s.slc.slice0.attached = false → s.slc.slice0.detaching = false →
      s.stage.hubEntryDue = false → exec .slice0Reattach s = .next { s with slc.slice0 := { attached := true } }) ∧
    (s.slc.slice0.attached = true → exec .slice0Reattach s = .next s) ∧
    (s.host.linkUp = true → exec .pmD3hotEntry s = .next { s with host.d3hot := true }) ∧
    (s.host.linkUp = true → s.host.d3hot = true → exec .pmD0Return s = .next
      { s with host.d3hot := false, host.heldWrites := [], m.out := s.host.heldWrites.reverse ++ s.m.out }) ∧
    (s.host.linkUp = false → exec .pmD3hotEntry s = .next s ∧ exec .pmD0Return s = .next s)

/-- The end of a life-cycle transition (R490, R496, R499, R500, R506): it blows the target's position, erases the domain
and all that belongs to it, clears both intents and goes back to Hold; where the second decision of step 5 disagrees,
the intents stand for the next stage Guard; without a running transition nothing happens. -/
def Obligations.TransitionErases : Prop :=
  ∀ (s : State) (inst : Installed) (second : Option Nat),
    (∀ r, s.lc.running = some r → s.fuses.lcWord.length = 6 → r.target ∈ [1, 3, 4, 5, 6, 7] →
      Reaches (.lcTransitionDone inst second) s (fun t =>
        t.stage.stage = .hold ∧ t.lc.running = none ∧
        (second = none ∨ second = some 0 → t.lc.intentA = none ∧ t.lc.intentB = none) ∧
        (∀ o, second = some o → o ≠ 0 → t.lc.intentA = s.lc.intentA ∧ t.lc.intentB = s.lc.intentB) ∧
        t.lc.testUnlocked = false ∧ t.fuses.lcWord.getD (positionOf r.target - 1) 0 = 4 ∧
        t.kst.bbram = zeros 32 ∧ t.kst.domain = false ∧ t.dcc.domainId = [] ∧ t.dcc.records = [] ∧
        t.dcc.session = none ∧ (second = none → t.tam.lockFlag = false) ∧
        (r.target = 7 → t.fuses.identityKilled = true ∧ t.fuses.rootA = List.replicate 32 0xFF))) ∧
    (s.lc.running = none → exec (.lcTransitionDone inst second) s = .next s)

/-- Reads (R8, R94, R97, R98, R118, R446, R570): a read of the register window answers with the register's word, within
32 bits; of the low half of a 64-bit pair it answers with that half and latches the other half for the read of the high
register; other reads latch nothing. The doorbell pages answer SQ_HEAD and CQ_TAIL, of 8 bytes at once too, and
configuration space the identity of R94. A bad access is counted and answered with all ones. Writes that have no row of
their own (R94, R95, R100, R118, R119, R402, R418, R570): each stores its writable field and nothing else; MSI-X words and
moderation go to their vector; PASID Enable and the power state follow their control words; MEA_SELECT latches the
selected measurement with its count (R372). -/
def Obligations.RegisterAccessesWork : Prop :=
  (
    ∀ s : State,
      (s.hostUp = true → s.fromHub = true → ∀ addr wide,
        (s.ghFailed = false → (∀ v, s.regPair addr = some v → Reaches (.regPairLoRead ⟨.bar0, addr, wide⟩) s (fun t =>
            t.m.out = .mmioData addr (v % 2 ^ 32) :: s.m.out ∧
            lookupD t.host.latches (addr + 4) 0 = v / 2 ^ 32 % 2 ^ 32 ∧
            t.tnd = s.tnd ∧ t.per = s.per ∧ t.log = s.log)) ∧
          (s.regPair addr = none → (s.regPair (addr - 4)).isSome = true → 4 ≤ addr →
            exec (.regPairLoRead ⟨.bar0, addr, wide⟩) s = .next
              { s with m.out := .mmioData addr (lookupD s.host.latches addr 0 % 2 ^ 32) :: s.m.out }) ∧
          (s.regPair addr = none → s.regPair (addr - 4) = none → exec (.regPairLoRead ⟨.bar0, addr, wide⟩) s = .next
            { s with m.out := .mmioData addr (s.regWord addr % 2 ^ 32) :: s.m.out })) ∧
        (∀ q < 262144, exec (.regPairLoRead ⟨.bar2, (q / 64 * 0x1000 + q % 64 * 8), false⟩) s = .next { s with
            m.out := .mmioData (q / 64 * 0x1000 + q % 64 * 8) (s.queue q).sqHead :: s.m.out } ∧
          exec (.regPairLoRead ⟨.bar2, (q / 64 * 0x1000 + q % 64 * 8), true⟩) s = .next { s with
            m.out := .mmioData (q / 64 * 0x1000 + q % 64 * 8)
              ((s.queue q).sqHead + 2 ^ 32 * (s.queue q).cqTail) :: s.m.out }) ∧
        (∀ cap, exec (.regPairLoRead ⟨.config cap, addr, wide⟩) s = .next { s with
          m.out := .cfgData cap addr (s.cfgRead cap addr) :: s.m.out })) ∧
      s.regWord 0 = 0x01B08800 ∧ s.cfgRead 0 0 = 0x88001FD6 ∧ s.cfgRead 0 8 = 0x108000B0 ∧
      s.cfgRead 0 0x2C = 0x00011FD6 ∧ s.cfgRead 0x10003 4 = fld s.fuses.serial 0 4 ∧
      s.cfgRead 0x10003 8 = fld s.fuses.serial 4 4 ∧ bit (s.cfgRead 1 4) 3 = true ∧
      (s.hostUp = true → ∀ bar addr,
        Reaches (.barBadAccess bar addr false) s (fun t => t.tnd.badAccess = (s.tnd.badAccess + 1) % 2 ^ 24 ∧
          t.tnd.badBar = bar % 4 ∧ t.m.out = .mmioData addr 0xFFFFFFFF :: s.m.out) ∧
        Reaches (.barBadAccess bar addr true) s (fun t => t.tnd.badAccess = (s.tnd.badAccess + 1) % 2 ^ 24 ∧
          t.tnd.badBar = bar % 4 ∧ t.m.out = s.m.out)) ∧
      (s.hostUp = false → ∀ space addr wide bar w, exec (.regPairLoRead ⟨space, addr, wide⟩) s = .next s ∧
        exec (.barBadAccess bar addr w) s = .next s)
  ) ∧ (
    ∀ s : State,
      (s.hostUp = true → s.fromHub = true → ∀ v < 2 ^ 32, ∀ wide,
        exec (.registerWrite .bar0 0xC ⟨v, wide⟩) s = .next { s with gds.scratch := v } ∧
        exec (.registerWrite .bar0 0x40000 ⟨v, wide⟩) s = .next { s with queues.qawSelect := v % 2 ^ 18 } ∧
        exec (.registerWrite .bar0 0x50004 ⟨v, wide⟩) s = .next
          { s with chl.pplCap := v % 2048, chl.opCap := v / 4096 % 4 } ∧
        exec (.registerWrite .bar0 0x60000 ⟨v, wide⟩) s = .next { s with slc.select := v % 4096 } ∧
        exec (.registerWrite .bar0 0x60048 ⟨v, wide⟩) s = .next { s with slc.mbVector := v % 2048 } ∧
        (s.ghFailed = false → exec (.registerWrite .bar0 0x80000 ⟨v, wide⟩) s = .next { s with log.cursorLo := v } ∧
          exec (.registerWrite .bar0 0xB0030 ⟨v, wide⟩) s = .next { s with per.lifeSelect := v % 1024 }) ∧
        (∀ i < 16, exec (.registerWrite .bar0 (0x40040 + 4 * i) ⟨v, wide⟩) s = .next
          { s with queues.qawData := s.queues.qawData.modify i (fun _ => v) }) ∧
        (∀ addr, 0x100000 ≤ addr → exec (.registerWrite .bar0 addr ⟨v, wide⟩) s = .next s) ∧
        (∀ addr, exec (.registerWrite .bar2 addr ⟨v, wide⟩) s = .next s) ∧
        exec (.registerWrite (.config 0x1001B) 4 ⟨v, wide⟩) s = .next { s with host.pasidEnable := bit v 16 } ∧
        (v % 4 = 3 → exec (.registerWrite (.config 1) 4 ⟨v, wide⟩) s = .next { s with host.d3hot := true }) ∧
        (v % 4 = 0 → s.host.d3hot = false → exec (.registerWrite (.config 1) 4 ⟨v, wide⟩) s = .next s) ∧
        (∀ n < 2048, Reaches (.registerWrite .bar4 (16 * n + 8) ⟨v, false⟩) s (fun t => (t.vec n).data = v ∧
          (t.vec n).masked = (s.vec n).masked ∧ t.m.out = s.m.out) ∧
          (bit v 0 = true → Reaches (.registerWrite .bar4 (16 * n + 12) ⟨v, false⟩) s (fun t => (t.vec n).masked = true ∧
            t.m.out = s.m.out)) ∧
          (bit v 0 = false → Reaches (.registerWrite .bar4 (16 * n + 12) ⟨v, false⟩) s (fun t =>
            (t.vec n).masked = false ∧ (t.vec n).pba = ((s.vec n).pba && !s.msixOpen) ∧
            t.m.out = (if (s.vec n).pba && s.msixOpen && !s.host.d3hot then .msix n :: s.m.out else s.m.out))) ∧
          Reaches (.registerWrite .bar4 (0xC000 + 4 * n) ⟨v, false⟩) s (fun t => (t.vec n).maxCount = v % 256 ∧
            (t.vec n).maxDelay = v / 256 % 65536))) ∧
      (s.gBlock = true → ∀ v, exec (.meaSelectWrite v) s = .next { s with
        mea.select := v % 32, mea.latchedValue := fit 48 (s.mea.meas.getD (v % 32) [])
        mea.latchedCount := s.mea.measCount.getD (v % 32) 0 }) ∧
      (s.hostUp = false → ∀ space addr v wide, exec (.registerWrite space addr ⟨v, wide⟩) s = .next s) ∧
      (s.gBlock = false → ∀ v, exec (.meaSelectWrite v) s = .next s)
  )

/-- Doorbells (R98, R99, R103): a tail in range moves SQ_TAIL, one out of range puts the queue into ERROR with its
bit, a doorbell that may not act sets DB_IGNORED and nothing else; a head inside the span of unconsumed completions
moves CQ_HEAD, one outside it is an error; of an 8-byte write the head is applied first. The queue administration window (R102, R105, R106, R149): its five commands
on a queue of the selected slice, each carried out or refused with its cause and nothing changed. -/
def Obligations.QueuesAreMoved : Prop :=
  (
    ∀ (s : State) (q : Nat), s.hostUp = true → q < 262144 →
      let c := s.queue q
      let may := s.sliceAttached (q / 64) = true ∧ c.state = 1
      (∀ v < 65536, may → v < 2 ^ c.sqLog2 → exec (.doorbellSqTail q ⟨v, none⟩) s = .next
        (s.setQueue { c with sqTail := v })) ∧
      (∀ v < 65536, may → 2 ^ c.sqLog2 ≤ v → exec (.doorbellSqTail q ⟨v, none⟩) s = .next
        (s.setQueue { c with state := 4, err := c.err ||| 1 })) ∧
      (∀ v, ¬may → exec (.doorbellSqTail q ⟨v, none⟩) s = .next (s.setQueue { c with err := c.err ||| 8 })) ∧
      (∀ v < 65536, ∀ h < 65536, may → v < 2 ^ c.sqLog2 → c.headOk h = true →
        Reaches (.doorbellSqTail q ⟨v, some h⟩) s (fun t => (t.queue q).sqTail = v ∧ (t.queue q).cqHead = h ∧
          (t.queue q).state = 1 ∧ (t.queue q).err = c.err)) ∧
      (∀ v < 65536, ∀ h < 65536, may → c.headOk h = false → exec (.doorbellSqTail q ⟨v, some h⟩) s = .next
        (s.setQueue { c with state := 4, err := c.err ||| 12 })) ∧
      (∀ v < 65536, may → c.headOk v = true → Reaches (.doorbellCqHead q v) s (fun t =>
        (t.queue q).cqHead = v ∧ (t.queue q).state = 1 ∧ (t.queue q).err = c.err ∧ (t.queue q).sqTail = c.sqTail)) ∧
      (∀ v < 65536, may → c.headOk v = false → exec (.doorbellCqHead q v) s = .next
        (s.setQueue { c with state := 4, err := c.err ||| 4 })) ∧
      (∀ v, s.sliceAttached (q / 64) = false ∨ c.state = 0 → exec (.doorbellCqHead q v) s = .next
        (s.setQueue { c with err := c.err ||| 8 }))
  ) ∧ (
    ∀ s : State, s.hostUp = true → s.fromHub = true →
      let q := s.queues.qawSelect
      let c := s.queue q
      let refused := fun (t : State) (cause : Nat) => t = { s with
        queues.qawRefused := true, queues.qawCause := cause, queues.qawState := c.state }
      (s.qawCauseOf false ≠ 0 → Reaches .qawRead s (refused · (s.qawCauseOf false)) ∧
        Reaches .qawDisable s (refused · (s.qawCauseOf false)) ∧ Reaches .qawResetError s (refused · (s.qawCauseOf false))) ∧
      (s.qawCauseOf true ≠ 0 → Reaches .qawWrite s (refused · (s.qawCauseOf true)) ∧
        Reaches .qawEnable s (refused · (s.qawCauseOf true))) ∧
      (s.qawCauseOf false = 0 → exec .qawRead s = .next { s with
        queues.qawData := (List.range 16).map (fun i => fld (s.contextImage q) (4 * i) 4)
        queues.qawRefused := false, queues.qawCause := 0, queues.qawState := c.state }) ∧
      (s.qawCauseOf false = 0 → c.state = 4 → Reaches .qawResetError s (fun t => (t.queue q).state = 1 ∧
        (t.queue q).err = 0 ∧ (t.queue q).sqTail = c.sqHead ∧ (t.queue q).sqHead = c.sqHead ∧ t.queues.qawRefused = false)) ∧
      (s.qawCauseOf false = 0 → c.state ≠ 4 → Reaches .qawResetError s (refused · 6)) ∧
      (s.qawCauseOf false = 0 → c.state = 1 → s.inflight q = 0 → s.parked q = 0 →
        Reaches .qawDisable s (fun t => (t.queue q).state = 0 ∧ t.queues.qawRefused = false)) ∧
      (s.qawCauseOf true = 0 → c.state = 0 → s.configOk (q / 64) c = true → Reaches .qawEnable s (fun t =>
        (t.queue q).state = 1 ∧ (t.queue q).sqTail = 0 ∧ (t.queue q).sqHead = 0 ∧ (t.queue q).cqTail = 0 ∧
        (t.queue q).cqHead = 0 ∧ (t.queue q).phase = 1 ∧ (t.queue q).err = 0 ∧ t.queues.qawRefused = false)) ∧
      (s.qawCauseOf true = 0 → c.state = 0 → s.configOk (q / 64) c = false → Reaches .qawEnable s (refused · 4)) ∧
      (s.qawCauseOf true = 0 → c.state = 1 ∨ c.state = 4 → Reaches .qawEnable s (refused · 5)) ∧
      (s.qawCauseOf true = 0 → c.state ≠ 0 → Reaches .qawWrite s (refused · 3)) ∧
      (s.qawCauseOf true = 0 → c.state = 0 →
        let d := s.qawImage
        let c' := { c with sqBase := fld d 0 8, cqBase := fld d 8 8, sqLog2 := byteAt d 0x10, cqLog2 := byteAt d 0x11,
                           prio := byteAt d 0x12, ordered := bit (byteAt d 0x13) 0, intr := bit (byteAt d 0x13) 1,
                           vector := fld d 0x14 2 }
        (byteAt d 0x13 < 4 → s.configOk (q / 64) c' = true → Reaches .qawWrite s (fun t => t.queue q = c' ∧
          t.queues.qawRefused = false)) ∧
        (4 ≤ byteAt d 0x13 ∨ s.configOk (q / 64) c' = false → Reaches .qawWrite s (refused · 4)))
  )

/-- Fetching and the arrival of a batch (R56, R101, R113, R114, R122, R141, R146): a visit takes between 1 and 16
descriptors, advances SQ_HEAD and issues one read; a read fault, or a completion timeout that is not disabled, puts the
queue into ERROR; a descriptor that passes
its checks becomes a READY, FENCED or DELAYED item in the order of its flags. -/
def Obligations.FetchAndAccept : Prop :=
  ∀ s : State,
    (s.mayFetch = true → ∀ n q k,
      (afterLast s.attachedSlices s.queues.rrSlice).findSome? (fun n => (s.visit n).map (fun b => (n, b))) = some (n, q, k) →
      1 ≤ k ∧ k ≤ 16 ∧ q / 64 = n ∧ (s.queue q).state = 1 ∧ (s.stage.verbs = false → q = 0) ∧
      Reaches .fetchBatch s (fun t => t.queues.batches = s.queues.batches ++ [{ qid := q, count := k, head := (s.queue q).sqHead }] ∧
        (t.queue q).sqHead = ((s.queue q).sqHead + k) % 2 ^ (s.queue q).sqLog2 ∧ t.queues.rrSlice = n ∧
        t.m.out = .dmaRead n ((s.queue q).sqBase + 64 * (s.queue q).sqHead) (64 * k) :: s.m.out)) ∧
    (s.mayFetch = false → exec .fetchBatch s = .next s) ∧
    (s.tam.clockLost = false → ∀ b qid, s.queues.batches.find? (fun x => x.qid == qid) = some b →
      (s.queue qid).state = 1 → s.sliceDetaching (qid / 64) = false →
      let faulted := fun (t : State) => (t.queue qid).state = 4 ∧ (t.queue qid).err = (s.queue qid).err ||| 2 ∧
        t.queues.batches = s.queues.batches.filter (fun x => !(x.qid == qid)) ∧ t.tnd = s.tnd
      (∀ ds, Reaches (.descriptorArrival qid true ds) s faulted) ∧
      (bit s.host.cfg.devCtl2 4 = false → ∀ w, Reaches (.completionTimeout true qid w) s (fun t => faulted t ∧
        bit t.host.cfg.uncStatus 14 = true)) ∧
      (bit s.host.cfg.devCtl2 4 = true → ∀ w, exec (.completionTimeout true qid w) s = .next s)) ∧
    (s.tam.clockLost = false → s.stage.fault = false →
      ∀ b qid d slot i, s.queues.batches.find? (fun x => x.qid == qid) = some b → b.count = 1 → (s.queue qid).state = 1 →
      s.newSlots 1 = [slot] → qid / 64 = 0 ∨ ((s.slice (qid / 64)).state ≠ 2 ∧ (s.slice (qid / 64)).state ≠ 8) →
      verbInfo (dVerb (fit 64 d)) = some i → i.cls < 2 → s.accept15 (fit 64 d) (s.queue qid) = none →
      s.accept6 (fit 64 d) i.cls = none → s.tnd.blocked = [] →
      Reaches (.descriptorArrival qid false [d]) s (fun t =>
        t.queues.batches = s.queues.batches.filter (fun x => !(x.qid == qid)) ∧
        ∃ x, t.item slot = some x ∧ x.qid = qid ∧ x.desc = fit 64 d ∧ x.cls = i.cls ∧
          x.prio = effPrio (fit 64 d) (s.queue qid).prio ∧
          (dNotBefore (fit 64 d) = true → x.state = .delayed ∧ t.hasDelay (.notBefore slot) = true) ∧
          (dNotBefore (fit 64 d) = false → dFence (fit 64 d) = true → (∃ y ∈ s.tnd.items, y.qid = qid ∧
            y.seq < s.tnd.seqNo ∧ y.state ≠ .finished) → x.state = .fenced) ∧
          (dNotBefore (fit 64 d) = false → dFence (fit 64 d) = false → x.state = .ready))) ∧
    (∀ qid f ds, s.queues.batches.find? (fun x => x.qid == qid) = none → exec (.descriptorArrival qid f ds) s = .next s)

/-- MSI-X and the mailbox (R95, R119, R380, R402): a delay that has passed fires its vector, a masked vector keeps its
message in its PBA bit, unmasking sends it, with MSI-X enabled and in D0; a notification puts the slice on the pending list once, a read of
SLC_MB_NEXT takes the slice that has waited longest, and SLC_NOTIFY raises the event vector of an attached tenant
slice. -/
def Obligations.NotificationsAreSent : Prop :=
  ∀ s : State,
    let sends := s.msixOpen = true ∧ s.host.linkUp = true ∧ s.host.d3hot = false
    (s.tam.clockLost = false → ∀ v, 0 < (s.vec v).pending → (s.vec v).masked = true ∨ s.msixOpen = false →
      Reaches (.msixDelayExpire v) s (fun t =>
        (t.vec v).pba = true ∧ (t.vec v).pending = 0 ∧ t.m.out = s.m.out)) ∧
    (s.tam.clockLost = false → sends → ∀ v, 0 < (s.vec v).pending → (s.vec v).masked = false →
      Reaches (.msixDelayExpire v) s (fun t => (t.vec v).pending = 0 ∧ t.m.out = .msix v :: s.m.out)) ∧
    (∀ v, (s.vec v).pending = 0 → exec (.msixDelayExpire v) s = .next s) ∧
    (s.hostUp = true → ∀ v < 2048, Reaches (.msixVectorUnmask v) s (fun t => (t.vec v).masked = false ∧
      (t.vec v).pba = ((s.vec v).pba && !s.msixOpen) ∧
      t.m.out = (if (s.vec v).pba && s.msixOpen && !s.host.d3hot then .msix v :: s.m.out else s.m.out))) ∧
    (s.hostUp = true → ∀ n, n ≠ 0 → s.sliceAttached n = true → n ∉ s.slc.mbPending →
      Reaches (.mbNotify n) s (fun t => t.slc = { s.slc with mbPending := s.slc.mbPending ++ [n] } ∧
        (sends → (s.vec s.slc.mbVector).masked = false → (s.vec s.slc.mbVector).maxDelay = 0 →
          t.m.out = .msix s.slc.mbVector :: s.m.out))) ∧
    (∀ n, n = 0 ∨ n ∈ s.slc.mbPending → exec (.mbNotify n) s = .next s) ∧
    (s.hostUp = true → ∀ n r, s.slc.mbPending = n :: r → exec .slcMbNextRead s = .next
      { s with slc.mbPending := r, m.out := .mmioData 0x0060044 (n + 2 ^ 31) :: s.m.out }) ∧
    (s.hostUp = true → s.slc.mbPending = [] → exec .slcMbNextRead s = .next
      { s with m.out := .mmioData 0x0060044 0 :: s.m.out }) ∧
    (s.hostUp = true → sends → ∀ n < 4096, n ≠ 0 → (s.slice n).attached = true → (s.vec (s.slice n).vecBase).masked = false →
      (s.vec (s.slice n).vecBase).maxDelay = 0 → Reaches (.slcNotifyWrite n) s (fun t =>
        t.m.out = .msix (s.slice n).vecBase :: s.m.out ∧ t.slc = s.slc)) ∧
    (∀ n, (s.slice (n % 4096)).attached = false → exec (.slcNotifyWrite n) s = .next s)

/-- A take (R17, R128, R131): a core that may not take does nothing; one that may takes the item the decision of R131
chooses, which is RUNNING on it with its weight debited, or blocks until an item wakes it. -/
def Obligations.TakesDispatch : Prop :=
  ∀ (s : State) (k : Nat),
    (s.coreFree k = false → exec (.take k) s = .next s) ∧
    (s.coreFree k = true → ∀ s1 x, s.syncRounds.takeChoice (coreCluster k) (List.range 8) = (s1, some x) →
      Reaches (.take k) s (fun t => t.tnd.dispatches = (s.tnd.dispatches + 1) % 2 ^ 64 ∧ k ∉ t.tnd.blocked ∧
        ∀ y, t.item x.slot = some y → y.state = .running ∧ y.executor = some (.core k) ∧ y.debited = x.weight ∧
          (y.phase = .fetching ∨ y.phase = .processing))) ∧
    (s.coreFree k = true → ∀ s1, s.syncRounds.takeChoice (coreCluster k) (List.range 8) = (s1, none) →
      Reaches (.take k) s (fun t => k ∈ t.tnd.blocked ∧ t.tnd.dispatches = s.tnd.dispatches ∧ t.m.out = s.m.out))

/-- The steps of a running item (R38, R39, R101, R109, R111, R120, R365, R422): fetched input goes to its verb with the
ingots at the length their headers give, a read fault is kept with it until its other reads have ended, the signer serves one item at a time, an acknowledged commit ends its wait, and an item that waits
for nothing writes its output before its completion. -/
def Obligations.RunningItemsAdvance : Prop :=
  ∀ (s : State) (n : Nat) (it : Item), s.item n = some it → it.state = .running →
    let v := dVerb it.desc
    (s.tam.clockLost = false → v ≠ 0x0130 → v ≠ 0x0151 → it.phase = .fetching →
      (∀ input a b faults, dInLen it.desc ≤ 65536 →
        let gotA := takesKeyA v && ingotAddr (dKeyA it.desc) && !(it.faults ++ faults).contains 1
        let gotB := takesKeyB v && ingotAddr (dKeyB it.desc) && !(it.faults ++ faults).contains 2
        Reaches (.inputFetchComplete n input a b faults) s (fun t => ∃ y, t.item n = some y ∧ y.phase = .processing ∧
          y.state = .running ∧ y.desc = it.desc ∧ y.waits = it.waits ∧ y.faults = it.faults ++ faults ∧
          y.keyA = (if gotA then a.take (ingotLen a) else []) ∧ y.keyB = (if gotB then b.take (ingotLen b) else []) ∧
          y.input = fit (dInLen it.desc) input)) ∧
      (bit s.host.cfg.devCtl2 4 = false → ∀ which, Reaches (.completionTimeout false n which) s (fun t =>
        ∃ y, t.item n = some y ∧ y.faults = it.faults ++ [which] ∧ y.desc = it.desc ∧ y.state = .running ∧
          (readsOf it.desc = [which] → y.phase = .processing) ∧
          (∀ r ∈ readsOf it.desc, r ≠ 0 → r ≠ which → r ∉ it.faults → y.phase = .fetching)))) ∧
    (v ≠ 0x0130 → v ≠ 0x0151 → it.phase ≠ .fetching → ∀ input a b faults,
      exec (.inputFetchComplete n input a b faults) s = .next s) ∧
    (∀ which, bit s.host.cfg.devCtl2 4 = true ∨ s.readOutstanding it which = false →
      exec (.completionTimeout false n which) s = .next s) ∧
    (s.mea.signerItem = some n → Reaches .signerComplete s (fun t =>
      t.item n = some { it with waits := it.waits.erase .signer } ∧ t.mea.signerItem = s.mea.signerQueue.head? ∧
      t.mea.signerQueue = s.mea.signerQueue.drop 1 ∧ t.mea.statements = (s.mea.statements + 1) % 2 ^ 32)) ∧
    (s.mea.signerItem = none → exec .signerComplete s = .next s) ∧
    (Wait.commit ∈ it.waits → (∀ e ∈ s.per.waiting, e.item ≠ some n) → s.issuedBy n = none →
      Reaches (.commitAck n) s (fun t => t.item n = some { it with waits := it.waits.erase .commit })) ∧
    ((∃ e ∈ s.per.waiting, e.item = some n) → exec (.commitAck n) s = .next s) ∧
    (s.tam.clockLost = false → it.phase = .waiting → it.waits = [] → it.quiet = false → s.host.linkUp = true → s.host.d3hot = false →
      (s.queue it.qid).ordered = false → s.parked it.qid = 0 → (s.queue it.qid).cqFull = false →
      (∀ x ∈ s.tnd.items, x.qid = it.qid → x.heldOrder = none) →
      Reaches (.itemFinish n) s (fun t =>
        .completion it.qid (withPflags (entryOf it) (s.queue it.qid).phase) ∈ t.m.out ∧
        (it.output ≠ [] → .dmaWrite it.slice (dOutAddr it.desc) it.output ∈ t.m.out))) ∧
    (it.waits ≠ [] → exec (.itemFinish n) s = .next s)

/-- A BNU command ends (R174, R186, R193, R194, R199, R202): its item goes on and the queued command moves up, an aborted
command ends its item as ABORTED, and an invariant that fails, by the command's own values, as reported or as armed,
suppresses the result, so that the item ends with 0x0A01. -/
def Obligations.BnuCommandsEnd : Prop :=
  ∀ (s : State) (n : Nat) (it : Item) (r : BnuReport), s.item n = some it → it.state = .running →
    let p := s.physOfItem it
    let c := s.cluster p
    (s.tam.clockLost = false → Wait.bnu ∈ it.waits → ∀ m rest, c.bnuQueue = m :: rest → m.slot = n →
      (r.aborted = false → m.ends = .edge ∨ m.ends = .size ∨
          (m.ends = .result ∧ r.invariant = none ∧ m.failing = none ∧ c.bnuInject = false) → it.cmds = [] →
        Reaches (.bnuCommandComplete n r) s (fun t =>
          t.item n = some { it with waits := it.waits.erase .bnu, bnuRecord := [it.status, it.output.length, m.regen] } ∧
          (t.cluster p).bnuQueue = rest ∧ (t.cluster p).bnuOps = (c.bnuOps + 1) % 2 ^ 32)) ∧
      (r.aborted = false → m.ends = .result → r.invariant ≠ none ∨ m.failing ≠ none ∨ c.bnuInject = true →
        s.strikesOf p kindBNU 0 = [] → Reaches (.bnuCommandComplete n r) s (fun t =>
          (∃ y, t.item n = some y ∧ y.status = 0x0A01 ∧ y.output = [] ∧ y.result = [] ∧ Wait.bnu ∉ y.waits) ∧
          (t.cluster p).bnuInvariant = sat 8 (c.bnuInvariant + 1) ∧ (t.cluster p).bnuInject = false)) ∧
      (r.aborted = true → Reaches (.bnuCommandComplete n r) s (fun t =>
        (∀ y, t.item n = some y → y.state = .finished ∧ y.status = 0x0C01) ∧
        (∀ x ∈ (t.cluster p).bnuQueue, x.slot ≠ n)))) ∧
    (Wait.bnu ∉ it.waits ∨ c.bnuQueue.head?.map (fun m => m.slot) ≠ some n →
      exec (.bnuCommandComplete n r) s = .next s)

/-- Promotion, ageing and the delay lists (R135, R137, R144, R146–R148, R198, R304): what each does to its item while no
core is blocked once its time has come, an entry of a delay list in the order of the lists, and that one whose turn has
not come does nothing. The timers of the device's own state (R145, R148, R198, R304, R415, R438, R522): a PIN lockout
ends, a quorum session expires or has its entry made again, an idle region is drained, a long key generation is recorded
and goes on, the RTC holds at its end. -/
def Obligations.TimersFallDue : Prop :=
  (
    ∀ (s : State) (n : Nat) (it : Item), s.item n = some it → it.cls < 2 → s.tnd.blocked = [] →
      (s.tam.clockLost = false → it.state = .ready → ∀ d, it.deferredSince = some d → 4 * s.pat.deferUs ≤ s.m.now - d →
        it.mustRun = false → Reaches (.mustRunPromote n) s (fun t =>
          t.item n = some { it with mustRun := true } ∧ t.tnd.promoted = (s.tnd.promoted + 1) % 2 ^ 32)) ∧
      (it.mustRun = true → exec (.mustRunPromote n) s = .next s) ∧
      (s.tam.clockLost = false → it.state = .ready → s.ceilingOf it.slice < it.prio → 20000 ≤ s.m.now - it.readySince →
        Reaches (.agePromote n) s (fun t =>
          t.item n = some { it with prio := it.prio - 1, fifo := s.tnd.seqNo, readySince := s.m.now } ∧
          t.tnd.aged = (s.tnd.aged + 1) % 2 ^ 32 ∧ t.tnd.seqNo = s.tnd.seqNo + 1)) ∧
      (it.prio ≤ s.ceilingOf it.slice ∨ s.m.now - it.readySince < 20000 → exec (.agePromote n) s = .next s) ∧
      (s.servesNow (.notBefore n) = true → it.state = .delayed →
        (dFence it.desc = false → Reaches (.notBeforeDue n) s (fun t =>
          t.item n = some { it with state := .ready, readySince := s.m.now } ∧ t.hasDelay (.notBefore n) = false)) ∧
        (dFence it.desc = true → s.fenceOpen it = false →
          Reaches (.notBeforeDue n) s (fun t => t.item n = some { it with state := .fenced }))) ∧
      (s.servesNow (.notBefore n) = false → exec (.notBeforeDue n) s = .next s) ∧
      (s.servesNow (.retry n) = true → it.state = .delayed → Reaches (.retryDue n) s (fun t =>
        t.item n = some { it with state := .ready, readySince := s.m.now - it.age } ∧ t.hasDelay (.retry n) = false)) ∧
      (s.servesNow (.retry n) = false → exec (.retryDue n) s = .next s) ∧
      (s.tam.clockLost = false → it.state = .running → it.quiet = false → Wait.resource ∈ it.waits →
        s.itemEntries < 64512 → (∀ x ∈ s.tnd.items, x.cls < 2) →
        Reaches (.retryWaitPoll n) s (fun t => t.hasDelay (.retry n) = true ∧
          ∃ y, t.item n = some y ∧ y.state = .delayed ∧ y.executor = none ∧ y.desc = it.desc ∧ y.readySince = it.readySince ∧
            y.hubA = it.hubA ∧ y.hubB = it.hubB ∧ y.age = it.age)) ∧
      (Wait.resource ∉ it.waits → exec (.retryWaitPoll n) s = .next s)
  ) ∧ (
    ∀ s : State,
      (∀ n tag, s.servesNow (.pinLockout n tag) = true → (∀ p ∈ s.kst.pinHeld, ¬(p.1 = n ∧ p.2.1 = tag)) →
        Reaches (.pinLockoutTimerDue n tag) s (fun t =>
          t.hasDelay (.pinLockout n tag) = false ∧ ∀ l ∈ (t.slice n).lockouts, l.1 ≠ tag)) ∧
      (∀ n tag, s.servesNow (.pinLockout n tag) = false → exec (.pinLockoutTimerDue n tag) s = .next s) ∧
      (∀ x, s.dcc.session = some x → s.servesNow .quorum = true →
        (x.endsAt ≤ s.m.now → s.ceremonyAtWork x = false → Reaches .quorumSessionExpire s (fun t =>
          t.dcc.session = none ∧ t.dcc.endCause = 2 ∧ t.dcc.endedOnce = some (x.cls, 2) ∧ t.mea.transcript = [] ∧
          t.kst.rootPart = s.kst.rootPart)) ∧
        (x.endsAt ≤ s.m.now → s.ceremonyAtWork x = true → Reaches .quorumSessionExpire s (fun t =>
          t.dcc = { s.dcc with session := some { x with expired := true } } ∧ t.hasDelay .quorum = false)) ∧
        (s.m.now < x.endsAt → Reaches .quorumSessionExpire s (fun t => t.dcc = s.dcc ∧ t.hasDelay .quorum = true))) ∧
      (s.dcc.session = none ∨ s.servesNow .quorum = false → exec .quorumSessionExpire s = .next s) ∧
      (∀ g, s.servesNow (.regionIdle g) = true → (s.region g).state = 2 → s.itemsInRegion g = [] →
        Reaches (.regionIdleTimerDue g) s (fun t => (t.region g).state = 3 ∧ (t.region g).credit = 0 ∧
          (t.region g).pool = 0 ∧ t.hasDelay (.regionIdle g) = false ∧
          ∀ c ∈ t.fabric.clusters, physRegion c.phys = g → c.keys = [] ∧ c.wraps = [] ∧ c.tenantKeys = [] ∧
            c.transport = [] ∧ c.transients = [] ∧ c.sbuKeys = [] ∧ c.banks = [[], []])) ∧
      (∀ g, s.servesNow (.regionIdle g) = false → exec (.regionIdleTimerDue g) s = .next s) ∧
      (∀ n, Reaches (.bnuKeygenLong n) s (fun t => t.tnd = s.tnd ∧ t.fabric = s.fabric ∧ t.m = s.m)) ∧
      (rtcMaxSec ≤ s.rtcSec → s.batteryDomain = true → exec .rtcHold s = .next
        { s with per.rtcHeld := true, per.calSet := false, per.calSource := 0 }) ∧
      (s.rtcSec < rtcMaxSec ∨ s.batteryDomain = false → exec .rtcHold s = .next s)
  )

/-- Chill's update (R405–R408, R413, R414, R419, R577): it takes in the package's figures, leaves every region's
credit within −10 mJ and 1 mJ and its operating point within what it offers, and does nothing where updates do not
run. -/
def Obligations.ChillUpdateKeepsCredit : Prop :=
  ∀ (s : State) (x : ChillSense),
    (s.chl.updating = true → s.halted = false → Reaches (.chillUpdate x) s (fun t =>
      t.chl.pStatic = min 0xFFFF (x.staticMw / 100) ∧ t.chl.energyNj = s.chl.energyNj + x.packageMw * 10 ∧
      t.chl.staticOver = decide (x.staticMw ≥ s.pplEff * 100) ∧ t.gds.temps = (x.temps ++ [0, 0, 0, 0, 0]).take 5 ∧
      t.fuses = s.fuses ∧ t.kst = s.kst ∧
      ((∀ g, -10000000 ≤ (s.region g).credit ∧ (s.region g).credit ≤ 1000000) →
        ∀ g, -10000000 ≤ (t.region g).credit ∧ (t.region g).credit ≤ 1000000))) ∧
    (s.chl.updating = false ∨ s.halted = true → exec (.chillUpdate x) s = .next s)

/-- A region wakes and drains (R24, R61, R408, R415): a completed wake puts it ON with a full clock and an empty pool,
a completed drain puts it OFF, or starts the wake that was held behind it. -/
def Obligations.RegionsWakeAndDrain : Prop :=
  ∀ (s : State) (g : Nat),
    (s.tam.clockLost = false → g ∈ s.liveRegions → (s.region g).state = 1 → s.tnd.blocked = [] →
      Reaches (.regionWakeComplete g) s (fun t =>
      (t.region g).state = 2 ∧ (t.region g).pool = 0 ∧ (t.region g).pllLock = [true, true, true] ∧
      (t.region g).op = max (s.region g).lastOp (s.opCapOf g) ∧ (t.region g).credit ≤ 1000000 ∧
      ∀ p ∈ t.fabric.subst, p.1 / 8 ≠ g)) ∧
    ((s.region g).state ≠ 1 → exec (.regionWakeComplete g) s = .next s) ∧
    (s.tam.clockLost = false → (s.region g).state = 3 → Reaches (.regionDrainComplete g) s (fun t => (t.region g).state = 0 ∧
      (t.region g).pllLock = [false, false, false] ∧ t.chl.gates = (s.chl.gates + 1) % 2 ^ 32 ∧ t.chl.wakes = s.chl.wakes)) ∧
    (s.tam.clockLost = false → (s.region g).state = 4 → Reaches (.regionDrainComplete g) s (fun t => (t.region g).state = 1 ∧
      t.chl.gates = (s.chl.gates + 1) % 2 ^ 32 ∧ t.chl.wakes = (s.chl.wakes + 1) % 2 ^ 32)) ∧
    ((s.region g).state ≠ 3 → (s.region g).state ≠ 4 → exec (.regionDrainComplete g) s = .next s)

/-- Errors of transaction cores and cluster memories (R15, R16, R19, R20): the first uncorrectable error of a core
within 24 hours is a strike, the second retires it, a corrected one is counted and goes on, an uncorrectable one in a
cluster's memory retires the cluster and clears its keys, and a spare that passes its test is put behind the failed
number through the commit buffer, before whose acceptance nothing is dispatched there (R22); that one that fails is
retired is the model's choice (assumption log 20). -/
def Obligations.ErrorsRetireUnits : Prop :=
  ∀ s : State, s.tam.clockLost = false →
    (∀ core, exec (.tcEccCorrected core) s = .next
      (s.logEv 0x0209 (srcUnit (s.phys (coreCluster core)) kindTC (core % 4)) 0xFFFF [])) ∧
    (∀ core written, let p := s.phys (coreCluster core)
      (s.unitLive p kindTC (core % 4) = true → s.clusterLit p = true → Reaches (.tcEccUncorrectable core written) s (fun t =>
        (∃ x ∈ t.fabric.strikes, x.phys = p ∧ x.kind = kindTC ∧ x.unit = core % 4 ∧ x.time = s.devUs) ∧
        (s.strikesOf p kindTC (core % 4) ≠ [] → t.unitLive p kindTC (core % 4) = false))) ∧
      (s.clusterLit p = false → exec (.tcEccUncorrectable core written) s = .next s)) ∧
    (∀ p keyCache, s.clusterLit p = true →
      Reaches (.clusterSramEcc p keyCache false) s (fun t =>
        (t.cluster p).eccKeyCache = (if keyCache then sat 16 ((s.cluster p).eccKeyCache + 1) else (s.cluster p).eccKeyCache) ∧
        (t.cluster p).eccOperand = (if keyCache then (s.cluster p).eccOperand else sat 16 ((s.cluster p).eccOperand + 1))) ∧
      (s.posUsable (physRegion p) (physPos p) = true → Reaches (.clusterSramEcc p keyCache true) s (fun t =>
        t.posUsable (physRegion p) (physPos p) = false ∧ (t.cluster p).keys = [] ∧ (t.cluster p).wraps = [] ∧
        (t.cluster p).sbuKeys = [] ∧ (t.cluster p).transients = [] ∧ (t.cluster p).tenantKeys = [] ∧
        (t.cluster p).transport = []))) ∧
    (∀ p keyCache u, s.clusterLit p = false → exec (.clusterSramEcc p keyCache u) s = .next s) ∧
    (∀ l x, s.fabric.spareTest.find? (fun y => y.2 == l) = some x →
      (s.halted = false → Reaches (.spareSelftestComplete l true) s (fun t => t.fabric.maps = s.fabric.maps ∧
        t.clusterUp l = false ∧ t.per.waiting = s.per.waiting ++
          [{ size := 64, line := some (lineWear (l / 32)), slot := some (l, some (physPos x.1)) }])) ∧
      Reaches (.spareSelftestComplete l false) s (fun t => t.posUsable (physRegion x.1) (physPos x.1) = false)) ∧
    (∀ l pass, s.fabric.spareTest.find? (fun y => y.2 == l) = none → exec (.spareSelftestComplete l pass) s = .next s)

/-- Upkeep and test injection of clusters (R171, R179, R201, R352, R356, R580, R583): reseeding, the known-answer test
of a digest unit, armed mismatches in the two states that allow them, and a PLL that loses lock. Links, hub memories
and the entropy source (R27, R29, R30, R355, R356, R577): a bad flit is counted and asked for again, the ninth try of
one flit takes its die offline or, on the hub's link, sets the fault state; an uncorrectable hub memory error sets it
too; a failed health test stops the device's randomness until a test passes, and 16 failed tests in a row stop it
until the next cold reset. -/
def Obligations.UnitsAreWatched : Prop :=
  (
    ∀ (s : State) (p : Nat),
      (s.tam.clockLost = false → s.clusterLit p = true → s.mea.rngHealthy = true →
        65536 ≤ (s.cluster p).bnuRequests ∨ 4000000 ≤ s.m.now - (s.cluster p).bnuReseeded →
        Reaches (.bnuDrbgReseed p) s (fun t => (t.cluster p).bnuReseeded = s.m.now ∧ (t.cluster p).bnuRequests = 0)) ∧
      (s.mea.rngHealthy = false ∨ s.clusterLit p = false ∨
        ((s.cluster p).bnuRequests < 65536 ∧ s.m.now - (s.cluster p).bnuReseeded < 4000000) →
        exec (.bnuDrbgReseed p) s = .next s) ∧
      (s.tam.clockLost = false → s.clusterLit p = true → s.unitLive p kindDGU 0 = true → s.dguBusy p = true → ∀ pass,
        Reaches (.dguKatDue p pass) s (fun t => (t.cluster p).katDue = true ∧ t.fabric.fieldMap = s.fabric.fieldMap)) ∧
      (s.tam.clockLost = false → s.clusterLit p = true → s.unitLive p kindDGU 0 = true → s.dguBusy p = false →
        Reaches (.dguKatDue p true) s (fun t => (t.cluster p).katDue = false ∧
          (t.cluster p).dguKats = sat 24 ((s.cluster p).dguKats + 1) ∧ t.unitLive p kindDGU 0 = true) ∧
        Reaches (.dguKatDue p false) s (fun t => t.unitLive p kindDGU 0 = false)) ∧
      (s.clusterLit p = false → ∀ pass, exec (.dguKatDue p pass) s = .next s) ∧
      (s.mayInject p = true → (∀ mask, (s.cluster p).sbuInject.length = 4 → Reaches (.cluSbuInjectWrite p mask) s (fun t =>
          ∀ n < 4, (t.cluster p).sbuInject.getD n false = ((s.cluster p).sbuInject.getD n false || bit mask n))) ∧
        (∀ v, bit v 0 = true → Reaches (.cluBnuInjectWrite p v) s (fun t => (t.cluster p).bnuInject = true)) ∧
        (∀ v, bit v 0 = false → exec (.cluBnuInjectWrite p v) s = .next s)) ∧
      (s.mayInject p = false → ∀ v, exec (.cluSbuInjectWrite p v) s = .next s ∧ exec (.cluBnuInjectWrite p v) s = .next s) ∧
      (s.lcState ≠ .testUnlocked → s.lcState ≠ .returned → s.mayInject p = false) ∧
      (s.tam.clockLost = false → ∀ g < 16, ∀ n < 3, (s.region g).pllLock.length = 3 → (s.region g).pllLock.getD n false = true →
        Reaches (.pllLockLoss g n) s (fun t => (t.region g).pllLock.getD n true = false ∧
          (t.region g).lockLosses = sat 16 ((s.region g).lockLosses + 1))) ∧
      (∀ g n, (s.region g).pllLock.getD n false = false → exec (.pllLockLoss g n) s = .next s)
  ) ∧ (
    ∀ s : State,
      (s.tam.clockLost = false → ∀ k < 5, s.fabric.links.length = 5 → (s.fabric.links.getD k {}).state = 2 →
        ∀ flit expected, let oos := flitIntact flit && flit.seq != expected
        flitIntact flit = false ∨ flit.seq ≠ expected →
        (let l := s.fabric.links.getD k {}
         (l.recent.filter (fun n => decide (s.m.now - n < 4000000))).length < 1024 →
          Reaches (.dieLinkFlitError k ⟨flit, expected⟩ false) s (fun t => t.fabric.links.getD k {} = { l with
            retries := (l.retries + 1) % 2 ^ 32, crcErr := if oos then l.crcErr else (l.crcErr + 1) % 2 ^ 32
            seqErr := if oos then (l.seqErr + 1) % 2 ^ 32 else l.seqErr, consecutive := 0
            recent := s.m.now :: l.recent.filter (fun n => decide (s.m.now - n < 4000000)) } ∧
            t.m.out = .linkRetry k (expected % 4096) :: s.m.out ∧ t.stage = s.stage)) ∧
        ((s.fabric.links.getD k {}).consecutive = 7 → s.stage.fault = false →
          Reaches (.dieLinkFlitError k ⟨flit, expected⟩ true) s (fun t =>
          (k < 4 → t.dieOff k = true) ∧ (k = 4 → t.stage.fault = true ∧ t.stage.faultCause = 1 ∧
            (t.fabric.links.getD 4 {}).state = 3)))) ∧
      (∀ k flit expected again, 5 ≤ k ∨ (s.fabric.links.getD k {}).state ≠ 2 ∨
        (flitIntact flit = true ∧ flit.seq = expected) →
        exec (.dieLinkFlitError k ⟨flit, expected⟩ again) s = .next s) ∧
      (s.tam.clockLost = false → ∀ m < 6, s.fromHub = true → exec (.hubMemoryEcc m false) s = .next
        { s with gds.hmemCorr := s.gds.hmemCorr.modify m (fun n => sat 32 (n + 1)) }) ∧
      (s.tam.clockLost = false → ∀ m < 6, s.fromHub = true → s.stage.fault = false → Reaches (.hubMemoryEcc m true) s (fun t =>
        t.stage.fault = true ∧ t.stage.faultCause = 2 ∧ t.gds.faultDie = 4 ∧ t.gds.faultMemory = m ∧
        t.gds.hmemUnc = s.gds.hmemUnc.modify m (fun n => sat 32 (n + 1)))) ∧
      (∀ m u, 6 ≤ m ∨ s.fromHub = false → exec (.hubMemoryEcc m u) s = .next s) ∧
      (s.stage.stage ≠ .hold → s.mea.rngDead = false → s.mea.rngFailed = false → Reaches .entropyHealthFail s (fun t =>
        t.mea.rngHealthy = false ∧ t.mea.rngFailed = true ∧ t.mea.rngConsec = 0 ∧
        t.mea.rngFails = (s.mea.rngFails + 1) % 2 ^ 32)) ∧
      (s.mea.rngDead = true ∨ s.mea.rngFailed = true → exec .entropyHealthFail s = .next s) ∧
      (s.mea.rngFailed = true → exec (.rngRetestDue true) s = .next { s with
        mea.rngFailed := false, mea.rngHealthy := true, mea.rngConsec := 0, mea.rngReseed := false }) ∧
      (s.mea.rngFailed = true → s.mea.rngConsec < 15 → exec (.rngRetestDue false) s = .next { s with
        mea.rngConsec := s.mea.rngConsec + 1, mea.rngFails := (s.mea.rngFails + 1) % 2 ^ 32 }) ∧
      (s.mea.rngFailed = true → 15 ≤ s.mea.rngConsec → Reaches (.rngRetestDue false) s (fun t =>
        t.mea.rngFailed = false ∧ t.mea.rngDead = true ∧ t.mea.rngHealthy = s.mea.rngHealthy)) ∧
      (s.mea.rngFailed = false → ∀ pass, exec (.rngRetestDue pass) s = .next s)
  )

/-- The commit path (R22, R421–R423, R426, R442): the oldest entry that fits is accepted, into the journal or merged into a
line that waits, and a changed logical map is used from then on; an entry that does not fit waits; entries that reach MRAM leave the journal and start their line's
pacing; a paced line is written when its time is over; the time checkpoint is device time. The life counters (R443):
each die's band counts a minute, the battery its charge, and the next of the four copies is written. -/
def Obligations.PersistenceKeepsOrder : Prop :=
  (
    ∀ s : State,
      (s.halted = false → ∀ e r, s.per.waiting = e :: r → (e.safeOnly = true → s.per.persistUnsafe = false) →
        (s.journalUsed + e.size ≤ 228 * 1024 → (∀ l, e.line = some l → s.paced l = false ∧ ∀ x ∈ s.per.lines, x.line ≠ l) →
          Reaches .commitEntryAccept s (fun t => t.per.journal = s.per.journal ++ [e] ∧ t.per.waiting = r ∧
            t.per.lines = s.per.lines ∧ ∀ l k m, e.slot = some (l, k) → s.mapOf (l / 8) = some m → m.slots.length = 8 →
              t.physOf l = k.map (physNo (l / 32) (l / 8 % 4)) ∧ ∀ y ∈ t.fabric.spareTest, y.2 ≠ l)) ∧
        (∀ l, e.line = some l → (∃ x ∈ s.per.lines, x.line = l) → Reaches .commitEntryAccept s (fun t =>
          t.per.waiting = r ∧ t.per.journal = s.per.journal ∧
          t.per.lines.map (fun x => x.line) = s.per.lines.map (fun x => x.line)))) ∧
      (s.halted = false → (∀ e ∈ s.per.waiting, s.acceptEntry e = none) → Reaches .commitEntryAccept s (fun t =>
        t.per.waiting = s.per.waiting ∧ t.per.journal = s.per.journal ∧ t.per.lines = s.per.lines)) ∧
      (s.pins.halt = true → exec .commitEntryAccept s = .next s) ∧
      (∀ n, Reaches (.journalDrain n) s (fun t => t.per.journal = s.per.journal.drop n ∧ t.per.waiting = s.per.waiting ∧
        t.per.lines = s.per.lines ∧ ∀ e ∈ s.per.journal.take n, ∀ l, e.line = some l →
          t.per.lineWrites.lookup l = some s.m.now)) ∧
      (∀ l, (∃ x ∈ s.per.lines, x.line = l) → s.paced l = false → Reaches (.linePaceExpire l) s (fun t => (∀ x ∈ t.per.lines, x.line ≠ l) ∧
        t.per.lineWrites.lookup l = some s.m.now ∧ t.per.journal = s.per.journal)) ∧
      (∀ l, (∀ x ∈ s.per.lines, x.line ≠ l) ∨ s.paced l = true → exec (.linePaceExpire l) s = .next s) ∧
      (s.halted = false → s.stage.stage ≠ .hold →
        Reaches .timeCheckpoint s (fun t => t.per.timeCheckpoint = s.devUs ∧ ∃ e, t.per.waiting = s.per.waiting ++ [e]) ∧
        Reaches .counterCheckpoint s (fun t => t.per.counterArea = [] ∧ t.per.ringSeq = (s.per.ringSeq + 1) % 2 ^ 64 ∧
          t.per.ringNext = (s.per.ringNext + 1) % 32 ∧ t.per.ring.head? = some
            { slot := s.per.ringNext, seq := s.per.ringSeq + 1, pairs := s.per.counterArea })) ∧
      (s.pins.halt = true ∨ s.stage.stage = .hold → exec .timeCheckpoint s = .next s ∧ exec .counterCheckpoint s = .next s)
  ) ∧ (
    ∀ (s : State) (bands : List Nat) (uah : Nat),
      (s.halted = false → s.stage.stage ≠ .hold → bands.length = 6 → Reaches (.lifeCounterWrite bands uah) s (fun t =>
        (∀ d < 6, let i := 1 + 5 * d + min (bands.getD d 0) 4
          lookupD t.per.life i 0 = sat 32 (lookupD s.per.life i 0 + 1)) ∧
        lookupD t.per.life 50 0 = sat 32 (lookupD s.per.life 50 0 + uah) ∧ t.per.lifeCopy = (s.per.lifeCopy + 1) % 4)) ∧
      (s.pins.halt = true ∨ s.stage.stage = .hold → exec (.lifeCounterWrite bands uah) s = .next s)
  )

/-- An occurrence (R448, R450–R455, R457, R464, R465): one of ALARM or CRITICAL severity is a new open record with the
next heat number and the record before it is sealed; during a save it waits for its producer; a DEBUG code is recorded
in two life-cycle states alone; a limited code whose bucket is empty is merged or counted. -/
def Obligations.OccurrencesAreRecorded : Prop :=
  ∀ (s : State) (code src slc time : Nat) (data : Bytes), code < 2 ^ 16 → src < 2 ^ 32 → slc < 2 ^ 16 → time < 2 ^ 64 →
    (s.ghFailed = true → srcDieOf src = 5) →
    (5 ≤ severityOf code → s.stage.saving = false → s.halted = false → s.log.staging.length + 1 < 256 →
      s.log.suppressed.find? (fun y => y.code == code) = none → s.pat.fullPolicyHold = false →
      (s.log.next - s.log.acked) * 10 < 393216 * 9 →
      Reaches (.heatOccurrence code src slc time data) s (fun t => t.log.next = s.log.next + 1 ∧
        t.log.opened = some { heat := s.log.next, time := time, code := code, severity := severityOf code, source := src,
                              slice := slc, payload := fit 24 data } ∧
        (s.log.opened = none → t.log.staging = s.log.staging) ∧
        (∀ r, s.log.opened = some r → t.log.staging = s.log.staging ++
          [{ r with check := chainCheck s.heatKey r s.log.lastCheck }]))) ∧
    (5 ≤ severityOf code → s.stage.saving = true → s.log.queue.length < 64 → Reaches (.heatOccurrence code src slc time data) s
      (fun t => t.log.queue.length = s.log.queue.length + 1 ∧ t.log.next = s.log.next ∧ t.log.opened = s.log.opened)) ∧
    (severityOf code = 0 → s.lcState ≠ .testUnlocked → s.lcState ≠ .returned →
      exec (.heatOccurrence code src slc time data) s = .next s) ∧
    (limitedCode code = true → s.stage.saving = false → s.halted = false → s.log.staging.length + 1 < 256 →
      s.pat.fullPolicyHold = false → s.bucketNow code < 1000000 →
      severityOf code ≠ 0 ∨ s.lcState = .testUnlocked ∨ s.lcState = .returned →
      Reaches (.heatOccurrence code src slc time data) s (fun t => t.log.next = s.log.next ∧
        t.log.staging = s.log.staging ∧
        ((∃ r, s.log.opened = some r ∧ t.log.opened = some { r with repeats := r.repeats + 1 }) ∨
          (t.log.opened = s.log.opened ∧ t.log.suppressedCount = sat 32 (s.log.suppressedCount + 1) ∧
            ∃ y ∈ t.log.suppressed, y.code = code))))

/-- Sealing, summaries and draining of the heat log (R449, R453, R455, R457): the open record is sealed with its
check, every pending summary is written, and sealed records leave the staging buffer for MRAM in order. The heat-log
window (R459, R460): the cursor's record is loaded, a number below OLDEST reads the oldest record with GONE set, one
beyond NEWEST reads nothing with AT_END set; a read of the last word gives the old word and moves on. -/
def Obligations.HeatLogIsKeptAndRead : Prop :=
  (
    ∀ s : State,
      (∀ r, s.log.opened = some r → Reaches .recordSealTimeout s (fun t => t.log.opened = none ∧
        t.log.staging = s.log.staging ++ [{ r with check := chainCheck s.heatKey r s.log.lastCheck }] ∧
        t.log.lastCheck = chainCheck s.heatKey r s.log.lastCheck ∧ t.log.next = s.log.next)) ∧
      (s.log.opened = none → exec .recordSealTimeout s = .next s) ∧
      Reaches .summaryFlushDue s (fun t => t.log.suppressed = [] ∧
        t.log.next = s.log.next + s.log.suppressed.length) ∧
      (∀ n, s.log.queue = [] → s.log.droppedPending = 0 → Reaches (.stagingDrain n) s (fun t =>
        t.log.staging = s.log.staging.drop n ∧
        t.log.store = ((s.log.staging.take n).reverse ++ s.log.store).take 393216 ∧ t.log.next = s.log.next))
  ) ∧ (
    ∀ s : State, s.hostUp = true →
      let loaded := fun (t : State) (h : Nat) =>
        (h < s.oldest → t.log.gone = true ∧ t.log.cursor = s.oldest) ∧
        (s.oldest ≤ h → t.log.gone = false ∧ t.log.cursor = h) ∧
        (s.oldest ≤ s.newest → s.newest < h → t.log.atEnd = true ∧ t.log.valid = false ∧ t.log.data = zeros 64) ∧
        (∀ r, s.oldest ≤ h → h ≤ s.newest → s.findRec h = some r → t.log.valid = true ∧ t.log.atEnd = false ∧
          t.log.data = r.bytes)
      (s.fromHub = true → s.ghFailed = false →
        (∀ v, Reaches (.hlwCursorHiWrite v) s (fun t => loaded t (s.log.cursorLo + 2 ^ 32 * (v % 2 ^ 32)) ∧ t.m = s.m)) ∧
        (s.log.atEnd = false → s.log.cursor ≤ s.newest → Reaches .hlwData15Read s (fun t => loaded t (s.log.cursor + 1) ∧
          t.m.out = .mmioData 0x08007C (fld s.log.data 60 4) :: s.m.out)) ∧
        (s.log.atEnd = true → exec .hlwData15Read s = .next
          { s with m.out := .mmioData 0x08007C (fld s.log.data 60 4) :: s.m.out })) ∧
      (s.fromHub = false ∨ s.ghFailed = true → ∀ v, exec (.hlwCursorHiWrite v) s = .next s)
  )

/-- The state of a Ngueth port (R24, R395, R396, R403, R476): enabling and disabling, a held enable, the end of a
shutdown, training, the retry after a failed attestation, the losses that take a port down, and the lane pattern test.
The flits of a port (R395): a valid flit is counted and acknowledged, a heartbeat goes out, a bad flit is counted by
its cause and asked for again until its eighth retry fails, and a retry request sends the same bytes again. -/
def Obligations.NguethPortsWork : Prop :=
  (
    ∀ (s : State) (n : Nat),
      let p := s.port n
      let down := fun (t : State) => (t.port n).state = 1 ∧ (t.port n).txKey = [] ∧ (t.port n).rxKey = [] ∧
        (t.port n).peer = [] ∧ (t.port n).domainMatch = false ∧
        (t.port n).downs = (if p.state = 4 then (p.downs + 1) % 2 ^ 32 else p.downs)
      (s.hostUp = true → s.hasPeer n = true → s.quenched = false →
        (p.shutting = false → p.enable = true → Reaches (.nglPortDisable n) s (fun t => down t ∧
          (t.port n).enable = false ∧ (t.port n).shutting = true)) ∧
        (p.shutting = true → Reaches (.nglPortDisable n) s (fun t => (t.port n).enable = false ∧ (t.port n).shutting = true) ∧
          Reaches (.nglPortEnable n) s (fun t => (t.port n).enable = true ∧ (t.port n).state = 6 ∧
            (t.port n).shutting = true)) ∧
        (p.shutting = false → p.enable = false ∨ p.state = 5 → Reaches (.nglPortEnable n) s (fun t =>
          (t.port n).state = 2 ∧ (t.port n).enable = true ∧ (t.port n).txKey = []))) ∧
      (s.quenched = true ∨ s.hostUp = false → exec (.nglPortDisable n) s = .next s ∧ exec (.nglPortEnable n) s = .next s) ∧
      (s.tam.clockLost = false → p.shutting = true → Reaches (.nguethPortShutdownComplete n) s (fun t => (t.port n).shutting = false ∧
        (t.port n).state = (if p.enable = false then 0 else if s.stage.repourBusy || s.quenched then 1 else 2))) ∧
      (p.shutting = false → exec (.nguethPortShutdownComplete n) s = .next s) ∧
      (s.portsLive = true → s.hasPeer n = true → p.shutting = false → p.attestFailed = false → p.state = 1 ∨ p.state = 2 →
        ∀ r, Reaches (.nguethTrainingComplete n r) s (fun t => (t.port n).state = 3 ∧ (t.port n).lanes = maskOf r.lock ∧
          (t.port n).nonce.length = 32 ∧ ∃ f, .flit n 1 f ∈ t.m.out)) ∧
      (s.portsLive = true → p.state = 1 → p.attestFailed = true → p.enable = true → p.shutting = false →
        4000000 ≤ s.m.now - p.failedAt → Reaches (.nguethRetrainDue n) s (fun t => (t.port n).state = 2 ∧ (t.port n).attestFailed = false)) ∧
      (s.portsLive = true → p.state = 3 ∨ p.state = 4 → Reaches (.nguethRxTimeout n) s down ∧
        Reaches (.nguethAckTimeout n) s down ∧ Reaches (.nguethLockLoss n) s down) ∧
      (s.portsLive = true → p.state = 2 → Reaches (.nguethLockLoss n) s down) ∧
      (s.portsLive = false → exec (.nguethRxTimeout n) s = .next s ∧ exec (.nguethAckTimeout n) s = .next s ∧
        exec (.nguethLockLoss n) s = .next s ∧ exec (.nguethRetrainDue n) s = .next s ∧
        ∀ r, exec (.nguethTrainingComplete n r) s = .next s) ∧
      (s.hostUp = true → n < 4 → p.state = 0 ∨ p.state = 1 → ∀ l < 4, p.prbs.length = 4 → p.prbsErr.length = 4 →
        (∀ e, p.prbs.getD l false = false → Reaches (.nglLanePrbsWrite n l true e) s (fun t =>
          (t.port n).prbs.getD l false = true ∧ (t.port n).prbsErr.getD l 1 = 0)) ∧
        (∀ e, p.prbs.getD l false = true → Reaches (.nglLanePrbsWrite n l false e) s (fun t =>
          (t.port n).prbs.getD l true = false ∧ (t.port n).prbsErr.getD l 0 = e % 2 ^ 32))) ∧
      (p.state ≠ 0 → p.state ≠ 1 → ∀ l r e, exec (.nglLanePrbsWrite n l r e) s = .next s)
  ) ∧ (
    ∀ (s : State) (n : Nat), s.portsLive = true →
      let p := s.port n
      (p.state = 4 → p.rxCount < 2 ^ 32 - 1 → p.txCount < 2 ^ 32 - 1 → ∀ ack,
        Reaches (.nguethHeartbeat n ack) s (fun t => (t.port n).rx = (p.rx + 1) % 2 ^ 64 ∧
          (t.port n).rxSeq = (p.rxSeq + 1) % 4096 ∧ (t.port n).ackSeq = ack % 4096 ∧ (t.port n).retryOf = 0 ∧
          (t.port n).state = 4 ∧ t.ngl.peerSeen.lookup p.peer = some s.m.now) ∧
        Reaches (.nguethHeartbeatSend n) s (fun t => (t.port n).txSeq = (p.txSeq + 1) % 4096 ∧
          (t.port n).tx = (p.tx + 1) % 2 ^ 64 ∧ (t.port n).txCount = p.txCount + 1 ∧
          t.m.out = .flit n 0 (s.flitBytes p 0 []) :: s.m.out ∧
          (t.port n).buffer = ((p.txSeq, s.flitBytes p 0 []) :: p.buffer).take 256)) ∧
      (p.state ≠ 4 → ∀ ack, exec (.nguethHeartbeat n ack) s = .next s ∧ exec (.nguethHeartbeatSend n) s = .next s) ∧
      (p.state = 3 ∨ p.state = 4 → ∀ flit cause, s.flitCause p flit = some cause →
        (p.retryOf < 8 → Reaches (.nguethBadFlit n flit) s (fun t => (t.port n).retryOf = p.retryOf + 1 ∧
          (t.port n).retries = (p.retries + 1) % 2 ^ 32 ∧ (t.port n).state = p.state ∧
          (t.port n).crcErr = (if cause = 0 then (p.crcErr + 1) % 2 ^ 32 else p.crcErr) ∧
          (t.port n).tagErr = (if cause = 1 then (p.tagErr + 1) % 2 ^ 32 else p.tagErr) ∧
          (t.port n).formatErr = (if cause = 2 then (p.formatErr + 1) % 2 ^ 32 else p.formatErr) ∧
          (t.port n).rx = p.rx ∧ ∃ f, t.m.out = .flit n 6 f :: s.m.out)) ∧
        (8 ≤ p.retryOf → Reaches (.nguethBadFlit n flit) s (fun t => (t.port n).state = 1 ∧ (t.port n).txKey = []))) ∧
      (∀ flit, s.flitCause p flit = none → exec (.nguethBadFlit n flit) s = .next s) ∧
      (∀ flit, flit.length ≠ 256 → s.flitCause p flit = some 0) ∧
      (p.state = 3 ∨ p.state = 4 → ∀ ack seq f, p.buffer.head? = some (seq, f) →
        Reaches (.nguethRetryRequest n ack seq) s (fun t => t.m.out = .flit n (byteAt f 0) f :: s.m.out ∧
          (t.port n).buffer = p.buffer ∧ (t.port n).txSeq = p.txSeq)) ∧
      (p.state ≠ 3 → p.state ≠ 4 → ∀ f x y, exec (.nguethBadFlit n f) s = .next s ∧
        exec (.nguethRetryRequest n x y) s = .next s)
  )

/-- The handshake of a port (R388, R396): a peer that is not the pattern's makes it MISMATCH, one that does not attest
itself leaves it DOWN to retrain, and one that does brings it UP with the keys of both, the domain matched only where
both hold one. -/
def Obligations.NguethHandshakeDecides : Prop :=
  ∀ (s : State) (n flits ack : Nat) (h : PeerHello), s.portsLive = true → (s.port n).state = 3 →
    let own := s.ownHello (s.port n)
    let bare : PeerHello := { h with sig := [], tag := [] }
    let first : Bool := ofBE own.serial ≤ ofBE h.serial
    let hash := if first then Config.transcriptHash own bare else Config.transcriptHash bare own
    let known := (s.pat.peers.lookup n).getD [] = h.serial
    let attested := ∃ k, s.attestedKey h.idCert h.attCert = some k ∧ p384Digest k hash h.sig = true
    (¬known → Reaches (.nguethHandshake n flits ack h) s (fun t => (t.port n).state = 5 ∧ (t.port n).txKey = [] ∧
      (t.port n).domainMatch = false)) ∧
    (known → h.lcState ≠ 5 ∨ ¬attested → Reaches (.nguethHandshake n flits ack h) s (fun t => (t.port n).state = 1 ∧
      (t.port n).attestFailed = true ∧ (t.port n).txKey = [] ∧ (t.port n).domainMatch = false)) ∧
    (known → h.lcState = 5 → attested → (p384Shared (s.port n).ephPriv h.point).isSome = true →
      Reaches (.nguethHandshake n flits ack h) s (fun t => (t.port n).state = 4 ∧ (t.port n).peer = h.serial ∧
        (t.port n).ephPriv = 0 ∧ ((t.port n).domainMatch = true → s.hasDomain = true)))

/-- Mirrors and leases (R387, R397–R401): an update of a slice this package mirrors for its peer is committed as that
slice's record and is acknowledged, an acknowledgement ends the item's wait for its peer, an expired lease fences the
slice and ends its waiting items, two packages that both hold a slice ACTIVE fence it, and an offer that expires is
gone. The agreement of calendars (R440): an unset calendar adopts its peer's, one that differs by more than 60 s is
reported once, the RTC slews by at most 100 ppm, and every matched port gets a calendar flit. -/
def Obligations.PeersStayInStep : Prop :=
  (
    ∀ (s : State) (n : Nat), s.portsLive = true →
      let p := s.port n
      (p.matched = true → ∀ flits ack, ∀ u : MirrorUpdate,
        u.erase = false → 1 ≤ u.record.slice → u.record.slice ≤ 4095 →
        ((s.slice u.record.slice).state = 0 ∧ s.existing < s.pat.maxSlices) ∨
          ((s.slice u.record.slice).state = 7 ∧ (s.slice u.record.slice).mirrorPeer = p.peer) →
        Reaches (.nguethMirrorUpdate n flits ack u) s (fun t =>
          (t.slice u.record.slice).state = 7 ∧ (t.slice u.record.slice).epoch = u.record.epoch ∧
          (t.slice u.record.slice).generation = u.record.generation ∧ (t.slice u.record.slice).mirrorPeer = p.peer ∧
          (∀ c ∈ u.counted, ∃ r ∈ t.kst.counted, r.index = c.1 ∧ r.slice = u.record.slice ∧ r.limit = c.2.2.1) ∧
          (t.ngl.ackDue = [] ∨ (n, u.number) ∈ t.ngl.ackDue))) ∧
      (p.matched = true → ∀ ack w it, s.ngl.mirrorWaits = [w] → w.peer = p.peer → w.erase = false → w.item < 65536 →
        s.item w.item = some it → dVerb it.desc ≠ 0x0920 → Reaches (.nguethMirrorAck n ack w.update) s (fun t =>
          t.ngl.mirrorWaits = [] ∧ t.item w.item = some { it with waits := it.waits.filter (fun v => !(v == Wait.mirror)) })) ∧
      (p.matched = false → ∀ flits ack u x, exec (.nguethMirrorUpdate n flits ack u) s = .next s ∧
        exec (.nguethMirrorAck n ack x) s = .next s ∧ ∀ l, exec (.nguethLeaseSummary n flits ack l) s = .next s) ∧
      (p.matched = true → ∀ flits ack k e, k ≠ 0 → (s.slice k).mirrorPeer = p.peer → (s.slice k).state = 1 →
        (s.slice k).attached = false → s.tnd.items = [] → s.ngl.mirrorWaits = [] →
        Reaches (.nguethLeaseSummary n flits ack [(k, 1, e)]) s (fun t => (t.slice k).state = 8 ∧
          (t.slice k).peerReport = some (1, e))) ∧
      (∀ k, let seen := (s.ngl.peerSeen.lookup (s.slice k).mirrorPeer).getD s.stage.t0
        (s.mirrored k = true → s.pat.leaseMs * 4000 ≤ s.m.now - seen → s.tnd.items = [] →
          Reaches (.leaseExpire k) s (fun t => (t.slice k).state = 8 ∧
            (t.slice k).notice = 7 ∧ ∀ w ∈ t.ngl.mirrorWaits, w.slice ≠ k)) ∧
        (s.mirrored k = false ∨ s.m.now - seen < s.pat.leaseMs * 4000 → exec (.leaseExpire k) s = .next s)) ∧
      (∀ k, (∃ o ∈ s.slc.offers, o.slice = k ∧ 2400000000 ≤ s.m.now - o.since) → Reaches (.offerExpire k) s (fun t =>
        (∀ o ∈ t.slc.offers, o.slice ≠ k) ∧ (∀ x ∈ t.slc.slices, x.number = k → x.state ≠ 10) ∧ t.kst = s.kst)) ∧
      (∀ k, (∀ o ∈ s.slc.offers, o.slice = k → s.m.now - o.since < 2400000000) → exec (.offerExpire k) s = .next s)
  ) ∧ (
    ∀ (s : State) (n : Nat), s.portsLive = true →
      let p := s.port n
      (p.matched = true → s.per.calSet = false → ∀ ack us, Reaches (.nguethCalendar n ack us true) s (fun t =>
        t.per.calSet = true ∧ t.per.calSource = 2 ∧ t.per.rtc = min (us * 4000000) (rtcMaxSec * 4000000000000) ∧
        (t.port n).calDiff = some 0)) ∧
      (p.matched = true → s.per.calSet = true → ∀ ack us, Reaches (.nguethCalendar n ack us true) s (fun t =>
        -100 ≤ t.ngl.slewPpm ∧ t.ngl.slewPpm ≤ 100 ∧ t.per.rtc = s.per.rtc ∧ t.per.calSource = s.per.calSource ∧
        (t.port n).calDiff = some ((us : Int) - (s.devUs : Int)) ∧
        (60000000 < ((us : Int) - (s.devUs : Int)).natAbs → s.ngl.skewLogged.lookup p.peer = none →
          t.ngl.skewLogged.lookup p.peer = some s.m.now))) ∧
      (p.matched = true → ∀ ack us, Reaches (.nguethCalendar n ack us false) s (fun t => (t.port n).calDiff = none ∧
        t.per = s.per)) ∧
      (p.matched = false → ∀ ack us b, exec (.nguethCalendar n ack us b) s = .next s) ∧
      Reaches .calendarFlitSend s (fun t => t.per = s.per ∧ -100 ≤ t.ngl.slewPpm ∧ t.ngl.slewPpm ≤ 100 ∧
        (s.per.calSet = false → t.ngl.slewPpm = 0) ∧
        ∀ k < 4, (s.port k).matched = true → ∃ f, .flit k 5 f ∈ t.m.out) ∧
      exec .calendarFlitSend { s with pins := s.pins.driveHalt true } = .next { s with pins := s.pins.driveHalt true }
  )

/-- The contact-card slots (R535, R536, R560–R565): a card is seen after its debounce, powers up while a session is
open and no power-off hold runs, becomes ACTIVE by its ATR, answers its command, and is deactivated for 10 ms when it
is gone, does not answer, or answers with bad parity; a slot that chatters comes back after its quiet second. -/
def Obligations.CardSlotsComeAndGo : Prop :=
  ∀ (s : State) (n : Nat), n < 2 → s.cards.icc.length = 2 →
    let c := s.icc n
    (s.slotsLive = true → s.iccFitted n = true →
      (c.present = false → c.state ≠ .chatter → Reaches (.iccInserted n) s (fun t =>
        (t.icc n).present = true ∧ (t.icc n).refused = false ∧ t.icc (1 - n) = s.icc (1 - n) ∧
        (s.dcc.session = none → c.hold = false → (t.icc n).state = .present) ∧
        (s.dcc.session ≠ none → c.hold = true → (t.icc n).state = .activatePending) ∧
        (s.dcc.session ≠ none → c.hold = false → (t.icc n).state = .activating ∧ (t.icc n).cls = 2 ∧
          (t.icc n).khz = 4000 ∧ (t.icc n).fi = 372 ∧ (t.icc n).di = 1))) ∧
      (c.present = true → c.changes.length < 16 → Reaches (.iccRemoved n) s (fun t =>
        (t.icc n).present = false ∧ (t.icc n).exchange = none ∧ (t.icc n).sealed = false ∧
        t.icc (1 - n) = s.icc (1 - n) ∧
        (c.powered = true → (t.icc n).state = .deactivating ∧ (t.icc n).hold = true) ∧
        (c.powered = false → c.hold = false → c.state ≠ .chatter → (t.icc n).state = .empty))) ∧
      (c.present = true ∨ c.state = .chatter → exec (.iccInserted n) s = .next s)) ∧
    (s.slotsLive = false → exec (.iccInserted n) s = .next s ∧ exec (.iccRemoved n) s = .next s) ∧
    (s.tam.clockLost = false → c.hold = true → Reaches (.iccPowerHoldEnd n) s (fun t => (t.icc n).hold = false ∧
      (c.state = .activatePending → c.present = true → s.dcc.session ≠ none → (t.icc n).state = .activating ∧
        (t.icc n).cls = (if c.triedB then 1 else 2)) ∧
      (c.state = .deactivating → c.present = false → (t.icc n).state = .empty) ∧
      (c.state = .deactivating → c.present = true → c.refused = true → (t.icc n).state = .refused))) ∧
    (c.hold = false → exec (.iccPowerHoldEnd n) s = .next s) ∧
    (s.tam.clockLost = false → c.state = .chatter → changesWithin s.m.now c.changes [] = [] →
      Reaches (.slotChatterEnd n) s (fun t => (t.icc n).state = .empty ∧ (t.icc n).changes = [])) ∧
    (c.state ≠ .chatter ∨ changesWithin s.m.now c.changes [] ≠ [] → exec (.slotChatterEnd n) s = .next s) ∧
    (s.tam.clockLost = false → s.cards.sdState = .chatter → changesWithin s.m.now s.cards.sdChanges [] = [] → exec (.slotChatterEnd 2) s = .next
      { s with cards.sdState := .empty, cards.sdChanges := [] }) ∧
    (s.slotsLive = true → c.state = .activating →
      (∀ atr pps bs p y, parseAtr atr = some bs → atrClass bs = some y → bit y (if c.cls = 2 then 2 else 1) = true →
        atrProtocol bs = some p → atrAt bs 0 2 = none → ratesOf bs = none → Reaches (.iccAtrReceived n atr pps) s (fun t =>
          (t.icc n).state = .active ∧ (t.icc n).protoT1 = (p == 1) ∧ (t.icc n).fi = 372 ∧ (t.icc n).di = 1 ∧
          (t.icc n).khz = 4000 ∧ (s.dcc.session ≠ none → (t.icc n).exchange ≠ none))) ∧
      (∀ atr pps, parseAtr atr = none → c.noPps = false → Reaches (.iccAtrReceived n atr pps) s (fun t =>
        (t.icc n).state = .deactivating ∧ (t.icc n).hold = true ∧ (t.icc n).lastDetail = 2 ∧
        (t.icc n).refused = c.refused)) ∧
      (c.cls = 2 → c.noPps = false → Reaches (.iccWaitTimeout n false) s (fun t =>
        (t.icc n).state = .activatePending ∧ (t.icc n).hold = true ∧ (t.icc n).triedB = true))) ∧
    (∀ e, s.slotsLive = true → c.state = .active → c.exchange = some e → c.clockStopped = false →
      (∀ begun, Reaches (.iccWaitTimeout n begun) s (fun t => (t.icc n).state = .deactivating ∧
        (t.icc n).lastDetail = 5 ∧ (t.icc n).exchange = none ∧ (t.icc n).failed = sat 16 (c.failed + 1))) ∧
      (c.protoT1 = false → ∀ data parity, 4 ≤ parity → Reaches (.iccResponse n data parity) s (fun t =>
        (t.icc n).state = .deactivating ∧ (t.icc n).lastDetail = 4 ∧ (t.icc n).refused = c.refused)) ∧
      (c.protoT1 = false → e.step = .select → e.mode = 0 → e.received = [] → byteAt e.command 1 = 0xA4 →
        s.dcc.session ≠ none → Reaches (.iccResponse n [0x90, 0] 0) s (fun t =>
          (t.exch n).step = .getInfo ∧ (t.icc n).state = .active ∧
          t.m.out = .apdu n [0x80, 0x10, 0, 0, 89] :: s.m.out))) ∧
    (c.state ≠ .active → ∀ data parity, exec (.iccResponse n data parity) s = .next s)

/-- The keypad (R516, R517): a key counts while it alone is down; a digit joins the entry of the slot it serves, CLEAR
empties it, a PIN of a wrong length and 60 s of silence each discard it, and the third such miss refuses the card; a
key held for 5 s is ignored until it is released. -/
def Obligations.KeypadTakesKeys : Prop :=
  ∀ s : State,
    let k := s.dcc.keypad
    (∀ key < 20, s.slotsLive = true → bit s.pat.fitted 3 = true → key ∉ k.down → key ∉ k.stuck →
      (k.down ≠ [] ∨ k.slot = none ∨ s.dcc.session = none →
        exec (.keypadKey key) s = .next { s with dcc.keypad := { k with down := key :: k.down } }) ∧
      (∀ n x d, k.down = [] → k.slot = some n → s.dcc.session = some x → keyDigit key = some d → d < 10 →
        k.entry.length < 64 → Reaches (.keypadKey key) s (fun t => t.dcc.keypad =
          { k with down := [key], entry := k.entry ++ [d], fnAt := none })) ∧
      (∀ n x, k.down = [] → k.slot = some n → s.dcc.session = some x → key = 16 → Reaches (.keypadKey key) s (fun t =>
        t.dcc.keypad = { k with down := [16], entry := [], fnAt := none })) ∧
      (∀ n x e, n < s.cards.icc.length → k.down = [] → k.slot = some n → s.dcc.session = some x → key = 18 →
        k.fnAt = none → (s.icc n).exchange = some e → e.step = .pin → e.changing = false →
        (¬(6 ≤ k.entry.length ∧ k.entry.length ≤ 12) → e.failures < 2 → Reaches (.keypadKey key) s (fun t =>
          t.dcc.keypad.entry = [] ∧ t.dcc.keypad.slot = some n ∧ (t.exch n).failures = e.failures + 1)) ∧
        (6 ≤ k.entry.length → k.entry.length ≤ 12 → Reaches (.keypadKey key) s (fun t =>
          (t.exch n).step = .verifyPin ∧ (t.exch n).failures = e.failures ∧ t.dcc.keypad.slot ≠ some n ∧
          t.dcc.keypad.entry = [])))) ∧
    (∀ key, key ∈ k.down ∨ key ∈ k.stuck ∨ 20 ≤ key ∨ s.slotsLive = false ∨ bit s.pat.fitted 3 = false →
      exec (.keypadKey key) s = .next s) ∧
    (∀ key, s.tam.clockLost = false → key ∈ k.down → Reaches (.keypadStuck key) s (fun t =>
      t.dcc.keypad = { k with down := k.down.erase key, stuck := key :: k.stuck })) ∧
    (∀ key, key ∉ k.down → exec (.keypadStuck key) s = .next s) ∧
    (∀ key, s.tam.clockLost = false → exec (.keypadKeyRelease key) s = .next
      { s with dcc.keypad := { k with down := k.down.erase key, stuck := k.stuck.erase key } }) ∧
    (∀ n e, s.tam.clockLost = false → n < s.cards.icc.length → k.slot = some n → (s.icc n).exchange = some e →
      (e.failures < 2 → Reaches .keypadEntryTimeout s (fun t => t.dcc.keypad.entry = [] ∧
        t.dcc.keypad.slot = some n ∧ (t.exch n).failures = e.failures + 1)) ∧
      (2 ≤ e.failures → Reaches .keypadEntryTimeout s (fun t => (t.icc n).refused = true ∧
        (t.icc n).exchange = none))) ∧
    (k.slot = none → exec .keypadEntryTimeout s = .next s)

/-- The SD slot (R87, R535, R536, R539, R541–R543, R558): a card seen after its debounce is powered and asked for its version, or
waits for the power-off hold, or under a re-pour for stage Full; its answers move the initialisation and the tuning on; a busy card is polled and served
again once it is in state tran; a time limit ends the command, a busy limit cycles its power; a retune waits for the
command in progress. -/
def Obligations.SdSlotAdvances : Prop :=
  ∀ s : State, s.slotsLive = true →
    (s.sdFitted = true → s.cards.sdPresent = false → s.cards.sdState ≠ .chatter → ∀ wp,
      Reaches (.sdInserted wp) s (fun t => t.cards.sdPresent = true ∧ t.cards.sdWp = wp ∧
        (s.cards.sdHold = true ∨ s.stage.hubEntryDue = true → t.cards.sdState = .powerPending) ∧
        (s.cards.sdHold = false → s.stage.hubEntryDue = false → t.cards.sdState = .initialising ∧ t.cards.initStep = 2 ∧ t.cards.sdMode = 0 ∧
          t.m.out = .sdCommand 8 0x1AA [] :: .sdCommand 0 0 [] :: s.m.out))) ∧
    (s.sdFitted = false ∨ s.cards.sdPresent = true ∨ s.cards.sdState = .chatter → ∀ wp,
      exec (.sdInserted wp) s = .next s) ∧
    (s.sdFitted = true → s.cards.sdPresent = true → s.cards.run = none → s.cards.sdItem = none →
      s.cards.sdChanges.length < 16 → s.cards.sdState ≠ .chatter → Reaches .sdRemoved s (fun t =>
        t.cards.sdPresent = false ∧ t.cards.sdWp = false ∧ t.cards.csd = [] ∧ t.cards.archive = none ∧
        t.cards.sdState = .poweringOff ∧ t.cards.sdHold = true)) ∧
    (s.cards.sdHold = true → Reaches .sdPowerHoldEnd s (fun t => t.cards.sdHold = false ∧
      (s.cards.sdState = .poweringOff → t.cards.sdState = .empty) ∧
      (s.cards.sdState = .powerPending → s.stage.hubEntryDue = true → t.cards.sdState = .powerPending) ∧
      (s.cards.sdState = .powerPending → s.stage.hubEntryDue = false → s.cards.sdPresent = true → s.sdFitted = true →
        t.cards.sdState = .initialising ∧ t.cards.initStep = 2))) ∧
    (s.cards.sdHold = false → exec .sdPowerHoldEnd s = .next s) ∧
    (s.cards.tuning = none → s.cards.initStep = 2 → ∀ a : SdAnswer, a.crcOk = true → a.resp = 0x1AA →
      Reaches (.sdCommandResponse a) s (fun t => t.cards.initStep = 3 ∧ t.cards.v2Card = true ∧ t.cards.since = s.m.now ∧
        t.m.out = .sdCommand 41 (2 ^ 30 + (if s.cards.noS18r then 0 else 2 ^ 24) + 0xFF8000) [] :: s.m.out)) ∧
    (∀ res, s.cards.tuning = some res → res.length < 15 →
      (∀ a : SdAnswer, Reaches (.sdCommandResponse a) s (fun t =>
        t.cards.tuning = some (res ++ [(4 * res.length, a.crcOk && a.data == tuningBlock)]) ∧
        t.m.out = .sdCommand 19 0 [] :: s.m.out)) ∧
      Reaches .sdCommandTimeout s (fun t => t.cards.tuning = some (res ++ [(4 * res.length, false)]) ∧
        t.m.out = .sdCommand 19 0 [] :: s.m.out)) ∧
    (∀ r it, s.cards.tuning = none → s.cards.initStep = 0 → s.cards.sdBusy = false → s.cards.run = some r →
      s.runningItem r.item = some it →
      (∀ a : SdAnswer, a.crcOk = true → r1Error a.resp = false → r.phase = .write → Reaches (.sdCommandResponse a) s
        (fun t => t.cards.sdBusy = true ∧ t.cards.sdR1 = a.resp % 2 ^ 32 ∧ t.cards.run = some r)) ∧
      (r.phase ≠ .fetch → Reaches .sdCommandTimeout s (fun t => t.cards.run = none ∧ t.cards.sdLast = 0x1004))) ∧
    (s.cards.tuning = none → s.cards.initStep = 2 → Reaches .sdCommandTimeout s (fun t =>
      t.cards.initStep = 3 ∧ t.cards.v2Card = s.cards.v2Card ∧ t.cards.since = s.m.now)) ∧
    (s.cards.sdBusy = true →
      (s.cards.run = none → s.cards.retuneDue = false → s.cards.sdItem = none → Reaches (.sdBusyRelease 0x900) s (fun t =>
        t.cards.sdBusy = false ∧ t.cards.sdState = .ready ∧ t.cards.sdR1 = 0x900)) ∧
      (∀ r1, r1Error r1 = false → bits r1 9 4 ≠ 4 ∨ bit r1 8 = false → Reaches (.sdBusyRelease r1) s (fun t =>
        t.cards.sdBusy = true ∧ t.cards.run = s.cards.run)) ∧
      (∀ r it a b, s.cards.run = some r → s.runningItem r.item = some it → r.phase = .write → r.todo = [b] →
        r.next = some a → dVerb it.desc = 0x0150 → s.stage.repourBusy = false → Reaches (.sdBusyRelease 0x900) s (fun t =>
          t.cards.archive = some a ∧ t.cards.run = none ∧ t.answer r.item = some (0, 0, a.id, []))) ∧
      (s.cards.run = none → Reaches .sdBusyTimeout s (fun t => t.cards.sdBusy = false ∧
        t.cards.sdState = .powerPending ∧ t.cards.sdHold = true ∧ t.cards.archive = s.cards.archive))) ∧
    (s.cards.sdBusy = false → (∀ r1, exec (.sdBusyRelease r1) s = .next s) ∧ exec .sdBusyTimeout s = .next s) ∧
    (s.cards.sdState = .ready → tunedMode s.cards.sdMode = true → s.cards.tuning = none → s.cards.initStep = 0 →
      (s.cards.run = none → s.cards.sdBusy = false → Reaches .sdRetuneDue s (fun t => t.cards.tuning = some [] ∧
        t.m.out = .sdCommand 19 0 [] :: s.m.out)) ∧
      (s.cards.run ≠ none ∨ s.cards.sdBusy = true → exec .sdRetuneDue s = .next { s with cards.retuneDue := true }))

/-- The archive verbs and ARCHIVE_PROTECT (R548, R550, R552–R557): an item that passes its checks takes a READY card,
whose label it reads first while no archive is open, or waits for the card to be READY; without a card it ends with
0x0D04, on a FAILED slot with 0x0D06; ARCHIVE_INFO answers at once from an open archive. -/
def Obligations.ArchiveVerbsTakeTheCard : Prop :=
  ∀ (s : State) (slot : Nat) (it : Item) (wp : Bool),
    let verbs : List (Instr × Nat × List (Nat × Nat) × (Item → Chk Unit)) := [
      (.archiveFormat slot wp, 0x0150, [(0x38, 1)], forceOk), (.archiveWrite slot wp, 0x0151, [(0x38, 2)], noOwn),
      (.archiveRead slot wp, 0x0152, [(0x38, 4)], noOwn), (.archiveInfo slot wp, 0x0153, [], infoRoom),
      (.archiveSeal slot wp, 0x0154, [], noOwn)]
    let unexpired := ∀ x, s.dcc.session = some x → x.expired = false
    (∀ v ∈ verbs, s.verbItem slot v.2.1 = some it → s.archiveChecks it v.2.2.1 v.2.2.2 = .ok () →
      (s.cards.sdPresent = false → unexpired → Reaches v.1 s (fun t => t.answer slot = some (0x0D04, 0, [], []))) ∧
      (s.cards.sdPresent = true → s.cards.sdState = .failed → unexpired →
        Reaches v.1 s (fun t => t.answer slot = some (0x0D06, 0x1109, [], []) ∧ t.cards.sdLast = 0x1109)) ∧
      (s.cards.sdPresent = true → s.cards.run = none → s.cards.sdItem = none → s.cards.sdState = .initialising →
        Reaches v.1 s (fun t => t.cards.sdItem = some slot ∧ t.cards.sdWp = wp ∧ t.m.out = s.m.out)) ∧
      (s.cards.sdPresent = true → s.cards.run = none → s.cards.sdItem = none → s.cards.sdState = .ready →
        s.cards.sdBusy = false → s.cards.tuning = none → s.cards.initStep = 0 → s.cards.retuneDue = false →
        s.cards.archive = none → Reaches v.1 s (fun t => t.cards.run = some { item := slot } ∧ t.cards.sdWp = wp ∧
          t.m.out = .sdCommand 17 0 [] :: s.m.out))) ∧
    (∀ a, s.verbItem slot 0x0153 = some it → s.archiveChecks it [] infoRoom = .ok () → s.cards.sdPresent = true →
      s.cards.run = none → s.cards.sdItem = none → s.cards.sdState = .ready → s.cards.sdBusy = false →
      s.cards.tuning = none → s.cards.initStep = 0 → s.cards.archive = some a → wp = s.cards.sdWp →
      Reaches (.archiveInfo slot wp) s (fun t => t.cards.run = none ∧ t.answer slot = some (0, 0,
        le 4 a.records ++ le 2 (s.infoFlags a.sealed false) ++ le 1 s.cards.sdMode ++ [0] ++ le 8 a.generation,
        fit 16 a.id ++ fit 16 a.domain ++ le 8 a.capacity ++ le 8 (a.capacity - a.nextFree)))) ∧
    (∀ second x, s.verbItem slot 0x0A19 = some it → s.quorumMet it 9 false plainInput x second → s.hasDomain = true →
      s.cards.sdPresent = true → s.cards.run = none → s.cards.sdItem = none → s.cards.sdState = .ready →
      s.cards.sdBusy = false → s.cards.tuning = none → s.cards.initStep = 0 → s.cards.retuneDue = false →
      s.cards.archive = none → Reaches (.archiveProtect slot second) s (fun t => t.cards.run = some { item := slot } ∧
        ∃ o, t.m.out = .sdCommand 17 0 [] :: o))

/-- QUORUM_OPEN and QUORUM_CLOSE (R519, R522, R359): a session of the class opens with no custodian admitted, its
lifetime and its transcript begin, and cards that are present power up; closing ends it, erases what it gathered and
keeps only that it ended. -/
def Obligations.QuorumSessionsOpenAndClose : Prop :=
  ∀ (s : State) (slot : Nat) (it : Item),
    (s.verbItem slot 0x0A01 = some it → s.openChecks it = .ok () →
      let cls := byteAt it.desc 0x38
      Reaches (.quorumOpen slot) s (fun t => t.answer slot = some (0, 0, [], []) ∧
        t.dcc.session = some { cls := cls, alg := byteAt it.desc 0x39, components := byteAt it.desc 0x3A,
                               endsAt := s.m.now + 4 * (s.pat.sessionMin * 60000000) } ∧
        t.hasDelay .quorum = true ∧ t.mea.sessionSeq = s.mea.sessionSeq + 1 ∧
        t.mea.transcript = le 1 cls ++ zeros 7 ++ le 8 (s.mea.sessionSeq + 1) ∧
        (s.cards.icc.length = 2 → ∀ n < 2, (s.icc n).present = true → (s.icc n).refused = false → s.iccFitted n = true →
          (t.icc n).state = (if (s.icc n).hold then .activatePending else .activating)))) ∧
    (∀ x, s.verbItem slot 0x0A02 = some it → s.closeChecks it = .ok () → s.dcc.session = some x →
      (∀ i, x.issuing = some i → i.item ≠ slot) → Reaches (.quorumClose slot) s (fun t =>
        t.answer slot = some (0, 0, [], []) ∧ t.dcc.session = none ∧ t.dcc.endCause = 3 ∧ t.dcc.lastClass = x.cls ∧
        t.dcc.endedOnce = none ∧ t.mea.transcript = [] ∧ t.kst.rootPart = s.kst.rootPart))

/-- The ceremonies of the domain root (R510, R526–R528, R483): DOMAIN_CREATE waits for its cards with a new root that
is not yet the domain's, DOMAIN_JOIN commits a header for a root its shares rebuild and prove, DOMAIN_RESTORE brings
the root of a QUENCHED device back, UNLOCK clears the lock; shares that rebuild another root are erased; from
PROVISIONED the right token starts the transition to DEPLOYED. -/
def Obligations.DomainCeremoniesRun : Prop :=
  ∀ (s : State) (slot : Nat) (it : Item) (x : Session) (second token : Option Nat), token = none ∨ token = some 0 →
    let waits := fun (t : State) (w : Wait) => ∃ y, t.item slot = some y ∧ y.state = .running ∧ y.waits = [w]
    (s.verbItem slot 0x0A10 = some it → s.quorumMet it 0 true s.createInput x second →
      (s.lcState = .deployed → s.dcc.domainId = [] → (sub it.input 8 32).all (· == 0) = true → s.mea.rngHealthy = true →
        Reaches (.domainCreate slot second token) s (fun t => waits t .cards ∧ t.kst.rootPart = s.kst.rootPart ∧
          ∃ y i, t.dcc.session = some y ∧ y.issuing = some i ∧ i.item = slot ∧ i.mode = 0 ∧ i.epoch = 0 ∧
            i.k = byteAt it.input 1 ∧ i.root.length = 32 ∧ i.coeffs.length = i.k - 1 ∧
            i.todo = (List.range (byteAt it.input 0)).map (· + 1))) ∧
      (s.lcState = .provisioned → s.lc.running = none → s.tokenGood 3 (sub it.input 8 32) = true →
        Reaches (.domainCreate slot second token) s (fun t => waits t .drain ∧
          t.lc.running = some { target := 5, token := 3, ceremony := some slot } ∧
          lookupD t.fuses.tokenUsed 3 0 = 2 ∧ t.fuses.lcWord = s.fuses.lcWord))) ∧
    (s.verbItem slot 0x0A11 = some it → s.quorumMet it 1 true plainInput x second →
      (s.lcState = .deployed → s.dcc.domainId = [] → (sub it.input 16 32).all (· == 0) = true →
        let root := rebuildRoot x x.joinK
        (rootFault x root (sub it.input 0 16) = none → Reaches (.domainJoin slot second token) s (fun t =>
          waits t .commit ∧ t.dcc.domainId = domainIdOf root ∧ t.dcc.shareK = x.joinK ∧ t.dcc.shareEpoch = x.joinEpoch ∧
          t.dcc.records.map (fun r => (r.index, r.point, r.state)) = x.admitted.map (fun a => (a.index, a.point, 1)) ∧
          t.kst.rootPart = s.kst.rootPart)) ∧
        (∀ d, rootFault x root (sub it.input 0 16) = some d → Reaches (.domainJoin slot second token) s (fun t =>
          t.answer slot = some (0x0D02, d, [], []) ∧ t.dcc.domainId = s.dcc.domainId ∧
          ∃ y, t.dcc.session = some y ∧ y.admitted = [] ∧ y.comps = []))) ∧
      (s.lcState = .provisioned → s.lc.running = none → s.tokenGood 3 (sub it.input 16 32) = true →
        Reaches (.domainJoin slot second token) s (fun t => waits t .drain ∧
          t.lc.running = some { target := 5, token := 3, ceremony := some slot }))) ∧
    (s.verbItem slot 0x0A12 = some it → s.quorumMet it 2 false plainInput x second → s.quenched = true →
      s.activeSources = [] →
      let root := rebuildRoot x s.dcc.shareK
      (rootFault x root s.dcc.domainId = none → Reaches (.domainRestore slot second) s (fun t =>
        t.kst.bbram = root ∧ t.kst.bbramCheck = s.bbramCheckOf root ∧ t.kst.domain = true ∧ t.tam.lockFlag = false ∧
        (∀ n, n ∈ t.tam.latched → lookupD s.tam.latchedResp n 0 ≠ 2 ∧ lookupD s.tam.latchedResp n 0 ≠ 3) ∧
        t.dcc.session = none ∧ t.dcc.endCause = 1 ∧ t.answer slot = some (0, 0, [], []))) ∧
      (∀ d, rootFault x root s.dcc.domainId = some d → Reaches (.domainRestore slot second) s (fun t =>
        t.answer slot = some (0x0D02, d, [], []) ∧ t.kst.rootPart = s.kst.rootPart))) ∧
    (s.verbItem slot 0x0A13 = some it → s.quorumMet it 3 false plainInput x second → s.quenched = false →
      (s.activeSources = [] → Reaches (.unlock slot second token) s (fun t => t.tam.lockFlag = false ∧
        (∀ n, n ∈ t.tam.latched ↔ n ∈ s.tam.latched ∧ lookupD s.tam.latchedResp n 0 ≠ 2) ∧
        t.dcc.session = none ∧ t.answer slot = some (0, 0, [], []) ∧ t.kst.rootPart = s.kst.rootPart)) ∧
      (s.activeSources ≠ [] → Reaches (.unlock slot second token) s (fun t => t.tam.lockFlag = s.tam.lockFlag ∧
        t.tam.latched = s.tam.latched ∧ t.answer slot = some (0x0D07, maskOf s.activeSources, [], []))))

/-- The other ceremonies (R441, R463, R529–R531): LIFECYCLE starts its transition with the right token,
CUSTODIAN_ENROL waits for the card of a new or reissued share or revokes a record, CALENDAR_SET sets the RTC,
PATTERN_KEY_ENROL enrols a customer key and blows an epoch bit where asked, LOG_CLEAR releases the acknowledged
records; the last four end the session. -/
def Obligations.OtherCeremoniesRun : Prop :=
  ∀ (s : State) (slot : Nat) (it : Item) (x : Session) (second token : Option Nat), token = none ∨ token = some 0 →
    let waits := fun (t : State) (w : Wait) => ∃ y, t.item slot = some y ∧ y.state = .running ∧ y.waits = [w]
    let ended := fun (t : State) => t.dcc.session = none ∧ t.dcc.endCause = 1 ∧ t.answer slot = some (0, 0, [], [])
    (∀ tok, s.verbItem slot 0x0A14 = some it → s.quorumMet it 4 false lifecycleInput x second → s.lc.running = none →
      let target := byteAt it.input 0
      tokenFor s.lcState target = some tok →
      (s.tokenGood tok (sub it.input 8 32) = true → Reaches (.lifecycle slot second token) s (fun t => waits t .drain ∧
        t.lc.running = some { target := target, token := tok, ceremony := some slot } ∧
        lookupD t.fuses.tokenUsed tok 0 = 2 ∧ t.fuses.lcWord = s.fuses.lcWord)) ∧
      (s.tokenGood tok (sub it.input 8 32) = false → Reaches (.lifecycle slot second none) s (fun t =>
        t.answer slot = some (0x010A, 0x10008, [], []) ∧ t.lc.running = none ∧ t.fuses = s.fuses))) ∧
    (s.verbItem slot 0x0A15 = some it → s.quorumMet it 5 true enrolInput x second → s.hasDomain = true →
      let op := byteAt it.desc 0x38
      let index := byteAt it.desc 0x39
      let known := fun (n : Nat) => s.dcc.records.any (fun r => r.index == n)
      let issues := fun (t : State) (mode : Nat) (todo : List Nat) => waits t .cards ∧
        t.dcc.records = s.dcc.records ∧ t.kst.rootPart = s.kst.rootPart ∧ ∃ y i, t.dcc.session = some y ∧
        y.issuing = some i ∧ i.mode = mode ∧ i.item = slot ∧ i.root = s.domainRoot ∧ i.todo = todo
      (∀ i, op = 0 → ((List.range 16).map (· + 1)).find? (fun n => !known n) = some i →
        Reaches (.custodianEnrol slot second) s (fun t => issues t 1 [i])) ∧
      (op = 1 → Reaches (.custodianEnrol slot second) s (fun t => issues t 3 [])) ∧
      (op = 2 → (∃ r ∈ s.dcc.records, r.state = 1 ∧ r.index = index) → Reaches (.custodianEnrol slot second) s (fun t =>
        ended t ∧ t.dcc.records = s.dcc.records.map (fun r => if r.index = index then { r with state := 2 } else r) ∧
        t.dcc.shareEpoch = s.dcc.shareEpoch)) ∧
      (op = 3 → byteAt it.input 0 ≤ (s.dcc.records.filter (fun r => r.state == 1)).length → s.mea.rngHealthy = true →
        Reaches (.custodianEnrol slot second) s (fun t =>
          issues t 2 ((s.dcc.records.filter (fun r => r.state == 1)).map (fun r => r.index))))) ∧
    (s.verbItem slot 0x0A16 = some it → s.quorumMet it 6 true calendarInput x second →
      Reaches (.calendarSet slot second) s (fun t => ended t ∧ t.per.calSet = true ∧ t.per.calSource = 1 ∧
        t.per.rtcHeld = false ∧ t.per.rtc = fld it.input 0 8 * 4000000000000)) ∧
    (s.verbItem slot 0x0A17 = some it → s.quorumMet it 7 true patternKeyInput x second →
      let blow := byteAt it.desc 0x39 == 1
      let first := byteAt it.desc 0x38 == 0
      let dig := keyDigest (sub it.input 0 48) (sub it.input 48 48)
      ((p384.decodePoint ([4] ++ sub it.input 0 48 ++ sub it.input 48 48)).isSome = true → (blow = true → s.fuses.epoch < 32) →
        Reaches (.patternKeyEnrol slot second) s (fun t => ended t ∧
          t.dcc.patKey0 = (if first then dig else s.dcc.patKey0) ∧ t.dcc.patKey1 = (if first then s.dcc.patKey1 else dig) ∧
          t.fuses.epoch = (if blow then s.fuses.epoch + 1 else s.fuses.epoch) ∧ t.fuses.lcWord = s.fuses.lcWord))) ∧
    (s.verbItem slot 0x0A18 = some it → s.quorumMet it 8 true plainInput x second → s.oldest ≤ s.log.acked →
      Reaches (.logClear slot second) s (fun t => ended t ∧ t.log.cleared = s.log.acked ∧ t.log.acked = s.log.acked))

/-- The verbs that make symmetric keys (R214, R226, R248, R252, R254, R260–R263): an item that passes its checks while
random bytes are available answers its ingots and the creation result of a key that is drawn, combined from the
session's components, or derived as its rule says; a drawn TDES key has odd parity and distinct parts, and the row draws
on while it has not (the limit of draws in one row is the model's, assumption log 5); a derived TDES key with equal parts
is refused; whatever its outcome, COMPONENT_COMBINE erases the components. -/
def Obligations.KeysAreMade : Prop :=
  ∀ (s : State) (slot : Nat) (it : Item) (u : UnitReport), s.unitsClean it u → s.mea.rngHealthy = true →
    let l := s.lookUp it
    let made := fun (i : Instr) (k : NewKey) (split : Bool) (good : Bytes → Prop) => Reaches i s (fun t =>
      ∃ key result output, good key ∧ t.answer slot = some (0, 0, result, output) ∧ l.Wrote it k split key result output)
    (∀ t, s.verbItem slot 0x0201 = some it → l.keyGenerateChecks it = .ok t →
      let drawn := l.drawKey (tAlg t) (tBits t / 8) 64
      (∀ key, drawn.1 = some key → made (.keyGenerate slot u) (ofTemplate it.slice 1 t) (tSplit t) (fun x => x = key)) ∧
      (drawn.1 = none → Reaches (.keyGenerate slot u) s (fun r =>
        r.item slot = s.item slot ∧ r.m.draws = drawn.2.m.draws)) ∧
      (∀ key, drawn.1 = some key → ∃ raw, raw.length = tBits t / 8 ∧
        key = (if isTdes (tAlg t) then oddParity raw else raw) ∧ (isTdes (tAlg t) = true → tdesDistinct key = true)) ∧
      (isTdes (tAlg t) = false → drawn.1 ≠ none)) ∧
    (∀ target t key, s.verbItem slot 0x0203 = some it → s.combineChecks it = .ok (target, t, key) →
      Reaches (.componentCombine slot) s (fun r => (∃ result output, r.answer slot = some (0, 0, result, output) ∧
          s.Wrote it (ofTemplate target 4 t) (tSplit t) key result output) ∧
        ∀ x, r.dcc.session = some x → x.comps = [])) ∧
    (∀ st dt e, s.verbItem slot 0x0203 = some it → s.combineChecks it = .error e →
      (∃ n, e = .fail st dt n) ∨ e = .late st dt → Reaches (.componentCombine slot) s (fun r => r.answer slot = some (st, dt, [], []) ∧
        ∀ x, r.dcc.session = some x → x.comps = [])) ∧
    (∀ k t key, s.verbItem slot 0x0230 = some it → l.kdfChecks it = .ok (k, t, key) →
      let bad := isTdes (tAlg t) && !tdesDistinct key
      (bad = false → made (.kdfDerive slot u) (ofTemplate it.slice 5 t) (tSplit t) (fun x => x = key)) ∧
      (bad = true → Reaches (.kdfDerive slot u) s (fun r => r.answer slot = some (0x0205, 0, [], [])))) ∧
    (∀ k ik, s.verbItem slot 0x0220 = some it → l.ikChecks it = .ok (k, ik) →
      let bad := byteAt it.desc 0x30 == 1 && !tdesDistinct ik
      let flags := byteAt it.desc 0x31
      (bad = false → made (.dukptIkDerive slot u)
        { slice := it.slice, alg := ingotAlg k.ingot, attr := 8, mods := b2n (bit flags 0) + 8 * b2n (bit flags 1), origin := 5
          bits := ingotBits k.ingot, us := usage "B1", mode := chr 'X', notBefore := ingNotBefore k.ingot
          notAfter := ingNotAfter k.ingot } false (fun x => x = ik)) ∧
      (bad = true → Reaches (.dukptIkDerive slot u) s (fun r => r.answer slot = some (0x0205, 0, [], [])))) ∧
    (∀ k key, s.verbItem slot 0x0221 = some it → l.workingChecks it = .ok (k, key) →
      let use := byteAt it.desc 0x31
      let alg := byteAt it.desc 0x32
      let flags := byteAt it.desc 0x33
      let role := keyUseRole use alg
      let bad := isTdes alg && !tdesDistinct key
      (bad = false → made (.dukptKeyDerive slot u)
        { slice := it.slice, alg := alg, attr := role.1
          mods := b2n (bit flags 0) + 4 * b2n (use == 4) + 8 * b2n (bit flags 1), origin := 5, bits := (aesKeyType alg).2
          us := role.2.1, mode := role.2.2, notBefore := ingNotBefore k.ingot, notAfter := ingNotAfter k.ingot } false
        (fun x => x = key)) ∧
      (bad = true → Reaches (.dukptKeyDerive slot u) s (fun r => r.answer slot = some (0x0205, 0, [], []))))

/-- The verbs on ingots and public keys (R228, R229, R250, R253, R264–R268, R277, R278): what each answers, that a
wrong check value is KEY_CORRUPT, that a pinned entry is in the hub cache, an unpinned one withdrawn, and a released
counter's record gone. -/
def Obligations.IngotsAreManaged : Prop :=
  ∀ (s : State) (slot : Nat) (it : Item) (u : UnitReport), s.unitsClean it u →
    let l := s.lookUp it
    let ends := fun (i : Instr) (st : Nat) (result output : Bytes) =>
      Reaches i s (fun t => t.answer slot = some (st, 0, result, output))
    (∀ k, s.verbItem slot 0x0202 = some it → l.keyCheckChecks it = .ok k →
      let v := kcvOf (ingotAlg k.ingot) k.key
      let other := byteAt it.desc 0x35 = 1 ∧ v ≠ sub it.desc 0x30 5
      (v = ingCheck k.ingot → ¬other → ends (.keyCheck slot u) 0 (v ++ zeros 11) []) ∧
      (v = ingCheck k.ingot → other → ends (.keyCheck slot u) 0x020D [] []) ∧
      (v ≠ ingCheck k.ingot → Reaches (.keyCheck slot u) s (fun t => t.answer slot = some (0x0202, 0, [], []) ∧
        t.kst.corruptCount = wrap 32 (l.kst.corruptCount + 1)))) ∧
    (∀ k, s.verbItem slot 0x0240 = some it → l.inspectChecks it = .ok k →
      let c := l.countLimit it k.ingot
      ends (.ingotInspect slot u) 0 (le 1 (l.inspectFlags it k.ingot + (if k.byAddr then 0 else 16)) ++ ingCheck k.ingot ++
        zeros 2 ++ le 4 c.1 ++ le 4 c.2) (k.ingot.take 56)) ∧
    (∀ k, s.verbItem slot 0x0241 = some it → l.restrictChecks it = .ok k →
      let i := k.ingot
      let set := byteAt it.desc 0x31
      let nb := fld it.input 0 8
      let na := fld it.input 8 8
      let newMode := byteAt it.desc 0x32
      let mode := if bit set 2 then chr 'V' else if newMode = 0 then ingMode i else newMode
      let verify := ingVerifyOnly i || bit set 2 || (ingAttr i == 1 && newMode == chr 'V')
      let mods := b2n (ingExportable i && byteAt it.desc 0x30 == 0) + 2 * b2n (ingCounted i) + 4 * b2n verify +
        8 * b2n (ingInverse i || bit set 3)
      let out := l.restricted it i mods mode (if nb = 0 then ingNotBefore i else nb) (if na = 0 then ingNotAfter i else na)
      ends (.ingotRestrict slot u) 0 (creationResult out 1) out) ∧
    (∀ k r, s.verbItem slot 0x0242 = some it → l.pinChecks it = .ok k → ((l.reach12 it []).installIn it k).pinIngot it k = .ok r →
      Reaches (.ingotPin slot u) s (fun t => t.answer slot = some (0, 0,
        le 8 (t.handleOf r.2.1) ++ le 2 r.2.1.count ++ le 1 (b2n r.2.2) ++ zeros 5, []) ∧
        r.2.1 ∈ t.kst.hubCache ∧ r.2.1.pinned = true)) ∧
    (∀ e, s.verbItem slot 0x0243 = some it → l.unpinChecks it = .ok e → Reaches (.ingotUnpin slot) s (fun t =>
      t.answer slot = some (0, 0, [], []) ∧
      t.kst.hubCache = l.kst.hubCache.map (fun x => if x.index = e.index then { x with withdrawn := true } else x))) ∧
    (∀ c, s.verbItem slot 0x0244 = some it → l.counterReleaseChecks it = .ok c → Reaches (.counterRelease slot u) s
      (fun t => t.answer slot = some (0, 0, le 4 (l.countNow c.index) ++ le 4 c.limit ++ zeros 8, []) ∧
        ∀ x ∈ t.kst.counted, x.index ≠ c.index)) ∧
    (∀ k out, s.verbItem slot 0x0307 = some it → l.publicExportChecks it = .ok (k, out) →
      ends (.publicExport slot u) 0 (sub k.ingot 0x40 16) out) ∧
    (∀ p na dig, s.verbItem slot 0x0308 = some it → l.ticketChecks it = .ok (p, na, dig) →
      (p.ticketFit = true → ends (.pubkeyTicket slot u) 0 (dig.take 16)
        (l.mkTicket it.slice (byteAt it.desc 0x30) na dig p)) ∧
      (p.ticketFit = false → ends (.pubkeyTicket slot u) 0x0A06 [] []))

/-- Keys that cross the boundary (R255–R259, R278–R282): TR-31 import, export and translation, and the TR-34 verbs.
What an import takes in is the key of its block; what leaves is a block or token of the same key under the wrapping
key, with random padding; a credential or token is refused at the first of its signature, validity, timestamp or
nonce, content key, header and strength that is wrong; a token takes two BNU commands, the second waiting with its item. -/
def Obligations.KeyBlocksCross : Prop :=
  ∀ (s : State) (slot : Nat) (it : Item) (u : UnitReport), s.unitsClean it u → s.mea.rngHealthy = true →
    let l := s.lookUp it
    let made := fun (i : Instr) (k : NewKey) (split : Bool) (key : Bytes) => Reaches i s (fun t =>
      ∃ result output, t.answer slot = some (0, 0, result, output) ∧ l.Wrote it k split key result output)
    let block := fun (i : Instr) (p : BlockPlan) (key : Bytes) (k : KeyVal) => Reaches i s (fun t =>
      ∃ rand, rand.length = 64 ∧
        t.answer slot = some (0, 0, [], writeBlock p key (ingotAlg k.ingot) k.key l.calOr0 rand))
    let ends := fun (i : Instr) (st dt : Nat) (result output : Bytes) =>
      Reaches i s (fun t => t.answer slot = some (st, dt, result, output))
    let commands := fun (t : State) (first then_ : Nat) => ∃ m n y, m.slot = slot ∧ m.code = first ∧
      (t.cluster (s.physOfItem it)).bnuQueue = (s.cluster (s.physOfItem it)).bnuQueue ++ [m] ∧
      t.item slot = some y ∧ y.cmds = [n] ∧ n.slot = slot ∧ n.code = then_
    (∀ k b r, s.verbItem slot 0x0210 = some it → l.tr31ImportChecks it = .ok (k, b, r) →
      made (.tr31Import slot u) (importedKey it b r.1 r.2 2 (byteAt it.desc 0x38) (fld it.desc 0x30 8)
        (fld it.desc 0x3C 4)) (splits b.us b.mode) r.2) ∧
    (∀ a b p, s.verbItem slot 0x0211 = some it → l.tr31ExportChecks it = .ok (a, b, p) →
      block (.tr31Export slot u) p a.key b) ∧
    (∀ a b v p key, s.verbItem slot 0x0212 = some it → l.tr31TranslateChecks it = .ok (a, b, v, p, key) →
      block (.tr31Translate slot u) p key b) ∧
    (s.verbItem slot 0x0310 = some it →
      (∀ ca c, byteAt it.desc 0x30 = 0 → l.bindChecks it = .ok [] → l.bindCredentialChecks it = .ok (ca, c) →
        let key := c.pub.getD {}
        let signed := (tr34Verify ca c.tbs c.sig).status = 0
        let valid := ∃ now, l.calendar = some now ∧ c.notBefore ≤ now ∧ now < c.notAfter
        (key.ticketFit = false → ends (.tr34Bind ⟨slot, u⟩) 0x0A06 0 [] []) ∧
        (key.ticketFit = true → ¬signed → ends (.tr34Bind ⟨slot, u⟩) 0x0400 4 [] []) ∧
        (key.ticketFit = true → signed → ¬(valid ∧ c.keyEncipherment = true) → ends (.tr34Bind ⟨slot, u⟩) 0x0400 5 [] []) ∧
        (key.ticketFit = true → signed → valid → c.keyEncipherment = true → ends (.tr34Bind ⟨slot, u⟩) 0 0
          ((sha256 c.whole).take 16) (l.mkTicket it.slice 2 c.notAfter (sha256 c.whole) key))) ∧
      (∀ ks t cert, byteAt it.desc 0x30 = 1 ∨ byteAt it.desc 0x30 = 2 → l.bindChecks it = .ok ks →
        l.bindSignedChecks it (byteAt it.desc 0x30) ks = .ok (t, cert) →
        ends (.tr34Bind ⟨slot, u⟩) 0 0 [] (signedToken t (ks.headD {})).output)) ∧
    (∀ r, s.verbItem slot 0x0311 = some it → l.sendChecks it = .ok r →
      let refused := r.derived ≠ [] ∧ loadRefused (ingotAlg r.a.ingot) r.derived = true
      (refused → ends (.tr34Send ⟨slot, u⟩) 0x0205 0 [] []) ∧
      (¬refused → Reaches (.tr34Send ⟨slot, u⟩) s (fun t =>
        (r.token.cek = 2 ∧ t.item slot = s.item slot ∧ s.m.draws < t.m.draws) ∨
        ∃ raw iv seed, raw.length = cekLen r.token.cek ∧ iv.length = cekBlock r.token.cek ∧ seed.length = 32 ∧
          let key := if r.token.cek = 2 then oddParity raw else raw
          (r.token.cek = 2 → tdesDistinct key = true) ∧
          t.answer slot = some (0, 0, [], (signedToken { r.token with
            encKey := be r.krd.k (powMod (ofBE (oaepEncode 1 r.krd.k [] key seed)) r.krd.e r.krd.n), iv := iv
            cipher := cekEncipher r.token.cek key iv r.content } r.b).output) ∧ commands t 5 2))) ∧
    (∀ k kdh seg nonce t, s.verbItem slot 0x0312 = some it → l.receiveChecks it = .ok (k, kdh, seg, nonce) →
      l.tokenChecks it k kdh seg = .ok t →
      let signed := (tr34Verify kdh (Config.tokenSigned t) t.signature).status = 0
      let fresh := l.freshness (byteAt it.desc 0x39) (fld it.desc 0x3A 2) t nonce
      let r := oaepOut k 1 [] t.encKey
      let cek := r.output
      let opens := signed ∧ fresh = none ∧ r.status = 0
      let holds := opens ∧ cek.length = cekLen t.cek ∧ loadRefused (cekAlg t.cek) cek = false
      let tooStrong := fun (alg : Nat) (key : Bytes) =>
        min (strength 0x10 (ingotBits k.ingot)) (cekStrength t.cek) < strength alg (8 * key.length)
      (¬signed → ends (.tr34Receive ⟨slot, u⟩) 0x0400 1 [] []) ∧
      (∀ d, signed → fresh = some d → ends (.tr34Receive ⟨slot, u⟩) 0x0400 d [] []) ∧
      (signed → fresh = none → r.status ≠ 0 → ends (.tr34Receive ⟨slot, u⟩) r.status r.detail [] []) ∧
      (opens → cek.length ≠ cekLen t.cek → ends (.tr34Receive ⟨slot, u⟩) 0x020C 5 [] []) ∧
      (opens → cek.length = cekLen t.cek → loadRefused (cekAlg t.cek) cek = true →
        ends (.tr34Receive ⟨slot, u⟩) 0x0205 0 [] []) ∧
      (∀ e, holds → tokenKey t cek = .error e → ends (.tr34Receive ⟨slot, u⟩) e.1 e.2 [] []) ∧
      (∀ b alg key, holds → tokenKey t cek = .ok (b, alg, key) → tooStrong alg key →
        ends (.tr34Receive ⟨slot, u⟩) 0x0205 0 [] []) ∧
      (∀ b alg key, holds → tokenKey t cek = .ok (b, alg, key) → ¬tooStrong alg key →
        made (.tr34Receive ⟨slot, u⟩) { importedKey it b alg key 3 (byteAt it.desc 0x38) (fld it.desc 0x30 8)
          (fld it.desc 0x3C 4) with version := 0 } (splits b.us b.mode) key ∧
        Reaches (.tr34Receive ⟨slot, u⟩) s (fun x => commands x 3 6)))

/-- The BNU's verbs (R175–R193, R270–R276, R321): while the random source is in service, an item that passes its checks
issues one command, which waits behind those its BNU has, with the outcome its rule gives: a key pair that is drawn, the
signature, the verdict, the key of an agreed secret, the OAEP block or message, the certificate; an edge of the input or
a size, curve or exponent that is not supported is refused; the fifth failed draw of a nonce or scalar is left to the
command's end. -/
def Obligations.BnuVerbsCompute : Prop :=
  ∀ (s : State) (slot : Nat) (it : Item) (u : UnitReport), s.unitsClean it u → s.mea.rngHealthy = true →
    let l := s.lookUp it
    let p := s.physOfItem it
    let issued := fun (t : State) (code : Nat) (o : BnuOut) => ∃ m, m.slot = slot ∧ m.code = code ∧ m.ends = o.ends ∧
      m.failing = o.failing ∧ (t.cluster p).bnuQueue = (s.cluster p).bnuQueue ++ [m]
    let ends := fun (i : Instr) (code : Nat) (o : BnuOut) => Reaches i s (fun t =>
      t.answer slot = some (o.status, o.detail, [], o.output) ∧ issued t code o)
    (∀ t e, s.verbItem slot 0x0301 = some it → l.keypairChecks it = .ok (t, e) →
      let after := l.reach12 it [] (some (l.ew (bnuClass 3 (tAlg t) (tBits t))))
      let badExp := tAlg t = 0x10 ∧ (byteAt e 0 = 0 ∨ ofBE e % 2 = 0 ∨ (ofBE e ≠ 3 ∧ ofBE e < 65537))
      let pair := fun (r : State) (pub priv : Bytes) => ∃ idx id, (tCounted t = false → idx = 0xFFFFFFFF) ∧
        let ing := l.asymIngot (l.wrapKey it.slice) (ofTemplate it.slice 1 t) idx id pub priv
        r.answer slot = some (0, 0, creationResult ing 1, ing)
      let fifth := fun (r : State) => r.answer slot = some (0, 0, [], []) ∧ issued r 1 (drawsOut 4)
      (badExp → ends (.keypairGenerate slot) 1 sizeOut) ∧
      (∀ kp r, ¬badExp → after.keyPair (tAlg t) (tBits t) (ofBE e) e = (some kp, r) → kp.out.ends ≠ .draws →
        Reaches (.keypairGenerate slot) s (fun r => pair r kp.pub kp.priv ∧ issued r 1 kp.out)) ∧
      (∀ r, ¬badExp → after.keyPair (tAlg t) (tBits t) (ofBE e) e = (none, r) →
        Reaches (.keypairGenerate slot) s (fun x => x.m.draws = r.m.draws ∧ x.item slot = s.item slot)) ∧
      (tAlg t = 0x28 → Reaches (.keypairGenerate slot) s (fun r => fifth r ∨
        ∃ seed, seed.length = 32 ∧ (edSecret seed).1 % l25519 ≠ 0 ∧ pair r (edPublic seed) seed)) ∧
      (tAlg t = 0x29 → Reaches (.keypairGenerate slot) s (fun r =>
        ∃ seed, seed.length = 32 ∧ pair r (x25519 seed (9 :: zeros 31)) seed)) ∧
      (∀ c, tAlg t ≠ 0x10 → curveOf (tAlg t) = some c → Reaches (.keypairGenerate slot) s (fun r => fifth r ∨
        ∃ d, 1 ≤ d ∧ d < c.n ∧ pair r (c.pubBytes d) (be c.len d)))) ∧
    (∀ k, s.verbItem slot 0x0302 = some it → l.signChecks it = .ok k →
      let scheme := byteAt it.desc 0x30
      let hash := byteAt it.desc 0x31
      let key := rsaKeyOf k
      (ingotAlg k.ingot = 0x10 → scheme ≠ 2 →
        ends (.sign slot) 2 (key.out (ofBE (emsaPkcs1 hash key.pub.k it.input)))) ∧
      (ingotAlg k.ingot = 0x10 → scheme = 2 → Reaches (.sign slot) s (fun t => ∃ salt,
        salt.length = byteAt it.desc 0x32 ∧
        let o := key.out (ofBE (emsaPss hash (key.pub.bits - 1) it.input salt))
        t.answer slot = some (0, 0, [], o.output) ∧ issued t 2 o)) ∧
      (∀ c, ingotAlg k.ingot ≠ 0x10 → curveOf (ingotAlg k.ingot) = some c → Reaches (.sign slot) s (fun t =>
        t.answer slot = some (0, 0, [], []) ∧ issued t 2 (drawsOut 4) ∨
        ∃ n sig, n ≠ 0 ∧ sig = c.sign (ofBE k.key) n it.input ∧ sig.1 ≠ 0 ∧ sig.2 ≠ 0 ∧
          t.answer slot = some (0, 0, [], c.sigBytes sig))) ∧
      (ingotAlg k.ingot ≠ 0x10 → curveOf (ingotAlg k.ingot) = none →
        ends (.sign slot) 2 { output := edSign k.key it.input })) ∧
    (∀ ks v dig sig, s.verbItem slot 0x0303 = some it → l.verifyChecks it = .ok (ks, v, dig, sig) →
      let scheme := byteAt it.desc 0x30
      let o := verifyWith v scheme (byteAt it.desc 0x31) (byteAt it.desc 0x32) dig sig
      let known := v.supported 512 = true ∧ schemeSuits scheme v.alg = true
      (known → ks = [] ∨ o.status ≠ 0x0A04 → ends (.verify slot) 3 o) ∧
      (known → ks ≠ [] → o.status = 0x0A04 → ends (.verify slot) 3 { o with ends := .result, failing := some 1 }) ∧
      (¬known → ends (.verify slot) 3 sizeOut)) ∧
    (∀ k t peer info, s.verbItem slot 0x0304 = some it → l.ecdhChecks it = .ok (k, t, peer, info) →
      (∀ o, sharedSecret (ingotAlg k.ingot) k.key peer.data = .error o → ends (.ecdhDerive ⟨slot, u⟩) 4 o) ∧
      (∀ z, sharedSecret (ingotAlg k.ingot) k.key peer.data = .ok z →
        let raw := oneStepKdf z info (tBits t / 8)
        let key := if isTdes (tAlg t) then oddParity raw else raw
        (isTdes (tAlg t) = true → tdesDistinct key = false → ends (.ecdhDerive ⟨slot, u⟩) 4 { status := 0x0205 }) ∧
        (isTdes (tAlg t) = false ∨ tdesDistinct key = true → Reaches (.ecdhDerive ⟨slot, u⟩) s (fun r =>
          (∃ result output, r.answer slot = some (0, 0, result, output) ∧
            l.Wrote it (ofTemplate it.slice 5 t) (tSplit t) key result output) ∧ issued r 4 {})))) ∧
    (∀ v label m, s.verbItem slot 0x0305 = some it → l.oaepEncryptChecks it = .ok (v, label, m) →
      let known := v.alg = 0x10 ∧ v.supported 1024 = true
      (known → Reaches (.oaepEncrypt slot) s (fun t => ∃ seed, seed.length = hashBytes (byteAt it.desc 0x30) ∧
        t.answer slot = some (0, 0, [], be v.k (powMod
          (ofBE (oaepEncode (byteAt it.desc 0x30) v.k label m seed)) v.e v.n)) ∧ issued t 5 {})) ∧
      (¬known → ends (.oaepEncrypt slot) 5 sizeOut)) ∧
    (∀ k label c, s.verbItem slot 0x0306 = some it → l.oaepDecryptChecks it = .ok (k, label, c) →
      ends (.oaepDecrypt slot) 6 (oaepOut k (byteAt it.desc 0x30) label c)) ∧
    (∀ k r, s.verbItem slot 0x0605 = some it → l.emvCertChecks it = .ok (k, r) →
      let key := rsaKeyOf k
      let v := ofBE r.1
      (key.pub.n ≤ v → ends (.emvCertSign slot) 2 (edgeOut 0x0A03)) ∧
      (v < key.pub.n → v ≤ 1 ∨ v = key.pub.n - 1 → ends (.emvCertSign slot) 2 (edgeOut 0x0A02)) ∧
      (v < key.pub.n → 1 < v → v ≠ key.pub.n - 1 → Reaches (.emvCertSign slot) s (fun t =>
        t.answer slot = some (0, 0, le 2 r.2 ++ zeros 14, be (ingotBits k.ingot / 8) (key.apply v)) ∧
        issued t 2 (key.out v))))

/-- The PIN verbs (R157, R287–R308): a TDES key of equal parts that a DUKPT source derives is refused and counts nothing; a
block whose clear field does not read is refused; translation writes the same PIN
under the other key; verification compares with the reference and counts a failure of its tag, clears the count where
it verifies, and locks the tag at the limit; generation and change answer the reference of the PIN. -/
def Obligations.PinVerbsWork : Prop :=
  ∀ (s : State) (slot : Nat) (it : Item) (u : UnitReport), s.unitsClean it u →
    let l := s.lookUp it
    let n := it.slice
    let ends := fun (i : Instr) (st dt : Nat) (result output : Bytes) =>
      Reaches i s (fun t => t.answer slot = some (st, dt, result, output))
    let pinOf := fun (src : PinSource) (b : KeyVal) => readPin src.fmt (clearPin src.fmt src.pan (pinKey src b) src.block)
    (∀ a b p, s.verbItem slot 0x0401 = some it → l.pinTranslateChecks it = .ok (a, b, p) →
      let dst := byteAt it.desc 0x30
      (pinRefused p a = true → ends (.pinTranslate slot u) 0x0205 0 [] []) ∧
      (pinRefused p a = false → pinOf p a = none → ends (.pinTranslate slot u) 0x0109 0 [] []) ∧
      (∀ pin, pinRefused p a = false → pinOf p a = some pin →
        (dst = 0 → ends (.pinTranslate slot u) 0 0 [] (writePin 0 p.pan pin b.key [])) ∧
        (dst ≠ 0 → s.mea.rngHealthy = true → Reaches (.pinTranslate slot u) s (fun t => ∃ rand, rand.length = 16 ∧
          t.answer slot = some (0, 0, [], writePin dst p.pan pin b.key rand))))) ∧
    (∀ (i : Instr) (code : Nat) (usg : String), i = .pinVerifyPvv slot u ∧ code = 0x0402 ∧ usg = "V2" ∨
        i = .pinVerifyOffset slot u ∧ code = 0x0403 ∧ usg = "V1" →
      ∀ a b src p, s.verbItem slot code = some it → l.pinVerifyChecks it usg = .ok (a, b, src, p) →
        let tag := l.panTag n src.panField
        l.tagHeld n tag slot = false → (l.slice n).lockouts = [] →
        (pinRefused src b = true → Reaches i s (fun t => t.answer slot = some (0x0205, 0, [], []) ∧
          t.failsOf n tag = l.failsOf n tag)) ∧
        (∀ pin, pinRefused src b = false → pinOf src b = some pin → pinVerifies p a.key src.pan pin = true → Reaches i s (fun t =>
          t.answer slot = some (0, 0, [], []) ∧ (p.tryLimit ≠ 0 → t.failsOf n tag = 0))) ∧
        (pinRefused src b = false →
          pinOf src b = none ∨ (∃ pin, pinOf src b = some pin ∧ pinVerifies p a.key src.pan pin = false) →
          Reaches i s (fun t => t.answer slot = some (if pinOf src b = none then 0x0109 else 0x0403, 0, [], []) ∧
            t.failsOf n tag = (if p.tryLimit = 0 then l.failsOf n tag else sat 4 (l.failsOf n tag + 1)) ∧
            (p.tryLimit ≠ 0 → p.tryLimit ≤ sat 4 (l.failsOf n tag + 1) →
              (tag, l.rtcSec + p.lockS) ∈ (t.slice n).lockouts) ∧
            (sat 4 (l.failsOf n tag + 1) < p.tryLimit → (t.slice n).lockouts = [])))) ∧
    (∀ (i : Instr) (code : Nat) (usg : String), i = .pvvGenerate slot u ∧ code = 0x0404 ∧ usg = "V2" ∨
        i = .offsetGenerate slot u ∧ code = 0x0405 ∧ usg = "V1" →
      ∀ a b src p, s.verbItem slot code = some it → l.pinGenerateChecks it usg = .ok (a, b, src, p) →
        (pinRefused src b = true → ends i 0x0205 0 [] []) ∧
        (pinRefused src b = false → pinOf src b = none → ends i 0x0109 0 [] []) ∧
        (∀ pin, pinRefused src b = false → pinOf src b = some pin →
          (p.offset = true → pin.length < p.sel → ends i 0x0109 0 [] []) ∧
          (p.offset = false ∨ p.sel ≤ pin.length → ends i 0 0 (refResult (refOf p a.key src.pan pin)) []))) ∧
    (∀ a b src p, s.verbItem slot 0x0406 = some it → l.pinChangeChecks it = .ok (a, b, src, p) →
      l.tagHeld n (l.panTag n src.panField) slot = false → (l.slice n).lockouts = [] →
      let fresh := readPin src.fmt (clearPin src.fmt src.pan (pinKey src b) (sub it.input 0x50 (blockLen src.fmt)))
      (pinRefused src b = true → ends (.pinChange slot u) 0x0205 0 [] []) ∧
      (pinRefused src b = false → pinOf src b = none → ends (.pinChange slot u) 0x0109 0 [] []) ∧
      ∀ old, pinRefused src b = false → pinOf src b = some old →
        (pinVerifies p a.key src.pan old = false → ends (.pinChange slot u) 0x0403 0 [] []) ∧
        (pinVerifies p a.key src.pan old = true → fresh = none → ends (.pinChange slot u) 0x0109 0x50 [] []) ∧
        (∀ pin, pinVerifies p a.key src.pan old = true → fresh = some pin → p.offset = true → pin.length < p.sel →
          ends (.pinChange slot u) 0x0109 0x50 [] []) ∧
        (∀ pin, pinVerifies p a.key src.pan old = true → fresh = some pin → p.offset = false ∨ p.sel ≤ pin.length →
          ends (.pinChange slot u) 0 0 (refResult (refOf p a.key src.pan pin)) [])) ∧
    (s.verbItem slot 0x0407 = some it → l.tryStatusChecks it = .ok () →
      let tag := l.panTag n (sub it.input 0 10)
      (byteAt it.desc 0x30 = 0 → Reaches (.pinTryStatus slot u) s (fun t =>
        t.answer slot = some (0, 0, l.tryStatus n tag, []) ∧ t.failsOf n tag = l.failsOf n tag)) ∧
      (byteAt it.desc 0x30 = 1 → Reaches (.pinTryStatus slot u) s (fun t =>
        t.answer slot = some (0, 0, l.tryStatus n tag, []) ∧ t.failsOf n tag = 0 ∧
        ∀ x ∈ (t.slice n).lockouts, x.1 ≠ tag)))

/-- The card verbs (R157, R309–R320): the static and dynamic values and their comparison, the card key as an ingot or a key
block, the cryptogram with its response, and issuer scripts; a TDES card or session key with equal halves is refused. -/
def Obligations.CardVerbsWork : Prop :=
  ∀ (s : State) (slot : Nat) (it : Item) (u : UnitReport), s.unitsClean it u →
    let l := s.lookUp it
    let ends := fun (i : Instr) (st : Nat) (result output : Bytes) =>
      Reaches i s (fun t => t.answer slot = some (st, 0, result, output))
    (∀ k v w, s.verbItem slot 0x0501 = some it → l.cvvChecks it false = .ok (k, v, w) →
      ends (.cvvGenerate slot u) 0 (v ++ zeros 13) []) ∧
    (∀ k v w, s.verbItem slot 0x0502 = some it → l.cvvChecks it true = .ok (k, v, w) →
      ends (.cvvVerify slot u) (if v = w then 0 else 0x0404) [] []) ∧
    (∀ k c w, s.verbItem slot 0x0503 = some it → l.dcvvChecks it false = .ok (k, c, w) →
      match cardWorking (ingotAlg k.ingot) k.key c with
      | none => ends (.dcvvGenerate slot u) 0x0205 [] []
      | some m => ends (.dcvvGenerate slot u) 0 (dcvvOf (ingotAlg k.ingot) m c.pan c.atc (sub it.input 0x10 4)
          (sub it.input 0x14 2) ++ zeros 13) []) ∧
    (∀ k c w, s.verbItem slot 0x0504 = some it → l.dcvvChecks it true = .ok (k, c, w) →
      match cardWorking (ingotAlg k.ingot) k.key c with
      | none => ends (.dcvvVerify slot u) 0x0205 [] []
      | some m => ends (.dcvvVerify slot u) (if dcvvOf (ingotAlg k.ingot) m c.pan c.atc (sub it.input 0x10 4)
          (sub it.input 0x14 2) = w then 0 else 0x0404) [] []) ∧
    (∀ ks c, s.verbItem slot 0x0601 = some it → l.masterChecks it = .ok (ks, c) →
      let a := ks.headD {}
      let b := ks.getD 1 {}
      match cardWorking (ingotAlg a.ingot) a.key { c with session := 0 } with
      | none => ends (.emvMkDerive slot u) 0x0205 [] []
      | some mk => s.mea.rngHealthy = true →
        (byteAt it.desc 0x30 = 1 → Reaches (.emvMkDerive slot u) s (fun t => ∃ rand, rand.length = 64 ∧
          t.answer slot = some (0, 0, [], writeBlock (masterPlan a.ingot (byteAt it.desc 0x31) (sub it.desc 0x32 2)) mk
            (ingotAlg b.ingot) b.key l.calOr0 rand))) ∧
        (byteAt it.desc 0x30 = 0 → Reaches (.emvMkDerive slot u) s (fun t => ∃ result output,
          t.answer slot = some (0, 0, result, output) ∧ l.Wrote it
            { slice := it.slice, alg := ingotAlg a.ingot, attr := 8, mods := b2n (ingExportable a.ingot), origin := 5
              bits := ingotBits a.ingot, us := ingUsage a.ingot, mode := chr 'X', notBefore := ingNotBefore a.ingot
              notAfter := ingNotAfter a.ingot } false mk result output))) ∧
    (∀ k c segs, s.verbItem slot 0x0602 = some it → l.arqcChecks it = .ok (k, c, segs) →
      let seg := fun (i : Nat) => (segs.getD i (0, [])).2
      match cardWorking (ingotAlg k.ingot) k.key c with
      | none => ends (.emvArqcVerify slot u) 0x0205 [] []
      | some w =>
        (emvMac (ingotAlg k.ingot) w (seg 2) ≠ seg 1 → ends (.emvArqcVerify slot u) 0x0402 [] []) ∧
        (emvMac (ingotAlg k.ingot) w (seg 2) = seg 1 → ends (.emvArqcVerify slot u) 0 []
          (arpcOf (byteAt it.desc 0x30) (ingotAlg k.ingot) w (seg 1) (seg 3)))) ∧
    (∀ k c m, s.verbItem slot 0x0603 = some it → l.scriptMacChecks it = .ok (k, c, m) →
      match cardWorking (ingotAlg k.ingot) k.key c with
      | none => ends (.emvScriptMac slot u) 0x0205 [] []
      | some w => ends (.emvScriptMac slot u) 0 [] ((emvMac (ingotAlg k.ingot) w m).take (byteAt it.desc 0x30))) ∧
    (∀ ks c data p, s.verbItem slot 0x0604 = some it → l.scriptEncryptChecks it = .ok (ks, c, data, p) →
      let a := ks.headD {}
      let alg := ingotAlg a.ingot
      let text := fun (w d : Bytes) => scriptEncrypt alg w (byteAt it.desc 0x30 == 1)
        (if byteAt it.desc 0x31 = 1 then pad2 (if isTdes alg then 8 else 16) d else d)
      let refused := (byteAt it.desc 0x32 = 1 ∧ pinRefused p (ks.getD 1 {}) = true) ∨ cardWorking alg a.key c = none
      (refused → ends (.emvScriptEncrypt slot u) 0x0205 [] []) ∧
      (∀ w, ¬refused → cardWorking alg a.key c = some w → byteAt it.desc 0x32 = 0 →
        ends (.emvScriptEncrypt slot u) 0 [] (text w data)) ∧
      (∀ w, ¬refused → cardWorking alg a.key c = some w → byteAt it.desc 0x32 = 1 →
        match readPin p.fmt (clearPin p.fmt p.pan (pinKey p (ks.getD 1 {})) p.block) with
        | none => ends (.emvScriptEncrypt slot u) 0x0109 [] []
        | some pin => ends (.emvScriptEncrypt slot u) 0 [] (text w (packNibbles (pinField 2 pin [])))))

/-- The data verbs (R331, R333–R347): what each writes of its input, undefined where OUT_ADDR overlaps the input
(R331); MAC and HMAC compare what they compute with what they are given; RANDOM answers as many bytes as asked. -/
def Obligations.DataVerbsWork : Prop :=
  ∀ (s : State) (slot : Nat) (it : Item) (u : UnitReport), s.unitsClean it u →
    let l := s.lookUp it
    let ends := fun (i : Instr) (st : Nat) (result : Bytes) => Reaches i s (fun t => t.answer slot = some (st, 0, result, []))
    let writes := fun (i : Instr) (inPlace : Option Nat) (want : Bytes) => Reaches i s (fun t => ∃ out,
      t.answer slot = some (0, 0, [], out) ∧ Written it inPlace want out)
    let mode := byteAt it.desc 0x30
    let ivGen := bit (byteAt it.desc 0x32) 0
    (∀ k segs, s.verbItem slot 0x0701 = some it → l.dataChecks it true = .ok (k, segs) →
      (ivGen = true → s.mea.rngHealthy = true) →
      let alg := ingotAlg k.ingot
      let seg := fun (i : Nat) => segs.getD i (0, [])
      Reaches (.dataEncrypt slot u) s (fun t => ∃ iv out,
        (ivGen = false → iv = (seg 0).2) ∧ (ivGen = true → iv.length = (if mode = 3 then 12 else cipherBlock alg)) ∧
        t.answer slot = some (0, 0, if ivGen then fit 16 iv else zeros 16, out) ∧
        let g := gcmEnc k.key iv (seg 1).2 (seg 2).2
        Written it (some (seg 2).1) (if mode = 3 then g.1 ++ g.2.take (byteAt it.desc 0x31)
          else dataCrypt mode alg k.key iv (seg 2).2 true) out)) ∧
    (∀ k segs, s.verbItem slot 0x0702 = some it → l.dataChecks it false = .ok (k, segs) → ivGen = false →
      let alg := ingotAlg k.ingot
      let seg := fun (i : Nat) => segs.getD i (0, [])
      (mode ≠ 3 → Reaches (.dataDecrypt slot u) s (fun t => ∃ out, t.answer slot = some (0, 0, zeros 16, out) ∧
        Written it (some (seg 2).1) (dataCrypt mode alg k.key (seg 0).2 (seg 2).2 false) out)) ∧
      (mode = 3 → match gcmDec k.key (seg 0).2 (seg 1).2 (seg 2).2 (seg 3).2 with
        | none => ends (.dataDecrypt slot u) 0x0401 []
        | some p => Reaches (.dataDecrypt slot u) s (fun t => ∃ out, t.answer slot = some (0, 0, zeros 16, out) ∧
            Written it (some (seg 2).1) p out))) ∧
    (∀ k segs, s.verbItem slot 0x0703 = some it → l.p2peChecks it = .ok (k, segs) →
      let scheme := byteAt it.desc 0x30
      let alg := byteAt it.desc 0x32
      let key := dukptWorking scheme k.ingot k.key (sub it.desc 0x34 (ksnLen scheme)) 7 alg false
      let start := if byteAt it.desc 0x33 = 1 then (segs.headD (0, [])).2 else zeros (cipherBlock alg)
      (loadRefused alg key = true → ends (.p2peDecrypt slot u) 0x0205 []) ∧
      (loadRefused alg key = false → writes (.p2peDecrypt slot u) (some (segs.getD 1 (0, [])).1)
        (dataCrypt (byteAt it.desc 0x31) alg key start (segs.getD 1 (0, [])).2 false))) ∧
    (∀ k, s.verbItem slot 0x0720 = some it → l.blockRawChecks it = .ok k →
      ends (.blockRaw slot u) 0 (fit 16 (if ingAttr k.ingot = 1 then encBlock (ingotAlg k.ingot) k.key it.input
        else decBlock (ingotAlg k.ingot) k.key it.input))) ∧
    (∀ k data w, s.verbItem slot 0x0710 = some it → l.macChecks it false = .ok (k, data, w) →
      ends (.macGenerate slot u) 0 (fit 16 ((macOf k.ingot k.key data (byteAt it.desc 0x30)).take (byteAt it.desc 0x31)))) ∧
    (∀ k data w, s.verbItem slot 0x0711 = some it → l.macChecks it true = .ok (k, data, w) →
      ends (.macVerify slot u) (if (macOf k.ingot k.key data (byteAt it.desc 0x30)).take (byteAt it.desc 0x31) = w then 0
        else 0x0401) []) ∧
    (∀ n f, s.verbItem slot 0x0801 = some it → l.digestChecks it = .ok (n, f) →
      writes (.digest slot u) none (f (fit (dInLen it.desc) it.input))) ∧
    (∀ (verify : Bool) g k data w, s.verbItem slot (if verify then 0x0803 else 0x0802) = some it →
      l.hmacChecks it verify = .ok (g, k, data, w) →
      let h := byteAt it.desc 0x30
      let states := if byteAt it.desc 0x32 = 0xFF then hmacStates h k.key else (g.states.drop (2 * (h - 1))).take 2
      let mac := (hmacFrom h states data).take (byteAt it.desc 0x31)
      (verify = false → writes (.hmacGenerate slot u) none mac) ∧
      (verify = true → ends (.hmacVerify slot u) (if mac = w then 0 else 0x0401) [])) ∧
    (∀ (enc : Bool) k x, s.verbItem slot (if enc then 0x0810 else 0x0811) = some it → l.ff1Checks it enc = .ok (k, x) →
      let text := (ff1 k.key (sub it.input 4 (byteAt it.input 2)) (byteAt it.desc 0x30) x enc).map numeralChar
      (enc = true → writes (.ff1Tokenize slot u) none text) ∧ (enc = false → writes (.ff1Detokenize slot u) none text)) ∧
    (∀ n, s.verbItem slot 0x0820 = some it → l.randomChecks it = .ok n →
      (s.mea.rngHealthy = true → Reaches (.random slot u) s (fun t => ∃ out, out.length = n ∧
        t.answer slot = some (0, 0, [], out))) ∧
      (s.mea.rngHealthy = false → Reaches (.random slot u) s (fun t => t.answer slot = some (0x0C01, 1, [], []))))

/-- The life of a slice (R24, R374, R377–R379, R383, R386, R392): created ACTIVE with a new key, or held beside earlier
requests while its number drains; attached with the parameters of its input, or held while it detaches, in place of an
earlier request, which ends QUEUE_CLOSED; detached; deleted once drained, held creations ending QUEUE_CLOSED; its
generation raised with its older keys gone from the caches; frozen once drained; thawed. Each answers 0. -/
def Obligations.SlicesLive : Prop :=
  ∀ (s : State) (slot n : Nat) (it : Item), (∀ x ∈ s.tnd.items, x.slot = slot → x = it) → it.slice ≠ n →
    s.tnd.blocked = [] →
    let done := fun (t : State) => t.answer slot = some (0, 0, [], [])
    let x := s.slice n
    (s.verbItem slot 0x0901 = some it → s.sliceChecks it [0, 2, 9] s.createPre noRoom = .ok n → s.mea.rngHealthy = true →
      (x.state ≠ 2 → Reaches (.sliceCreate slot) s (fun t => done t ∧ (t.slice n).state = 1 ∧ (t.slice n).generation = 1 ∧
        (t.slice n).attached = false ∧ ∃ key, key.length = 32 ∧ (t.slice n).wrapped = kwpWrap s.sliceKey key)) ∧
      (x.state = 2 → (∃ y ∈ s.tnd.items, y.slice = n ∧ y.heldOrder = none) →
        Reaches (.sliceCreate slot) s (fun t => done t ∧ (t.slice n).state = 2 ∧
          (t.slice n).heldCreate = x.heldCreate ++ [slot])) ∧
      (x.state = 2 → (∀ y ∈ s.tnd.items, y.slice = n → y.heldOrder ≠ none) → (∀ b ∈ s.queues.batches, b.qid / 64 ≠ n) →
        Reaches (.sliceCreate slot) s (fun t => done t ∧ (t.slice n).state = 1 ∧ (t.slice n).generation = 1))) ∧
    (s.verbItem slot 0x0902 = some it → s.sliceChecks it [1, 8, 3, 4, 5, 6] s.attachPre noRoom = .ok n →
      (x.detaching = false → Reaches (.sliceAttach slot) s (fun t => done t ∧ (t.slice n).attached = true ∧
        (t.slice n).pasid = bits (fld it.input 0 4) 0 20 ∧ (t.slice n).vecBase = fld it.input 16 2 ∧
        (t.slice n).vecCount = fld it.input 18 2 ∧ (t.slice n).countBase = fld it.input 20 4 ∧
        (t.slice n).countQuota = fld it.input 24 4 ∧ (t.slice n).statusAddr = fld it.input 32 8 ∧
        (t.slice n).min = (if fld it.input 4 4 = 0 then s.pat.minSlots else fld it.input 4 4) ∧
        (t.slice n).cap = (if fld it.input 8 4 = 0 then s.pat.capSlots else fld it.input 8 4) ∧
        (t.slice n).state = x.state ∧ (t.slice n).generation = x.generation)) ∧
      (x.detaching = true → Reaches (.sliceAttach slot) s (fun t => done t ∧
        (t.slice n).heldAttach = some (slot, it.input) ∧ (t.slice n).detaching = true ∧
        ∀ i d y, x.heldAttach = some (i, d) → i ≠ slot → s.item i = some y → t.answer i = some (0x0C03, 0, [], [])))) ∧
    (s.verbItem slot 0x0903 = some it → s.detachChecks it = .ok n → x.heldAttach = none →
      Reaches (.sliceDetach slot) s (fun t => done t ∧
        ((t.slice n).attached = false ∨ (t.slice n).detaching = true))) ∧
    (s.verbItem slot 0x0904 = some it → s.sliceChecks it [1, 2, 3, 4, 5, 6, 8, 9] noPre noRoom true = .ok n →
      x.heldAttach = none → Reaches (.sliceDelete slot) s (fun t => done t ∧
        ((t.slice n).state = 0 ∨ (t.slice n).state = 2) ∧
        ∀ i y, i ∈ x.heldCreate → i ≠ slot → s.item i = some y → y.slice ≠ n → t.answer i = some (0x0C03, 0, [], []))) ∧
    (s.verbItem slot 0x0905 = some it → s.sliceChecks it [1, 8] s.generationPre noRoom = .ok n →
      Reaches (.sliceGeneration slot) s (fun t => done t ∧ (t.slice n).generation = x.generation + 1 ∧
        (t.slice n).state = x.state ∧ (t.slice n).notice = 9 ∧
        ∀ c ∈ t.fabric.clusters, (∀ k ∈ c.keys, k.slice ≠ n) ∧ (∀ k ∈ c.sbuKeys, k.slice ≠ n))) ∧
    (s.verbItem slot 0x0910 = some it → s.sliceChecks it [1] noPre noRoom = .ok n → x.mirrorPeer = [] →
      x.heldAttach = none → Reaches (.sliceFreeze slot) s (fun t => done t ∧
        ((t.slice n).state = 3 ∨ (t.slice n).state = 4) ∧ (t.slice n).generation = x.generation)) ∧
    (s.verbItem slot 0x0916 = some it → s.sliceChecks it [4, 5] noPre noRoom = .ok n →
      Reaches (.sliceThaw slot) s (fun t => done t ∧ (t.slice n).state = 1 ∧ (t.slice n).notice = 4 ∧
        (t.slice n).carried = none ∧ (t.slice n).peerKey = [] ∧ (t.slice n).generation = x.generation))

/-- Migration and mirroring of a slice (R387–R391, R397, R400, R401): an offer is made, an image saved under it and
restored from it, the source's copy discarded for a certificate that a resubmission gets again, the copy activated by
it; the record set goes to a mirror peer, which takes over after two leases, and a fenced owner returns. -/
def Obligations.SlicesMove : Prop :=
  ∀ (s : State) (slot n : Nat) (it : Item), (∀ x ∈ s.tnd.items, x.slot = slot → x = it) →
    let x := s.slice n
    let d := it.input
    let done := fun (t : State) => t.answer slot = some (0, 0, [], [])
    (s.verbItem slot 0x0911 = some it → s.sliceChecks it [0] noPre (fun _ => 264) = .ok n → s.slc.offers.length < 16 →
      s.mea.rngHealthy = true → Reaches (.sliceOffer slot) s (fun t => (t.slice n).state = 10 ∧
        ∃ o out, t.slc.offers = s.slc.offers ++ [o] ∧ o.slice = n ∧ o.since = s.m.now ∧
          t.answer slot = some (0, 0, [], out) ∧ out.take 24 = objectHead 0x464F4C53 n ++ fit 16 s.fuses.serial ∧
          sub out 24 16 = o.id)) ∧
    (let r := s.ensureCerts
      ∀ o idCert attCert key, r.verbItem slot 0x0912 = some it →
      r.sliceChecks it [4] savePre (fun k => imageLen (r.bodyLen k) r.ownChain.length) = .ok n →
      saveInput it n = .ok (o, idCert, attCert) → r.attestedKey idCert attCert = some key →
      signedUnder key o = true → byteAt o 0x28 = 5 → cmacAes r.proofKey (o.take 0x98) = sub o 0x98 16 →
      r.mea.rngHealthy = true → (p384Shared r.drawP384.1 (sub o 0x30 97)).isSome = true →
      Reaches (.sliceSave slot) s (fun t => ∃ image, t.answer slot = some (0, 0, [], image) ∧
        (t.slice n).state = 5 ∧ (t.slice n).peerKey = key ∧ (t.slice n).offerId = sub o 0x18 16 ∧
        (t.slice n).imageDigest = sha384 image ∧ ∀ c ∈ t.fabric.clusters, ∀ k ∈ c.keys, k.slice ≠ n)) ∧
    (∀ o key z p b, s.verbItem slot 0x0913 = some it →
      s.sliceChecks it (List.range 11) s.restorePre (fun _ => 200) = .ok n →
      s.slc.offers.find? (fun q => q.slice == n && q.id == sub d 0x30 16) = some o → fld d 6 2 = n →
      sub d 0x20 16 = fit 16 s.fuses.serial → s.imageSigner d = some key → p384Shared o.priv (sub d 0x40 97) = some z →
      gcmDec (transferKey z (sub d 0x10 16) (fit 16 s.fuses.serial) o.id) (sub d 0xA4 12) (d.take 0xB0)
        (sub d 0xB0 (fld d 0xC 4)) (sub d (0xB0 + fld d 0xC 4) 16) = some p → readBody n p = some b →
      (∀ y ∈ s.slc.slices, y.number = n ∨ y.state = 0 ∨
        rangesMeet b.record.countBase b.record.countQuota y.countBase y.countQuota = false) →
      (∀ c ∈ b.counted, ∀ e ∈ s.kst.counted, e.index ≠ c.index) → Reaches (.sliceRestore slot) s (fun t =>
        (t.slice n).state = 6 ∧ (t.slice n).epoch = b.record.epoch ∧ (t.slice n).generation = b.record.generation ∧
        (t.slice n).wrapped = kwpWrap s.sliceKey b.record.key ∧ (t.slice n).carried = some b.carried ∧
        (t.slice n).peerKey = key ∧ (t.slice n).offerId = o.id ∧
        (∀ q ∈ t.slc.offers, q.slice ≠ n) ∧ t.kst.counted = b.counted.map s.sealCount ++ s.kst.counted ∧
        ∃ out, t.answer slot = some (0, 0, [], out))) ∧
    (s.verbItem slot 0x0914 = some it → s.sliceChecks it [5, 9] noPre (fun _ => 224) = .ok n →
      let good := fld d 0 4 = 0x43524C53 ∧ fld d 4 2 = 1 ∧ fld d 6 2 = n ∧ sub d 0x18 16 = x.offerId ∧
        sub d 0x28 48 = x.imageDigest ∧ signedUnder x.peerKey d = true
      (x.state = 5 → good → Reaches (.sliceDiscard slot) s (fun t => (t.slice n).state = 9 ∧ (t.slice n).wrapped = [] ∧
        (t.slice n).countQuota = 0 ∧ t.answer slot = some (0, 0, [], (t.slice n).release) ∧
        (∀ c ∈ t.kst.counted, c.slice ≠ n) ∧ ∀ q ∈ t.queues.ctxs, q.qid / 64 ≠ n)) ∧
      (x.state = 9 → good → Reaches (.sliceDiscard slot) s (fun t =>
        t.answer slot = some (0, 0, [], x.release) ∧ (t.slice n).state = 9)) ∧
      (x.state = 5 → ¬good → Reaches (.sliceDiscard slot) s (fun t =>
        t.answer slot = some (0x0E05, 0, [], []) ∧ (t.slice n).state = 5))) ∧
    (∀ c rs, s.verbItem slot 0x0915 = some it → s.sliceChecks it [6] s.activatePre noRoom = .ok n →
      s.activateInput it n = .ok (c, rs) → x.attached = true →
      fld c 0 4 = 0x4C524C53 → fld c 4 2 = 1 → fld c 6 2 = n → sub c 0x18 16 = fit 16 s.fuses.serial →
      sub c 0x28 16 = x.offerId → sub c 0x38 48 = x.imageDigest → cmacAes s.proofKey (c.take 0x70) = sub c 0x70 16 →
      signedUnder x.peerKey c = true → Reaches (.sliceActivate slot) s (fun t => done t ∧ (t.slice n).state = 1 ∧
        (t.slice n).epoch = fld c 0x68 4 ∧ (t.slice n).carried = none ∧
        (t.slice n).lockouts = x.lockouts.map (fun l => (l.1, s.rtcSec + l.2)))) ∧
    (s.verbItem slot 0x0920 = some it → s.sliceChecks it [1] noPre noRoom = .ok n →
      Reaches (.sliceMirror slot none) s (fun t => done t ∧ (t.slice n).mirrorPeer = [] ∧ (t.slice n).state = x.state) ∧
      (∀ p, (s.portTo p).isSome = true → Reaches (.sliceMirror slot (some p)) s (fun t => done t ∧
        (∃ y, t.item slot = some y ∧ Wait.mirror ∈ y.waits) ∧ ∃ w ∈ t.ngl.mirrorWaits, w.slice = n ∧ w.item = slot ∧
          w.peer = p)) ∧
      (∀ p, s.portTo p = none → Reaches (.sliceMirror slot (some p)) s (fun t =>
        t.answer slot = some (0x0E07, 0, [], []) ∧ t.slc = s.slc))) ∧
    (s.verbItem slot 0x0921 = some it → s.sliceChecks it [7] noPre noRoom = .ok n →
      let seen := (s.ngl.peerSeen.lookup x.mirrorPeer).getD s.stage.t0
      (2 * s.pat.leaseMs * 4000 ≤ s.m.now - seen → Reaches (.mirrorTakeover slot) s (fun t => done t ∧
        (t.slice n).state = 1 ∧ (t.slice n).epoch = (x.epoch + 1) % 2 ^ 32 ∧ (t.slice n).mirrorPeer = [] ∧
        (t.slice n).formerOwner = x.mirrorPeer)) ∧
      (s.m.now - seen < 2 * s.pat.leaseMs * 4000 → Reaches (.mirrorTakeover slot) s (fun t =>
        t.answer slot = some (0x0E01, 0x200, [], []) ∧ (t.slice n).state = 7))) ∧
    (s.verbItem slot 0x0922 = some it → s.sliceChecks it [8] noPre noRoom = .ok n → (s.portTo x.mirrorPeer).isSome = true →
      ((∃ r, x.peerReport = some r ∧ r.2 = x.epoch) → Reaches (.sliceUnfence slot) s (fun t => done t ∧
        (t.slice n).state = 1 ∧ (t.slice n).epoch = x.epoch)) ∧
      (x.peerReport = none → Reaches (.sliceUnfence slot) s (fun t => t.answer slot = some (0x0E01, 8, [], []) ∧
        (t.slice n).state = 8)))

/-- PATTERN_STAGE and its flash operations (R75, R88–R90, R92): an item that passes its checks begins with the erase of the
other slot's first block; every block is erased, then every page programmed, each after a write enable and with the
status read, a further piece of the image being read from host memory when the last one is used up; after the last page
the slot is read back and the run is over; an operation that outlasts its timeout ends it with its flash address; a
Quench ends it at the end of the block or page in progress. -/
def Obligations.PatternStages : Prop :=
  ∀ s : State, s.tam.clockLost = false →
    let runs := fun (t : State) (x : StageRun) => t.pat.staging = some { x with since := s.m.now }
    let flash := fun (t : State) (x : StageRun) (op : FlashOp) => t.m.out =
      .flash (.status8d x.cfg.statusCmd) :: .flash op :: .flash (.wren8d x.cfg.wrenCmd) :: s.m.out
    (∀ slot it x, s.verbItem slot 0x0130 = some it → s.stageChecks it = .ok x → Reaches (.patternStage slot) s (fun t =>
      runs t x ∧ flash t x (.erase8d x.cfg.eraseCmd (slotBase x.firmware x.slotB)) ∧ t.pat.stageProgress = 0 ∧
      x.item = it.slot ∧ x.slotB = (if x.firmware then !s.stage.fwSlot else !s.stage.patSlot) ∧
      t.per.actPattern = s.per.actPattern ∧ t.per.actFirmware = s.per.actFirmware)) ∧
    (∀ x r, s.pat.staging = some x → x.pieceDue = false →
      let base := slotBase x.firmware x.slotB
      let page := fun (k : Nat) => FlashOp.program8d x.cfg.programCmd (base + 256 * k)
        (sub x.image (256 * k) (min 256 (x.image.length - 256 * k)))
      let wants := fun (t : State) (y : StageRun) => t.pat.staging = some { y with pieceDue := true } ∧
        (s.host.linkUp = true → s.host.d3hot = false →
          t.m.out = .dmaRead 0 (x.inAddr + x.image.length) (min 65536 (x.inLen - x.image.length)) :: s.m.out)
      let programmed := min (256 * (x.done + 1)) x.image.length
      (x.aborting = false → x.phase = 0 → x.done + 1 < slotSize x.firmware / 65536 →
        Reaches (.flashOperationComplete r) s (fun t => runs t { x with done := x.done + 1 } ∧
          flash t x (.erase8d x.cfg.eraseCmd (base + 65536 * (x.done + 1))))) ∧
      (x.aborting = false → x.phase = 0 → slotSize x.firmware / 65536 ≤ x.done + 1 →
        Reaches (.flashOperationComplete r) s (fun t => wants t { x with phase := 1, done := 0 })) ∧
      (x.aborting = false → x.phase ≠ 0 → 256 * (x.done + 1) < x.image.length →
        Reaches (.flashOperationComplete r) s (fun t => runs t { x with done := x.done + 1 } ∧
          flash t x (page (x.done + 1)) ∧ t.pat.stageProgress = programmed)) ∧
      (x.aborting = false → x.phase ≠ 0 → x.image.length ≤ 256 * (x.done + 1) → x.image.length < x.inLen →
        Reaches (.flashOperationComplete r) s (fun t => wants t { x with done := x.done + 1 } ∧
          t.pat.stageProgress = programmed)) ∧
      (∀ it, x.aborting = false → x.phase ≠ 0 → x.image.length ≤ 256 * (x.done + 1) → x.inLen ≤ x.image.length →
        s.runningItem x.item = some it → (∀ y, r = some y → y.second = none) →
        Reaches (.flashOperationComplete r) s (fun t => t.pat.staging = none ∧
          .flash (.read8d x.cfg.readCmd x.cfg.dummy base (slotSize x.firmware)) ∈ t.m.out)) ∧
      (∀ it, x.aborting = true → s.runningItem x.item = some it → Reaches (.flashOperationComplete r) s (fun t =>
        t.pat.staging = none ∧ t.answer x.item = some (0x0C01, 0, [], []))) ∧
      (∀ it, s.runningItem x.item = some it → x.limit ≤ s.m.now - x.since → Reaches .flashTimeout s (fun t =>
        t.pat.staging = none ∧ t.per.actPattern = s.per.actPattern ∧ t.answer x.item =
          some (if x.aborting then (0x0C01, 0, [], []) else
            (0x0B07, base + (if x.phase = 0 then 65536 else 256) * x.done, [], [])))) ∧
      (s.m.now - x.since < x.limit → exec .flashTimeout s = .next s)) ∧
    (∀ x r, s.pat.staging = some x → x.pieceDue = true →
      exec (.flashOperationComplete r) s = .next s ∧ exec .flashTimeout s = .next s) ∧
    (s.pat.staging = none → (∀ r, exec (.flashOperationComplete r) s = .next s) ∧ exec .flashTimeout s = .next s)

/-- The warden's verbs (R353, R354, R359, R362–R370, R459–R462): a guard key slot is loaded or cleared unless an item
uses it; a measurement register is extended and no other; the identity chain, statements and key origins go out,
signed where their rules say so; records of the log are read, exported and acknowledged. -/
def Obligations.WardenVerbsWork : Prop :=
  ∀ (s : State) (slot : Nat) (it : Item) (u : UnitReport), s.unitsClean it u →
    let waits := fun (t : State) => ∃ y, t.item slot = some y ∧ Wait.signer ∈ y.waits
    (∀ g, s.verbItem slot 0x0140 = some it → s.slotLoadChecks it = .ok g →
      ((s.guardSlot g.slot).user = none → Reaches (.guardSlotLoad slot) s (fun t => t.guardSlot g.slot = g ∧
        (∀ n, n ≠ g.slot → t.guardSlot n = s.guardSlot n) ∧ t.answer slot = some (0, 0, le 8 g.keyId ++ zeros 8, []))) ∧
      ((s.guardSlot g.slot).user ≠ none → exec (.guardSlotLoad slot) s = .next s)) ∧
    (∀ i, s.verbItem slot 0x0B13 = some it → s.extendChecks it = .ok i → s.mea.meas.length = 32 →
      s.mea.measCount.length = 32 → Reaches (.measExtend slot) s (fun t =>
        let m := sha384 (s.mea.meas.getD i [] ++ fit 48 (fit 48 it.input))
        let c := sat 32 (s.mea.measCount.getD i 0 + 1)
        t.mea.meas.getD i [] = m ∧ t.mea.measCount.getD i 0 = c ∧
        (∀ j, j ≠ i → t.mea.meas.getD j [] = s.mea.meas.getD j [] ∧ t.mea.measCount.getD j 0 = s.mea.measCount.getD j 0) ∧
        t.answer slot = some (0, 0, le 4 c ++ m.take 12, []))) ∧
    (s.verbItem slot 0x0B12 = some it → s.chainChecks it = .ok () →
      let good := s.mea.identityCert ≠ [] ∧ cmacAes s.vendorKey s.mea.identityCert = s.mea.identityCertTag
      (good → s.mea.certsIssued = true → Reaches (.identityChain slot u) s (fun t => t.answer slot = some (0, 0, [],
        segmentOf (s.mea.identityCert.take 1024) ++ segmentOf s.mea.attCert ++ segmentOf s.mea.compatCert))) ∧
      (good → s.mea.certsIssued = false → Reaches (.identityChain slot u) s (fun t => t.mea.certsIssued = true ∧ waits t ∧
        t.answer slot = some (0, 0, [], segmentOf (s.mea.identityCert.take 1024) ++ segmentOf t.mea.attCert ++
          segmentOf t.mea.compatCert))) ∧
      (¬good → Reaches (.identityChain slot u) s (fun t => t.answer slot = some (0x0202, 5, [], []) ∧
        t.mea.certsIssued = s.mea.certsIssued))) ∧
    (∀ claims nonce mask ingots, (s.lookClaims slot claims).verbItem slot 0x0B10 = some it →
      let l := (s.lookClaims slot claims).lookUp it
      l.attestChecks it claims = .ok (nonce, mask, ingots) →
      let r := l.reach12 it [] none (ingots.length * l.ew 15)
      Reaches (.pelynAttest slot claims u) s (fun t => waits t ∧
        t.answer slot = some (0, 0, [], (r.pelynStatement (r.pelynPayload it nonce mask ingots)).1))) ∧
    (∀ k, s.verbItem slot 0x0B11 = some it →
      let l := s.lookUp it
      l.originChecks it = .ok k →
      let i := k.ingot
      let body := be 4 0x4B4F5247 ++ le 2 1 ++ le 2 (b2n (byteAt i 11 == 1) + 2 * b2n (!ingExportable i)) ++
        fit 16 s.fuses.serial ++ sub i 0x40 32 ++ le 1 (ingotAlg i) ++ le 1 (ingAttr i) ++ le 1 (ingMods i) ++ [0] ++
        le 8 s.calOr0
      Reaches (.keyOrigin slot u) s (fun t => waits t ∧
        t.answer slot = some (0, 0, [], body ++ ((l.reach12 it [k]).wardenSign p256 0x20 l.compatScalar 1 body).1))) ∧
    (∀ start most, s.verbItem slot 0x0B01 = some it → s.logReadChecks it = .ok (start, most) →
      let r := (s.reach12 it []).scanLog it.slice 4096 (max start s.oldest) most
      Reaches (.logReadSlice slot u) s (fun t => t.answer slot = some (0, 0, le 8 r.2 ++ le 4 r.1.length ++
        le 4 (b2n (decide (r.2 > s.newest)) + 2 * b2n (decide (start < s.oldest))), (r.1.map HeatRec.bytes).flatten))) ∧
    (∀ first count, s.verbItem slot 0x0B02 = some it → s.logExportChecks it = .ok (first, count) →
      let f := s.flushSummaries
      let start := max first f.oldest
      let rs := (List.range (min count (f.newest + 1 - start))).filterMap (fun i => f.findRec (start + i))
      rs ≠ [] →
      let last := start + rs.length - 1
      let body := f.exportTrailer start last rs.length (start - 1) rs
      Reaches (.logExport slot) s (fun t => waits t ∧ t.answer slot = some (0, 0, le 8 start ++ le 8 last,
        (rs.map HeatRec.bytes).flatten ++ body ++ (f.wardenSign p384 0x21 f.attestScalar 2 body).1))) ∧
    (∀ first last, s.verbItem slot 0x0B03 = some it → s.logAckChecks it = .ok (first, last) →
      Reaches (.logAck slot) s (fun t => t.log.acked = max s.log.acked last ∧ t.log.cleared = s.log.cleared ∧
        t.answer slot = some (0, 0, [], [])))
end

