-- ==== Sys2Proof/Laws/State.lean ====
section
/-!
SUPPORT. The small lemmas of the parts a block is divided into (Sys2Proof/Safety.lean): which record updates leave a
part as it was. Each is true by its definition.
-/
namespace Sys2Proof.Machine

/-- A load of the reading window leaves the rest of the heat log as it was. -/
@[simp] theorem HeatLog.otherPart_window (k : HeatLog) (cursor : Nat) (gone atEnd valid chainBad : Bool)
    (data : Bytes) : ({ k with cursor := cursor, gone := gone, atEnd := atEnd, valid := valid, chainBad := chainBad,
                               data := data } : HeatLog).otherPart = k.otherPart := rfl

/-- Records and bounds belong to the store of the heat log. -/
@[simp] theorem HeatLog.otherPart_store (k : HeatLog) (store : List HeatRec) (cleared acked cursorLo : Nat) :
    ({ k with store := store, cleared := cleared, acked := acked, cursorLo := cursorLo } : HeatLog).otherPart
      = k.otherPart := rfl

/-- The figures of wear are no part of the commit path. -/
@[simp] theorem Persist.commitPart_wear (k : Persist) (hist : List (Nat × List Nat)) (remaining limit years : Nat) :
    ({ k with wearHist := hist, wearRemaining := remaining, wearLimit := limit, wearYears := years } :
      Persist).commitPart = k.commitPart := rfl

/-- The two warnings of wear are no part of the commit path. -/
@[simp] theorem Persist.commitPart_low (k : Persist) (batt wear : Bool) :
    ({ k with battLow := batt, wearLow := wear } : Persist).commitPart = k.commitPart := rfl

/-- Life counters are no part of the commit path. -/
@[simp] theorem Persist.commitPart_life (k : Persist) (life : List (Nat × Nat)) :
    ({ k with life := life } : Persist).commitPart = k.commitPart := rfl

/-- A level driven on every HALT line is what HALT reads. -/
@[simp] theorem Pins.halt_driveHalt (p : Pins) (v : Bool) : (p.driveHalt v).halt = v := by
  cases v <;> rfl

/-- HALT leaves DIE_RESET of the hub as it was. -/
@[simp] theorem Pins.dieResetHub_driveHalt (p : Pins) (v : Bool) : (p.driveHalt v).dieResetHub = p.dieResetHub := rfl

/-- HALT leaves DIE_RESET of the transaction dies as it was. -/
@[simp] theorem Pins.dieResetT_driveHalt (p : Pins) (v : Bool) : (p.driveHalt v).dieResetT = p.dieResetT := rfl

/-- DIE_RESET of the hub is what is driven on it. -/
@[simp] theorem Pins.dieResetHub_resetHub (p : Pins) (v : Bool) : (p.resetHub v).dieResetHub = v := rfl

/-- DIE_RESET of the hub is no line of a transaction die. -/
@[simp] theorem Pins.dieResetT_resetHub (p : Pins) (v : Bool) : (p.resetHub v).dieResetT = p.dieResetT := rfl

/-- DIE_RESET of the hub leaves HALT as it was. -/
@[simp] theorem Pins.halt_resetHub (p : Pins) (v : Bool) : (p.resetHub v).halt = p.halt := rfl

/-- DIE_RESET of the transaction dies is what is driven on them. -/
@[simp] theorem Pins.dieResetT_resetT (p : Pins) (v : Bool) : (p.resetT v).dieResetT = v := by
  cases v <;> rfl

/-- DIE_RESET of the transaction dies is no line of the hub. -/
@[simp] theorem Pins.dieResetHub_resetT (p : Pins) (v : Bool) : (p.resetT v).dieResetHub = p.dieResetHub := rfl

/-- DIE_RESET of the transaction dies leaves HALT as it was. -/
@[simp] theorem Pins.halt_resetT (p : Pins) (v : Bool) : (p.resetT v).halt = p.halt := rfl

end Sys2Proof.Machine
end

