-- ==== Sys2Proof/Laws/FrameRules.lean ====
section
/-!
SUPPORT. The rules of the frame (Sys2Proof/Safety.lean): identity, a record update, a fold, a choice, and the shapes
that carry a state. The lemmas of the operations are proved from these, one rule for each shape of a definition.
-/
namespace Sys2Proof.Machine

variable {ch : List Block} {s x y : State}

/-- A state has nothing changed against itself. -/
theorem Frame.refl (ch : List Block) (s : State) : Frame ch s s := ⟨rfl, List.suffix_rfl, fun b _ => by cases b <;>
    exact rfl⟩

/-- A record update changes only the blocks it names: for each block, it may change or it is unchanged. -/
theorem Frame.upd {a_pins} {a_stage} {a_fuses} {a_pat} {a_host} {a_queues} {a_tnd} {a_fabric} {a_kst} {a_mea}
    {a_slc} {a_ngl} {a_chl} {a_per} {a_log} {a_tam} {a_lc} {a_dcc} {a_cards} {a_gds} {a_m} (h : Frame ch s x)
    (c_pins : .pins ∈ ch ∨ a_pins = x.pins) (c_stage : .stage ∈ ch ∨
    { a_stage with alertCause := 0, unsealed := false } = { x.stage with alertCause := 0, unsealed := false })
    (c_alert : .alert ∈ ch ∨ a_stage.alertCause = x.stage.alertCause)
    (c_unsealed : .unsealed ∈ ch ∨ a_stage.unsealed = x.stage.unsealed)
    (c_fuses : .fuses ∈ ch ∨ a_fuses = x.fuses) (c_pat : .pat ∈ ch ∨ a_pat = x.pat)
    (c_host : .host ∈ ch ∨ a_host = x.host) (c_queues : .queues ∈ ch ∨ a_queues = x.queues)
    (c_tnd : .tnd ∈ ch ∨ a_tnd = x.tnd) (c_fabric : .fabric ∈ ch ∨ { a_fabric with clusters := [] } = { x.fabric with clusters := [] })
    (c_clusters : .clusters ∈ ch ∨ a_fabric.clusters = x.fabric.clusters)
    (c_kst : .kst ∈ ch ∨ a_kst.otherPart = x.kst.otherPart)
    (c_roots : .roots ∈ ch ∨ a_kst.rootPart = x.kst.rootPart) (c_mea : .mea ∈ ch ∨ a_mea.otherPart = x.mea.otherPart)
    (c_meas : .meas ∈ ch ∨ a_mea.registerPart = x.mea.registerPart) (c_slc : .slc ∈ ch ∨ a_slc = x.slc)
    (c_ngl : .ngl ∈ ch ∨ a_ngl = x.ngl) (c_chl : .chl ∈ ch ∨ { a_chl with regions := [] } = { x.chl with regions := [] })
    (c_regions : .regions ∈ ch ∨ a_chl.regions = x.chl.regions) (c_per : .per ∈ ch ∨ a_per.otherPart = x.per.otherPart)
    (c_commits : .commits ∈ ch ∨ a_per.commitPart = x.per.commitPart)
    (c_log : .log ∈ ch ∨ a_log.otherPart = x.log.otherPart)
    (c_store : .store ∈ ch ∨ a_log.storePart = x.log.storePart) (c_tam : .tam ∈ ch ∨ a_tam = x.tam) (c_lc : .lc ∈ ch ∨ a_lc = x.lc)
    (c_dcc : .dcc ∈ ch ∨ a_dcc.otherPart = x.dcc.otherPart)
    (c_custody : .custody ∈ ch ∨ a_dcc.custodyPart = x.dcc.custodyPart) (c_cards : .cards ∈ ch ∨ a_cards = x.cards)
    (c_gds : .gds ∈ ch ∨ a_gds = x.gds) (c_m : .m ∈ ch ∨ a_m = x.m) (c_out : x.m.out <:+ a_m.out) :
    Frame ch s (State.mk a_pins a_stage a_fuses a_pat a_host a_queues a_tnd a_fabric a_kst a_mea a_slc a_ngl a_chl
    a_per a_log a_tam a_lc a_dcc a_cards a_gds a_m x.pending) := by
  refine ⟨h.queue, h.out.trans c_out, fun b hb => ?_⟩
  cases b with
  | pins => exact c_pins.elim (fun m => absurd m hb) (fun e => Eq.trans e (h.rest _ hb))
  | stage => exact c_stage.elim (fun m => absurd m hb) (fun e => Eq.trans e (h.rest _ hb))
  | alert => exact c_alert.elim (fun m => absurd m hb) (fun e => Eq.trans e (h.rest _ hb))
  | unsealed => exact c_unsealed.elim (fun m => absurd m hb) (fun e => Eq.trans e (h.rest _ hb))
  | fuses => exact c_fuses.elim (fun m => absurd m hb) (fun e => Eq.trans e (h.rest _ hb))
  | pat => exact c_pat.elim (fun m => absurd m hb) (fun e => Eq.trans e (h.rest _ hb))
  | host => exact c_host.elim (fun m => absurd m hb) (fun e => Eq.trans e (h.rest _ hb))
  | queues => exact c_queues.elim (fun m => absurd m hb) (fun e => Eq.trans e (h.rest _ hb))
  | tnd => exact c_tnd.elim (fun m => absurd m hb) (fun e => Eq.trans e (h.rest _ hb))
  | fabric => exact c_fabric.elim (fun m => absurd m hb) (fun e => Eq.trans e (h.rest _ hb))
  | clusters => exact c_clusters.elim (fun m => absurd m hb) (fun e => Eq.trans e (h.rest _ hb))
  | kst => exact c_kst.elim (fun m => absurd m hb) (fun e => Eq.trans e (h.rest _ hb))
  | roots => exact c_roots.elim (fun m => absurd m hb) (fun e => Eq.trans e (h.rest _ hb))
  | mea => exact c_mea.elim (fun m => absurd m hb) (fun e => Eq.trans e (h.rest _ hb))
  | meas => exact c_meas.elim (fun m => absurd m hb) (fun e => Eq.trans e (h.rest _ hb))
  | slc => exact c_slc.elim (fun m => absurd m hb) (fun e => Eq.trans e (h.rest _ hb))
  | ngl => exact c_ngl.elim (fun m => absurd m hb) (fun e => Eq.trans e (h.rest _ hb))
  | chl => exact c_chl.elim (fun m => absurd m hb) (fun e => Eq.trans e (h.rest _ hb))
  | regions => exact c_regions.elim (fun m => absurd m hb) (fun e => Eq.trans e (h.rest _ hb))
  | per => exact c_per.elim (fun m => absurd m hb) (fun e => Eq.trans e (h.rest _ hb))
  | commits => exact c_commits.elim (fun m => absurd m hb) (fun e => Eq.trans e (h.rest _ hb))
  | log => exact c_log.elim (fun m => absurd m hb) (fun e => Eq.trans e (h.rest _ hb))
  | store => exact c_store.elim (fun m => absurd m hb) (fun e => Eq.trans e (h.rest _ hb))
  | tam => exact c_tam.elim (fun m => absurd m hb) (fun e => Eq.trans e (h.rest _ hb))
  | lc => exact c_lc.elim (fun m => absurd m hb) (fun e => Eq.trans e (h.rest _ hb))
  | dcc => exact c_dcc.elim (fun m => absurd m hb) (fun e => Eq.trans e (h.rest _ hb))
  | custody => exact c_custody.elim (fun m => absurd m hb) (fun e => Eq.trans e (h.rest _ hb))
  | cards => exact c_cards.elim (fun m => absurd m hb) (fun e => Eq.trans e (h.rest _ hb))
  | gds => exact c_gds.elim (fun m => absurd m hb) (fun e => Eq.trans e (h.rest _ hb))
  | m => exact c_m.elim (fun m => absurd m hb) (fun e => Eq.trans e (h.rest _ hb))

/-- A fold changes what each of its steps changes. -/
theorem Frame.fold {α : Type} {f : State → α → State} {l : List α} (h : Frame ch s x)
    (k : ∀ y a, Frame ch s y → Frame ch s (f y a)) :
    Frame ch s (l.foldl f x) := by
  induction l generalizing x with
  | nil => exact h
  | cons a l ih => exact ih (k x a h)

/-- A choice between two states. -/
theorem Frame.ite {c : Prop} [Decidable c] (h : Frame ch s x) (k : Frame ch s y) : Frame ch s
    (if c then x else y) := by
  split
  · exact h
  · exact k

/-- A choice between two pairs that carry a state first. -/
theorem Frame.fstIte {α : Type} {c : Prop} [Decidable c] {p q : State × α} (h : Frame ch s p.1) (k : Frame ch s q.1) :
    Frame ch s (if c then p else q).1 := by
  split
  · exact h
  · exact k

/-- A choice between two pairs that carry a state second. -/
theorem Frame.sndIte {α : Type} {c : Prop} [Decidable c] {p q : α × State} (h : Frame ch s p.2) (k : Frame ch s q.2) :
    Frame ch s (if c then p else q).2 := by
  split
  · exact h
  · exact k

/-- A fold whose accumulator carries a state first. -/
theorem Frame.foldFst {α β : Type} {f : State × β → α → State × β} {l : List α} {p : State × β} (h : Frame ch s p.1)
    (k : ∀ q a, Frame ch s q.1 → Frame ch s (f q a).1) : Frame ch s (l.foldl f p).1 := by
  induction l generalizing p with
  | nil => exact h
  | cons a l ih => exact ih (k p a h)

/-- A fold whose accumulator carries a state second. -/
theorem Frame.foldSnd {α β : Type} {f : β × State → α → β × State} {l : List α} {p : β × State} (h : Frame ch s p.2)
    (k : ∀ q a, Frame ch s q.2 → Frame ch s (f q a).2) : Frame ch s (l.foldl f p).2 := by
  induction l generalizing p with
  | nil => exact h
  | cons a l ih => exact ih (k p a h)

/-- A default, or a function of what is present. -/
theorem Frame.elim {α : Type} {o : Option α} {f : α → State} (h : Frame ch s x) (k : ∀ a, Frame ch s (f a)) :
    Frame ch s (o.elim x f) := by
  cases o with
  | none => exact h
  | some a => exact k a

/-- The state of a pair, from the pair. -/
theorem Frame.ofFst {α : Type} {e : State × α} {a : α} (h : e = (x, a))
    (k : Frame ch s e.1) : Frame ch s x := by rw [h] at k; exact k

/-- The state of a pair, from the pair. -/
theorem Frame.ofSnd {α : Type} {e : α × State} {a : α} (h : e = (a, x))
    (k : Frame ch s e.2) : Frame ch s x := by rw [h] at k; exact k

/-- The state in the middle of a triple, from the triple. -/
theorem Frame.ofMid {α β : Type} {e : α × State × β} {a : α} {b : β} (h : e = (a, x, b))
    (k : Frame ch s e.2.1) : Frame ch s x := by rw [h] at k; exact k

/-- The state at the end of a triple, from the triple. -/
theorem Frame.ofLast {α β : Type} {e : α × β × State} {a : α} {b : β} (h : e = (a, b, x))
    (k : Frame ch s e.2.2) : Frame ch s x := by rw [h] at k; exact k

/-- The frame of a state that may be absent. -/
def FrameO (ch : List Block) (s : State) (o : Option State) : Prop := ∀ t, o = some t → Frame ch s t

/-- An absent state has any frame. -/
theorem FrameO.none : FrameO ch s none := fun _ h => nomatch h

/-- A present state. -/
theorem FrameO.some (h : Frame ch s x) : FrameO ch s (some x) := fun _ e => Option.some.inj e ▸ h

/-- A function of what may be absent. -/
theorem FrameO.map {α : Type} {o : Option α} {f : α → State} (k : ∀ a, Frame ch s (f a)) : FrameO ch s (o.map f) := by
  intro t e
  cases o with
  | none => cases e
  | some a => exact Option.some.inj e ▸ k a

/-- The state of a present answer. -/
theorem Frame.ofSome {o : Option State} (e : o = Option.some x) (h : FrameO ch s o) : Frame ch s x := h x e

/-- A state or a default. -/
theorem Frame.getD {o : Option State} (h : FrameO ch s o) (k : Frame ch s x) : Frame ch s (o.getD x) := by
  cases o with
  | none => exact k
  | some y => exact h y rfl

/-- The frame of what a check answers. -/
def FrameC (ch : List Block) (s : State) (o : Chk State) : Prop := ∀ t, o = .ok t → Frame ch s t

/-- A check that passes. -/
theorem FrameC.pure (h : Frame ch s x) : FrameC ch s (pure x) := fun _ e => Except.ok.inj e ▸ h

/-- A check that passes. -/
theorem FrameC.ok (h : Frame ch s x) : FrameC ch s (.ok x) := fun _ e => Except.ok.inj e ▸ h

/-- A check that stops has any frame. -/
theorem FrameC.error {e : Stop} : FrameC ch s (.error e) := fun _ h => nomatch h

/-- A check that stops has any frame. -/
theorem FrameC.stop {a b : Nat} : FrameC ch s (stop a b) := fun _ h => nomatch h

/-- A check that waits has any frame. -/
theorem FrameC.wait : FrameC ch s waitFor := fun _ h => nomatch h

/-- A check that answers data, before a check that answers a state. -/
theorem FrameC.bind {α : Type} {x : Chk α} {f : α → Chk State} (k : ∀ a, FrameC ch s (f a)) : FrameC ch s
    (x >>= f) := by
  intro t h
  cases x with
  | error e => cases h
  | ok a => exact k a t h

/-- A check that answers a state, before another. -/
theorem FrameC.bindS {x : Chk State} {f : State → Chk State} (h : FrameC ch s x)
    (k : ∀ a, Frame ch s a → FrameC ch s (f a)) : FrameC ch s (x >>= f) := by
  intro t e
  cases x with
  | error e => cases e
  | ok a => exact k a (h a rfl) t e

/-- The state of a check that passed. -/
theorem Frame.ofOk {o : Chk State} (e : o = Except.ok x) (h : FrameC ch s o) : Frame ch s x := h x e

/-- A check that answers a state and data, before another. -/
theorem FrameC.bindP {α : Type} {x : Chk (State × α)} {f : State × α → Chk State}
    (h : ∀ p, x = .ok p → Frame ch s p.1) (k : ∀ p, Frame ch s p.1 → FrameC ch s (f p)) : FrameC ch s (x >>= f) := by
  intro t e
  cases x with
  | error e => cases e
  | ok a => exact k a (h a rfl) t e

/-- A check that answers data and a state, before another. -/
theorem FrameC.bindQ {α : Type} {x : Chk (α × State)} {f : α × State → Chk State}
    (h : ∀ p, x = .ok p → Frame ch s p.2) (k : ∀ p, Frame ch s p.2 → FrameC ch s (f p)) : FrameC ch s (x >>= f) := by
  intro t e
  cases x with
  | error e => cases e
  | ok a => exact k a (h a rfl) t e

/-- A choice between two checks. -/
theorem FrameC.ite {c : Prop} [Decidable c] {p q : Chk State} (h : FrameC ch s p) (k : FrameC ch s q) : FrameC ch s
    (if c then p else q) := by
  split
  · exact h
  · exact k

/-- The frame of what a command answers. -/
def FrameX (ch : List Block) (s : State) (o : Host.Outcome State Fault Refusal) : Prop := ∀ t, o = .next t → Frame
    ch s t

/-- A command that answers a next state. -/
theorem FrameX.next (h : Frame ch s x) : FrameX ch s (.next x) := fun _ e => Host.Outcome.next.inj e ▸ h

/-- A choice between two answers. -/
theorem FrameX.ite {c : Prop} [Decidable c] {p q : Host.Outcome State Fault Refusal} (h : FrameX ch s p)
    (k : FrameX ch s q) : FrameX ch s (if c then p else q) := by
  split
  · exact h
  · exact k

end Sys2Proof.Machine
end

