-- ==== Sys2Proof/Laws/FramesQueues.lean ====
section
/-!
SUPPORT. One lemma for each shared operation: the frame of the operations over the heat log, the journal, the fabric,
the queues and the Tundish's list. Each says which blocks of the state the operation may change, and that it leaves
the queue of waiting commands as it is.
-/
namespace Sys2Proof.Machine

variable {ch : List Block} {s : State}

theorem State.clocked_frame (x x2) (h : Frame ch s x) (hx2 : Frame ch s x2) :
    Frame ch s (State.clocked x x2) := by
  delta State.clocked
  refine Frame.ite ?_ ?_
  · assumption
  · assumption

theorem State.powered_frame (x x2) (h : Frame ch s x) (hx2 : Frame ch s x2) :
    Frame ch s (State.powered x x2) := by
  delta State.powered
  refine Frame.ite ?_ ?_
  · assumption
  · assumption

theorem State.emit_frame (x a1) (h : Frame ch s x) (w : ([.m] : List Block) ⊆ ch) :
    Frame ch s (State.emit x a1) := by
  delta State.emit
  apply Frame.upd <;> first | assumption | exact Or.inl (w (by decide)) | exact Or.inr rfl | exact List.suffix_rfl | exact List.suffix_cons _ _

theorem State.emitAll_frame (x a1) (h : Frame ch s x) (w : ([.m] : List Block) ⊆ ch) :
    Frame ch s (State.emitAll x a1) := by
  delta State.emitAll
  apply Frame.upd <;> first | assumption | exact Or.inl (w (by decide)) | exact Or.inr rfl | exact List.suffix_rfl | exact List.suffix_append _ _

theorem State.draw_frame (x a1) (h : Frame ch s x) (w : ([.m] : List Block) ⊆ ch) :
    Frame ch s (State.draw x a1).2 := by
  delta State.draw
  dsimp only
  apply Frame.upd <;> first | assumption | exact Or.inl (w (by decide)) | exact Or.inr rfl | exact List.suffix_rfl

theorem State.alert_frame (x a1) (h : Frame ch s x) (w : ([.alert] : List Block) ⊆ ch) :
    Frame ch s (State.alert x a1) := by
  delta State.alert
  apply Frame.upd <;> first | assumption | exact Or.inl (w (by decide)) | exact Or.inr rfl | exact List.suffix_rfl

theorem State.setBucket_frame (x a1 a2) (h : Frame ch s x) (w : ([.log] : List Block) ⊆ ch) :
    Frame ch s (State.setBucket x a1 a2) := by
  delta State.setBucket
  apply Frame.upd <;> first | assumption | exact Or.inl (w (by decide)) | exact Or.inr rfl | exact List.suffix_rfl

theorem State.sealRecord_frame (x) (h : Frame ch s x) (w : ([.log] : List Block) ⊆ ch) :
    Frame ch s (State.sealRecord x) := by
  delta State.sealRecord
  split
  · assumption
  · extract_lets +onlyGivenNames y1
    clear_value y1
    apply Frame.upd <;> first | assumption | exact Or.inl (w (by decide)) | exact Or.inr rfl | exact List.suffix_rfl

theorem State.enterLog_frame (x a1) (h : Frame ch s x) (w : ([.log] : List Block) ⊆ ch) :
    Frame ch s (State.enterLog x a1) := by
  delta State.enterLog
  extract_lets +onlyGivenNames y1
  have h1 : Frame ch s y1 := by
    unfold y1
    refine State.sealRecord_frame _ ?_ (List.Subset.trans (by decide) w)
    assumption
  clear_value y1
  apply Frame.upd <;> first | assumption | exact Or.inl (w (by decide)) | exact Or.inr rfl | exact List.suffix_rfl

theorem State.logFullCheck_frame (x) (h : Frame ch s x) (w : ([.log] : List Block) ⊆ ch) :
    Frame ch s (State.logFullCheck x) := by
  delta State.logFullCheck
  refine Frame.ite ?_ ?_
  · refine Frame.ite ?_ ?_
    · extract_lets +onlyGivenNames y1
      extract_lets +onlyGivenNames y2
      have h2 : Frame ch s y2 := by
        unfold y2
        apply Frame.upd <;> first | assumption | exact Or.inl (w (by decide)) | exact Or.inr rfl | exact List.suffix_rfl
      clear_value y2
      refine State.enterLog_frame _ _ ?_ (List.Subset.trans (by decide) w)
      assumption
    · assumption
  · extract_lets +onlyGivenNames y3
    clear_value y3
    refine Frame.ite ?_ ?_
    · extract_lets +onlyGivenNames y4
      extract_lets +onlyGivenNames y5
      have h5 : Frame ch s y5 := by
        unfold y5
        apply Frame.upd <;> first | assumption | exact Or.inl (w (by decide)) | exact Or.inr rfl | exact List.suffix_rfl
      clear_value y5
      refine State.enterLog_frame _ _ ?_ (List.Subset.trans (by decide) w)
      assumption
    · apply Frame.upd <;> first | assumption | exact Or.inl (w (by decide)) | exact Or.inr rfl | exact List.suffix_rfl

theorem State.writeSummary_frame (x a1) (h : Frame ch s x) (w : ([.log] : List Block) ⊆ ch) :
    Frame ch s (State.writeSummary x a1) := by
  delta State.writeSummary
  extract_lets +onlyGivenNames y1
  extract_lets +onlyGivenNames y2
  have h2 : Frame ch s y2 := by
    unfold y2
    refine State.enterLog_frame _ _ ?_ (List.Subset.trans (by decide) w)
    assumption
  clear_value y2
  apply Frame.upd <;> first | assumption | exact Or.inl (w (by decide)) | exact Or.inr rfl | exact List.suffix_rfl

theorem State.flushSummaries_frame (x) (h : Frame ch s x) (w : ([.log] : List Block) ⊆ ch) :
    Frame ch s (State.flushSummaries x) := by
  delta State.flushSummaries
  refine Frame.fold ?_ (fun y1 a1 h1 => ?_)
  · assumption
  · refine State.writeSummary_frame _ _ ?_ (List.Subset.trans (by decide) w)
    assumption

theorem State.reportDropped_frame (x) (h : Frame ch s x) (w : ([.log] : List Block) ⊆ ch) :
    Frame ch s (State.reportDropped x) := by
  delta State.reportDropped
  refine Frame.ite ?_ ?_
  · assumption
  · extract_lets +onlyGivenNames y1
    clear_value y1
    extract_lets +onlyGivenNames y2
    extract_lets +onlyGivenNames y3
    have h3 : Frame ch s y3 := by
      unfold y3
      apply Frame.upd <;> first | assumption | exact Or.inl (w (by decide)) | exact Or.inr rfl | exact List.suffix_rfl
    clear_value y3
    extract_lets +onlyGivenNames y4
    refine State.enterLog_frame _ _ ?_ (List.Subset.trans (by decide) w)
    assumption

theorem State.dropOccurrence_frame (x) (h : Frame ch s x) (w : ([.log] : List Block) ⊆ ch) :
    Frame ch s (State.dropOccurrence x) := by
  delta State.dropOccurrence
  apply Frame.upd <;> first | assumption | exact Or.inl (w (by decide)) | exact Or.inr rfl | exact List.suffix_rfl

theorem State.mergeOrSuppress_frame (x a1) (h : Frame ch s x) (w : ([.log] : List Block) ⊆ ch) :
    Frame ch s (State.mergeOrSuppress x a1) := by
  delta State.mergeOrSuppress
  extract_lets +onlyGivenNames y1
  extract_lets +onlyGivenNames y2
  extract_lets +onlyGivenNames y3
  have h3 : Frame ch s y3 := by
    unfold y3
    apply Frame.upd <;> first | assumption | exact Or.inl (w (by decide)) | exact Or.inr rfl | exact List.suffix_rfl
  clear_value y3
  split
  · refine Frame.ite ?_ ?_
    · apply Frame.upd <;> first | assumption | exact Or.inl (w (by decide)) | exact Or.inr rfl | exact List.suffix_rfl
    · assumption
  · assumption

theorem State.admitOccurrence_frame (x a1) (h : Frame ch s x) (w : ([.log] : List Block) ⊆ ch) :
    Frame ch s (State.admitOccurrence x a1) := by
  delta State.admitOccurrence
  extract_lets +onlyGivenNames y1
  have h1 : Frame ch s y1 := by
    unfold y1
    split
    · refine State.writeSummary_frame _ _ ?_ (List.Subset.trans (by decide) w)
      assumption
    · assumption
  clear_value y1
  refine State.logFullCheck_frame _ ?_ (List.Subset.trans (by decide) w)
  refine State.enterLog_frame _ _ ?_ (List.Subset.trans (by decide) w)
  assumption

theorem State.logOccurrence_frame (x a1) (h : Frame ch s x) (w : ([.log] : List Block) ⊆ ch) :
    Frame ch s (State.logOccurrence x a1) := by
  delta State.logOccurrence
  extract_lets +onlyGivenNames y1
  clear_value y1
  refine Frame.ite ?_ ?_
  · assumption
  · refine Frame.ite ?_ ?_
    · assumption
    · refine Frame.ite ?_ ?_
      · refine Frame.ite ?_ ?_
        · apply Frame.upd <;> first | assumption | exact Or.inl (w (by decide)) | exact Or.inr rfl | exact List.suffix_rfl
        · assumption
      · refine Frame.ite ?_ ?_
        · refine Frame.ite ?_ ?_
          · apply Frame.upd <;> first | assumption | exact Or.inl (w (by decide)) | exact Or.inr rfl | exact List.suffix_rfl
          · refine State.dropOccurrence_frame _ ?_ (List.Subset.trans (by decide) w)
            assumption
        · refine Frame.ite ?_ ?_
          · refine State.dropOccurrence_frame _ ?_ (List.Subset.trans (by decide) w)
            assumption
          · refine Frame.ite ?_ ?_
            · extract_lets +onlyGivenNames y2
              clear_value y2
              refine Frame.ite ?_ ?_
              · refine State.admitOccurrence_frame _ _ ?_ (List.Subset.trans (by decide) w)
                refine State.setBucket_frame _ _ _ ?_ (List.Subset.trans (by decide) w)
                assumption
              · refine State.mergeOrSuppress_frame _ _ ?_ (List.Subset.trans (by decide) w)
                refine State.setBucket_frame _ _ _ ?_ (List.Subset.trans (by decide) w)
                assumption
            · refine State.admitOccurrence_frame _ _ ?_ (List.Subset.trans (by decide) w)
              assumption

theorem State.logEv_frame (x a1 a2 a3 a4) (h : Frame ch s x) (w : ([.log] : List Block) ⊆ ch) :
    Frame ch s (State.logEv x a1 a2 a3 a4) := by
  delta State.logEv
  refine State.logOccurrence_frame _ _ ?_ (List.Subset.trans (by decide) w)
  assumption

theorem State.logG_frame (x a1 a2) (h : Frame ch s x) (w : ([.log] : List Block) ⊆ ch) :
    Frame ch s (State.logG x a1 a2) := by
  delta State.logG
  refine State.logEv_frame _ _ _ _ _ ?_ (List.Subset.trans (by decide) w)
  assumption

theorem State.logH_frame (x a1 a2) (h : Frame ch s x) (w : ([.log] : List Block) ⊆ ch) :
    Frame ch s (State.logH x a1 a2) := by
  delta State.logH
  refine State.logEv_frame _ _ _ _ _ ?_ (List.Subset.trans (by decide) w)
  assumption

theorem State.logStat_frame (x x2) (hx2 : Frame ch s x2) (w : ([.alert, .log] : List Block) ⊆ ch) :
    Frame ch s (State.logStat x x2) := by
  delta State.logStat
  refine Frame.ite ?_ ?_
  · assumption
  · refine State.logG_frame _ _ _ ?_ (List.Subset.trans (by decide) w)
    refine State.alert_frame _ _ ?_ (List.Subset.trans (by decide) w)
    assumption

theorem State.drainStaging_frame (x a1) (h : Frame ch s x) (w : ([.per, .log, .store] : List Block) ⊆ ch) :
    Frame ch s (State.drainStaging x a1) := by
  delta State.drainStaging
  extract_lets +onlyGivenNames y1
  extract_lets +onlyGivenNames y2
  clear_value y2
  extract_lets +onlyGivenNames y3
  have h3 : Frame ch s y3 := by
    unfold y3
    refine Frame.fold ?_ (fun y4 a4 h4 => ?_)
    · assumption
    · extract_lets +onlyGivenNames y5
      clear_value y5
      apply Frame.upd <;> first | assumption | exact Or.inl (w (by decide)) | exact Or.inr rfl | exact List.suffix_rfl
  extract_lets +onlyGivenNames y6
  extract_lets +onlyGivenNames y7
  have h7 : Frame ch s y7 := by
    unfold y7
    apply Frame.upd <;> first | assumption | exact Or.inl (w (by decide)) | exact Or.inr rfl | exact List.suffix_rfl
  refine Frame.ite ?_ ?_
  · assumption
  · extract_lets +onlyGivenNames y8
    clear_value y8
    extract_lets +onlyGivenNames y9
    extract_lets +onlyGivenNames y10
    have h10 : Frame ch s y10 := by
      unfold y10
      apply Frame.upd <;> first | assumption | exact Or.inl (w (by decide)) | exact Or.inr rfl | exact List.suffix_rfl
    clear_value y10
    refine State.reportDropped_frame _ ?_ (List.Subset.trans (by decide) w)
    refine Frame.fold ?_ (fun y11 a11 h11 => ?_)
    · assumption
    · refine State.logOccurrence_frame _ _ ?_ (List.Subset.trans (by decide) w)
      assumption

theorem State.loadWindow_frame (x a1) (h : Frame ch s x) (w : ([.store] : List Block) ⊆ ch) :
    Frame ch s (State.loadWindow x a1) := by
  delta State.loadWindow
  extract_lets +onlyGivenNames y1
  clear_value y1
  extract_lets +onlyGivenNames y2
  clear_value y2
  split
  · apply Frame.upd (c_log := Or.inr (HeatLog.otherPart_window ..)) <;> first | assumption | exact Or.inl (w (by decide)) | exact Or.inr rfl | exact List.suffix_rfl
  · split
    · apply Frame.upd (c_log := Or.inr (HeatLog.otherPart_window ..)) <;> first | assumption | exact Or.inl (w (by decide)) | exact Or.inr rfl | exact List.suffix_rfl
    · apply Frame.upd (c_log := Or.inr (HeatLog.otherPart_window ..)) <;> first | assumption | exact Or.inl (w (by decide)) | exact Or.inr rfl | exact List.suffix_rfl

theorem State.setBounds_frame (x a1 a2) (h : Frame ch s x) (w : ([.per, .store] : List Block) ⊆ ch) :
    Frame ch s (State.setBounds x a1 a2) := by
  delta State.setBounds
  apply Frame.upd <;> first | assumption | exact Or.inl (w (by decide)) | exact Or.inr rfl | exact List.suffix_rfl

theorem State.commit_frame (x a1 a2 a3 a4) (h : Frame ch s x) (w : ([.tnd, .commits] : List Block) ⊆ ch) :
    Frame ch s (State.commit x a1 a2 a3 a4) := by
  delta State.commit
  refine Frame.ite ?_ ?_
  · assumption
  · apply Frame.upd <;> first | assumption | exact Or.inl (w (by decide)) | exact Or.inr rfl | exact List.suffix_rfl

theorem State.applyUndo_frame (x a1) (h : Frame ch s x)
        (w : ([.kst, .slc, .per, .commits, .store, .custody] : List Block) ⊆ ch) :
    Frame ch s (State.applyUndo x a1) := by
  delta State.applyUndo
  split
  · apply Frame.upd <;> first | assumption | exact Or.inl (w (by decide)) | exact Or.inr rfl | exact List.suffix_rfl
  · apply Frame.upd <;> first | assumption | exact Or.inl (w (by decide)) | exact Or.inr rfl | exact List.suffix_rfl
  · apply Frame.upd <;> first | assumption | exact Or.inl (w (by decide)) | exact Or.inr rfl | exact List.suffix_rfl
  · apply Frame.upd <;> first | assumption | exact Or.inl (w (by decide)) | exact Or.inr rfl | exact List.suffix_rfl
  · extract_lets +onlyGivenNames y1
    clear_value y1
    apply Frame.upd <;> first | assumption | exact Or.inl (w (by decide)) | exact Or.inr rfl | exact List.suffix_rfl
  · apply Frame.upd <;> first | assumption | exact Or.inl (w (by decide)) | exact Or.inr rfl | exact List.suffix_rfl
  · apply Frame.upd <;> first | assumption | exact Or.inl (w (by decide)) | exact Or.inr rfl | exact List.suffix_rfl
  · refine State.setBounds_frame _ _ _ ?_ (List.Subset.trans (by decide) w)
    assumption

theorem State.applyUndos_frame (x a1) (h : Frame ch s x)
        (w : ([.kst, .slc, .per, .commits, .store, .custody] : List Block) ⊆ ch) :
    Frame ch s (State.applyUndos x a1) := by
  delta State.applyUndos
  refine Frame.fold ?_ (fun y1 a1 h1 => ?_)
  · assumption
  · refine State.applyUndo_frame _ _ ?_ (List.Subset.trans (by decide) w)
    assumption

theorem State.countWrite_frame (x a1) (h : Frame ch s x) (w : ([.per] : List Block) ⊆ ch) :
    Frame ch s (State.countWrite x a1) := by
  delta State.countWrite
  extract_lets +onlyGivenNames y1
  clear_value y1
  apply Frame.upd <;> first | assumption | exact Or.inl (w (by decide)) | exact Or.inr rfl | exact List.suffix_rfl

theorem State.useMap_frame (x a1) (h : Frame ch s x) (w : ([.fabric] : List Block) ⊆ ch) :
    Frame ch s (State.useMap x a1) := by
  delta State.useMap
  split
  · assumption
  · apply Frame.upd <;> first | assumption | exact Or.inl (w (by decide)) | exact Or.inr rfl | exact List.suffix_rfl

theorem State.acceptEntry_frame (x a1) (h : Frame ch s x) (w : ([.commits] : List Block) ⊆ ch) :
    FrameO ch s (State.acceptEntry x a1) := by
  delta State.acceptEntry
  extract_lets +onlyGivenNames y1
  extract_lets +onlyGivenNames y2
  have h2 : FrameO ch s y2 := by
    unfold y2
    split
    · refine FrameO.some ?_
      apply Frame.upd <;> first | assumption | exact Or.inl (w (by decide)) | exact Or.inr rfl | exact List.suffix_rfl
    · exact FrameO.none
  clear_value y2
  split
  · exact FrameO.none
  · split
    · assumption
    · split
      · refine FrameO.some ?_
        apply Frame.upd <;> first | assumption | exact Or.inl (w (by decide)) | exact Or.inr rfl | exact List.suffix_rfl
      · split
        · split
          · refine FrameO.some ?_
            apply Frame.upd <;> first | assumption | exact Or.inl (w (by decide)) | exact Or.inr rfl | exact List.suffix_rfl
          · exact FrameO.none
        · assumption

theorem State.acceptFirst_frame (x a1 a2) (h : Frame ch s x) (w : ([.fabric, .commits] : List Block) ⊆ ch) :
    Frame ch s (State.acceptFirst x a1 a2) := by
  induction a1 generalizing x a2 with
  | nil =>
    unfold State.acceptFirst
    apply Frame.upd <;> first | assumption | exact Or.inl (w (by decide)) | exact Or.inr rfl | exact List.suffix_rfl
  | cons e1 e2 ih =>
    unfold State.acceptFirst
    split
    · extract_lets +onlyGivenNames y1
      have h1 : Frame ch s y1 := by
        unfold y1
        refine State.useMap_frame _ _ ?_ (List.Subset.trans (by decide) w)
        refine Frame.ofSome ‹_› ?_
        refine State.acceptEntry_frame _ _ ?_ (List.Subset.trans (by decide) w)
        assumption
      clear_value y1
      apply Frame.upd <;> first | assumption | exact Or.inl (w (by decide)) | exact Or.inr rfl | exact List.suffix_rfl
    · refine ih _ _ ?_
      assumption

theorem State.entryToMram_frame (x a1) (h : Frame ch s x) (w : ([.per, .commits] : List Block) ⊆ ch) :
    Frame ch s (State.entryToMram x a1) := by
  delta State.entryToMram
  split
  · assumption
  · extract_lets +onlyGivenNames y1
    have h1 : Frame ch s y1 := by
      unfold y1
      refine State.countWrite_frame _ _ ?_ (List.Subset.trans (by decide) w)
      assumption
    clear_value y1
    apply Frame.upd <;> first | assumption | exact Or.inl (w (by decide)) | exact Or.inr rfl | exact List.suffix_rfl

theorem State.forgetCounts_frame (x a1) (h : Frame ch s x) (w : ([.commits] : List Block) ⊆ ch) :
    Frame ch s (State.forgetCounts x a1) := by
  delta State.forgetCounts
  apply Frame.upd <;> first | assumption | exact Or.inl (w (by decide)) | exact Or.inr rfl | exact List.suffix_rfl

theorem State.putCount_frame (x a1 a2) (h : Frame ch s x) (w : ([.commits] : List Block) ⊆ ch) :
    FrameO ch s (State.putCount x a1 a2) := by
  delta State.putCount
  split
  · refine FrameO.some ?_
    apply Frame.upd <;> first | assumption | exact Or.inl (w (by decide)) | exact Or.inr rfl | exact List.suffix_rfl
  · exact FrameO.none

theorem State.foldSlot_frame (x a1) (h : Frame ch s x) (w : ([.kst] : List Block) ⊆ ch) :
    Frame ch s (State.foldSlot x a1) := by
  delta State.foldSlot
  extract_lets +onlyGivenNames y1
  clear_value y1
  refine Frame.fold ?_ (fun y2 a2 h2 => ?_)
  · assumption
  · refine Frame.ite ?_ ?_
    · assumption
    · apply Frame.upd <;> first | assumption | exact Or.inl (w (by decide)) | exact Or.inr rfl | exact List.suffix_rfl

theorem State.checkpoint_frame (x) (h : Frame ch s x) (w : ([.kst, .commits] : List Block) ⊆ ch) :
    Frame ch s (State.checkpoint x) := by
  delta State.checkpoint
  extract_lets +onlyGivenNames y1
  have h1 : Frame ch s y1 := by
    unfold y1
    split
    · refine State.foldSlot_frame _ _ ?_ (List.Subset.trans (by decide) w)
      assumption
    · assumption
  clear_value y1
  extract_lets +onlyGivenNames y2
  clear_value y2
  apply Frame.upd <;> first | assumption | exact Or.inl (w (by decide)) | exact Or.inr rfl | exact List.suffix_rfl

theorem State.addReplay_frame (x a1) (h : Frame ch s x) (w : ([.commits] : List Block) ⊆ ch) :
    Frame ch s (State.addReplay x a1) := by
  delta State.addReplay
  apply Frame.upd <;> first | assumption | exact Or.inl (w (by decide)) | exact Or.inr rfl | exact List.suffix_rfl

theorem State.riserNote_frame (x a1) (h : Frame ch s x) (w : ([.per] : List Block) ⊆ ch) :
    Frame ch s (State.riserNote x a1) := by
  delta State.riserNote
  apply Frame.upd <;> first | assumption | exact Or.inl (w (by decide)) | exact Or.inr rfl | exact List.suffix_rfl

theorem State.riserCross_frame (x a1) (h : Frame ch s x) (w : ([.per] : List Block) ⊆ ch) :
    Frame ch s (State.riserCross x a1) := by
  delta State.riserCross
  apply Frame.upd <;> first | assumption | exact Or.inl (w (by decide)) | exact Or.inr rfl | exact List.suffix_rfl

theorem State.riserExit_frame (x) (h : Frame ch s x) (w : ([.per, .log] : List Block) ⊆ ch) :
    Frame ch s (State.riserExit x) := by
  delta State.riserExit
  refine Frame.ite ?_ ?_
  · refine State.logG_frame _ _ _ ?_ (List.Subset.trans (by decide) w)
    apply Frame.upd <;> first | assumption | exact Or.inl (w (by decide)) | exact Or.inr rfl | exact List.suffix_rfl
  · apply Frame.upd <;> first | assumption | exact Or.inl (w (by decide)) | exact Or.inr rfl | exact List.suffix_rfl

theorem State.riserJudge_frame (x) (h : Frame ch s x) (w : ([.per, .log] : List Block) ⊆ ch) :
    Frame ch s (State.riserJudge x) := by
  delta State.riserJudge
  split
  · refine Frame.ite ?_ ?_
    · refine State.riserExit_frame _ ?_ (List.Subset.trans (by decide) w)
      assumption
    · assumption
  · refine Frame.ite ?_ ?_
    · refine State.logG_frame _ _ _ ?_ (List.Subset.trans (by decide) w)
      apply Frame.upd <;> first | assumption | exact Or.inl (w (by decide)) | exact Or.inr rfl | exact List.suffix_rfl
    · assumption

theorem State.riserMeasure_frame (x a1) (h : Frame ch s x) (w : ([.per, .log] : List Block) ⊆ ch) :
    Frame ch s (State.riserMeasure x a1) := by
  delta State.riserMeasure
  extract_lets +onlyGivenNames y1
  have h1 : Frame ch s y1 := by
    unfold y1
    refine State.riserNote_frame _ _ ?_ (List.Subset.trans (by decide) w)
    assumption
  clear_value y1
  refine Frame.ite ?_ ?_
  · apply Frame.upd <;> first | assumption | exact Or.inl (w (by decide)) | exact Or.inr rfl | exact List.suffix_rfl
  · refine State.riserJudge_frame _ ?_ (List.Subset.trans (by decide) w)
    refine State.riserCross_frame _ _ ?_ (List.Subset.trans (by decide) w)
    assumption

theorem State.tick_frame (x) (h : Frame ch s x) (w : ([.per, .m] : List Block) ⊆ ch) :
    Frame ch s (State.tick x) := by
  delta State.tick
  extract_lets +onlyGivenNames y1
  extract_lets +onlyGivenNames y2
  have h2 : Frame ch s y2 := by
    unfold y2
    apply Frame.upd <;> first | assumption | exact Or.inl (w (by decide)) | exact Or.inr rfl | exact List.suffix_rfl
  clear_value y2
  refine Frame.ite ?_ ?_
  · extract_lets +onlyGivenNames y3
    clear_value y3
    apply Frame.upd <;> first | assumption | exact Or.inl (w (by decide)) | exact Or.inr rfl | exact List.suffix_rfl
  · assumption

theorem State.lifeAdd_frame (x a1 a2) (h : Frame ch s x) (w : ([.per] : List Block) ⊆ ch) :
    Frame ch s (State.lifeAdd x a1 a2) := by
  delta State.lifeAdd
  apply Frame.upd <;> first | assumption | exact Or.inl (w (by decide)) | exact Or.inr rfl | exact List.suffix_rfl

theorem State.wearFigures_frame (x) (h : Frame ch s x) (w : ([.per] : List Block) ⊆ ch) :
    Frame ch s (State.wearFigures x) := by
  delta State.wearFigures
  extract_lets +onlyGivenNames y1
  clear_value y1
  extract_lets +onlyGivenNames y2
  clear_value y2
  extract_lets +onlyGivenNames y3
  clear_value y3
  extract_lets +onlyGivenNames y4
  clear_value y4
  extract_lets +onlyGivenNames y5
  clear_value y5
  extract_lets +onlyGivenNames y6
  clear_value y6
  extract_lets +onlyGivenNames y7
  clear_value y7
  extract_lets +onlyGivenNames y8
  clear_value y8
  extract_lets +onlyGivenNames y9
  clear_value y9
  extract_lets +onlyGivenNames y10
  clear_value y10
  apply Frame.upd <;> first | assumption | exact Or.inl (w (by decide)) | exact Or.inr rfl | exact List.suffix_rfl

theorem State.wearUpdate_frame (x) (h : Frame ch s x) (w : ([.per, .log] : List Block) ⊆ ch) :
    Frame ch s (State.wearUpdate x) := by
  delta State.wearUpdate
  extract_lets +onlyGivenNames y1
  clear_value y1
  extract_lets +onlyGivenNames y2
  have h2 : Frame ch s y2 := by
    unfold y2
    exact State.wearFigures_frame _ h (List.Subset.trans (by decide) w)
  clear_value y2
  extract_lets +onlyGivenNames y3
  extract_lets +onlyGivenNames y4
  have h4 : Frame ch s y4 := by
    unfold y4
    split
    · refine State.logG_frame _ _ _ ?_ (List.Subset.trans (by decide) w)
      apply Frame.upd (c_commits := Or.inr (Persist.commitPart_low ..)) <;> first | assumption | exact Or.inl (w (by decide)) | exact Or.inr rfl | exact List.suffix_rfl
    · assumption
  clear_value y4
  split
  · refine State.logG_frame _ _ _ ?_ (List.Subset.trans (by decide) w)
    apply Frame.upd (c_commits := Or.inr (Persist.commitPart_low ..)) <;> first | assumption | exact Or.inl (w (by decide)) | exact Or.inr rfl | exact List.suffix_rfl
  · assumption

theorem State.writeLife_frame (x) (h : Frame ch s x) (w : ([.tnd, .per, .commits] : List Block) ⊆ ch) :
    Frame ch s (State.writeLife x) := by
  delta State.writeLife
  extract_lets +onlyGivenNames y1
  clear_value y1
  refine State.commit_frame _ _ _ _ _ ?_ (List.Subset.trans (by decide) w)
  apply Frame.upd <;> first | assumption | exact Or.inl (w (by decide)) | exact Or.inr rfl | exact List.suffix_rfl

theorem State.addRepair_frame (x a1) (h : Frame ch s x) (w : ([.tnd, .fabric, .commits, .log] : List Block) ⊆ ch) :
    Frame ch s (State.addRepair x a1) := by
  delta State.addRepair
  extract_lets +onlyGivenNames y1
  refine Frame.ite ?_ ?_
  · refine State.commit_frame _ _ _ _ _ ?_ (List.Subset.trans (by decide) w)
    apply Frame.upd <;> first | assumption | exact Or.inl (w (by decide)) | exact Or.inr rfl | exact List.suffix_rfl
  · refine State.logEv_frame _ _ _ _ _ ?_ (List.Subset.trans (by decide) w)
    apply Frame.upd <;> first | assumption | exact Or.inl (w (by decide)) | exact Or.inr rfl | exact List.suffix_rfl

theorem State.retireUnit_frame (x a1 a2 a3) (h : Frame ch s x)
        (w : ([.tnd, .fabric, .commits, .log] : List Block) ⊆ ch) :
    Frame ch s (State.retireUnit x a1 a2 a3) := by
  delta State.retireUnit
  refine Frame.ite ?_ ?_
  · refine State.addRepair_frame _ _ ?_ (List.Subset.trans (by decide) w)
    assumption
  · assumption

theorem State.retirePosition_frame (x a1) (h : Frame ch s x)
        (w : ([.tnd, .fabric, .commits, .log] : List Block) ⊆ ch) :
    Frame ch s (State.retirePosition x a1) := by
  delta State.retirePosition
  refine Frame.ite ?_ ?_
  · refine State.addRepair_frame _ _ ?_ (List.Subset.trans (by decide) w)
    assumption
  · assumption

theorem State.setSlot_frame (x a1 a2) (h : Frame ch s x) (w : ([.commits] : List Block) ⊆ ch) :
    Frame ch s (State.setSlot x a1 a2) := by
  delta State.setSlot
  refine Frame.ite ?_ ?_
  · assumption
  · apply Frame.upd <;> first | assumption | exact Or.inl (w (by decide)) | exact Or.inr rfl | exact List.suffix_rfl

theorem State.addStrike_frame (x a1 a2 a3) (h : Frame ch s x) (w : ([.tnd, .fabric, .commits] : List Block) ⊆ ch) :
    Frame ch s (State.addStrike x a1 a2 a3) := by
  delta State.addStrike
  extract_lets +onlyGivenNames y1
  clear_value y1
  refine State.commit_frame _ _ _ _ _ ?_ (List.Subset.trans (by decide) w)
  apply Frame.upd <;> first | assumption | exact Or.inl (w (by decide)) | exact Or.inr rfl | exact List.suffix_rfl

theorem State.modLink_frame (x a1 a2) (h : Frame ch s x) (w : ([.fabric] : List Block) ⊆ ch) :
    Frame ch s (State.modLink x a1 a2) := by
  delta State.modLink
  apply Frame.upd <;> first | assumption | exact Or.inl (w (by decide)) | exact Or.inr rfl | exact List.suffix_rfl

theorem State.modCluster_frame (x a1 a2) (h : Frame ch s x) (w : ([.clusters] : List Block) ⊆ ch) :
    Frame ch s (State.modCluster x a1 a2) := by
  delta State.modCluster
  apply Frame.upd <;> first | assumption | exact Or.inl (w (by decide)) | exact Or.inr rfl | exact List.suffix_rfl

theorem State.onCluster_frame (x a1 a2) (h : Frame ch s x) (w : ([.clusters] : List Block) ⊆ ch) :
    Frame ch s (State.onCluster x a1 a2) := by
  delta State.onCluster
  apply Frame.upd <;> first | assumption | exact Or.inl (w (by decide)) | exact Or.inr rfl | exact List.suffix_rfl

theorem State.callSbu_frame (x a1 a2) (h : Frame ch s x) (w : ([.clusters] : List Block) ⊆ ch) :
    Frame ch s (State.callSbu x a1 a2) := by
  delta State.callSbu
  extract_lets +onlyGivenNames y1
  clear_value y1
  refine State.onCluster_frame _ _ _ ?_ (List.Subset.trans (by decide) w)
  assumption

theorem State.reissue_frame (x a1 a2) (h : Frame ch s x) (w : ([.clusters] : List Block) ⊆ ch) :
    Frame ch s (State.reissue x a1 a2) := by
  delta State.reissue
  extract_lets +onlyGivenNames y1
  clear_value y1
  refine Frame.fold ?_ (fun y2 a2 h2 => ?_)
  · refine State.onCluster_frame _ _ _ ?_ (List.Subset.trans (by decide) w)
    assumption
  · refine State.callSbu_frame _ _ _ ?_ (List.Subset.trans (by decide) w)
    assumption

theorem State.callBlocks_frame (x a1) (h : Frame ch s x) (w : ([.clusters] : List Block) ⊆ ch) :
    Frame ch s (State.callBlocks x a1) := by
  delta State.callBlocks
  split
  · refine Frame.fold ?_ (fun y1 a1 h1 => ?_)
    · assumption
    · refine State.callSbu_frame _ _ _ ?_ (List.Subset.trans (by decide) w)
      assumption
  · assumption

theorem State.leaveCluster_frame (x a1) (h : Frame ch s x) (w : ([.clusters] : List Block) ⊆ ch) :
    Frame ch s (State.leaveCluster x a1) := by
  delta State.leaveCluster
  split
  · refine State.onCluster_frame _ _ _ ?_ (List.Subset.trans (by decide) w)
    assumption
  · assumption

theorem State.modSlice_frame (x a1 a2) (h : Frame ch s x) (w : ([.slc] : List Block) ⊆ ch) :
    Frame ch s (State.modSlice x a1 a2) := by
  delta State.modSlice
  apply Frame.upd <;> first | assumption | exact Or.inl (w (by decide)) | exact Or.inr rfl | exact List.suffix_rfl

theorem State.modItem_frame (x a1 a2) (h : Frame ch s x) (w : ([.tnd] : List Block) ⊆ ch) :
    Frame ch s (State.modItem x a1 a2) := by
  delta State.modItem
  apply Frame.upd <;> first | assumption | exact Or.inl (w (by decide)) | exact Or.inr rfl | exact List.suffix_rfl

theorem State.freeSlot_frame (x a1) (h : Frame ch s x) (w : ([.tnd] : List Block) ⊆ ch) :
    Frame ch s (State.freeSlot x a1) := by
  delta State.freeSlot
  apply Frame.upd <;> first | assumption | exact Or.inl (w (by decide)) | exact Or.inr rfl | exact List.suffix_rfl

theorem State.setQueue_frame (x a1) (h : Frame ch s x) (w : ([.queues] : List Block) ⊆ ch) :
    Frame ch s (State.setQueue x a1) := by
  delta State.setQueue
  apply Frame.upd <;> first | assumption | exact Or.inl (w (by decide)) | exact Or.inr rfl | exact List.suffix_rfl

theorem State.modQueue_frame (x a1 a2) (h : Frame ch s x) (w : ([.queues] : List Block) ⊆ ch) :
    Frame ch s (State.modQueue x a1 a2) := by
  delta State.modQueue
  refine State.setQueue_frame _ _ ?_ (List.Subset.trans (by decide) w)
  assumption

theorem State.hostWrite_frame (x a1) (h : Frame ch s x) (w : ([.host, .m] : List Block) ⊆ ch) :
    Frame ch s (State.hostWrite x a1) := by
  delta State.hostWrite
  refine Frame.ite ?_ ?_
  · assumption
  · refine Frame.ite ?_ ?_
    · apply Frame.upd <;> first | assumption | exact Or.inl (w (by decide)) | exact Or.inr rfl | exact List.suffix_rfl
    · refine State.emit_frame _ _ ?_ (List.Subset.trans (by decide) w)
      assumption

theorem State.setVec_frame (x a1) (h : Frame ch s x) (w : ([.host] : List Block) ⊆ ch) :
    Frame ch s (State.setVec x a1) := by
  delta State.setVec
  apply Frame.upd <;> first | assumption | exact Or.inl (w (by decide)) | exact Or.inr rfl | exact List.suffix_rfl

theorem State.unmask_frame (x a1) (h : Frame ch s x) (w : ([.host, .m] : List Block) ⊆ ch) :
    Frame ch s (State.unmask x a1) := by
  delta State.unmask
  extract_lets +onlyGivenNames y1
  refine Frame.ite ?_ ?_
  · refine State.hostWrite_frame _ _ ?_ (List.Subset.trans (by decide) w)
    refine State.setVec_frame _ _ ?_ (List.Subset.trans (by decide) w)
    assumption
  · refine State.setVec_frame _ _ ?_ (List.Subset.trans (by decide) w)
    assumption

theorem State.fireVector_frame (x a1) (h : Frame ch s x) (w : ([.host, .m] : List Block) ⊆ ch) :
    Frame ch s (State.fireVector x a1) := by
  delta State.fireVector
  extract_lets +onlyGivenNames y1
  refine Frame.ite ?_ ?_
  · refine State.setVec_frame _ _ ?_ (List.Subset.trans (by decide) w)
    assumption
  · refine State.hostWrite_frame _ _ ?_ (List.Subset.trans (by decide) w)
    refine State.setVec_frame _ _ ?_ (List.Subset.trans (by decide) w)
    assumption

theorem State.notify_frame (x a1) (h : Frame ch s x) (w : ([.host, .m] : List Block) ⊆ ch) :
    Frame ch s (State.notify x a1) := by
  delta State.notify
  extract_lets +onlyGivenNames y1
  extract_lets +onlyGivenNames y2
  have h2 : Frame ch s y2 := by
    unfold y2
    refine State.setVec_frame _ _ ?_ (List.Subset.trans (by decide) w)
    assumption
  clear_value y2
  refine Frame.ite ?_ ?_
  · refine State.fireVector_frame _ _ ?_ (List.Subset.trans (by decide) w)
    assumption
  · assumption

theorem State.writeStatus_frame (x a1) (h : Frame ch s x) (w : ([.host, .slc, .m] : List Block) ⊆ ch) :
    Frame ch s (State.writeStatus x a1) := by
  delta State.writeStatus
  refine Frame.ite ?_ ?_
  · assumption
  · extract_lets +onlyGivenNames y1
    refine Frame.ite ?_ ?_
    · assumption
    · extract_lets +onlyGivenNames y2
      clear_value y2
      extract_lets +onlyGivenNames y3
      have h3 : Frame ch s y3 := by
        unfold y3
        refine State.modSlice_frame _ _ _ ?_ (List.Subset.trans (by decide) w)
        assumption
      clear_value y3
      refine State.hostWrite_frame _ _ ?_ (List.Subset.trans (by decide) w)
      assumption

theorem State.sliceEvent_frame (x a1) (h : Frame ch s x) (w : ([.host, .m] : List Block) ⊆ ch) :
    Frame ch s (State.sliceEvent x a1) := by
  delta State.sliceEvent
  refine Frame.ite ?_ ?_
  · refine State.notify_frame _ _ ?_ (List.Subset.trans (by decide) w)
    assumption
  · assumption

theorem State.setSliceState_frame (x a1 a2 a3 a4) (h : Frame ch s x)
        (w : ([.host, .tnd, .slc, .commits, .m] : List Block) ⊆ ch) :
    Frame ch s (State.setSliceState x a1 a2 a3 a4) := by
  delta State.setSliceState
  extract_lets +onlyGivenNames y1
  extract_lets +onlyGivenNames y2
  have h2 : Frame ch s y2 := by
    unfold y2
    refine State.modSlice_frame _ _ _ ?_ (List.Subset.trans (by decide) w)
    assumption
  clear_value y2
  extract_lets +onlyGivenNames y3
  have h3 : Frame ch s y3 := by
    unfold y3
    refine State.commit_frame _ _ _ _ _ ?_ (List.Subset.trans (by decide) w)
    assumption
  clear_value y3
  refine State.sliceEvent_frame _ _ ?_ (List.Subset.trans (by decide) w)
  refine State.writeStatus_frame _ _ ?_ (List.Subset.trans (by decide) w)
  assumption

theorem State.updateStall_frame (x a1) (h : Frame ch s x) (w : ([.host, .slc, .m] : List Block) ⊆ ch) :
    Frame ch s (State.updateStall x a1) := by
  delta State.updateStall
  extract_lets +onlyGivenNames y1
  clear_value y1
  extract_lets +onlyGivenNames y2
  clear_value y2
  extract_lets +onlyGivenNames y3
  clear_value y3
  refine Frame.ite ?_ ?_
  · assumption
  · refine Frame.ite ?_ ?_
    · apply Frame.upd <;> first | assumption | exact Or.inl (w (by decide)) | exact Or.inr rfl | exact List.suffix_rfl
    · refine State.writeStatus_frame _ _ ?_ (List.Subset.trans (by decide) w)
      refine State.modSlice_frame _ _ _ ?_ (List.Subset.trans (by decide) w)
      assumption

theorem State.writeEntry_frame (x a1 a2 a3) (h : Frame ch s x) (w : ([.host, .queues, .slc, .m] : List Block) ⊆ ch) :
    Frame ch s (State.writeEntry x a1 a2 a3) := by
  delta State.writeEntry
  extract_lets +onlyGivenNames y1
  extract_lets +onlyGivenNames y2
  have h2 : Frame ch s y2 := by
    unfold y2
    refine State.hostWrite_frame _ _ ?_ (List.Subset.trans (by decide) w)
    assumption
  clear_value y2
  extract_lets +onlyGivenNames y3
  clear_value y3
  extract_lets +onlyGivenNames y4
  have h4 : Frame ch s y4 := by
    unfold y4
    refine State.setQueue_frame _ _ ?_ (List.Subset.trans (by decide) w)
    assumption
  clear_value y4
  extract_lets +onlyGivenNames y5
  clear_value y5
  extract_lets +onlyGivenNames y6
  have h6 : Frame ch s y6 := by
    unfold y6
    refine Frame.ite ?_ ?_
    · assumption
    · refine State.modSlice_frame _ _ _ ?_ (List.Subset.trans (by decide) w)
      assumption
  clear_value y6
  refine Frame.ite ?_ ?_
  · refine State.notify_frame _ _ ?_ (List.Subset.trans (by decide) w)
    assumption
  · assumption

theorem State.post_frame (x a1) (h : Frame ch s x) (w : ([.host, .queues, .tnd, .slc, .m] : List Block) ⊆ ch) :
    Frame ch s (State.post x a1) := by
  delta State.post
  extract_lets +onlyGivenNames y1
  clear_value y1
  extract_lets +onlyGivenNames y2
  extract_lets +onlyGivenNames y3
  clear_value y3
  extract_lets +onlyGivenNames y4
  extract_lets +onlyGivenNames y5
  have h5 : Frame ch s y5 := by
    unfold y5
    apply Frame.upd <;> first | assumption | exact Or.inl (w (by decide)) | exact Or.inr rfl | exact List.suffix_rfl
  clear_value y5
  extract_lets +onlyGivenNames y6
  clear_value y6
  extract_lets +onlyGivenNames y7
  extract_lets +onlyGivenNames y8
  extract_lets +onlyGivenNames y9
  have h9 : Frame ch s y9 := by
    unfold y9
    apply Frame.upd <;> first | assumption | exact Or.inl (w (by decide)) | exact Or.inr rfl | exact List.suffix_rfl
  clear_value y9
  extract_lets +onlyGivenNames y10
  have h10 : Frame ch s y10 := by
    unfold y10
    refine Frame.ite ?_ ?_
    · refine Frame.ite ?_ ?_
      · refine State.freeSlot_frame _ _ ?_ (List.Subset.trans (by decide) w)
        assumption
      · refine State.modItem_frame _ _ _ ?_ (List.Subset.trans (by decide) w)
        assumption
    · refine State.freeSlot_frame _ _ ?_ (List.Subset.trans (by decide) w)
      refine State.writeEntry_frame _ _ _ _ ?_ (List.Subset.trans (by decide) w)
      assumption
  clear_value y10
  refine State.updateStall_frame _ _ ?_ (List.Subset.trans (by decide) w)
  assumption

theorem State.writeOldest_frame (x a1) (h : Frame ch s x) (w : ([.host, .queues, .tnd, .slc, .m] : List Block) ⊆ ch) :
    FrameO ch s (State.writeOldest x a1) := by
  delta State.writeOldest
  extract_lets +onlyGivenNames y1
  split
  · exact FrameO.none
  · extract_lets +onlyGivenNames y2
    clear_value y2
    extract_lets +onlyGivenNames y3
    clear_value y3
    extract_lets +onlyGivenNames y4
    split
    · refine FrameO.map (fun y5 => ?_)
      unfold y4
      refine State.freeSlot_frame _ _ ?_ (List.Subset.trans (by decide) w)
      refine State.writeEntry_frame _ _ _ _ ?_ (List.Subset.trans (by decide) w)
      assumption
    · split
      · refine FrameO.some ?_
        unfold y4
        refine State.freeSlot_frame _ _ ?_ (List.Subset.trans (by decide) w)
        refine State.writeEntry_frame _ _ _ _ ?_ (List.Subset.trans (by decide) w)
        assumption
      · extract_lets +onlyGivenNames y6
        extract_lets +onlyGivenNames y7
        have h7 : Frame ch s y7 := by
          unfold y7
          apply Frame.upd <;> first | assumption | exact Or.inl (w (by decide)) | exact Or.inr rfl | exact List.suffix_rfl
        clear_value y7
        refine FrameO.some ?_
        refine State.writeEntry_frame _ _ _ _ ?_ (List.Subset.trans (by decide) w)
        assumption

theorem State.writeWaiting_frame (x a1 a2) (h : Frame ch s x)
        (w : ([.host, .queues, .tnd, .slc, .m] : List Block) ⊆ ch) :
    Frame ch s (State.writeWaiting x a1 a2) := by
  induction a2 generalizing x a1 with
  | zero =>
    unfold State.writeWaiting
    assumption
  | succ e1 ih =>
    unfold State.writeWaiting
    split
    · refine ih _ _ ?_
      refine Frame.ofSome ‹_› ?_
      refine State.writeOldest_frame _ _ ?_ (List.Subset.trans (by decide) w)
      assumption
    · assumption

theorem State.setDeficit_frame (x a1 a2 a3) (h : Frame ch s x) (w : ([.tnd] : List Block) ⊆ ch) :
    Frame ch s (State.setDeficit x a1 a2 a3) := by
  delta State.setDeficit
  apply Frame.upd <;> first | assumption | exact Or.inl (w (by decide)) | exact Or.inr rfl | exact List.suffix_rfl

theorem State.arrive_frame (x a1 a2) (h : Frame ch s x) (w : ([.tnd] : List Block) ⊆ ch) :
    Frame ch s (State.arrive x a1 a2) := by
  delta State.arrive
  refine State.setDeficit_frame _ _ _ _ ?_ (List.Subset.trans (by decide) w)
  assumption

theorem State.setRound_frame (x a1 a2) (h : Frame ch s x) (w : ([.tnd] : List Block) ⊆ ch) :
    Frame ch s (State.setRound x a1 a2) := by
  delta State.setRound
  apply Frame.upd <;> first | assumption | exact Or.inl (w (by decide)) | exact Or.inr rfl | exact List.suffix_rfl

theorem State.syncRound_frame (x a1) (h : Frame ch s x) (w : ([.tnd] : List Block) ⊆ ch) :
    Frame ch s (State.syncRound x a1) := by
  delta State.syncRound
  extract_lets +onlyGivenNames y1
  clear_value y1
  extract_lets +onlyGivenNames y2
  clear_value y2
  refine Frame.ite ?_ ?_
  · assumption
  · extract_lets +onlyGivenNames y3
    clear_value y3
    extract_lets +onlyGivenNames y4
    clear_value y4
    extract_lets +onlyGivenNames y5
    have h5 : Frame ch s y5 := by
      unfold y5
      refine Frame.fold ?_ (fun y6 a6 h6 => ?_)
      · assumption
      · refine State.setDeficit_frame _ _ _ _ ?_ (List.Subset.trans (by decide) w)
        assumption
    clear_value y5
    extract_lets +onlyGivenNames y7
    have h7 : Frame ch s y7 := by
      unfold y7
      refine State.setRound_frame _ _ _ ?_ (List.Subset.trans (by decide) w)
      assumption
    clear_value y7
    split
    · assumption
    · refine Frame.ite ?_ ?_
      · assumption
      · refine State.arrive_frame _ _ _ ?_ (List.Subset.trans (by decide) w)
        assumption

theorem State.syncRounds_frame (x) (h : Frame ch s x) (w : ([.tnd] : List Block) ⊆ ch) :
    Frame ch s (State.syncRounds x) := by
  delta State.syncRounds
  refine Frame.fold ?_ (fun y1 a1 h1 => ?_)
  · assumption
  · refine State.syncRound_frame _ _ ?_ (List.Subset.trans (by decide) w)
    assumption

theorem State.freeHub_frame (x a1) (h : Frame ch s x) (w : ([.kst] : List Block) ⊆ ch) :
    Frame ch s (State.freeHub x a1) := by
  delta State.freeHub
  apply Frame.upd <;> first | assumption | exact Or.inl (w (by decide)) | exact Or.inr rfl | exact List.suffix_rfl

theorem State.queueDrained_frame (x a1) (h : Frame ch s x) (w : ([.queues] : List Block) ⊆ ch) :
    Frame ch s (State.queueDrained x a1) := by
  delta State.queueDrained
  extract_lets +onlyGivenNames y1
  refine Frame.ite ?_ ?_
  · refine Frame.ite ?_ ?_
    · refine State.setQueue_frame _ _ ?_ (List.Subset.trans (by decide) w)
      assumption
    · refine State.setQueue_frame _ _ ?_ (List.Subset.trans (by decide) w)
      assumption
  · assumption

theorem State.bindSlice_frame (x a1 a2 a3) (h : Frame ch s x)
        (w : ([.host, .tnd, .slc, .commits, .m] : List Block) ⊆ ch) :
    Frame ch s (State.bindSlice x a1 a2 a3) := by
  delta State.bindSlice
  extract_lets +onlyGivenNames y1
  extract_lets +onlyGivenNames y2
  clear_value y2
  extract_lets +onlyGivenNames y3
  have h3 : Frame ch s y3 := by
    unfold y3
    refine State.modSlice_frame _ _ _ ?_ (List.Subset.trans (by decide) w)
    assumption
  clear_value y3
  refine State.writeStatus_frame _ _ ?_ (List.Subset.trans (by decide) w)
  refine State.commit_frame _ _ _ _ _ ?_ (List.Subset.trans (by decide) w)
  assumption

theorem State.unwait_frame (x a1 a2) (h : Frame ch s x) (w : ([.tnd] : List Block) ⊆ ch) :
    Frame ch s (State.unwait x a1 a2) := by
  delta State.unwait
  refine State.modItem_frame _ _ _ ?_ (List.Subset.trans (by decide) w)
  assumption

theorem State.drainOver_frame (x a1) (h : Frame ch s x) (w : ([.tnd] : List Block) ⊆ ch) :
    Frame ch s (State.drainOver x a1) := by
  delta State.drainOver
  refine State.modItem_frame _ _ _ ?_ (List.Subset.trans (by decide) w)
  assumption

theorem State.clearQueues_frame (x a1) (h : Frame ch s x) (w : ([.queues] : List Block) ⊆ ch) :
    Frame ch s (State.clearQueues x a1) := by
  delta State.clearQueues
  apply Frame.upd <;> first | assumption | exact Or.inl (w (by decide)) | exact Or.inr rfl | exact List.suffix_rfl

theorem State.detachDone_frame (x a1) (h : Frame ch s x)
        (w : ([.host, .queues, .tnd, .slc, .commits, .m] : List Block) ⊆ ch) :
    Frame ch s (State.detachDone x a1) := by
  delta State.detachDone
  refine Frame.ite ?_ ?_
  · assumption
  · extract_lets +onlyGivenNames y1
    have h1 : Frame ch s y1 := by
      unfold y1
      refine State.clearQueues_frame _ _ ?_ (List.Subset.trans (by decide) w)
      assumption
    clear_value y1
    refine Frame.ite ?_ ?_
    · apply Frame.upd <;> first | assumption | exact Or.inl (w (by decide)) | exact Or.inr rfl | exact List.suffix_rfl
    · extract_lets +onlyGivenNames y2
      clear_value y2
      extract_lets +onlyGivenNames y3
      have h3 : Frame ch s y3 := by
        unfold y3
        refine Frame.fold ?_ (fun y4 a4 h4 => ?_)
        · assumption
        · refine State.unwait_frame _ _ _ ?_ (List.Subset.trans (by decide) w)
          assumption
      clear_value y3
      extract_lets +onlyGivenNames y5
      have h5 : Frame ch s y5 := by
        unfold y5
        refine State.modSlice_frame _ _ _ ?_ (List.Subset.trans (by decide) w)
        assumption
      clear_value y5
      split
      · refine State.drainOver_frame _ _ ?_ (List.Subset.trans (by decide) w)
        refine State.bindSlice_frame _ _ _ _ ?_ (List.Subset.trans (by decide) w)
        assumption
      · assumption

theorem State.zeroSlice_frame (x a1) (h : Frame ch s x) (w : ([.clusters, .kst] : List Block) ⊆ ch) :
    Frame ch s (State.zeroSlice x a1) := by
  delta State.zeroSlice
  extract_lets +onlyGivenNames y1
  have h1 : Frame ch s y1 := by
    unfold y1
    refine Frame.fold ?_ (fun y2 a2 h2 => ?_)
    · assumption
    · refine State.freeHub_frame _ _ ?_ (List.Subset.trans (by decide) w)
      assumption
  clear_value y1
  apply Frame.upd <;> first | assumption | exact Or.inl (w (by decide)) | exact Or.inr rfl | exact List.suffix_rfl

theorem State.eraseRecords_frame (x a1 a2 a3) (h : Frame ch s x)
        (w : ([.tnd, .kst, .slc, .commits] : List Block) ⊆ ch) :
    Frame ch s (State.eraseRecords x a1 a2 a3) := by
  delta State.eraseRecords
  extract_lets +onlyGivenNames y1
  extract_lets +onlyGivenNames y2
  clear_value y2
  extract_lets +onlyGivenNames y3
  have h3 : Frame ch s y3 := by
    unfold y3
    refine State.forgetCounts_frame _ _ ?_ (List.Subset.trans (by decide) w)
    refine State.modSlice_frame _ _ _ ?_ (List.Subset.trans (by decide) w)
    assumption
  clear_value y3
  extract_lets +onlyGivenNames y4
  extract_lets +onlyGivenNames y5
  extract_lets +onlyGivenNames y6
  have h6 : Frame ch s y6 := by
    unfold y6
    apply Frame.upd <;> first | assumption | exact Or.inl (w (by decide)) | exact Or.inr rfl | exact List.suffix_rfl
  clear_value y6
  refine State.commit_frame _ _ _ _ _ ?_ (List.Subset.trans (by decide) w)
  assumption

theorem State.eraseSlice_frame (x a1 a2) (h : Frame ch s x)
        (w : ([.queues, .tnd, .clusters, .kst, .mea, .slc, .commits] : List Block) ⊆ ch) :
    Frame ch s (State.eraseSlice x a1 a2) := by
  delta State.eraseSlice
  extract_lets +onlyGivenNames y1
  have h1 : Frame ch s y1 := by
    unfold y1
    refine State.clearQueues_frame _ _ ?_ (List.Subset.trans (by decide) w)
    refine State.zeroSlice_frame _ _ ?_ (List.Subset.trans (by decide) w)
    assumption
  clear_value y1
  extract_lets +onlyGivenNames y2
  extract_lets +onlyGivenNames y3
  extract_lets +onlyGivenNames y4
  have h4 : Frame ch s y4 := by
    unfold y4
    apply Frame.upd <;> first | assumption | exact Or.inl (w (by decide)) | exact Or.inr rfl | exact List.suffix_rfl
  clear_value y4
  refine State.eraseRecords_frame _ _ _ _ ?_ (List.Subset.trans (by decide) w)
  assumption

theorem State.createSlice_frame (x a1 a2) (h : Frame ch s x) (w : ([.tnd, .slc, .commits, .m] : List Block) ⊆ ch) :
    Frame ch s (State.createSlice x a1 a2) := by
  delta State.createSlice
  extract_lets +onlyGivenNames y1
  extract_lets +onlyGivenNames y2
  have h2 : Frame ch s y2.2 := by
    unfold y2
    refine State.draw_frame _ _ ?_ (List.Subset.trans (by decide) w)
    assumption
  clear_value y2
  extract_lets +onlyGivenNames y3
  have h3 : Frame ch s y3 := by
    unfold y3
    refine State.modSlice_frame _ _ _ ?_ (List.Subset.trans (by decide) w)
    assumption
  clear_value y3
  refine State.commit_frame _ _ _ _ _ ?_ (List.Subset.trans (by decide) w)
  assumption

theorem State.drainsOver_frame (x a1 a2) (h : Frame ch s x) (w : ([.tnd, .commits] : List Block) ⊆ ch) :
    Frame ch s (State.drainsOver x a1 a2) := by
  delta State.drainsOver
  refine Frame.fold ?_ (fun y1 a1 h1 => ?_)
  · refine Frame.fold ?_ (fun y2 a2 h2 => ?_)
    · assumption
    · refine State.drainOver_frame _ _ ?_ (List.Subset.trans (by decide) w)
      assumption
  · refine State.commit_frame _ _ _ _ _ ?_ (List.Subset.trans (by decide) w)
    assumption

theorem State.deleteDone_frame (x a1) (h : Frame ch s x)
        (w : ([.queues, .tnd, .clusters, .kst, .mea, .slc, .commits, .m] : List Block) ⊆ ch) :
    Frame ch s (State.deleteDone x a1) := by
  delta State.deleteDone
  extract_lets +onlyGivenNames y1
  extract_lets +onlyGivenNames y2
  have h2 : Frame ch s y2 := by
    unfold y2
    refine State.drainsOver_frame _ _ _ ?_ (List.Subset.trans (by decide) w)
    refine State.eraseSlice_frame _ _ _ ?_ (List.Subset.trans (by decide) w)
    assumption
  clear_value y2
  split
  · assumption
  · refine State.drainsOver_frame _ _ _ ?_ (List.Subset.trans (by decide) w)
    refine State.createSlice_frame _ _ _ ?_ (List.Subset.trans (by decide) w)
    assumption

theorem State.freezeDone_frame (x a1) (h : Frame ch s x)
        (w : ([.host, .queues, .tnd, .kst, .slc, .commits, .m] : List Block) ⊆ ch) :
    Frame ch s (State.freezeDone x a1) := by
  delta State.freezeDone
  extract_lets +onlyGivenNames y1
  extract_lets +onlyGivenNames y2
  have h2 : Frame ch s y2 := by
    unfold y2
    refine State.modSlice_frame _ _ _ ?_ (List.Subset.trans (by decide) w)
    assumption
  clear_value y2
  extract_lets +onlyGivenNames y3
  extract_lets +onlyGivenNames y4
  extract_lets +onlyGivenNames y5
  extract_lets +onlyGivenNames y6
  have h6 : Frame ch s y6 := by
    unfold y6
    apply Frame.upd <;> first | assumption | exact Or.inl (w (by decide)) | exact Or.inr rfl | exact List.suffix_rfl
  clear_value y6
  extract_lets +onlyGivenNames y7
  have h7 : Frame ch s y7 := by
    unfold y7
    refine Frame.fold ?_ (fun y8 a8 h8 => ?_)
    · assumption
    · refine State.freeHub_frame _ _ ?_ (List.Subset.trans (by decide) w)
      assumption
  clear_value y7
  refine State.drainsOver_frame _ _ _ ?_ (List.Subset.trans (by decide) w)
  refine State.setSliceState_frame _ _ _ _ _ ?_ (List.Subset.trans (by decide) w)
  assumption

theorem State.sliceDrained_frame (x a1) (h : Frame ch s x)
        (w : ([.host, .queues, .tnd, .clusters, .kst, .mea, .slc, .commits, .m] : List Block) ⊆ ch) :
    Frame ch s (State.sliceDrained x a1) := by
  delta State.sliceDrained
  refine Frame.ite ?_ ?_
  · assumption
  · refine Frame.ite ?_ ?_
    · refine State.deleteDone_frame _ _ ?_ (List.Subset.trans (by decide) w)
      assumption
    · refine Frame.ite ?_ ?_
      · refine State.freezeDone_frame _ _ ?_ (List.Subset.trans (by decide) w)
        assumption
      · assumption

theorem State.openFences_frame (x a1) (h : Frame ch s x) (w : ([.tnd] : List Block) ⊆ ch) :
    Frame ch s (State.openFences x a1) := by
  delta State.openFences
  apply Frame.upd <;> first | assumption | exact Or.inl (w (by decide)) | exact Or.inr rfl | exact List.suffix_rfl

theorem State.releaseOrdered_frame (x a1 a2) (h : Frame ch s x)
        (w : ([.host, .queues, .tnd, .slc, .m] : List Block) ⊆ ch) :
    Frame ch s (State.releaseOrdered x a1 a2) := by
  induction a2 generalizing x a1 with
  | zero =>
    unfold State.releaseOrdered
    assumption
  | succ e1 ih =>
    unfold State.releaseOrdered
    split
    · refine ih _ _ ?_
      refine State.post_frame _ _ ?_ (List.Subset.trans (by decide) w)
      assumption
    · assumption

theorem State.afterFinish_frame (x a1) (h : Frame ch s x)
        (w : ([.host, .queues, .tnd, .clusters, .kst, .mea, .slc, .commits, .m] : List Block) ⊆ ch) :
    Frame ch s (State.afterFinish x a1) := by
  delta State.afterFinish
  extract_lets +onlyGivenNames y1
  have h1 : Frame ch s y1 := by
    unfold y1
    refine State.openFences_frame _ _ ?_ (List.Subset.trans (by decide) w)
    assumption
  clear_value y1
  extract_lets +onlyGivenNames y2
  have h2 : Frame ch s y2 := by
    unfold y2
    refine Frame.ite ?_ ?_
    · refine State.releaseOrdered_frame _ _ _ ?_ (List.Subset.trans (by decide) w)
      assumption
    · assumption
  clear_value y2
  refine State.syncRounds_frame _ ?_ (List.Subset.trans (by decide) w)
  refine State.detachDone_frame _ _ ?_ (List.Subset.trans (by decide) w)
  refine State.sliceDrained_frame _ _ ?_ (List.Subset.trans (by decide) w)
  refine State.queueDrained_frame _ _ ?_ (List.Subset.trans (by decide) w)
  assumption

theorem State.freeDrained_frame (x) (h : Frame ch s x) (w : ([.kst] : List Block) ⊆ ch) :
    Frame ch s (State.freeDrained x) := by
  delta State.freeDrained
  refine Frame.fold ?_ (fun y1 a1 h1 => ?_)
  · assumption
  · refine State.freeHub_frame _ _ ?_ (List.Subset.trans (by decide) w)
    assumption

theorem State.undoAlloc_frame (x a1) (h : Frame ch s x) (w : ([.kst, .commits] : List Block) ⊆ ch) :
    Frame ch s (State.undoAlloc x a1) := by
  delta State.undoAlloc
  extract_lets +onlyGivenNames y1
  clear_value y1
  extract_lets +onlyGivenNames y2
  clear_value y2
  apply Frame.upd <;> first | assumption | exact Or.inl (w (by decide)) | exact Or.inr rfl | exact List.suffix_rfl

theorem State.letGo_frame (x a1) (h : Frame ch s x)
        (w : ([.tnd, .clusters, .kst, .mea, .slc, .ngl, .commits] : List Block) ⊆ ch) :
    Frame ch s (State.letGo x a1) := by
  delta State.letGo
  extract_lets +onlyGivenNames y1
  have h1 : Frame ch s y1 := by
    unfold y1
    split
    · refine State.leaveCluster_frame _ _ ?_ (List.Subset.trans (by decide) w)
      refine Frame.ite ?_ ?_
      · refine State.undoAlloc_frame _ _ ?_ (List.Subset.trans (by decide) w)
        assumption
      · assumption
    · assumption
  clear_value y1
  extract_lets +onlyGivenNames y2
  extract_lets +onlyGivenNames y3
  extract_lets +onlyGivenNames y4
  extract_lets +onlyGivenNames y5
  extract_lets +onlyGivenNames y6
  extract_lets +onlyGivenNames y7
  have h7 : Frame ch s y7 := by
    unfold y7
    apply Frame.upd <;> first | assumption | exact Or.inl (w (by decide)) | exact Or.inr rfl | exact List.suffix_rfl
  clear_value y7
  refine State.modItem_frame _ _ _ ?_ (List.Subset.trans (by decide) w)
  assumption

theorem State.releaseHolds_frame (x a1) (h : Frame ch s x)
        (w : ([.tnd, .clusters, .kst, .mea, .slc, .ngl, .commits] : List Block) ⊆ ch) :
    Frame ch s (State.releaseHolds x a1) := by
  delta State.releaseHolds
  refine State.freeDrained_frame _ ?_ (List.Subset.trans (by decide) w)
  refine State.modItem_frame _ _ _ ?_ (List.Subset.trans (by decide) w)
  refine State.letGo_frame _ _ ?_ (List.Subset.trans (by decide) w)
  assumption

theorem State.finishItem_frame (x a1) (h : Frame ch s x)
        (w : ([.host, .queues, .tnd, .clusters, .kst, .mea, .slc, .ngl, .commits, .m] : List Block) ⊆ ch) :
    Frame ch s (State.finishItem x a1) := by
  delta State.finishItem
  split
  · assumption
  · extract_lets +onlyGivenNames y1
    have h1 : Frame ch s y1 := by
      unfold y1
      refine State.releaseHolds_frame _ _ ?_ (List.Subset.trans (by decide) w)
      assumption
    clear_value y1
    extract_lets +onlyGivenNames y2
    extract_lets +onlyGivenNames y3
    have h3 : Frame ch s y3 := by
      unfold y3
      apply Frame.upd <;> first | assumption | exact Or.inl (w (by decide)) | exact Or.inr rfl | exact List.suffix_rfl
    clear_value y3
    extract_lets +onlyGivenNames y4
    have h4 : Frame ch s y4 := by
      unfold y4
      refine State.modItem_frame _ _ _ ?_ (List.Subset.trans (by decide) w)
      assumption
    clear_value y4
    extract_lets +onlyGivenNames y5
    have h5 : Frame ch s y5 := by
      unfold y5
      refine Frame.ite ?_ ?_
      · refine State.freeSlot_frame _ _ ?_ (List.Subset.trans (by decide) w)
        assumption
      · refine Frame.ite ?_ ?_
        · assumption
        · split
          · refine State.post_frame _ _ ?_ (List.Subset.trans (by decide) w)
            assumption
          · assumption
    clear_value y5
    refine State.afterFinish_frame _ _ ?_ (List.Subset.trans (by decide) w)
    assumption

theorem State.endItem_frame (x a1 a2 a3) (h : Frame ch s x)
        (w : ([.host, .queues, .tnd, .clusters, .kst, .mea, .slc, .ngl, .commits, .m] : List Block) ⊆ ch) :
    Frame ch s (State.endItem x a1 a2 a3) := by
  delta State.endItem
  refine State.finishItem_frame _ _ ?_ (List.Subset.trans (by decide) w)
  refine State.modItem_frame _ _ _ ?_ (List.Subset.trans (by decide) w)
  assumption

theorem State.endItems_frame (x a1 a2 a3) (h : Frame ch s x)
        (w : ([.host, .queues, .tnd, .clusters, .kst, .mea, .slc, .ngl, .commits, .m] : List Block) ⊆ ch) :
    Frame ch s (State.endItems x a1 a2 a3) := by
  delta State.endItems
  refine Frame.fold ?_ (fun y1 a1 h1 => ?_)
  · assumption
  · refine State.endItem_frame _ _ _ _ ?_ (List.Subset.trans (by decide) w)
    assumption

theorem State.writeOutput_frame (x a1) (h : Frame ch s x) (w : ([.host, .m] : List Block) ⊆ ch) :
    Frame ch s (State.writeOutput x a1) := by
  delta State.writeOutput
  refine Frame.ite ?_ ?_
  · assumption
  · refine State.hostWrite_frame _ _ ?_ (List.Subset.trans (by decide) w)
    assumption

theorem State.cutAt_frame (x a1 a2 a3 a4 a5) (h : Frame ch s x)
        (w : ([.host, .queues, .tnd, .clusters, .kst, .mea, .slc, .ngl, .commits, .m] : List Block) ⊆ ch) :
    Frame ch s (State.cutAt x a1 a2 a3 a4 a5) := by
  delta State.cutAt
  split
  · assumption
  · extract_lets +onlyGivenNames y1
    clear_value y1
    refine Frame.ite ?_ ?_
    · extract_lets +onlyGivenNames y2
      have h2 : Frame ch s y2 := by
        unfold y2
        refine State.writeOutput_frame _ _ ?_ (List.Subset.trans (by decide) w)
        assumption
      clear_value y2
      refine State.finishItem_frame _ _ ?_ (List.Subset.trans (by decide) w)
      refine State.modItem_frame _ _ _ ?_ (List.Subset.trans (by decide) w)
      assumption
    · refine State.endItem_frame _ _ _ _ ?_ (List.Subset.trans (by decide) w)
      assumption

theorem State.progressOf_frame (x a1) (h : Frame ch s x) (w : ([.m] : List Block) ⊆ ch) :
    Frame ch s (State.progressOf x a1).1 := by
  delta State.progressOf
  split
  · refine Frame.fstIte ?_ ?_
    · dsimp only
      apply Frame.upd <;> first | assumption | exact Or.inl (w (by decide)) | exact Or.inr rfl | exact List.suffix_rfl
    · dsimp only
      assumption
  · dsimp only
    assumption

theorem State.cutItem_frame (x a1) (h : Frame ch s x)
        (w : ([.host, .queues, .tnd, .clusters, .kst, .mea, .slc, .ngl, .commits, .m] : List Block) ⊆ ch) :
    Frame ch s (State.cutItem x a1) := by
  delta State.cutItem
  split
  refine State.cutAt_frame _ _ _ _ _ _ ?_ (List.Subset.trans (by decide) w)
  refine Frame.ofFst ‹_› ?_
  refine State.progressOf_frame _ _ ?_ (List.Subset.trans (by decide) w)
  assumption

theorem State.dropItem_frame (x a1) (h : Frame ch s x)
        (w : ([.host, .queues, .tnd, .clusters, .kst, .mea, .slc, .ngl, .commits, .m] : List Block) ⊆ ch) :
    Frame ch s (State.dropItem x a1) := by
  delta State.dropItem
  split
  · assumption
  · refine State.afterFinish_frame _ _ ?_ (List.Subset.trans (by decide) w)
    refine State.freeSlot_frame _ _ ?_ (List.Subset.trans (by decide) w)
    refine State.releaseHolds_frame _ _ ?_ (List.Subset.trans (by decide) w)
    assumption

theorem State.beginDetach_frame (x a1 a2) (h : Frame ch s x)
        (w : ([.host, .queues, .tnd, .clusters, .kst, .mea, .slc, .ngl, .commits, .m] : List Block) ⊆ ch) :
    Frame ch s (State.beginDetach x a1 a2) := by
  delta State.beginDetach
  refine Frame.ite ?_ ?_
  · assumption
  · extract_lets +onlyGivenNames y1
    clear_value y1
    extract_lets +onlyGivenNames y2
    extract_lets +onlyGivenNames y3
    extract_lets +onlyGivenNames y4
    have h4 : Frame ch s y4 := by
      unfold y4
      refine Frame.ite ?_ ?_
      · apply Frame.upd <;> first | assumption | exact Or.inl (w (by decide)) | exact Or.inr rfl | exact List.suffix_rfl
      · refine State.modSlice_frame _ _ _ ?_ (List.Subset.trans (by decide) w)
        assumption
    clear_value y4
    extract_lets +onlyGivenNames y5
    have h5 : Frame ch s y5 := by
      unfold y5
      split
      · refine State.modItem_frame _ _ _ ?_ (List.Subset.trans (by decide) w)
        assumption
      · assumption
    clear_value y5
    extract_lets +onlyGivenNames y6
    clear_value y6
    extract_lets +onlyGivenNames y7
    clear_value y7
    extract_lets +onlyGivenNames y8
    extract_lets +onlyGivenNames y9
    have h9 : Frame ch s y9 := by
      unfold y9
      apply Frame.upd <;> first | assumption | exact Or.inl (w (by decide)) | exact Or.inr rfl | exact List.suffix_rfl
    clear_value y9
    extract_lets +onlyGivenNames y10
    extract_lets +onlyGivenNames y11
    have h11 : Frame ch s y11 := by
      unfold y11
      apply Frame.upd <;> first | assumption | exact Or.inl (w (by decide)) | exact Or.inr rfl | exact List.suffix_rfl
    clear_value y11
    refine State.detachDone_frame _ _ ?_ (List.Subset.trans (by decide) w)
    refine State.sliceDrained_frame _ _ ?_ (List.Subset.trans (by decide) w)
    refine Frame.fold ?_ (fun y12 a12 h12 => ?_)
    · assumption
    · refine State.dropItem_frame _ _ ?_ (List.Subset.trans (by decide) w)
      assumption

end Sys2Proof.Machine
end

