-- ==== Sys2Proof/Laws/FramesTundish.lean ====
section
/-!
SUPPORT. One lemma for each shared operation: the frame of the operations over the Tundish, the host port, the units
and Chill. Each says which blocks of the state the operation may change, and that it leaves the queue of waiting
commands as it is.
-/
namespace Sys2Proof.Machine

variable {ch : List Block} {s : State}

theorem State.modRegion_frame (x a1 a2) (h : Frame ch s x) (w : ([.regions] : List Block) ⊆ ch) :
    Frame ch s (State.modRegion x a1 a2) := by
  delta State.modRegion
  apply Frame.upd <;> first | assumption | exact Or.inl (w (by decide)) | exact Or.inr rfl | exact List.suffix_rfl

theorem State.addCredit_frame (x a1 a2) (h : Frame ch s x) (w : ([.regions, .log] : List Block) ⊆ ch) :
    Frame ch s (State.addCredit x a1 a2) := by
  delta State.addCredit
  extract_lets +onlyGivenNames y1
  clear_value y1
  extract_lets +onlyGivenNames y2
  have h2 : Frame ch s y2 := by
    unfold y2
    refine State.modRegion_frame _ _ _ ?_ (List.Subset.trans (by decide) w)
    assumption
  clear_value y2
  refine Frame.ite ?_ ?_
  · refine State.logEv_frame _ _ _ _ _ ?_ (List.Subset.trans (by decide) w)
    assumption
  · assumption

theorem State.addDelay_frame (x a1 a2 a3 a4) (h : Frame ch s x) (w : ([.tnd] : List Block) ⊆ ch) :
    Frame ch s (State.addDelay x a1 a2 a3 a4) := by
  delta State.addDelay
  apply Frame.upd <;> first | assumption | exact Or.inl (w (by decide)) | exact Or.inr rfl | exact List.suffix_rfl

theorem State.dropDelay_frame (x a1) (h : Frame ch s x) (w : ([.tnd] : List Block) ⊆ ch) :
    Frame ch s (State.dropDelay x a1) := by
  delta State.dropDelay
  apply Frame.upd <;> first | assumption | exact Or.inl (w (by decide)) | exact Or.inr rfl | exact List.suffix_rfl

theorem State.drrPick_frame (x a1 a2 a3) (h : Frame ch s x) (w : ([.tnd] : List Block) ⊆ ch) :
    Frame ch s (State.drrPick x a1 a2 a3).1 := by
  induction a3 generalizing x a1 a2 with
  | zero =>
    unfold State.drrPick
    dsimp only
    assumption
  | succ e1 ih =>
    unfold State.drrPick
    split
    · dsimp only
      assumption
    · split
      · dsimp only
        assumption
      · refine Frame.fstIte ?_ ?_
        · dsimp only
          assumption
        · extract_lets +onlyGivenNames y1
          clear_value y1
          refine ih _ _ _ ?_
          refine State.arrive_frame _ _ _ ?_ (List.Subset.trans (by decide) w)
          refine State.setRound_frame _ _ _ ?_ (List.Subset.trans (by decide) w)
          assumption

theorem State.tryList_frame (x a1 a2) (h : Frame ch s x) (w : ([.tnd] : List Block) ⊆ ch) :
    Frame ch s (State.tryList x a1 a2).1 := by
  delta State.tryList
  extract_lets +onlyGivenNames y1
  clear_value y1
  split
  · dsimp only
    refine Frame.ofFst ‹_› ?_
    refine State.drrPick_frame _ _ _ _ ?_ (List.Subset.trans (by decide) w)
    assumption
  · refine Frame.fstIte ?_ ?_
    · dsimp only
      refine Frame.ofFst ‹_› ?_
      refine State.drrPick_frame _ _ _ _ ?_ (List.Subset.trans (by decide) w)
      assumption
    · extract_lets +onlyGivenNames y2
      have h2 : Frame ch s y2 := by
        unfold y2
        refine Frame.ite ?_ ?_
        · refine State.modItem_frame _ _ _ ?_ (List.Subset.trans (by decide) w)
          refine Frame.ofFst ‹_› ?_
          refine State.drrPick_frame _ _ _ _ ?_ (List.Subset.trans (by decide) w)
          assumption
        · refine Frame.ofFst ‹_› ?_
          refine State.drrPick_frame _ _ _ _ ?_ (List.Subset.trans (by decide) w)
          assumption
      clear_value y2
      dsimp only
      assumption

theorem State.takeChoice_frame (x a1 a2) (h : Frame ch s x) (w : ([.tnd] : List Block) ⊆ ch) :
    Frame ch s (State.takeChoice x a1 a2).1 := by
  induction a2 generalizing x a1 with
  | nil =>
    unfold State.takeChoice
    dsimp only
    assumption
  | cons e1 e2 ih =>
    unfold State.takeChoice
    split
    · dsimp only
      assumption
    · extract_lets +onlyGivenNames y1
      have h1 : Frame ch s y1.1 := by
        unfold y1
        refine Frame.fstIte ?_ ?_
        · refine State.tryList_frame _ _ _ ?_ (List.Subset.trans (by decide) w)
          assumption
        · dsimp only
          assumption
      clear_value y1
      split
      · dsimp only
        assumption
      · split
        · dsimp only
          refine Frame.ofFst ‹_› ?_
          refine State.tryList_frame _ _ _ ?_ (List.Subset.trans (by decide) w)
          assumption
        · refine ih _ _ ?_
          refine Frame.ofFst ‹_› ?_
          refine State.tryList_frame _ _ _ ?_ (List.Subset.trans (by decide) w)
          assumption

theorem State.startItem_frame (x a1 a2) (h : Frame ch s x) (w : ([.host, .tnd, .clusters, .m] : List Block) ⊆ ch) :
    Frame ch s (State.startItem x a1 a2) := by
  delta State.startItem
  split
  · assumption
  · extract_lets +onlyGivenNames y1
    clear_value y1
    extract_lets +onlyGivenNames y2
    clear_value y2
    extract_lets +onlyGivenNames y3
    clear_value y3
    extract_lets +onlyGivenNames y4
    clear_value y4
    extract_lets +onlyGivenNames y5
    clear_value y5
    extract_lets +onlyGivenNames y6
    have h6 : Frame ch s y6 := by
      unfold y6
      refine State.modItem_frame _ _ _ ?_ (List.Subset.trans (by decide) w)
      assumption
    clear_value y6
    extract_lets +onlyGivenNames y7
    have h7 : Frame ch s y7 := by
      unfold y7
      refine Frame.ite ?_ ?_
      · refine State.hostWrite_frame _ _ ?_ (List.Subset.trans (by decide) w)
        assumption
      · assumption
    clear_value y7
    extract_lets +onlyGivenNames y8
    have h8 : Frame ch s y8 := by
      unfold y8
      refine Frame.ite ?_ ?_
      · refine State.hostWrite_frame _ _ ?_ (List.Subset.trans (by decide) w)
        assumption
      · assumption
    clear_value y8
    extract_lets +onlyGivenNames y9
    have h9 : Frame ch s y9 := by
      unfold y9
      refine Frame.ite ?_ ?_
      · refine State.hostWrite_frame _ _ ?_ (List.Subset.trans (by decide) w)
        assumption
      · assumption
    clear_value y9
    refine Frame.ite ?_ ?_
    · assumption
    · refine State.callBlocks_frame _ _ ?_ (List.Subset.trans (by decide) w)
      assumption

theorem State.startExecutors_frame (x a1) (h : Frame ch s x) (w : ([.host, .tnd, .clusters, .m] : List Block) ⊆ ch) :
    Frame ch s (State.startExecutors x a1) := by
  induction a1 generalizing x with
  | zero =>
    unfold State.startExecutors
    assumption
  | succ e1 ih =>
    unfold State.startExecutors
    extract_lets +onlyGivenNames y1
    clear_value y1
    split
    · refine ih _ ?_
      refine State.startItem_frame _ _ _ ?_ (List.Subset.trans (by decide) w)
      assumption
    · extract_lets +onlyGivenNames y2
      clear_value y2
      split
      · refine ih _ ?_
        refine State.startItem_frame _ _ _ ?_ (List.Subset.trans (by decide) w)
        assumption
      · extract_lets +onlyGivenNames y3
        clear_value y3
        split
        · refine ih _ ?_
          refine State.startItem_frame _ _ _ ?_ (List.Subset.trans (by decide) w)
          assumption
        · assumption

theorem State.dispatch_frame (x a1 a2) (h : Frame ch s x)
        (w : ([.host, .tnd, .clusters, .regions, .log, .m] : List Block) ⊆ ch) :
    Frame ch s (State.dispatch x a1 a2) := by
  delta State.dispatch
  extract_lets +onlyGivenNames y1
  clear_value y1
  extract_lets +onlyGivenNames y2
  clear_value y2
  extract_lets +onlyGivenNames y3
  clear_value y3
  extract_lets +onlyGivenNames y4
  clear_value y4
  extract_lets +onlyGivenNames y5
  clear_value y5
  extract_lets +onlyGivenNames y6
  have h6 : Frame ch s y6 := by
    unfold y6
    refine Frame.fold ?_ (fun y7 a7 h7 => ?_)
    · assumption
    · refine State.modItem_frame _ _ _ ?_ (List.Subset.trans (by decide) w)
      assumption
  clear_value y6
  extract_lets +onlyGivenNames y8
  have h8 : Frame ch s y8 := by
    unfold y8
    refine State.setDeficit_frame _ _ _ _ ?_ (List.Subset.trans (by decide) w)
    assumption
  clear_value y8
  extract_lets +onlyGivenNames y9
  have h9 : Frame ch s y9 := by
    unfold y9
    refine State.addCredit_frame _ _ _ ?_ (List.Subset.trans (by decide) w)
    assumption
  clear_value y9
  extract_lets +onlyGivenNames y10
  have h10 : Frame ch s y10 := by
    unfold y10
    refine State.modRegion_frame _ _ _ ?_ (List.Subset.trans (by decide) w)
    assumption
  clear_value y10
  extract_lets +onlyGivenNames y11
  extract_lets +onlyGivenNames y12
  have h12 : Frame ch s y12 := by
    unfold y12
    split
    · apply Frame.upd <;> first | assumption | exact Or.inl (w (by decide)) | exact Or.inr rfl | exact List.suffix_rfl
    · assumption
  clear_value y12
  extract_lets +onlyGivenNames y13
  extract_lets +onlyGivenNames y14
  have h14 : Frame ch s y14 := by
    unfold y14
    apply Frame.upd <;> first | assumption | exact Or.inl (w (by decide)) | exact Or.inr rfl | exact List.suffix_rfl
  clear_value y14
  extract_lets +onlyGivenNames y15
  have h15 : Frame ch s y15 := by
    unfold y15
    refine State.dropDelay_frame _ _ ?_ (List.Subset.trans (by decide) w)
    assumption
  clear_value y15
  extract_lets +onlyGivenNames y16
  have h16 : Frame ch s y16 := by
    unfold y16
    refine State.modItem_frame _ _ _ ?_ (List.Subset.trans (by decide) w)
    assumption
  clear_value y16
  refine State.syncRounds_frame _ ?_ (List.Subset.trans (by decide) w)
  refine State.startItem_frame _ _ _ ?_ (List.Subset.trans (by decide) w)
  assumption

theorem State.gateClusters_frame (x a1) (h : Frame ch s x) (w : ([.clusters] : List Block) ⊆ ch) :
    Frame ch s (State.gateClusters x a1) := by
  delta State.gateClusters
  apply Frame.upd <;> first | assumption | exact Or.inl (w (by decide)) | exact Or.inr rfl | exact List.suffix_rfl

theorem State.beginDrain_frame (x a1) (h : Frame ch s x) (w : ([.tnd, .clusters, .regions] : List Block) ⊆ ch) :
    Frame ch s (State.beginDrain x a1) := by
  delta State.beginDrain
  extract_lets +onlyGivenNames y1
  have h1 : Frame ch s y1 := by
    unfold y1
    refine State.gateClusters_frame _ _ ?_ (List.Subset.trans (by decide) w)
    assumption
  clear_value y1
  extract_lets +onlyGivenNames y2
  have h2 : Frame ch s y2 := by
    unfold y2
    refine State.modRegion_frame _ _ _ ?_ (List.Subset.trans (by decide) w)
    assumption
  clear_value y2
  extract_lets +onlyGivenNames y3
  extract_lets +onlyGivenNames y4
  have h4 : Frame ch s y4 := by
    unfold y4
    apply Frame.upd <;> first | assumption | exact Or.inl (w (by decide)) | exact Or.inr rfl | exact List.suffix_rfl
  clear_value y4
  refine State.dropDelay_frame _ _ ?_ (List.Subset.trans (by decide) w)
  assumption

theorem State.armIdle_frame (x a1) (h : Frame ch s x) (w : ([.tnd, .clusters, .regions] : List Block) ⊆ ch) :
    Frame ch s (State.armIdle x a1) := by
  delta State.armIdle
  refine Frame.ite ?_ ?_
  · refine Frame.ite ?_ ?_
    · refine State.beginDrain_frame _ _ ?_ (List.Subset.trans (by decide) w)
      assumption
    · refine Frame.ite ?_ ?_
      · refine State.addDelay_frame _ _ _ _ _ ?_ (List.Subset.trans (by decide) w)
        assumption
      · assumption
  · assumption

theorem State.take_frame (x a1) (h : Frame ch s x)
        (w : ([.host, .tnd, .clusters, .regions, .log, .m] : List Block) ⊆ ch) :
    Frame ch s (State.take x a1) := by
  delta State.take
  refine Frame.ite ?_ ?_
  · assumption
  · extract_lets +onlyGivenNames y1
    have h1 : Frame ch s y1 := by
      unfold y1
      refine State.syncRounds_frame _ ?_ (List.Subset.trans (by decide) w)
      assumption
    clear_value y1
    split
    · refine State.dispatch_frame _ _ _ ?_ (List.Subset.trans (by decide) w)
      refine Frame.ofFst ‹_› ?_
      refine State.takeChoice_frame _ _ _ ?_ (List.Subset.trans (by decide) w)
      assumption
    · refine State.armIdle_frame _ _ ?_ (List.Subset.trans (by decide) w)
      apply Frame.upd <;> try first | assumption | exact Or.inl (w (by decide)) | exact Or.inr rfl | exact List.suffix_rfl
      refine Frame.ofFst ‹_› ?_
      refine State.takeChoice_frame _ _ _ ?_ (List.Subset.trans (by decide) w)
      assumption

theorem State.offerItem_frame (x a1) (h : Frame ch s x)
        (w : ([.host, .tnd, .clusters, .regions, .log, .m] : List Block) ⊆ ch) :
    Frame ch s (State.offerItem x a1) := by
  delta State.offerItem
  split
  · assumption
  · refine Frame.ite ?_ ?_
    · assumption
    · refine Frame.ite ?_ ?_
      · refine State.startExecutors_frame _ _ ?_ (List.Subset.trans (by decide) w)
        assumption
      · split
        · refine State.take_frame _ _ ?_ (List.Subset.trans (by decide) w)
          assumption
        · assumption

theorem State.offerAll_frame (x) (h : Frame ch s x)
        (w : ([.host, .tnd, .clusters, .regions, .log, .m] : List Block) ⊆ ch) :
    Frame ch s (State.offerAll x) := by
  delta State.offerAll
  refine Frame.fold ?_ (fun y1 a1 h1 => ?_)
  · refine State.startExecutors_frame _ _ ?_ (List.Subset.trans (by decide) w)
    assumption
  · refine State.offerItem_frame _ _ ?_ (List.Subset.trans (by decide) w)
    assumption

theorem State.complete_frame (x a1) (h : Frame ch s x)
        (w : ([.host, .queues, .tnd, .clusters, .kst, .mea, .slc, .ngl, .regions, .commits, .log, .m] : List Block)
      ⊆ ch) :
    Frame ch s (State.complete x a1) := by
  delta State.complete
  split
  · assumption
  · extract_lets +onlyGivenNames y1
    have h1 : Frame ch s y1 := by
      unfold y1
      split
      · extract_lets +onlyGivenNames y2
        have h2 : Frame ch s y2 := by
          unfold y2
          refine State.modCluster_frame _ _ _ ?_ (List.Subset.trans (by decide) w)
          assumption
        clear_value y2
        refine State.armIdle_frame _ _ ?_ (List.Subset.trans (by decide) w)
        refine State.finishItem_frame _ _ ?_ (List.Subset.trans (by decide) w)
        assumption
      · refine State.finishItem_frame _ _ ?_ (List.Subset.trans (by decide) w)
        assumption
    clear_value y1
    refine State.offerAll_frame _ ?_ (List.Subset.trans (by decide) w)
    assumption

theorem State.completeWith_frame (x a1 a2 a3) (h : Frame ch s x)
        (w : ([.host, .queues, .tnd, .clusters, .kst, .mea, .slc, .ngl, .regions, .commits, .log, .m] : List Block)
      ⊆ ch) :
    Frame ch s (State.completeWith x a1 a2 a3) := by
  delta State.completeWith
  refine State.complete_frame _ _ ?_ (List.Subset.trans (by decide) w)
  refine State.modItem_frame _ _ _ ?_ (List.Subset.trans (by decide) w)
  assumption

theorem State.retryItem_frame (x a1) (h : Frame ch s x)
        (w : ([.host, .queues, .tnd, .clusters, .kst, .mea, .slc, .ngl, .regions, .commits, .log, .m] : List Block)
      ⊆ ch) :
    Frame ch s (State.retryItem x a1) := by
  delta State.retryItem
  split
  · assumption
  · extract_lets +onlyGivenNames y1
    refine Frame.ite ?_ ?_
    · refine State.offerAll_frame _ ?_ (List.Subset.trans (by decide) w)
      refine State.dropItem_frame _ _ ?_ (List.Subset.trans (by decide) w)
      assumption
    · refine Frame.ite ?_ ?_
      · extract_lets +onlyGivenNames y2
        have h2 : Frame ch s y2 := by
          unfold y2
          refine State.modItem_frame _ _ _ ?_ (List.Subset.trans (by decide) w)
          refine State.letGo_frame _ _ ?_ (List.Subset.trans (by decide) w)
          assumption
        clear_value y2
        refine State.offerAll_frame _ ?_ (List.Subset.trans (by decide) w)
        refine State.addDelay_frame _ _ _ _ _ ?_ (List.Subset.trans (by decide) w)
        assumption
      · assumption

theorem State.acceptItem_frame (x a1 a2 a3) (h : Frame ch s x)
        (w : ([.host, .queues, .tnd, .clusters, .kst, .mea, .slc, .ngl, .regions, .commits, .log, .m] : List Block)
      ⊆ ch) :
    Frame ch s (State.acceptItem x a1 a2 a3) := by
  delta State.acceptItem
  extract_lets +onlyGivenNames y1
  extract_lets +onlyGivenNames y2
  clear_value y2
  extract_lets +onlyGivenNames y3
  extract_lets +onlyGivenNames y4
  clear_value y4
  extract_lets +onlyGivenNames y5
  extract_lets +onlyGivenNames y6
  have h6 : Frame ch s y6 := by
    unfold y6
    apply Frame.upd <;> first | assumption | exact Or.inl (w (by decide)) | exact Or.inr rfl | exact List.suffix_rfl
  clear_value y6
  extract_lets +onlyGivenNames y7
  clear_value y7
  extract_lets +onlyGivenNames y8
  clear_value y8
  extract_lets +onlyGivenNames y9
  clear_value y9
  split
  · extract_lets +onlyGivenNames y10
    extract_lets +onlyGivenNames y11
    have h11 : Frame ch s y11 := by
      unfold y11
      refine Frame.ite ?_ ?_
      · apply Frame.upd <;> first | assumption | exact Or.inl (w (by decide)) | exact Or.inr rfl | exact List.suffix_rfl
      · assumption
    clear_value y11
    refine State.finishItem_frame _ _ ?_ (List.Subset.trans (by decide) w)
    refine State.modItem_frame _ _ _ ?_ (List.Subset.trans (by decide) w)
    assumption
  · refine Frame.ite ?_ ?_
    · extract_lets +onlyGivenNames y12
      clear_value y12
      refine State.addDelay_frame _ _ _ _ _ ?_ (List.Subset.trans (by decide) w)
      refine State.modItem_frame _ _ _ ?_ (List.Subset.trans (by decide) w)
      assumption
    · refine Frame.ite ?_ ?_
      · refine State.modItem_frame _ _ _ ?_ (List.Subset.trans (by decide) w)
        assumption
      · refine State.offerItem_frame _ _ ?_ (List.Subset.trans (by decide) w)
        refine State.syncRounds_frame _ ?_ (List.Subset.trans (by decide) w)
        assumption

theorem State.undelay_frame (x a1) (h : Frame ch s x)
        (w : ([.host, .tnd, .clusters, .regions, .log, .m] : List Block) ⊆ ch) :
    Frame ch s (State.undelay x a1) := by
  delta State.undelay
  split
  · assumption
  · refine Frame.ite ?_ ?_
    · assumption
    · refine Frame.ite ?_ ?_
      · refine State.modItem_frame _ _ _ ?_ (List.Subset.trans (by decide) w)
        assumption
      · refine State.offerItem_frame _ _ ?_ (List.Subset.trans (by decide) w)
        refine State.syncRounds_frame _ ?_ (List.Subset.trans (by decide) w)
        refine State.modItem_frame _ _ _ ?_ (List.Subset.trans (by decide) w)
        assumption

theorem State.dropNoCapacity_frame (x) (h : Frame ch s x)
        (w : ([.host, .queues, .tnd, .clusters, .kst, .mea, .slc, .ngl, .commits, .m] : List Block) ⊆ ch) :
    Frame ch s (State.dropNoCapacity x) := by
  delta State.dropNoCapacity
  extract_lets +onlyGivenNames y1
  clear_value y1
  extract_lets +onlyGivenNames y2
  clear_value y2
  extract_lets +onlyGivenNames y3
  clear_value y3
  refine Frame.fold ?_ (fun y4 a4 h4 => ?_)
  · assumption
  · refine State.endItem_frame _ _ _ _ ?_ (List.Subset.trans (by decide) w)
    assumption

theorem State.ringTail_frame (x a1 a2) (h : Frame ch s x) (w : ([.queues] : List Block) ⊆ ch) :
    Frame ch s (State.ringTail x a1 a2) := by
  delta State.ringTail
  refine State.modQueue_frame _ _ _ ?_ (List.Subset.trans (by decide) w)
  assumption

theorem State.ringHead_frame (x a1 a2) (h : Frame ch s x) (w : ([.host, .queues, .tnd, .slc, .m] : List Block) ⊆ ch) :
    Frame ch s (State.ringHead x a1 a2) := by
  delta State.ringHead
  extract_lets +onlyGivenNames y1
  refine Frame.ite ?_ ?_
  · refine State.setQueue_frame _ _ ?_ (List.Subset.trans (by decide) w)
    assumption
  · refine Frame.ite ?_ ?_
    · refine State.setQueue_frame _ _ ?_ (List.Subset.trans (by decide) w)
      assumption
    · extract_lets +onlyGivenNames y2
      have h2 : Frame ch s y2 := by
        unfold y2
        refine State.setQueue_frame _ _ ?_ (List.Subset.trans (by decide) w)
        assumption
      clear_value y2
      refine State.queueDrained_frame _ _ ?_ (List.Subset.trans (by decide) w)
      refine State.updateStall_frame _ _ ?_ (List.Subset.trans (by decide) w)
      refine State.writeWaiting_frame _ _ _ ?_ (List.Subset.trans (by decide) w)
      assumption

theorem State.batchFault_frame (x a1) (h : Frame ch s x)
        (w : ([.host, .queues, .tnd, .slc, .commits, .m] : List Block) ⊆ ch) :
    Frame ch s (State.batchFault x a1) := by
  delta State.batchFault
  extract_lets +onlyGivenNames y1
  refine State.detachDone_frame _ _ ?_ (List.Subset.trans (by decide) w)
  refine State.queueDrained_frame _ _ ?_ (List.Subset.trans (by decide) w)
  refine State.setQueue_frame _ _ ?_ (List.Subset.trans (by decide) w)
  assumption

theorem State.qawDone_frame (x a1) (h : Frame ch s x) (w : ([.queues] : List Block) ⊆ ch) :
    Frame ch s (State.qawDone x a1) := by
  delta State.qawDone
  apply Frame.upd <;> first | assumption | exact Or.inl (w (by decide)) | exact Or.inr rfl | exact List.suffix_rfl

theorem State.qaw_frame (x a1 a2) (h : Frame ch s x) (ha2 : ∀ z0, Frame ch s z0 → Frame ch s (a2 z0).2)
        (w : ([.queues] : List Block) ⊆ ch) :
    Frame ch s (State.qaw x a1 a2) := by
  delta State.qaw
  refine Frame.ite ?_ ?_
  · assumption
  · extract_lets +onlyGivenNames y1
    clear_value y1
    refine Frame.ite ?_ ?_
    · refine State.qawDone_frame _ _ ?_ (List.Subset.trans (by decide) w)
      assumption
    · extract_lets +onlyGivenNames y2
      have h2 : Frame ch s y2.2 := by
        unfold y2
        solve_by_elim
      clear_value y2
      refine State.qawDone_frame _ _ ?_ (List.Subset.trans (by decide) w)
      assumption

theorem State.toD3hot_frame (x) (h : Frame ch s x) (w : ([.host] : List Block) ⊆ ch) :
    Frame ch s (State.toD3hot x) := by
  delta State.toD3hot
  apply Frame.upd <;> first | assumption | exact Or.inl (w (by decide)) | exact Or.inr rfl | exact List.suffix_rfl

theorem State.toD0_frame (x) (h : Frame ch s x) (w : ([.host, .m] : List Block) ⊆ ch) :
    Frame ch s (State.toD0 x) := by
  delta State.toD0
  refine State.emitAll_frame _ _ ?_ (List.Subset.trans (by decide) w)
  apply Frame.upd <;> first | assumption | exact Or.inl (w (by decide)) | exact Or.inr rfl | exact List.suffix_rfl

theorem State.abortItemsIn_frame (x a1) (h : Frame ch s x)
        (w : ([.host, .queues, .tnd, .clusters, .kst, .mea, .slc, .ngl, .commits, .m] : List Block) ⊆ ch) :
    Frame ch s (State.abortItemsIn x a1) := by
  delta State.abortItemsIn
  refine Frame.fold ?_ (fun y1 a1 h1 => ?_)
  · assumption
  · refine State.cutItem_frame _ _ ?_ (List.Subset.trans (by decide) w)
    assumption

theorem State.substitute_frame (x a1) (h : Frame ch s x) (w : ([.fabric, .commits] : List Block) ⊆ ch) :
    Frame ch s (State.substitute x a1) := by
  delta State.substitute
  split
  · refine State.setSlot_frame _ _ _ ?_ (List.Subset.trans (by decide) w)
    assumption
  · refine Frame.ite ?_ ?_
    · apply Frame.upd <;> first | assumption | exact Or.inl (w (by decide)) | exact Or.inr rfl | exact List.suffix_rfl
    · apply Frame.upd <;> first | assumption | exact Or.inl (w (by decide)) | exact Or.inr rfl | exact List.suffix_rfl

theorem State.failCluster_frame (x a1 a2) (h : Frame ch s x)
        (w : ([.host, .queues, .tnd, .fabric, .clusters, .kst, .mea, .slc, .ngl, .regions, .commits, .log, .m] :
      List Block) ⊆ ch) :
    Frame ch s (State.failCluster x a1 a2) := by
  delta State.failCluster
  refine Frame.ite ?_ ?_
  · assumption
  · extract_lets +onlyGivenNames y1
    clear_value y1
    extract_lets +onlyGivenNames y2
    have h2 : Frame ch s y2 := by
      unfold y2
      split
      · extract_lets +onlyGivenNames y3
        have h3 : Frame ch s y3 := by
          unfold y3
          refine State.abortItemsIn_frame _ _ ?_ (List.Subset.trans (by decide) w)
          assumption
        clear_value y3
        apply Frame.upd <;> first | assumption | exact Or.inl (w (by decide)) | exact Or.inr rfl | exact List.suffix_rfl
      · assumption
    clear_value y2
    extract_lets +onlyGivenNames y4
    have h4 : Frame ch s y4 := by
      unfold y4
      refine State.modCluster_frame _ _ _ ?_ (List.Subset.trans (by decide) w)
      assumption
    clear_value y4
    extract_lets +onlyGivenNames y5
    have h5 : Frame ch s y5 := by
      unfold y5
      refine State.logEv_frame _ _ _ _ _ ?_ (List.Subset.trans (by decide) w)
      assumption
    clear_value y5
    extract_lets +onlyGivenNames y6
    have h6 : Frame ch s y6 := by
      unfold y6
      refine State.retirePosition_frame _ _ ?_ (List.Subset.trans (by decide) w)
      assumption
    clear_value y6
    extract_lets +onlyGivenNames y7
    extract_lets +onlyGivenNames y8
    have h8 : Frame ch s y8 := by
      unfold y8
      split
      · refine State.substitute_frame _ _ ?_ (List.Subset.trans (by decide) w)
        assumption
      · apply Frame.upd <;> first | assumption | exact Or.inl (w (by decide)) | exact Or.inr rfl | exact List.suffix_rfl
    clear_value y8
    refine State.offerAll_frame _ ?_ (List.Subset.trans (by decide) w)
    refine State.dropNoCapacity_frame _ ?_ (List.Subset.trans (by decide) w)
    assumption

theorem State.checkCluster_frame (x a1) (h : Frame ch s x)
        (w : ([.host, .queues, .tnd, .fabric, .clusters, .kst, .mea, .slc, .ngl, .regions, .commits, .log, .m] :
      List Block) ⊆ ch) :
    Frame ch s (State.checkCluster x a1) := by
  delta State.checkCluster
  refine Frame.ite ?_ ?_
  · refine State.failCluster_frame _ _ _ ?_ (List.Subset.trans (by decide) w)
    assumption
  · refine Frame.ite ?_ ?_
    · refine State.failCluster_frame _ _ _ ?_ (List.Subset.trans (by decide) w)
      assumption
    · refine State.dropNoCapacity_frame _ ?_ (List.Subset.trans (by decide) w)
      assumption

theorem State.sbuStrike_frame (x a1 a2 a3) (h : Frame ch s x)
        (w : ([.host, .queues, .tnd, .fabric, .clusters, .kst, .mea, .slc, .ngl, .commits, .log, .m] : List Block) ⊆
      ch) :
    Frame ch s (State.sbuStrike x a1 a2 a3) := by
  delta State.sbuStrike
  extract_lets +onlyGivenNames y1
  have h1 : Frame ch s y1 := by
    unfold y1
    refine State.modCluster_frame _ _ _ ?_ (List.Subset.trans (by decide) w)
    assumption
  clear_value y1
  refine Frame.ite ?_ ?_
  · assumption
  · extract_lets +onlyGivenNames y2
    extract_lets +onlyGivenNames y3
    have h3 : Frame ch s y3 := by
      unfold y3
      refine State.addStrike_frame _ _ _ _ ?_ (List.Subset.trans (by decide) w)
      assumption
    clear_value y3
    refine Frame.ite ?_ ?_
    · extract_lets +onlyGivenNames y4
      have h4 : Frame ch s y4 := by
        unfold y4
        refine State.modCluster_frame _ _ _ ?_ (List.Subset.trans (by decide) w)
        refine State.reissue_frame _ _ _ ?_ (List.Subset.trans (by decide) w)
        refine State.retireUnit_frame _ _ _ _ ?_ (List.Subset.trans (by decide) w)
        assumption
      clear_value y4
      refine State.dropNoCapacity_frame _ ?_ (List.Subset.trans (by decide) w)
      refine State.logEv_frame _ _ _ _ _ ?_ (List.Subset.trans (by decide) w)
      assumption
    · assumption

theorem State.sbuFault_frame (x a1 a2 a3 a4) (h : Frame ch s x)
        (w : ([.host, .queues, .tnd, .fabric, .clusters, .kst, .mea, .slc, .ngl, .commits, .log, .m] : List Block) ⊆
      ch) :
    Frame ch s (State.sbuFault x a1 a2 a3 a4).st := by
  delta State.sbuFault
  extract_lets +onlyGivenNames y1
  extract_lets +onlyGivenNames y2
  clear_value y2
  split
  · dsimp only
    assumption
  · extract_lets +onlyGivenNames y3
    extract_lets +onlyGivenNames y4
    have h4 : Frame ch s y4 := by
      unfold y4
      refine Frame.ite ?_ ?_
      · refine State.modCluster_frame _ _ _ ?_ (List.Subset.trans (by decide) w)
        assumption
      · assumption
    clear_value y4
    extract_lets +onlyGivenNames y5
    clear_value y5
    split
    · dsimp only
      refine State.sbuStrike_frame _ _ _ _ ?_ (List.Subset.trans (by decide) w)
      unfold y3
      refine State.logEv_frame _ _ _ _ _ ?_ (List.Subset.trans (by decide) w)
      assumption
    · extract_lets +onlyGivenNames y6
      clear_value y6
      extract_lets +onlyGivenNames y7
      clear_value y7
      extract_lets +onlyGivenNames y8
      have h8 : Frame ch s y8 := by
        unfold y8
        refine State.modCluster_frame _ _ _ ?_ (List.Subset.trans (by decide) w)
        assumption
      clear_value y8
      split
      · extract_lets +onlyGivenNames y9
        have h9 : Frame ch s y9 := by
          unfold y9
          unfold y3
          refine State.logEv_frame _ _ _ _ _ ?_ (List.Subset.trans (by decide) w)
          assumption
        clear_value y9
        extract_lets +onlyGivenNames y10
        have h10 : Frame ch s y10 := by
          unfold y10
          refine State.modCluster_frame _ _ _ ?_ (List.Subset.trans (by decide) w)
          assumption
        clear_value y10
        extract_lets +onlyGivenNames y11
        have h11 : Frame ch s y11 := by
          unfold y11
          unfold y3
          refine State.logEv_frame _ _ _ _ _ ?_ (List.Subset.trans (by decide) w)
          refine State.sbuStrike_frame _ _ _ _ ?_ (List.Subset.trans (by decide) w)
          assumption
        clear_value y11
        dsimp only
        refine State.sbuStrike_frame _ _ _ _ ?_ (List.Subset.trans (by decide) w)
        assumption
      · extract_lets +onlyGivenNames y12
        have h12 : Frame ch s y12 := by
          unfold y12
          unfold y3
          refine State.logEv_frame _ _ _ _ _ ?_ (List.Subset.trans (by decide) w)
          assumption
        clear_value y12
        extract_lets +onlyGivenNames y13
        have h13 : Frame ch s y13 := by
          unfold y13
          refine State.modCluster_frame _ _ _ ?_ (List.Subset.trans (by decide) w)
          assumption
        clear_value y13
        dsimp only
        refine State.sbuStrike_frame _ _ _ _ ?_ (List.Subset.trans (by decide) w)
        assumption

theorem State.sbuFaults_frame (x a1 a2 a3) (h : Frame ch s x)
        (w : ([.host, .queues, .tnd, .fabric, .clusters, .kst, .mea, .slc, .ngl, .commits, .log, .m] : List Block) ⊆
      ch) :
    Frame ch s (State.sbuFaults x a1 a2 a3).st := by
  induction a3 generalizing x a1 a2 with
  | nil =>
    unfold State.sbuFaults
    dsimp only
    assumption
  | cons e1 e2 ih =>
    unfold State.sbuFaults
    extract_lets +onlyGivenNames y1
    have h1 : Frame ch s y1.st := by
      unfold y1
      refine State.sbuFault_frame _ _ _ _ _ ?_ (List.Subset.trans (by decide) w)
      assumption
    clear_value y1
    split
    · assumption
    · extract_lets +onlyGivenNames y2
      have h2 : Frame ch s y2.st := by
        unfold y2
        refine ih _ _ _ ?_
        assumption
      clear_value y2
      dsimp only
      assumption

theorem State.sbuReport_frame (x a1 a2 a3) (h : Frame ch s x)
        (w : ([.host, .queues, .tnd, .fabric, .clusters, .kst, .mea, .slc, .ngl, .commits, .log, .m] : List Block) ⊆
      ch) :
    Frame ch s (State.sbuReport x a1 a2 a3).st := by
  delta State.sbuReport
  extract_lets +onlyGivenNames y1
  clear_value y1
  extract_lets +onlyGivenNames y2
  extract_lets +onlyGivenNames y3
  clear_value y3
  extract_lets +onlyGivenNames y4
  have h4 : Frame ch s y4 := by
    unfold y4
    refine State.modCluster_frame _ _ _ ?_ (List.Subset.trans (by decide) w)
    assumption
  clear_value y4
  refine State.sbuFaults_frame _ _ _ _ ?_ (List.Subset.trans (by decide) w)
  assumption

theorem State.takeBackUses_frame (x a1) (h : Frame ch s x) (w : ([.tnd, .commits] : List Block) ⊆ ch) :
    Frame ch s (State.takeBackUses x a1) := by
  delta State.takeBackUses
  split
  · assumption
  · extract_lets +onlyGivenNames y1
    have h1 : Frame ch s y1 := by
      unfold y1
      refine Frame.fold ?_ (fun y2 a2 h2 => ?_)
      · assumption
      · refine Frame.getD ?_ ?_
        · refine State.putCount_frame _ _ _ ?_ (List.Subset.trans (by decide) w)
          assumption
        · assumption
    clear_value y1
    refine State.modItem_frame _ _ _ ?_ (List.Subset.trans (by decide) w)
    assumption

theorem State.retireBnu_frame (x a1) (h : Frame ch s x)
        (w : ([.host, .queues, .tnd, .fabric, .clusters, .kst, .mea, .slc, .ngl, .regions, .commits, .log, .m] :
      List Block) ⊆ ch) :
    Frame ch s (State.retireBnu x a1) := by
  delta State.retireBnu
  extract_lets +onlyGivenNames y1
  clear_value y1
  extract_lets +onlyGivenNames y2
  have h2 : Frame ch s y2 := by
    unfold y2
    refine State.modCluster_frame _ _ _ ?_ (List.Subset.trans (by decide) w)
    refine State.retireUnit_frame _ _ _ _ ?_ (List.Subset.trans (by decide) w)
    assumption
  clear_value y2
  extract_lets +onlyGivenNames y3
  have h3 : Frame ch s y3 := by
    unfold y3
    refine Frame.fold ?_ (fun y4 a4 h4 => ?_)
    · assumption
    · refine State.retryItem_frame _ _ ?_ (List.Subset.trans (by decide) w)
      refine State.takeBackUses_frame _ _ ?_ (List.Subset.trans (by decide) w)
      assumption
  clear_value y3
  extract_lets +onlyGivenNames y5
  have h5 : Frame ch s y5 := by
    unfold y5
    refine State.modCluster_frame _ _ _ ?_ (List.Subset.trans (by decide) w)
    assumption
  clear_value y5
  refine State.dropNoCapacity_frame _ ?_ (List.Subset.trans (by decide) w)
  refine State.logEv_frame _ _ _ _ _ ?_ (List.Subset.trans (by decide) w)
  assumption

theorem State.bnuInvariant_frame (x a1 a2 a3 a4) (h : Frame ch s x)
        (w : ([.host, .queues, .tnd, .fabric, .clusters, .kst, .mea, .slc, .ngl, .regions, .commits, .log, .m] :
      List Block) ⊆ ch) :
    Frame ch s (State.bnuInvariant x a1 a2 a3 a4) := by
  delta State.bnuInvariant
  extract_lets +onlyGivenNames y1
  have h1 : Frame ch s y1 := by
    unfold y1
    refine State.modCluster_frame _ _ _ ?_ (List.Subset.trans (by decide) w)
    assumption
  clear_value y1
  extract_lets +onlyGivenNames y2
  have h2 : Frame ch s y2 := by
    unfold y2
    refine State.logEv_frame _ _ _ _ _ ?_ (List.Subset.trans (by decide) w)
    assumption
  clear_value y2
  refine Frame.ite ?_ ?_
  · assumption
  · extract_lets +onlyGivenNames y3
    clear_value y3
    extract_lets +onlyGivenNames y4
    have h4 : Frame ch s y4 := by
      unfold y4
      refine State.addStrike_frame _ _ _ _ ?_ (List.Subset.trans (by decide) w)
      assumption
    clear_value y4
    refine Frame.ite ?_ ?_
    · refine State.retireBnu_frame _ _ ?_ (List.Subset.trans (by decide) w)
      assumption
    · assumption

theorem State.startBringUp_frame (x) (h : Frame ch s x) (w : ([.stage, .regions] : List Block) ⊆ ch) :
    Frame ch s (State.startBringUp x) := by
  delta State.startBringUp
  split
  · apply Frame.upd <;> first | assumption | exact Or.inl (w (by decide)) | exact Or.inr rfl | exact List.suffix_rfl
  · refine State.modRegion_frame _ _ _ ?_ (List.Subset.trans (by decide) w)
    apply Frame.upd <;> first | assumption | exact Or.inl (w (by decide)) | exact Or.inr rfl | exact List.suffix_rfl

theorem State.bringNext_frame (x) (h : Frame ch s x) (w : ([.stage, .regions] : List Block) ⊆ ch) :
    Frame ch s (State.bringNext x) := by
  delta State.bringNext
  extract_lets +onlyGivenNames y1
  have h1 : Frame ch s y1 := by
    unfold y1
    refine State.startBringUp_frame _ ?_ (List.Subset.trans (by decide) w)
    assumption
  clear_value y1
  refine Frame.ite ?_ ?_
  · apply Frame.upd <;> first | assumption | exact Or.inl (w (by decide)) | exact Or.inr rfl | exact List.suffix_rfl
  · assumption

theorem State.dieOffline_frame (x a1) (h : Frame ch s x)
        (w : ([.stage, .host, .queues, .tnd, .fabric, .clusters, .kst, .mea, .slc, .ngl, .regions, .commits, .log,
      .m] : List Block) ⊆ ch) :
    Frame ch s (State.dieOffline x a1) := by
  delta State.dieOffline
  refine Frame.ite ?_ ?_
  · assumption
  · extract_lets +onlyGivenNames y1
    clear_value y1
    extract_lets +onlyGivenNames y2
    extract_lets +onlyGivenNames y3
    extract_lets +onlyGivenNames y4
    extract_lets +onlyGivenNames y5
    have h5 : Frame ch s y5 := by
      unfold y5
      apply Frame.upd <;> first | assumption | exact Or.inl (w (by decide)) | exact Or.inr rfl | exact List.suffix_rfl
    clear_value y5
    extract_lets +onlyGivenNames y6
    have h6 : Frame ch s y6 := by
      unfold y6
      refine Frame.fold ?_ (fun y7 a7 h7 => ?_)
      · assumption
      · refine State.dropDelay_frame _ _ ?_ (List.Subset.trans (by decide) w)
        refine State.modRegion_frame _ _ _ ?_ (List.Subset.trans (by decide) w)
        assumption
    clear_value y6
    extract_lets +onlyGivenNames y8
    have h8 : Frame ch s y8 := by
      unfold y8
      refine State.modLink_frame _ _ _ ?_ (List.Subset.trans (by decide) w)
      assumption
    clear_value y8
    extract_lets +onlyGivenNames y9
    have h9 : Frame ch s y9 := by
      unfold y9
      refine State.emit_frame _ _ ?_ (List.Subset.trans (by decide) w)
      refine Frame.fold ?_ (fun y10 a10 h10 => ?_)
      · assumption
      · refine State.cutItem_frame _ _ ?_ (List.Subset.trans (by decide) w)
        assumption
    clear_value y9
    extract_lets +onlyGivenNames y11
    have h11 : Frame ch s y11 := by
      unfold y11
      refine State.dropNoCapacity_frame _ ?_ (List.Subset.trans (by decide) w)
      refine State.logEv_frame _ _ _ _ _ ?_ (List.Subset.trans (by decide) w)
      assumption
    clear_value y11
    extract_lets +onlyGivenNames y12
    have h12 : Frame ch s y12 := by
      unfold y12
      split
      · refine Frame.ite ?_ ?_
        · refine State.bringNext_frame _ ?_ (List.Subset.trans (by decide) w)
          assumption
        · assumption
      · assumption
    clear_value y12
    refine State.offerAll_frame _ ?_ (List.Subset.trans (by decide) w)
    assumption

theorem State.deviceFault_frame (x a1 a2 a3) (h : Frame ch s x)
        (w : ([.stage, .alert, .host, .queues, .tnd, .clusters, .kst, .mea, .slc, .ngl, .commits, .gds, .m] : List
      Block) ⊆ ch) :
    Frame ch s (State.deviceFault x a1 a2 a3) := by
  delta State.deviceFault
  refine Frame.ite ?_ ?_
  · assumption
  · extract_lets +onlyGivenNames y1
    extract_lets +onlyGivenNames y2
    extract_lets +onlyGivenNames y3
    have h3 : Frame ch s y3 := by
      unfold y3
      apply Frame.upd <;> first | assumption | exact Or.inl (w (by decide)) | exact Or.inr rfl | exact List.suffix_rfl
    clear_value y3
    extract_lets +onlyGivenNames y4
    clear_value y4
    refine Frame.fold ?_ (fun y5 a5 h5 => ?_)
    · refine State.alert_frame _ _ ?_ (List.Subset.trans (by decide) w)
      assumption
    · refine State.cutItem_frame _ _ ?_ (List.Subset.trans (by decide) w)
      assumption

theorem State.ghFail_frame (x) (h : Frame ch s x)
        (w : ([.stage, .alert, .host, .queues, .tnd, .fabric, .clusters, .kst, .mea, .slc, .ngl, .commits, .log,
      .gds, .m] : List Block) ⊆ ch) :
    Frame ch s (State.ghFail x) := by
  delta State.ghFail
  refine Frame.ite ?_ ?_
  · assumption
  · refine State.logG_frame _ _ _ ?_ (List.Subset.trans (by decide) w)
    refine State.deviceFault_frame _ _ _ _ ?_ (List.Subset.trans (by decide) w)
    refine State.modLink_frame _ _ _ ?_ (List.Subset.trans (by decide) w)
    assumption

theorem State.tcItemStops_frame (x a1 a2) (h : Frame ch s x)
        (w : ([.host, .queues, .tnd, .clusters, .kst, .mea, .slc, .ngl, .regions, .commits, .log, .m] : List Block)
      ⊆ ch) :
    Frame ch s (State.tcItemStops x a1 a2) := by
  delta State.tcItemStops
  split
  · assumption
  · refine Frame.ite ?_ ?_
    · refine State.retryItem_frame _ _ ?_ (List.Subset.trans (by decide) w)
      refine State.modItem_frame _ _ _ ?_ (List.Subset.trans (by decide) w)
      assumption
    · refine State.cutAt_frame _ _ _ _ _ _ ?_ (List.Subset.trans (by decide) w)
      assumption

theorem State.modPort_frame (x a1 a2) (h : Frame ch s x) (w : ([.ngl] : List Block) ⊆ ch) :
    Frame ch s (State.modPort x a1 a2) := by
  delta State.modPort
  apply Frame.upd <;> first | assumption | exact Or.inl (w (by decide)) | exact Or.inr rfl | exact List.suffix_rfl

theorem State.sendFlit_frame (x a1 a2 a3) (h : Frame ch s x) (w : ([.ngl, .m] : List Block) ⊆ ch) :
    Frame ch s (State.sendFlit x a1 a2 a3) := by
  delta State.sendFlit
  extract_lets +onlyGivenNames y1
  extract_lets +onlyGivenNames y2
  clear_value y2
  extract_lets +onlyGivenNames y3
  have h3 : Frame ch s y3 := by
    unfold y3
    refine State.modPort_frame _ _ _ ?_ (List.Subset.trans (by decide) w)
    assumption
  clear_value y3
  refine State.emit_frame _ _ ?_ (List.Subset.trans (by decide) w)
  assumption

theorem State.sendAll_frame (x a1 a2 a3) (h : Frame ch s x) (w : ([.ngl, .m] : List Block) ⊆ ch) :
    Frame ch s (State.sendAll x a1 a2 a3) := by
  delta State.sendAll
  refine Frame.ite ?_ ?_
  · refine State.sendFlit_frame _ _ _ _ ?_ (List.Subset.trans (by decide) w)
    assumption
  · refine Frame.fold ?_ (fun y1 a1 h1 => ?_)
    · assumption
    · refine State.sendFlit_frame _ _ _ _ ?_ (List.Subset.trans (by decide) w)
      assumption

theorem State.sendUpdate_frame (x a1) (h : Frame ch s x) (w : ([.ngl, .m] : List Block) ⊆ ch) :
    Frame ch s (State.sendUpdate x a1) := by
  delta State.sendUpdate
  extract_lets +onlyGivenNames y1
  split
  · extract_lets +onlyGivenNames y2
    have h2 : Frame ch s y2 := by
      unfold y2
      refine State.sendAll_frame _ _ _ _ ?_ (List.Subset.trans (by decide) w)
      assumption
    clear_value y2
    apply Frame.upd <;> first | assumption | exact Or.inl (w (by decide)) | exact Or.inr rfl | exact List.suffix_rfl
  · assumption

theorem State.sendMirror_frame (x a1 a2 a3 a4) (h : Frame ch s x) (w : ([.ngl, .m] : List Block) ⊆ ch) :
    Frame ch s (State.sendMirror x a1 a2 a3 a4) := by
  delta State.sendMirror
  extract_lets +onlyGivenNames y1
  clear_value y1
  extract_lets +onlyGivenNames y2
  refine State.sendUpdate_frame _ _ ?_ (List.Subset.trans (by decide) w)
  apply Frame.upd <;> first | assumption | exact Or.inl (w (by decide)) | exact Or.inr rfl | exact List.suffix_rfl

theorem State.resendMirrors_frame (x) (h : Frame ch s x) (w : ([.ngl, .m] : List Block) ⊆ ch) :
    Frame ch s (State.resendMirrors x) := by
  delta State.resendMirrors
  refine Frame.fold ?_ (fun y1 a1 h1 => ?_)
  · assumption
  · refine State.sendUpdate_frame _ _ ?_ (List.Subset.trans (by decide) w)
    assumption

theorem State.mirrorItem_frame (x a1 a2) (h : Frame ch s x) (w : ([.tnd, .ngl, .m] : List Block) ⊆ ch) :
    Frame ch s (State.mirrorItem x a1 a2) := by
  delta State.mirrorItem
  refine Frame.ite ?_ ?_
  · assumption
  · extract_lets +onlyGivenNames y1
    clear_value y1
    extract_lets +onlyGivenNames y2
    have h2 : Frame ch s y2 := by
      unfold y2
      refine State.modItem_frame _ _ _ ?_ (List.Subset.trans (by decide) w)
      assumption
    clear_value y2
    refine Frame.ite ?_ ?_
    · assumption
    · refine State.sendMirror_frame _ _ _ _ _ ?_ (List.Subset.trans (by decide) w)
      assumption

theorem State.doneWaiting_frame (x a1 a2) (h : Frame ch s x) (w : ([.tnd] : List Block) ⊆ ch) :
    Frame ch s (State.doneWaiting x a1 a2) := by
  delta State.doneWaiting
  refine State.modItem_frame _ _ _ ?_ (List.Subset.trans (by decide) w)
  assumption

theorem State.settle_frame (x a1 a2 a3 a4 a5 a6 a7) (h : Frame ch s x) (w : ([.tnd, .ngl, .m] : List Block) ⊆ ch) :
    Frame ch s (State.settle x a1 a2 a3 a4 a5 a6 a7) := by
  delta State.settle
  extract_lets +onlyGivenNames y1
  have h1 : Frame ch s y1 := by
    unfold y1
    refine State.modItem_frame _ _ _ ?_ (List.Subset.trans (by decide) w)
    assumption
  clear_value y1
  split
  · refine Frame.ite ?_ ?_
    · refine State.mirrorItem_frame _ _ _ ?_ (List.Subset.trans (by decide) w)
      assumption
    · assumption
  · assumption

theorem State.commitReplay_frame (x a1 a2 a3 a4 a5 a6 a7) (h : Frame ch s x)
        (w : ([.tnd, .commits] : List Block) ⊆ ch) :
    Frame ch s (State.commitReplay x a1 a2 a3 a4 a5 a6 a7) := by
  delta State.commitReplay
  extract_lets +onlyGivenNames y1
  clear_value y1
  extract_lets +onlyGivenNames y2
  clear_value y2
  extract_lets +onlyGivenNames y3
  have h3 : Frame ch s y3 := by
    unfold y3
    refine State.addReplay_frame _ _ ?_ (List.Subset.trans (by decide) w)
    assumption
  clear_value y3
  refine State.commit_frame _ _ _ _ _ ?_ (List.Subset.trans (by decide) w)
  assumption

theorem State.finishM_frame (x a1 a2 a3 a4 a5 a6 a7 a8 a9) (h : Frame ch s x)
        (w : ([.tnd, .ngl, .commits, .m] : List Block) ⊆ ch) :
    Frame ch s (State.finishM x a1 a2 a3 a4 a5 a6 a7 a8 a9) := by
  delta State.finishM
  refine State.settle_frame _ _ _ _ _ _ _ _ ?_ (List.Subset.trans (by decide) w)
  refine State.commitReplay_frame _ _ _ _ _ _ _ _ ?_ (List.Subset.trans (by decide) w)
  assumption

theorem State.askSigner_frame (x a1) (h : Frame ch s x) (w : ([.mea] : List Block) ⊆ ch) :
    Frame ch s (State.askSigner x a1) := by
  delta State.askSigner
  refine Frame.ite ?_ ?_
  · apply Frame.upd <;> first | assumption | exact Or.inl (w (by decide)) | exact Or.inr rfl | exact List.suffix_rfl
  · apply Frame.upd <;> first | assumption | exact Or.inl (w (by decide)) | exact Or.inr rfl | exact List.suffix_rfl

theorem State.contend_frame (x a1) (h : Frame ch s x)
        (w : ([.host, .queues, .tnd, .clusters, .kst, .mea, .slc, .ngl, .regions, .commits, .log, .m] : List Block)
      ⊆ ch) :
    Frame ch s (State.contend x a1) := by
  delta State.contend
  refine Frame.ite ?_ ?_
  · refine State.retryItem_frame _ _ ?_ (List.Subset.trans (by decide) w)
    assumption
  · refine State.modItem_frame _ _ _ ?_ (List.Subset.trans (by decide) w)
    assumption

theorem State.dropLockout_frame (x a1 a2 a3) (h : Frame ch s x) (w : ([.tnd, .slc, .commits] : List Block) ⊆ ch) :
    Frame ch s (State.dropLockout x a1 a2 a3) := by
  delta State.dropLockout
  extract_lets +onlyGivenNames y1
  extract_lets +onlyGivenNames y2
  have h2 : Frame ch s y2 := by
    unfold y2
    refine State.modSlice_frame _ _ _ ?_ (List.Subset.trans (by decide) w)
    assumption
  clear_value y2
  refine State.commit_frame _ _ _ _ _ ?_ (List.Subset.trans (by decide) w)
  assumption

theorem State.armLockout_frame (x a1 a2 a3) (h : Frame ch s x) (w : ([.tnd] : List Block) ⊆ ch) :
    Frame ch s (State.armLockout x a1 a2 a3) := by
  delta State.armLockout
  extract_lets +onlyGivenNames y1
  clear_value y1
  refine Frame.ite ?_ ?_
  · refine State.addDelay_frame _ _ _ _ _ ?_ (List.Subset.trans (by decide) w)
    assumption
  · assumption

theorem State.reconcile_frame (x a1 a2) (h : Frame ch s x) (w : ([.regions, .log] : List Block) ⊆ ch) :
    Frame ch s (State.reconcile x a1 a2) := by
  delta State.reconcile
  extract_lets +onlyGivenNames y1
  extract_lets +onlyGivenNames y2
  clear_value y2
  refine Frame.ite ?_ ?_
  · refine State.modRegion_frame _ _ _ ?_ (List.Subset.trans (by decide) w)
    assumption
  · extract_lets +onlyGivenNames y3
    have h3 : Frame ch s y3 := by
      unfold y3
      refine Frame.ite ?_ ?_
      · refine State.modRegion_frame _ _ _ ?_ (List.Subset.trans (by decide) w)
        assumption
      · refine State.addCredit_frame _ _ _ ?_ (List.Subset.trans (by decide) w)
        refine State.modRegion_frame _ _ _ ?_ (List.Subset.trans (by decide) w)
        assumption
    clear_value y3
    extract_lets +onlyGivenNames y4
    clear_value y4
    refine Frame.ite ?_ ?_
    · refine State.addCredit_frame _ _ _ ?_ (List.Subset.trans (by decide) w)
      refine State.modRegion_frame _ _ _ ?_ (List.Subset.trans (by decide) w)
      assumption
    · assumption

theorem State.stepDown_frame (x a1 a2) (h : Frame ch s x) (w : ([.chl, .regions, .log] : List Block) ⊆ ch) :
    Frame ch s (State.stepDown x a1 a2) := by
  delta State.stepDown
  extract_lets +onlyGivenNames y1
  refine Frame.ite ?_ ?_
  · assumption
  · extract_lets +onlyGivenNames y2
    have h2 : Frame ch s y2 := by
      unfold y2
      refine State.modRegion_frame _ _ _ ?_ (List.Subset.trans (by decide) w)
      assumption
    clear_value y2
    refine State.logEv_frame _ _ _ _ _ ?_ (List.Subset.trans (by decide) w)
    apply Frame.upd <;> first | assumption | exact Or.inl (w (by decide)) | exact Or.inr rfl | exact List.suffix_rfl

theorem State.opDecision_frame (x a1) (h : Frame ch s x) (w : ([.chl, .regions, .log] : List Block) ⊆ ch) :
    Frame ch s (State.opDecision x a1) := by
  delta State.opDecision
  extract_lets +onlyGivenNames y1
  extract_lets +onlyGivenNames y2
  clear_value y2
  extract_lets +onlyGivenNames y3
  have h3 : Frame ch s y3 := by
    unfold y3
    refine State.modRegion_frame _ _ _ ?_ (List.Subset.trans (by decide) w)
    assumption
  clear_value y3
  extract_lets +onlyGivenNames y4
  clear_value y4
  extract_lets +onlyGivenNames y5
  have h5 : Frame ch s y5 := by
    unfold y5
    refine Frame.ite ?_ ?_
    · refine State.stepDown_frame _ _ _ ?_ (List.Subset.trans (by decide) w)
      assumption
    · refine Frame.ite ?_ ?_
      · refine State.stepDown_frame _ _ _ ?_ (List.Subset.trans (by decide) w)
        assumption
      · refine Frame.ite ?_ ?_
        · refine State.modRegion_frame _ _ _ ?_ (List.Subset.trans (by decide) w)
          assumption
        · assumption
  clear_value y5
  refine State.modRegion_frame _ _ _ ?_ (List.Subset.trans (by decide) w)
  refine State.stepDown_frame _ _ _ ?_ (List.Subset.trans (by decide) w)
  assumption

theorem State.readRegion_frame (x a1 a2) (h : Frame ch s x) (w : ([.regions, .log] : List Block) ⊆ ch) :
    Frame ch s (State.readRegion x a1 a2) := by
  delta State.readRegion
  extract_lets +onlyGivenNames y1
  clear_value y1
  extract_lets +onlyGivenNames y2
  clear_value y2
  extract_lets +onlyGivenNames y3
  clear_value y3
  extract_lets +onlyGivenNames y4
  have h4 : Frame ch s y4 := by
    unfold y4
    refine State.modRegion_frame _ _ _ ?_ (List.Subset.trans (by decide) w)
    assumption
  clear_value y4
  refine Frame.ite ?_ ?_
  · refine State.logEv_frame _ _ _ _ _ ?_ (List.Subset.trans (by decide) w)
    assumption
  · assumption

theorem State.thermalGate_frame (x a1) (h : Frame ch s x)
        (w : ([.tnd, .clusters, .chl, .regions, .log] : List Block) ⊆ ch) :
    Frame ch s (State.thermalGate x a1) := by
  delta State.thermalGate
  extract_lets +onlyGivenNames y1
  refine Frame.ite ?_ ?_
  · extract_lets +onlyGivenNames y2
    have h2 : Frame ch s y2 := by
      unfold y2
      refine State.modRegion_frame _ _ _ ?_ (List.Subset.trans (by decide) w)
      refine State.stepDown_frame _ _ _ ?_ (List.Subset.trans (by decide) w)
      assumption
    clear_value y2
    extract_lets +onlyGivenNames y3
    extract_lets +onlyGivenNames y4
    have h4 : Frame ch s y4 := by
      unfold y4
      refine State.logEv_frame _ _ _ _ _ ?_ (List.Subset.trans (by decide) w)
      apply Frame.upd <;> first | assumption | exact Or.inl (w (by decide)) | exact Or.inr rfl | exact List.suffix_rfl
    clear_value y4
    refine State.armIdle_frame _ _ ?_ (List.Subset.trans (by decide) w)
    assumption
  · refine Frame.ite ?_ ?_
    · refine State.modRegion_frame _ _ _ ?_ (List.Subset.trans (by decide) w)
      assumption
    · assumption

theorem State.updateRegion_frame (x a1 a2 a3) (h : Frame ch s x)
        (w : ([.tnd, .clusters, .chl, .regions, .log] : List Block) ⊆ ch) :
    Frame ch s (State.updateRegion x a1 a2 a3) := by
  delta State.updateRegion
  extract_lets +onlyGivenNames y1
  extract_lets +onlyGivenNames y2
  have h2 : Frame ch s y2 := by
    unfold y2
    refine State.readRegion_frame _ _ _ ?_ (List.Subset.trans (by decide) w)
    assumption
  clear_value y2
  extract_lets +onlyGivenNames y3
  have h3 : Frame ch s y3 := by
    unfold y3
    refine Frame.ite ?_ ?_
    · assumption
    · refine State.modRegion_frame _ _ _ ?_ (List.Subset.trans (by decide) w)
      assumption
  clear_value y3
  refine Frame.ite ?_ ?_
  · extract_lets +onlyGivenNames y4
    have h4 : Frame ch s y4 := by
      unfold y4
      refine State.reconcile_frame _ _ _ ?_ (List.Subset.trans (by decide) w)
      assumption
    clear_value y4
    extract_lets +onlyGivenNames y5
    have h5 : Frame ch s y5 := by
      unfold y5
      refine State.addCredit_frame _ _ _ ?_ (List.Subset.trans (by decide) w)
      assumption
    clear_value y5
    refine State.thermalGate_frame _ _ ?_ (List.Subset.trans (by decide) w)
    refine State.opDecision_frame _ _ ?_ (List.Subset.trans (by decide) w)
    assumption
  · refine State.thermalGate_frame _ _ ?_ (List.Subset.trans (by decide) w)
    assumption

theorem State.wakeRegion_frame (x a1 a2) (h : Frame ch s x) (w : ([.chl, .regions] : List Block) ⊆ ch) :
    Frame ch s (State.wakeRegion x a1 a2) := by
  delta State.wakeRegion
  refine Frame.ite ?_ ?_
  · refine State.modRegion_frame _ _ _ ?_ (List.Subset.trans (by decide) w)
    assumption
  · extract_lets +onlyGivenNames y1
    have h1 : Frame ch s y1 := by
      unfold y1
      refine State.modRegion_frame _ _ _ ?_ (List.Subset.trans (by decide) w)
      assumption
    clear_value y1
    apply Frame.upd <;> first | assumption | exact Or.inl (w (by decide)) | exact Or.inr rfl | exact List.suffix_rfl

theorem State.serveDemand_frame (x a1 a2 a3) (h : Frame ch s x) (w : ([.chl, .regions] : List Block) ⊆ ch) :
    Frame ch s (State.serveDemand x a1 a2 a3).1 := by
  delta State.serveDemand
  refine Frame.fstIte ?_ ?_
  · dsimp only
    assumption
  · refine Frame.fstIte ?_ ?_
    · dsimp only
      assumption
    · extract_lets +onlyGivenNames y1
      clear_value y1
      extract_lets +onlyGivenNames y2
      clear_value y2
      split
      · refine Frame.fstIte ?_ ?_
        · dsimp only
          refine State.wakeRegion_frame _ _ _ ?_ (List.Subset.trans (by decide) w)
          assumption
        · dsimp only
          assumption
      · dsimp only
        assumption

theorem State.reoffer_frame (x a1) (h : Frame ch s x)
        (w : ([.host, .tnd, .clusters, .regions, .log, .m] : List Block) ⊆ ch) :
    Frame ch s (State.reoffer x a1) := by
  delta State.reoffer
  extract_lets +onlyGivenNames y1
  refine Frame.ite ?_ ?_
  · assumption
  · extract_lets +onlyGivenNames y2
    have h2 : Frame ch s y2 := by
      unfold y2
      refine State.modRegion_frame _ _ _ ?_ (List.Subset.trans (by decide) w)
      assumption
    clear_value y2
    refine Frame.fold ?_ (fun y3 a3 h3 => ?_)
    · assumption
    · refine State.take_frame _ _ ?_ (List.Subset.trans (by decide) w)
      assumption

theorem State.packageFigures_frame (x a1) (h : Frame ch s x) (w : ([.chl, .log, .gds] : List Block) ⊆ ch) :
    Frame ch s (State.packageFigures x a1) := by
  delta State.packageFigures
  extract_lets +onlyGivenNames y1
  clear_value y1
  extract_lets +onlyGivenNames y2
  clear_value y2
  extract_lets +onlyGivenNames y3
  clear_value y3
  extract_lets +onlyGivenNames y4
  clear_value y4
  extract_lets +onlyGivenNames y5
  clear_value y5
  extract_lets +onlyGivenNames y6
  extract_lets +onlyGivenNames y7
  extract_lets +onlyGivenNames y8
  have h8 : Frame ch s y8 := by
    unfold y8
    apply Frame.upd <;> first | assumption | exact Or.inl (w (by decide)) | exact Or.inr rfl | exact List.suffix_rfl
  clear_value y8
  refine Frame.ite ?_ ?_
  · refine State.logH_frame _ _ _ ?_ (List.Subset.trans (by decide) w)
    assumption
  · assumption

theorem State.applySubst_frame (x a1) (h : Frame ch s x) (w : ([.fabric, .commits] : List Block) ⊆ ch) :
    Frame ch s (State.applySubst x a1) := by
  delta State.applySubst
  extract_lets +onlyGivenNames y1
  clear_value y1
  extract_lets +onlyGivenNames y2
  extract_lets +onlyGivenNames y3
  have h3 : Frame ch s y3 := by
    unfold y3
    apply Frame.upd <;> first | assumption | exact Or.inl (w (by decide)) | exact Or.inr rfl | exact List.suffix_rfl
  clear_value y3
  refine Frame.fold ?_ (fun y4 a4 h4 => ?_)
  · assumption
  · refine State.setSlot_frame _ _ _ ?_ (List.Subset.trans (by decide) w)
    assumption

theorem State.lightClusters_frame (x a1) (h : Frame ch s x) (w : ([.clusters] : List Block) ⊆ ch) :
    Frame ch s (State.lightClusters x a1) := by
  delta State.lightClusters
  refine Frame.fold ?_ (fun y1 a1 h1 => ?_)
  · assumption
  · extract_lets +onlyGivenNames y2
    clear_value y2
    refine Frame.ite ?_ ?_
    · refine State.modCluster_frame _ _ _ ?_ (List.Subset.trans (by decide) w)
      assumption
    · assumption

theorem State.regionOn_frame (x a1) (h : Frame ch s x)
        (w : ([.fabric, .clusters, .regions, .commits] : List Block) ⊆ ch) :
    Frame ch s (State.regionOn x a1) := by
  delta State.regionOn
  extract_lets +onlyGivenNames y1
  have h1 : Frame ch s y1 := by
    unfold y1
    refine State.applySubst_frame _ _ ?_ (List.Subset.trans (by decide) w)
    assumption
  clear_value y1
  extract_lets +onlyGivenNames y2
  have h2 : Frame ch s y2 := by
    unfold y2
    refine State.modRegion_frame _ _ _ ?_ (List.Subset.trans (by decide) w)
    assumption
  clear_value y2
  extract_lets +onlyGivenNames y3
  clear_value y3
  extract_lets +onlyGivenNames y4
  clear_value y4
  refine State.lightClusters_frame _ _ ?_ (List.Subset.trans (by decide) w)
  refine State.modRegion_frame _ _ _ ?_ (List.Subset.trans (by decide) w)
  assumption

theorem State.trueWeight_frame (x a1 a2) (h : Frame ch s x) (w : ([.tnd, .regions, .log] : List Block) ⊆ ch) :
    Frame ch s (State.trueWeight x a1 a2) := by
  delta State.trueWeight
  split
  · assumption
  · split
    · extract_lets +onlyGivenNames y1
      clear_value y1
      extract_lets +onlyGivenNames y2
      clear_value y2
      extract_lets +onlyGivenNames y3
      have h3 : Frame ch s y3 := by
        unfold y3
        refine State.addCredit_frame _ _ _ ?_ (List.Subset.trans (by decide) w)
        assumption
      clear_value y3
      extract_lets +onlyGivenNames y4
      have h4 : Frame ch s y4 := by
        unfold y4
        refine State.modRegion_frame _ _ _ ?_ (List.Subset.trans (by decide) w)
        assumption
      clear_value y4
      refine State.modItem_frame _ _ _ ?_ (List.Subset.trans (by decide) w)
      assumption
    · assumption

end Sys2Proof.Machine
end

