-- ==== Sys2Proof/Laws/FramesPower.lean ====
section
/-!
SUPPORT. One lemma for each shared operation: the frame of the operations over the stores, cards, keys and key verbs.
Each says which blocks of the state the operation may change, and that it leaves the queue of waiting commands as it
is.
-/
namespace Sys2Proof.Machine

variable {ch : List Block} {s : State}

theorem State.measExtend_frame (x a1 a2) (h : Frame ch s x) (w : ([.meas, .log] : List Block) ⊆ ch) :
    Frame ch s (State.measExtend x a1 a2) := by
  delta State.measExtend
  refine State.logG_frame _ _ _ ?_ (List.Subset.trans (by decide) w)
  apply Frame.upd <;> first | assumption | exact Or.inl (w (by decide)) | exact Or.inr rfl | exact List.suffix_rfl

theorem State.transcribe_frame (x a1 a2 a3) (h : Frame ch s x) (w : ([.mea] : List Block) ⊆ ch) :
    Frame ch s (State.transcribe x a1 a2 a3) := by
  delta State.transcribe
  refine Frame.ite ?_ ?_
  · apply Frame.upd <;> first | assumption | exact Or.inl (w (by decide)) | exact Or.inr rfl | exact List.suffix_rfl
  · assumption

theorem State.modIcc_frame (x a1 a2) (h : Frame ch s x) (w : ([.cards] : List Block) ⊆ ch) :
    Frame ch s (State.modIcc x a1 a2) := by
  delta State.modIcc
  apply Frame.upd <;> first | assumption | exact Or.inl (w (by decide)) | exact Or.inr rfl | exact List.suffix_rfl

theorem State.keypadLeave_frame (x a1) (h : Frame ch s x) (w : ([.dcc] : List Block) ⊆ ch) :
    Frame ch s (State.keypadLeave x a1) := by
  delta State.keypadLeave
  extract_lets +onlyGivenNames y1
  extract_lets +onlyGivenNames y2
  clear_value y2
  apply Frame.upd <;> first | assumption | exact Or.inl (w (by decide)) | exact Or.inr rfl | exact List.suffix_rfl

theorem State.deactivateIcc_frame (x a1) (h : Frame ch s x) (w : ([.dcc, .cards] : List Block) ⊆ ch) :
    Frame ch s (State.deactivateIcc x a1) := by
  delta State.deactivateIcc
  extract_lets +onlyGivenNames y1
  extract_lets +onlyGivenNames y2
  have h2 : Frame ch s y2 := by
    unfold y2
    refine State.keypadLeave_frame _ _ ?_ (List.Subset.trans (by decide) w)
    assumption
  clear_value y2
  refine Frame.ite ?_ ?_
  · refine State.modIcc_frame _ _ _ ?_ (List.Subset.trans (by decide) w)
    assumption
  · refine State.modIcc_frame _ _ _ ?_ (List.Subset.trans (by decide) w)
    assumption

theorem State.deactivateCards_frame (x) (h : Frame ch s x) (w : ([.dcc, .cards] : List Block) ⊆ ch) :
    Frame ch s (State.deactivateCards x) := by
  delta State.deactivateCards
  extract_lets +onlyGivenNames y1
  have h1 : Frame ch s y1 := by
    unfold y1
    refine State.deactivateIcc_frame _ _ ?_ (List.Subset.trans (by decide) w)
    refine State.deactivateIcc_frame _ _ ?_ (List.Subset.trans (by decide) w)
    assumption
  clear_value y1
  apply Frame.upd <;> first | assumption | exact Or.inl (w (by decide)) | exact Or.inr rfl | exact List.suffix_rfl

theorem State.issuingFails_frame (x a1 a2) (h : Frame ch s x)
        (w : ([.tnd, .kst, .slc, .ngl, .per, .commits, .store, .custody, .m] : List Block) ⊆ ch) :
    Frame ch s (State.issuingFails x a1 a2) := by
  delta State.issuingFails
  extract_lets +onlyGivenNames y1
  clear_value y1
  extract_lets +onlyGivenNames y2
  have h2 : Frame ch s y2 := by
    unfold y2
    refine State.applyUndos_frame _ _ ?_ (List.Subset.trans (by decide) w)
    assumption
  clear_value y2
  extract_lets +onlyGivenNames y3
  extract_lets +onlyGivenNames y4
  have h4 : Frame ch s y4 := by
    unfold y4
    apply Frame.upd <;> first | assumption | exact Or.inl (w (by decide)) | exact Or.inr rfl | exact List.suffix_rfl
  clear_value y4
  split
  · refine State.finishM_frame _ _ _ _ _ _ _ _ _ _ ?_ (List.Subset.trans (by decide) w)
    assumption
  · assumption

theorem State.endSession_frame (x a1) (h : Frame ch s x)
        (w : ([.tnd, .kst, .mea, .meas, .slc, .ngl, .per, .commits, .log, .store, .dcc, .custody, .cards, .m] : List
      Block) ⊆ ch) :
    Frame ch s (State.endSession x a1) := by
  delta State.endSession
  split
  · assumption
  · extract_lets +onlyGivenNames y1
    have h1 : Frame ch s y1 := by
      unfold y1
      split
      · refine State.issuingFails_frame _ _ _ ?_ (List.Subset.trans (by decide) w)
        assumption
      · assumption
    clear_value y1
    extract_lets +onlyGivenNames y2
    extract_lets +onlyGivenNames y3
    extract_lets +onlyGivenNames y4
    have h4 : Frame ch s y4 := by
      unfold y4
      apply Frame.upd <;> first | assumption | exact Or.inl (w (by decide)) | exact Or.inr rfl | exact List.suffix_rfl
    clear_value y4
    extract_lets +onlyGivenNames y5
    have h5 : Frame ch s y5 := by
      unfold y5
      refine State.logG_frame _ _ _ ?_ (List.Subset.trans (by decide) w)
      refine State.dropDelay_frame _ _ ?_ (List.Subset.trans (by decide) w)
      assumption
    clear_value y5
    extract_lets +onlyGivenNames y6
    have h6 : Frame ch s y6 := by
      unfold y6
      refine State.deactivateCards_frame _ ?_ (List.Subset.trans (by decide) w)
      assumption
    clear_value y6
    extract_lets +onlyGivenNames y7
    clear_value y7
    refine State.measExtend_frame _ _ _ ?_ (List.Subset.trans (by decide) w)
    apply Frame.upd <;> first | assumption | exact Or.inl (w (by decide)) | exact Or.inr rfl | exact List.suffix_rfl

theorem State.sdPowerDown_frame (x a1) (h : Frame ch s x) (w : ([.cards] : List Block) ⊆ ch) :
    Frame ch s (State.sdPowerDown x a1) := by
  delta State.sdPowerDown
  apply Frame.upd <;> first | assumption | exact Or.inl (w (by decide)) | exact Or.inr rfl | exact List.suffix_rfl

theorem State.portsIdle_frame (x) (h : Frame ch s x) (w : ([.ngl] : List Block) ⊆ ch) :
    Frame ch s (State.portsIdle x) := by
  delta State.portsIdle
  apply Frame.upd <;> first | assumption | exact Or.inl (w (by decide)) | exact Or.inr rfl | exact List.suffix_rfl

theorem State.zeroVolatileKeys_frame (x) (h : Frame ch s x) (w : ([.clusters, .kst, .mea, .slc] : List Block) ⊆ ch) :
    Frame ch s (State.zeroVolatileKeys x) := by
  delta State.zeroVolatileKeys
  extract_lets +onlyGivenNames y1
  clear_value y1
  apply Frame.upd <;> first | assumption | exact Or.inl (w (by decide)) | exact Or.inr rfl | exact List.suffix_rfl

theorem State.quenchItems_frame (x) (h : Frame ch s x)
        (w : ([.pat, .host, .queues, .tnd, .clusters, .kst, .mea, .slc, .ngl, .commits, .cards, .m] : List Block) ⊆
      ch) :
    Frame ch s (State.quenchItems x) := by
  delta State.quenchItems
  extract_lets +onlyGivenNames y1
  clear_value y1
  extract_lets +onlyGivenNames y2
  clear_value y2
  extract_lets +onlyGivenNames y3
  clear_value y3
  extract_lets +onlyGivenNames y4
  clear_value y4
  extract_lets +onlyGivenNames y5
  have h5 : Frame ch s y5 := by
    unfold y5
    refine State.endItems_frame _ _ _ _ ?_ (List.Subset.trans (by decide) w)
    assumption
  clear_value y5
  extract_lets +onlyGivenNames y6
  extract_lets +onlyGivenNames y7
  have h7 : Frame ch s y7 := by
    unfold y7
    apply Frame.upd <;> first | assumption | exact Or.inl (w (by decide)) | exact Or.inr rfl | exact List.suffix_rfl
  clear_value y7
  extract_lets +onlyGivenNames y8
  have h8 : Frame ch s y8 := by
    unfold y8
    refine Frame.fold ?_ (fun y9 a9 h9 => ?_)
    · assumption
    · refine State.cutItem_frame _ _ ?_ (List.Subset.trans (by decide) w)
      assumption
  clear_value y8
  apply Frame.upd <;> first | assumption | exact Or.inl (w (by decide)) | exact Or.inr rfl | exact List.suffix_rfl

theorem State.activateIcc_frame (x a1) (h : Frame ch s x) (w : ([.cards] : List Block) ⊆ ch) :
    Frame ch s (State.activateIcc x a1) := by
  delta State.activateIcc
  refine State.modIcc_frame _ _ _ ?_ (List.Subset.trans (by decide) w)
  assumption

theorem State.iccFail_frame (x a1 a2 a3 a4 a5) (h : Frame ch s x) (w : ([.log, .dcc, .cards] : List Block) ⊆ ch) :
    Frame ch s (State.iccFail x a1 a2 a3 a4 a5) := by
  delta State.iccFail
  extract_lets +onlyGivenNames y1
  have h1 : Frame ch s y1 := by
    unfold y1
    refine State.modIcc_frame _ _ _ ?_ (List.Subset.trans (by decide) w)
    assumption
  clear_value y1
  refine State.logG_frame _ _ _ ?_ (List.Subset.trans (by decide) w)
  refine State.deactivateIcc_frame _ _ ?_ (List.Subset.trans (by decide) w)
  assumption

theorem State.activationFail_frame (x a1 a2) (h : Frame ch s x) (w : ([.log, .dcc, .cards] : List Block) ⊆ ch) :
    Frame ch s (State.activationFail x a1 a2) := by
  delta State.activationFail
  extract_lets +onlyGivenNames y1
  clear_value y1
  refine State.iccFail_frame _ _ _ _ _ _ ?_ (List.Subset.trans (by decide) w)
  assumption

theorem State.activateAgain_frame (x a1 a2 a3) (h : Frame ch s x) (w : ([.dcc, .cards] : List Block) ⊆ ch) :
    Frame ch s (State.activateAgain x a1 a2 a3) := by
  delta State.activateAgain
  refine State.modIcc_frame _ _ _ ?_ (List.Subset.trans (by decide) w)
  refine State.deactivateIcc_frame _ _ ?_ (List.Subset.trans (by decide) w)
  assumption

theorem State.iccActive_frame (x a1 a2 a3 a4 a5 a6) (h : Frame ch s x) (w : ([.cards] : List Block) ⊆ ch) :
    Frame ch s (State.iccActive x a1 a2 a3 a4 a5 a6) := by
  delta State.iccActive
  refine State.modIcc_frame _ _ _ ?_ (List.Subset.trans (by decide) w)
  assumption

theorem State.atrReceived_frame (x a1 a2 a3) (h : Frame ch s x)
        (w : ([.mea, .log, .dcc, .cards, .m] : List Block) ⊆ ch) :
    Frame ch s (State.atrReceived x a1 a2 a3) := by
  delta State.atrReceived
  extract_lets +onlyGivenNames y1
  have h1 : Frame ch s y1 := by
    unfold y1
    refine State.transcribe_frame _ _ _ _ ?_ (List.Subset.trans (by decide) w)
    assumption
  clear_value y1
  extract_lets +onlyGivenNames y2
  split
  · refine State.activationFail_frame _ _ _ ?_ (List.Subset.trans (by decide) w)
    assumption
  · extract_lets +onlyGivenNames y3
    clear_value y3
    extract_lets +onlyGivenNames y4
    clear_value y4
    extract_lets +onlyGivenNames y5
    clear_value y5
    refine Frame.ite ?_ ?_
    · refine Frame.ite ?_ ?_
      · refine State.activateAgain_frame _ _ _ _ ?_ (List.Subset.trans (by decide) w)
        assumption
      · refine State.activationFail_frame _ _ _ ?_ (List.Subset.trans (by decide) w)
        assumption
    · split
      · refine State.activationFail_frame _ _ _ ?_ (List.Subset.trans (by decide) w)
        assumption
      · extract_lets +onlyGivenNames y6
        clear_value y6
        split
        · refine Frame.ite ?_ ?_
          · refine State.iccActive_frame _ _ _ _ _ _ _ ?_ (List.Subset.trans (by decide) w)
            assumption
          · refine State.iccActive_frame _ _ _ _ _ _ _ ?_ (List.Subset.trans (by decide) w)
            assumption
        · refine State.iccActive_frame _ _ _ _ _ _ _ ?_ (List.Subset.trans (by decide) w)
          assumption
        · refine State.iccActive_frame _ _ _ _ _ _ _ ?_ (List.Subset.trans (by decide) w)
          assumption
        · refine Frame.ite ?_ ?_
          · refine State.iccActive_frame _ _ _ _ _ _ _ ?_ (List.Subset.trans (by decide) w)
            assumption
          · extract_lets +onlyGivenNames y7
            clear_value y7
            extract_lets +onlyGivenNames y8
            have h8 : Frame ch s y8 := by
              unfold y8
              refine State.emit_frame _ _ ?_ (List.Subset.trans (by decide) w)
              assumption
            clear_value y8
            refine Frame.ite ?_ ?_
            · refine State.iccActive_frame _ _ _ _ _ _ _ ?_ (List.Subset.trans (by decide) w)
              assumption
            · refine Frame.ite ?_ ?_
              · refine State.iccActive_frame _ _ _ _ _ _ _ ?_ (List.Subset.trans (by decide) w)
                assumption
              · refine State.activateAgain_frame _ _ _ _ ?_ (List.Subset.trans (by decide) w)
                assumption

theorem State.atrTimeout_frame (x a1 a2) (h : Frame ch s x) (w : ([.log, .dcc, .cards] : List Block) ⊆ ch) :
    Frame ch s (State.atrTimeout x a1 a2) := by
  delta State.atrTimeout
  refine Frame.ite ?_ ?_
  · refine State.activationFail_frame _ _ _ ?_ (List.Subset.trans (by decide) w)
    assumption
  · refine Frame.ite ?_ ?_
    · refine State.activateAgain_frame _ _ _ _ ?_ (List.Subset.trans (by decide) w)
      assumption
    · refine State.activationFail_frame _ _ _ ?_ (List.Subset.trans (by decide) w)
      assumption

theorem State.modExch_frame (x a1 a2) (h : Frame ch s x) (w : ([.cards] : List Block) ⊆ ch) :
    Frame ch s (State.modExch x a1 a2) := by
  delta State.modExch
  refine State.modIcc_frame _ _ _ ?_ (List.Subset.trans (by decide) w)
  assumption

theorem State.exchangeFail_frame (x a1 a2 a3) (h : Frame ch s x) (w : ([.log, .dcc, .cards] : List Block) ⊆ ch) :
    Frame ch s (State.exchangeFail x a1 a2 a3) := by
  delta State.exchangeFail
  refine State.iccFail_frame _ _ _ _ _ _ ?_ (List.Subset.trans (by decide) w)
  assumption

theorem State.iccRetry_frame (x a1 a2) (h : Frame ch s x) (w : ([.cards] : List Block) ⊆ ch) :
    Frame ch s (State.iccRetry x a1 a2) := by
  delta State.iccRetry
  refine State.modIcc_frame _ _ _ ?_ (List.Subset.trans (by decide) w)
  assumption

theorem State.sendBlock_frame (x a1 a2 a3) (h : Frame ch s x) (w : ([.mea, .cards, .m] : List Block) ⊆ ch) :
    Frame ch s (State.sendBlock x a1 a2 a3) := by
  delta State.sendBlock
  extract_lets +onlyGivenNames y1
  clear_value y1
  extract_lets +onlyGivenNames y2
  have h2 : Frame ch s y2 := by
    unfold y2
    refine State.modIcc_frame _ _ _ ?_ (List.Subset.trans (by decide) w)
    assumption
  clear_value y2
  refine State.emit_frame _ _ ?_ (List.Subset.trans (by decide) w)
  refine State.transcribe_frame _ _ _ _ ?_ (List.Subset.trans (by decide) w)
  assumption

theorem State.sendChunk_frame (x a1) (h : Frame ch s x) (w : ([.mea, .cards, .m] : List Block) ⊆ ch) :
    Frame ch s (State.sendChunk x a1) := by
  delta State.sendChunk
  extract_lets +onlyGivenNames y1
  extract_lets +onlyGivenNames y2
  extract_lets +onlyGivenNames y3
  have h3 : Frame ch s y3 := by
    unfold y3
    refine State.modExch_frame _ _ _ ?_ (List.Subset.trans (by decide) w)
    assumption
  clear_value y3
  extract_lets +onlyGivenNames y4
  have h4 : Frame ch s y4 := by
    unfold y4
    refine State.modIcc_frame _ _ _ ?_ (List.Subset.trans (by decide) w)
    assumption
  clear_value y4
  refine State.sendBlock_frame _ _ _ _ ?_ (List.Subset.trans (by decide) w)
  assumption

theorem State.sendT0_frame (x a1 a2 a3) (h : Frame ch s x) (w : ([.mea, .cards, .m] : List Block) ⊆ ch) :
    Frame ch s (State.sendT0 x a1 a2 a3) := by
  delta State.sendT0
  extract_lets +onlyGivenNames y1
  clear_value y1
  extract_lets +onlyGivenNames y2
  clear_value y2
  extract_lets +onlyGivenNames y3
  have h3 : Frame ch s y3 := by
    unfold y3
    refine State.modIcc_frame _ _ _ ?_ (List.Subset.trans (by decide) w)
    assumption
  clear_value y3
  extract_lets +onlyGivenNames y4
  have h4 : Frame ch s y4 := by
    unfold y4
    refine State.modExch_frame _ _ _ ?_ (List.Subset.trans (by decide) w)
    assumption
  clear_value y4
  refine State.emit_frame _ _ ?_ (List.Subset.trans (by decide) w)
  refine State.transcribe_frame _ _ _ _ ?_ (List.Subset.trans (by decide) w)
  assumption

theorem State.sendApdu_frame (x a1 a2 a3 a4) (h : Frame ch s x) (w : ([.mea, .cards, .m] : List Block) ⊆ ch) :
    Frame ch s (State.sendApdu x a1 a2 a3 a4) := by
  delta State.sendApdu
  extract_lets +onlyGivenNames y1
  clear_value y1
  refine Frame.ite ?_ ?_
  · extract_lets +onlyGivenNames y2
    clear_value y2
    refine State.sendChunk_frame _ _ ?_ (List.Subset.trans (by decide) w)
    refine State.modExch_frame _ _ _ ?_ (List.Subset.trans (by decide) w)
    assumption
  · extract_lets +onlyGivenNames y3
    clear_value y3
    refine State.sendT0_frame _ _ _ _ ?_ (List.Subset.trans (by decide) w)
    refine State.modExch_frame _ _ _ ?_ (List.Subset.trans (by decide) w)
    assumption

theorem State.t0Receive_frame (x a1 a2 a3) (h : Frame ch s x)
        (w : ([.mea, .log, .dcc, .cards, .m] : List Block) ⊆ ch) :
    Frame ch s (State.t0Receive x a1 a2 a3).1 := by
  delta State.t0Receive
  extract_lets +onlyGivenNames y1
  have h1 : Frame ch s y1 := by
    unfold y1
    refine State.iccRetry_frame _ _ _ ?_ (List.Subset.trans (by decide) w)
    refine State.transcribe_frame _ _ _ _ ?_ (List.Subset.trans (by decide) w)
    assumption
  clear_value y1
  refine Frame.fstIte ?_ ?_
  · dsimp only
    refine State.exchangeFail_frame _ _ _ _ ?_ (List.Subset.trans (by decide) w)
    assumption
  · extract_lets +onlyGivenNames y2
    extract_lets +onlyGivenNames y3
    have h3 : Frame ch s y3 := by
      unfold y3
      refine State.modExch_frame _ _ _ ?_ (List.Subset.trans (by decide) w)
      assumption
    clear_value y3
    extract_lets +onlyGivenNames y4
    have h4 : Frame ch s y4 := by
      unfold y4
      refine Frame.ite ?_ ?_
      · assumption
      · refine State.emit_frame _ _ ?_ (List.Subset.trans (by decide) w)
        assumption
    clear_value y4
    refine Frame.fstIte ?_ ?_
    · dsimp only
      refine State.exchangeFail_frame _ _ _ _ ?_ (List.Subset.trans (by decide) w)
      assumption
    · split
      · dsimp only
        assumption
      · refine Frame.fstIte ?_ ?_
        · dsimp only
          refine State.sendT0_frame _ _ _ _ ?_ (List.Subset.trans (by decide) w)
          assumption
        · refine Frame.fstIte ?_ ?_
          · dsimp only
            refine State.sendT0_frame _ _ _ _ ?_ (List.Subset.trans (by decide) w)
            assumption
          · dsimp only
            assumption

theorem State.t1Error_frame (x a1 a2) (h : Frame ch s x) (w : ([.mea, .log, .dcc, .cards, .m] : List Block) ⊆ ch) :
    Frame ch s (State.t1Error x a1 a2) := by
  delta State.t1Error
  extract_lets +onlyGivenNames y1
  extract_lets +onlyGivenNames y2
  have h2 : Frame ch s y2 := by
    unfold y2
    refine State.iccRetry_frame _ _ _ ?_ (List.Subset.trans (by decide) w)
    assumption
  clear_value y2
  refine Frame.ite ?_ ?_
  · refine State.sendBlock_frame _ _ _ _ ?_ (List.Subset.trans (by decide) w)
    refine State.modIcc_frame _ _ _ ?_ (List.Subset.trans (by decide) w)
    assumption
  · refine Frame.ite ?_ ?_
    · refine State.sendBlock_frame _ _ _ _ ?_ (List.Subset.trans (by decide) w)
      refine State.modIcc_frame _ _ _ ?_ (List.Subset.trans (by decide) w)
      assumption
    · refine State.exchangeFail_frame _ _ _ _ ?_ (List.Subset.trans (by decide) w)
      assumption

theorem State.t1Receive_frame (x a1 a2 a3) (h : Frame ch s x)
        (w : ([.mea, .log, .dcc, .cards, .m] : List Block) ⊆ ch) :
    Frame ch s (State.t1Receive x a1 a2 a3).1 := by
  delta State.t1Receive
  extract_lets +onlyGivenNames y1
  have h1 : Frame ch s y1 := by
    unfold y1
    refine State.transcribe_frame _ _ _ _ ?_ (List.Subset.trans (by decide) w)
    assumption
  clear_value y1
  extract_lets +onlyGivenNames y2
  extract_lets +onlyGivenNames y3
  extract_lets +onlyGivenNames y4
  clear_value y4
  extract_lets +onlyGivenNames y5
  clear_value y5
  extract_lets +onlyGivenNames y6
  clear_value y6
  extract_lets +onlyGivenNames y7
  clear_value y7
  refine Frame.fstIte ?_ ?_
  · dsimp only
    refine State.exchangeFail_frame _ _ _ _ ?_ (List.Subset.trans (by decide) w)
    assumption
  · refine Frame.fstIte ?_ ?_
    · dsimp only
      refine State.t1Error_frame _ _ _ ?_ (List.Subset.trans (by decide) w)
      assumption
    · extract_lets +onlyGivenNames y8
      have h8 : Frame ch s y8 := by
        unfold y8
        refine State.modIcc_frame _ _ _ ?_ (List.Subset.trans (by decide) w)
        assumption
      clear_value y8
      refine Frame.fstIte ?_ ?_
      · dsimp only
        refine State.t1Error_frame _ _ _ ?_ (List.Subset.trans (by decide) w)
        assumption
      · refine Frame.fstIte ?_ ?_
        · refine Frame.fstIte ?_ ?_
          · dsimp only
            refine State.t1Error_frame _ _ _ ?_ (List.Subset.trans (by decide) w)
            assumption
          · extract_lets +onlyGivenNames y9
            have h9 : Frame ch s y9 := by
              unfold y9
              refine State.modIcc_frame _ _ _ ?_ (List.Subset.trans (by decide) w)
              assumption
            clear_value y9
            extract_lets +onlyGivenNames y10
            clear_value y10
            extract_lets +onlyGivenNames y11
            have h11 : Frame ch s y11 := by
              unfold y11
              refine State.modExch_frame _ _ _ ?_ (List.Subset.trans (by decide) w)
              assumption
            clear_value y11
            refine Frame.fstIte ?_ ?_
            · dsimp only
              refine State.sendBlock_frame _ _ _ _ ?_ (List.Subset.trans (by decide) w)
              assumption
            · refine Frame.fstIte ?_ ?_
              · dsimp only
                refine State.exchangeFail_frame _ _ _ _ ?_ (List.Subset.trans (by decide) w)
                assumption
              · dsimp only
                assumption
        · refine Frame.fstIte ?_ ?_
          · refine Frame.fstIte ?_ ?_
            · dsimp only
              refine State.sendChunk_frame _ _ ?_ (List.Subset.trans (by decide) w)
              assumption
            · extract_lets +onlyGivenNames y12
              have h12 : Frame ch s y12 := by
                unfold y12
                refine State.modIcc_frame _ _ _ ?_ (List.Subset.trans (by decide) w)
                refine State.iccRetry_frame _ _ _ ?_ (List.Subset.trans (by decide) w)
                assumption
              clear_value y12
              refine Frame.fstIte ?_ ?_
              · dsimp only
                refine State.emit_frame _ _ ?_ (List.Subset.trans (by decide) w)
                refine State.transcribe_frame _ _ _ _ ?_ (List.Subset.trans (by decide) w)
                assumption
              · dsimp only
                refine State.t1Error_frame _ _ _ ?_ (List.Subset.trans (by decide) w)
                assumption
          · refine Frame.fstIte ?_ ?_
            · extract_lets +onlyGivenNames y13
              clear_value y13
              refine Frame.fstIte ?_ ?_
              · dsimp only
                refine State.exchangeFail_frame _ _ _ _ ?_ (List.Subset.trans (by decide) w)
                assumption
              · dsimp only
                refine State.sendBlock_frame _ _ _ _ ?_ (List.Subset.trans (by decide) w)
                refine State.modExch_frame _ _ _ ?_ (List.Subset.trans (by decide) w)
                assumption
            · refine Frame.fstIte ?_ ?_
              · dsimp only
                refine State.sendBlock_frame _ _ _ _ ?_ (List.Subset.trans (by decide) w)
                refine State.modIcc_frame _ _ _ ?_ (List.Subset.trans (by decide) w)
                assumption
              · refine Frame.fstIte ?_ ?_
                · extract_lets +onlyGivenNames y14
                  have h14 : Frame ch s y14 := by
                    unfold y14
                    refine State.modIcc_frame _ _ _ ?_ (List.Subset.trans (by decide) w)
                    assumption
                  clear_value y14
                  refine Frame.fstIte ?_ ?_
                  · dsimp only
                    refine State.sendBlock_frame _ _ _ _ ?_ (List.Subset.trans (by decide) w)
                    refine State.modIcc_frame _ _ _ ?_ (List.Subset.trans (by decide) w)
                    assumption
                  · dsimp only
                    refine State.sendChunk_frame _ _ ?_ (List.Subset.trans (by decide) w)
                    refine State.modExch_frame _ _ _ ?_ (List.Subset.trans (by decide) w)
                    assumption
                · refine Frame.fstIte ?_ ?_
                  · dsimp only
                    refine State.modIcc_frame _ _ _ ?_ (List.Subset.trans (by decide) w)
                    assumption
                  · dsimp only
                    refine State.t1Error_frame _ _ _ ?_ (List.Subset.trans (by decide) w)
                    assumption

theorem State.sdCmd_frame (x a1 a2 a3) (h : Frame ch s x) (w : ([.m] : List Block) ⊆ ch) :
    Frame ch s (State.sdCmd x a1 a2 a3) := by
  delta State.sdCmd
  refine State.emit_frame _ _ ?_ (List.Subset.trans (by decide) w)
  assumption

theorem State.keepCsd_frame (x a1) (h : Frame ch s x) (w : ([.cards] : List Block) ⊆ ch) :
    Frame ch s (State.keepCsd x a1) := by
  delta State.keepCsd
  apply Frame.upd <;> first | assumption | exact Or.inl (w (by decide)) | exact Or.inr rfl | exact List.suffix_rfl

theorem State.sdInitIssue_frame (x) (h : Frame ch s x) (w : ([.m] : List Block) ⊆ ch) :
    Frame ch s (State.sdInitIssue x) := by
  delta State.sdInitIssue
  extract_lets +onlyGivenNames y1
  extract_lets +onlyGivenNames y2
  clear_value y2
  split
  · refine State.sdCmd_frame _ _ _ _ ?_ (List.Subset.trans (by decide) w)
    assumption
  · refine State.sdCmd_frame _ _ _ _ ?_ (List.Subset.trans (by decide) w)
    assumption
  · refine State.sdCmd_frame _ _ _ _ ?_ (List.Subset.trans (by decide) w)
    assumption
  · refine Frame.ite ?_ ?_
    · refine State.sdCmd_frame _ _ _ _ ?_ (List.Subset.trans (by decide) w)
      refine State.sdCmd_frame _ _ _ _ ?_ (List.Subset.trans (by decide) w)
      assumption
    · refine State.sdCmd_frame _ _ _ _ ?_ (List.Subset.trans (by decide) w)
      assumption
  · extract_lets +onlyGivenNames y3
    have h3 : Frame ch s y3 := by
      unfold y3
      refine State.sdCmd_frame _ _ _ _ ?_ (List.Subset.trans (by decide) w)
      assumption
    clear_value y3
    extract_lets +onlyGivenNames y4
    have h4 : Frame ch s y4 := by
      unfold y4
      refine Frame.ite ?_ ?_
      · assumption
      · refine State.sdCmd_frame _ _ _ _ ?_ (List.Subset.trans (by decide) w)
        assumption
    clear_value y4
    refine State.sdCmd_frame _ _ _ _ ?_ (List.Subset.trans (by decide) w)
    refine State.sdCmd_frame _ _ _ _ ?_ (List.Subset.trans (by decide) w)
    assumption
  · refine Frame.ite ?_ ?_
    · refine State.sdCmd_frame _ _ _ _ ?_ (List.Subset.trans (by decide) w)
      assumption
    · refine State.sdCmd_frame _ _ _ _ ?_ (List.Subset.trans (by decide) w)
      assumption
  · assumption

theorem State.sdStep_frame (x a1) (h : Frame ch s x) (w : ([.cards, .m] : List Block) ⊆ ch) :
    Frame ch s (State.sdStep x a1) := by
  delta State.sdStep
  refine State.sdInitIssue_frame _ ?_ (List.Subset.trans (by decide) w)
  apply Frame.upd <;> first | assumption | exact Or.inl (w (by decide)) | exact Or.inr rfl | exact List.suffix_rfl

theorem State.sdPowerUp_frame (x) (h : Frame ch s x) (w : ([.cards, .m] : List Block) ⊆ ch) :
    Frame ch s (State.sdPowerUp x) := by
  delta State.sdPowerUp
  refine State.sdStep_frame _ _ ?_ (List.Subset.trans (by decide) w)
  refine State.sdCmd_frame _ _ _ _ ?_ (List.Subset.trans (by decide) w)
  apply Frame.upd <;> first | assumption | exact Or.inl (w (by decide)) | exact Or.inr rfl | exact List.suffix_rfl

theorem State.sdTune_frame (x) (h : Frame ch s x) (w : ([.cards, .m] : List Block) ⊆ ch) :
    Frame ch s (State.sdTune x) := by
  delta State.sdTune
  refine State.sdCmd_frame _ _ _ _ ?_ (List.Subset.trans (by decide) w)
  apply Frame.upd <;> first | assumption | exact Or.inl (w (by decide)) | exact Or.inr rfl | exact List.suffix_rfl

theorem State.sdIssueNow_frame (x a1) (h : Frame ch s x) (w : ([.m] : List Block) ⊆ ch) :
    Frame ch s (State.sdIssueNow x a1) := by
  delta State.sdIssueNow
  split
  · refine State.sdCmd_frame _ _ _ _ ?_ (List.Subset.trans (by decide) w)
    assumption
  · refine State.sdCmd_frame _ _ _ _ ?_ (List.Subset.trans (by decide) w)
    refine State.sdCmd_frame _ _ _ _ ?_ (List.Subset.trans (by decide) w)
    assumption
  · refine State.sdCmd_frame _ _ _ _ ?_ (List.Subset.trans (by decide) w)
    refine State.sdCmd_frame _ _ _ _ ?_ (List.Subset.trans (by decide) w)
    refine State.sdCmd_frame _ _ _ _ ?_ (List.Subset.trans (by decide) w)
    assumption
  · split
    · assumption
    · refine State.sdCmd_frame _ _ _ _ ?_ (List.Subset.trans (by decide) w)
      assumption
  · refine State.sdCmd_frame _ _ _ _ ?_ (List.Subset.trans (by decide) w)
    assumption
  · refine State.sdCmd_frame _ _ _ _ ?_ (List.Subset.trans (by decide) w)
    assumption
  · assumption
  · refine State.sdCmd_frame _ _ _ _ ?_ (List.Subset.trans (by decide) w)
    refine State.sdCmd_frame _ _ _ _ ?_ (List.Subset.trans (by decide) w)
    assumption
  · refine State.sdCmd_frame _ _ _ _ ?_ (List.Subset.trans (by decide) w)
    assumption
  · refine State.sdCmd_frame _ _ _ _ ?_ (List.Subset.trans (by decide) w)
    refine State.sdCmd_frame _ _ _ _ ?_ (List.Subset.trans (by decide) w)
    refine State.sdCmd_frame _ _ _ _ ?_ (List.Subset.trans (by decide) w)
    assumption

theorem State.sdIssue_frame (x) (h : Frame ch s x) (w : ([.cards, .m] : List Block) ⊆ ch) :
    Frame ch s (State.sdIssue x) := by
  delta State.sdIssue
  split
  · assumption
  · refine Frame.ite ?_ ?_
    · refine State.sdTune_frame _ ?_ (List.Subset.trans (by decide) w)
      assumption
    · refine State.sdIssueNow_frame _ _ ?_ (List.Subset.trans (by decide) w)
      assumption

theorem State.sdGo_frame (x a1) (h : Frame ch s x) (w : ([.cards, .m] : List Block) ⊆ ch) :
    Frame ch s (State.sdGo x a1) := by
  delta State.sdGo
  refine State.sdIssue_frame _ ?_ (List.Subset.trans (by decide) w)
  apply Frame.upd <;> first | assumption | exact Or.inl (w (by decide)) | exact Or.inr rfl | exact List.suffix_rfl

theorem State.sdCycle_frame (x) (h : Frame ch s x) (w : ([.cards] : List Block) ⊆ ch) :
    Frame ch s (State.sdCycle x) := by
  delta State.sdCycle
  extract_lets +onlyGivenNames y1
  have h1 : Frame ch s y1 := by
    unfold y1
    refine State.sdPowerDown_frame _ _ ?_ (List.Subset.trans (by decide) w)
    assumption
  clear_value y1
  apply Frame.upd <;> first | assumption | exact Or.inl (w (by decide)) | exact Or.inr rfl | exact List.suffix_rfl

theorem State.makeRoom_frame (x a1 a2) (h : Frame ch s x) (w : ([.kst] : List Block) ⊆ ch) :
    Frame ch s (State.makeRoom x a1 a2).1 := by
  induction a2 generalizing x a1 with
  | zero =>
    unfold State.makeRoom
    dsimp only
    assumption
  | succ e1 ih =>
    unfold State.makeRoom
    split
    · dsimp only
      assumption
    · split
      · dsimp only
        assumption
      · refine ih _ _ ?_
        refine State.freeHub_frame _ _ ?_ (List.Subset.trans (by decide) w)
        assumption

theorem State.useWrap_frame (x a1) (h : Frame ch s x) (w : ([.clusters] : List Block) ⊆ ch) :
    Frame ch s (State.useWrap x a1) := by
  delta State.useWrap
  split
  · extract_lets +onlyGivenNames y1
    clear_value y1
    extract_lets +onlyGivenNames y2
    clear_value y2
    extract_lets +onlyGivenNames y3
    clear_value y3
    refine State.modCluster_frame _ _ _ ?_ (List.Subset.trans (by decide) w)
    assumption
  · assumption

theorem State.missed_frame (x a1 a2) (h : Frame ch s x) (w : ([.clusters, .kst] : List Block) ⊆ ch) :
    Frame ch s (State.missed x a1 a2) := by
  delta State.missed
  refine Frame.ite ?_ ?_
  · assumption
  · refine State.useWrap_frame _ _ ?_ (List.Subset.trans (by decide) w)
    apply Frame.upd <;> first | assumption | exact Or.inl (w (by decide)) | exact Or.inr rfl | exact List.suffix_rfl

theorem State.lookUp_frame (x a1) (h : Frame ch s x) (w : ([.clusters, .kst] : List Block) ⊆ ch) :
    Frame ch s (State.lookUp x a1) := by
  delta State.lookUp
  refine State.missed_frame _ _ _ ?_ (List.Subset.trans (by decide) w)
  assumption

theorem State.installIn_frame (x a1 a2) (h : Frame ch s x) (w : ([.clusters] : List Block) ⊆ ch) :
    Frame ch s (State.installIn x a1 a2) := by
  delta State.installIn
  refine Frame.ite ?_ ?_
  · assumption
  · split
    · assumption
    · refine State.modCluster_frame _ _ _ ?_ (List.Subset.trans (by decide) w)
      assumption

theorem State.keepStates_frame (x a1 a2 a3 a4) (h : Frame ch s x) (w : ([.clusters] : List Block) ⊆ ch) :
    Frame ch s (State.keepStates x a1 a2 a3 a4) := by
  delta State.keepStates
  refine State.modCluster_frame _ _ _ ?_ (List.Subset.trans (by decide) w)
  assumption

theorem State.installKey_frame (x a1 a2) (h : Frame ch s x) (w : ([.clusters, .kst] : List Block) ⊆ ch) :
    Frame ch s (State.installKey x a1 a2) := by
  delta State.installKey
  refine Frame.ite ?_ ?_
  · assumption
  · extract_lets +onlyGivenNames y1
    clear_value y1
    extract_lets +onlyGivenNames y2
    have h2 : Frame ch s y2 := by
      unfold y2
      refine State.installIn_frame _ _ _ ?_ (List.Subset.trans (by decide) w)
      assumption
    clear_value y2
    refine Frame.ite ?_ ?_
    · assumption
    · split
      · apply Frame.upd <;> first | assumption | exact Or.inl (w (by decide)) | exact Or.inr rfl | exact List.suffix_rfl
      · split
        · refine Frame.ofFst ‹_› ?_
          refine State.makeRoom_frame _ _ _ ?_ (List.Subset.trans (by decide) w)
          assumption
        · apply Frame.upd <;> try first | assumption | exact Or.inl (w (by decide)) | exact Or.inr rfl | exact List.suffix_rfl
          refine Frame.ofFst ‹_› ?_
          refine State.makeRoom_frame _ _ _ ?_ (List.Subset.trans (by decide) w)
          assumption

theorem State.loadVariant_frame (x a1 a2 a3) (h : Frame ch s x) (w : ([.clusters] : List Block) ⊆ ch) :
    Frame ch s (State.loadVariant x a1 a2 a3) := by
  delta State.loadVariant
  split
  · extract_lets +onlyGivenNames y1
    clear_value y1
    refine State.modCluster_frame _ _ _ ?_ (List.Subset.trans (by decide) w)
    assumption
  · assumption

theorem State.loadSbu_frame (x a1 a2) (h : Frame ch s x) (w : ([.clusters] : List Block) ⊆ ch) :
    Frame ch s (State.loadSbu x a1 a2) := by
  delta State.loadSbu
  refine State.loadVariant_frame _ _ _ _ ?_ (List.Subset.trans (by decide) w)
  assumption

theorem State.loadWork_frame (x a1 a2 a3 a4) (h : Frame ch s x) (w : ([.clusters] : List Block) ⊆ ch) :
    Frame ch s (State.loadWork x a1 a2 a3 a4) := by
  delta State.loadWork
  split
  · extract_lets +onlyGivenNames y1
    clear_value y1
    refine State.modCluster_frame _ _ _ ?_ (List.Subset.trans (by decide) w)
    assumption
  · assumption

theorem State.keepSecret_frame (x a1 a2) (h : Frame ch s x) (w : ([.clusters] : List Block) ⊆ ch) :
    Frame ch s (State.keepSecret x a1 a2) := by
  delta State.keepSecret
  refine State.modCluster_frame _ _ _ ?_ (List.Subset.trans (by decide) w)
  assumption

theorem State.countStop_frame (x a1) (h : Frame ch s x) (w : ([.kst, .dcc] : List Block) ⊆ ch) :
    Frame ch s (State.countStop x a1) := by
  delta State.countStop
  refine Frame.ite ?_ ?_
  · apply Frame.upd <;> first | assumption | exact Or.inl (w (by decide)) | exact Or.inr rfl | exact List.suffix_rfl
  · refine Frame.ite ?_ ?_
    · apply Frame.upd <;> first | assumption | exact Or.inl (w (by decide)) | exact Or.inr rfl | exact List.suffix_rfl
    · refine Frame.ite ?_ ?_
      · apply Frame.upd <;> first | assumption | exact Or.inl (w (by decide)) | exact Or.inr rfl | exact List.suffix_rfl
      · assumption

theorem State.stopItem_frame (x a1 a2) (h : Frame ch s x)
        (w : ([.host, .queues, .tnd, .clusters, .kst, .mea, .slc, .ngl, .regions, .commits, .log, .dcc, .m] : List
      Block) ⊆ ch) :
    Frame ch s (State.stopItem x a1 a2) := by
  induction a2 generalizing x a1 with
  | fail e1 e2 e3 =>
    unfold State.stopItem
    refine State.settle_frame _ _ _ _ _ _ _ _ ?_ (List.Subset.trans (by decide) w)
    refine State.countStop_frame _ _ ?_ (List.Subset.trans (by decide) w)
    assumption
  | late e1 e2 =>
    unfold State.stopItem
    split
    · assumption
    · refine State.finishM_frame _ _ _ _ _ _ _ _ _ _ ?_ (List.Subset.trans (by decide) w)
      refine State.countStop_frame _ _ ?_ (List.Subset.trans (by decide) w)
      assumption
  | wait =>
    unfold State.stopItem
    refine State.contend_frame _ _ ?_ (List.Subset.trans (by decide) w)
    assumption
  | again e1 =>
    unfold State.stopItem
    apply Frame.upd <;> first | assumption | exact Or.inl (w (by decide)) | exact Or.inr rfl | exact List.suffix_rfl
  | keyed e1 e2 ih =>
    unfold State.stopItem
    split
    · assumption
    · refine ih _ _ ?_
      refine Frame.fold ?_ (fun y1 a1 h1 => ?_)
      · assumption
      · refine State.installKey_frame _ _ _ ?_ (List.Subset.trans (by decide) w)
        assumption

theorem State.runVerb_frame (x a1 a2 a3) (h : Frame ch s x) (ha3 : ∀ z0 z1, Frame ch s z0 → FrameC ch s (a3 z0 z1))
        (w : ([.host, .queues, .tnd, .clusters, .kst, .mea, .slc, .ngl, .regions, .commits, .log, .dcc, .m] : List
      Block) ⊆ ch) :
    Frame ch s (State.runVerb x a1 a2 a3) := by
  delta State.runVerb
  split
  · assumption
  · extract_lets +onlyGivenNames y1
    have h1 : Frame ch s y1 := by
      unfold y1
      refine State.lookUp_frame _ _ ?_ (List.Subset.trans (by decide) w)
      assumption
    clear_value y1
    split
    · refine Frame.ofOk ‹_› ?_
      solve_by_elim
    · refine State.stopItem_frame _ _ _ ?_ (List.Subset.trans (by decide) w)
      assumption

theorem State.takeUse_frame (x a1 a2) (h : Frame ch s x) (w : ([.tnd, .kst, .commits] : List Block) ⊆ ch) :
    Frame ch s (State.takeUse x a1 a2) := by
  delta State.takeUse
  split
  · assumption
  · refine Frame.ite ?_ ?_
    · assumption
    · extract_lets +onlyGivenNames y1
      have h1 : Frame ch s y1 := by
        unfold y1
        refine Frame.getD ?_ ?_
        · refine State.putCount_frame _ _ _ ?_ (List.Subset.trans (by decide) w)
          assumption
        · assumption
      clear_value y1
      extract_lets +onlyGivenNames y2
      extract_lets +onlyGivenNames y3
      have h3 : Frame ch s y3 := by
        unfold y3
        apply Frame.upd <;> first | assumption | exact Or.inl (w (by decide)) | exact Or.inr rfl | exact List.suffix_rfl
      clear_value y3
      refine State.modItem_frame _ _ _ ?_ (List.Subset.trans (by decide) w)
      assumption

theorem State.weighed_frame (x a1 a2 a3 a4) (h : Frame ch s x) (w : ([.tnd, .regions, .log] : List Block) ⊆ ch) :
    Frame ch s (State.weighed x a1 a2 a3 a4) := by
  delta State.weighed
  extract_lets +onlyGivenNames y1
  clear_value y1
  split
  · extract_lets +onlyGivenNames y2
    clear_value y2
    refine State.trueWeight_frame _ _ _ ?_ (List.Subset.trans (by decide) w)
    assumption
  · refine Frame.ite ?_ ?_
    · refine State.trueWeight_frame _ _ _ ?_ (List.Subset.trans (by decide) w)
      assumption
    · assumption

theorem State.reach12_frame (x a1 a2 a3 a4) (h : Frame ch s x)
        (w : ([.tnd, .clusters, .kst, .regions, .commits, .log] : List Block) ⊆ ch) :
    Frame ch s (State.reach12 x a1 a2 a3 a4) := by
  delta State.reach12
  extract_lets +onlyGivenNames y1
  have h1 : Frame ch s y1 := by
    unfold y1
    refine Frame.ite ?_ ?_
    · refine State.weighed_frame _ _ _ _ _ ?_ (List.Subset.trans (by decide) w)
      assumption
    · assumption
  clear_value y1
  extract_lets +onlyGivenNames y2
  have h2 : Frame ch s y2 := by
    unfold y2
    refine Frame.ite ?_ ?_
    · refine Frame.fold ?_ (fun y3 a3 h3 => ?_)
      · assumption
      · refine State.installKey_frame _ _ _ ?_ (List.Subset.trans (by decide) w)
        assumption
    · assumption
  clear_value y2
  refine Frame.fold ?_ (fun y4 a4 h4 => ?_)
  · assumption
  · refine State.takeUse_frame _ _ _ ?_ (List.Subset.trans (by decide) w)
    assumption

theorem State.hashed_frame (x a1 a2) (h : Frame ch s x) (w : ([.clusters] : List Block) ⊆ ch) :
    Frame ch s (State.hashed x a1 a2) := by
  delta State.hashed
  refine State.modCluster_frame _ _ _ ?_ (List.Subset.trans (by decide) w)
  assumption

theorem State.unitOutcome_frame (x a1 a2) (h : Frame ch s x)
        (w : ([.host, .queues, .tnd, .fabric, .clusters, .kst, .mea, .slc, .ngl, .commits, .log, .m] : List Block) ⊆
      ch) :
    Frame ch s (State.unitOutcome x a1 a2).1 := by
  delta State.unitOutcome
  extract_lets +onlyGivenNames y1
  have h1 : Frame ch s y1.st := by
    unfold y1
    refine State.sbuReport_frame _ _ _ _ ?_ (List.Subset.trans (by decide) w)
    assumption
  clear_value y1
  extract_lets +onlyGivenNames y2
  have h2 : Frame ch s y2 := by
    unfold y2
    refine State.modItem_frame _ _ _ ?_ (List.Subset.trans (by decide) w)
    assumption
  clear_value y2
  refine Frame.fstIte ?_ ?_
  · dsimp only
    assumption
  · split
    · dsimp only
      assumption
    · dsimp only
      assumption
    · dsimp only
      assumption

theorem State.afterUnits_frame (x a1) (h : Frame ch s x)
        (w : ([.host, .queues, .tnd, .fabric, .clusters, .kst, .mea, .slc, .ngl, .regions, .commits, .log, .m] :
      List Block) ⊆ ch) :
    Frame ch s (State.afterUnits x a1) := by
  delta State.afterUnits
  extract_lets +onlyGivenNames y1
  clear_value y1
  refine Frame.ite ?_ ?_
  · refine State.checkCluster_frame _ _ ?_ (List.Subset.trans (by decide) w)
    refine State.complete_frame _ _ ?_ (List.Subset.trans (by decide) w)
    assumption
  · assumption

theorem State.finishS_frame (x a1 a2 a3 a4 a5 a6 a7 a8) (h : Frame ch s x) (ha8 : ∀ z0, Frame ch s z0 → Frame ch s (a8 z0))
        (w : ([.host, .queues, .tnd, .fabric, .clusters, .kst, .mea, .slc, .ngl, .regions, .commits, .log, .m] :
      List Block) ⊆ ch) :
    Frame ch s (State.finishS x a1 a2 a3 a4 a5 a6 a7 a8) := by
  delta State.finishS
  split
  · refine State.afterUnits_frame _ _ ?_ (List.Subset.trans (by decide) w)
    refine State.settle_frame _ _ _ _ _ _ _ _ ?_ (List.Subset.trans (by decide) w)
    refine State.undoAlloc_frame _ _ ?_ (List.Subset.trans (by decide) w)
    refine Frame.ofFst ‹_› ?_
    refine State.unitOutcome_frame _ _ _ ?_ (List.Subset.trans (by decide) w)
    assumption
  · refine State.settle_frame _ _ _ _ _ _ _ _ ?_ (List.Subset.trans (by decide) w)
    refine ha8 _ ?_
    refine Frame.ofFst ‹_› ?_
    refine State.unitOutcome_frame _ _ _ ?_ (List.Subset.trans (by decide) w)
    assumption

theorem State.finishP_frame (x a1 a2 a3 a4) (h : Frame ch s x)
        (w : ([.host, .queues, .tnd, .fabric, .clusters, .kst, .mea, .slc, .ngl, .regions, .commits, .log, .m] :
      List Block) ⊆ ch) :
    Frame ch s (State.finishP x a1 a2 a3 a4) := by
  delta State.finishP
  split
  · extract_lets +onlyGivenNames y1
    clear_value y1
    refine State.afterUnits_frame _ _ ?_ (List.Subset.trans (by decide) w)
    refine Frame.ite ?_ ?_
    · refine State.settle_frame _ _ _ _ _ _ _ _ ?_ (List.Subset.trans (by decide) w)
      refine Frame.ofFst ‹_› ?_
      refine State.unitOutcome_frame _ _ _ ?_ (List.Subset.trans (by decide) w)
      assumption
    · refine State.settle_frame _ _ _ _ _ _ _ _ ?_ (List.Subset.trans (by decide) w)
      refine Frame.ofFst ‹_› ?_
      refine State.unitOutcome_frame _ _ _ ?_ (List.Subset.trans (by decide) w)
      assumption
  · refine State.settle_frame _ _ _ _ _ _ _ _ ?_ (List.Subset.trans (by decide) w)
    refine Frame.ofFst ‹_› ?_
    refine State.unitOutcome_frame _ _ _ ?_ (List.Subset.trans (by decide) w)
    assumption

theorem State.okS_frame (x a1 a2 a3 a4 a5) (h : Frame ch s x)
        (w : ([.host, .queues, .tnd, .fabric, .clusters, .kst, .mea, .slc, .ngl, .regions, .commits, .log, .m] :
      List Block) ⊆ ch) :
    Frame ch s (State.okS x a1 a2 a3 a4 a5) := by
  delta State.okS
  refine State.finishS_frame _ _ _ _ _ _ _ _ _ ?_ ?_ (List.Subset.trans (by decide) w)
  · assumption
  · intro y1 h2
    dsimp only [id]
    assumption

theorem State.sendBnu_frame (x a1 a2) (h : Frame ch s x) (w : ([.clusters] : List Block) ⊆ ch) :
    Frame ch s (State.sendBnu x a1 a2) := by
  delta State.sendBnu
  refine State.modCluster_frame _ _ _ ?_ (List.Subset.trans (by decide) w)
  assumption

theorem State.issueBnu_frame (x a1 a2 a3 a4 a5 a6 a7) (h : Frame ch s x)
        (w : ([.tnd, .clusters, .ngl, .m] : List Block) ⊆ ch) :
    Frame ch s (State.issueBnu x a1 a2 a3 a4 a5 a6 a7) := by
  delta State.issueBnu
  extract_lets +onlyGivenNames y1
  have h1 : Frame ch s y1 := by
    unfold y1
    split
    · refine State.sendBnu_frame _ _ _ ?_ (List.Subset.trans (by decide) w)
      assumption
    · assumption
  clear_value y1
  extract_lets +onlyGivenNames y2
  have h2 : Frame ch s y2 := by
    unfold y2
    refine State.modItem_frame _ _ _ ?_ (List.Subset.trans (by decide) w)
    assumption
  clear_value y2
  refine State.settle_frame _ _ _ _ _ _ _ _ ?_ (List.Subset.trans (by decide) w)
  assumption

theorem State.allocCounted_frame (x a1 a2 a3 a4 a5) (h : Frame ch s x)
        (w : ([.tnd, .kst, .commits] : List Block) ⊆ ch) :
    Frame ch s (State.allocCounted x a1 a2 a3 a4 a5) := by
  delta State.allocCounted
  refine State.commit_frame _ _ _ _ _ ?_ (List.Subset.trans (by decide) w)
  extract_lets +onlyGivenNames y1
  have h1 : Frame ch s y1 := by
    unfold y1
    refine State.forgetCounts_frame _ _ ?_ (List.Subset.trans (by decide) w)
    assumption
  clear_value y1
  apply Frame.upd <;> first | assumption | exact Or.inl (w (by decide)) | exact Or.inr rfl | exact List.suffix_rfl

theorem State.createSym_frame (x a1 a2 a3 a4) (h : Frame ch s x)
        (w : ([.tnd, .clusters, .kst, .commits, .m] : List Block) ⊆ ch) :
    Frame ch s (State.createSym x a1 a2 a3 a4).1 := by
  delta State.createSym
  extract_lets +onlyGivenNames y1
  clear_value y1
  extract_lets +onlyGivenNames y2
  have h2 : Frame ch s y2 := by
    unfold y2
    refine Frame.ite ?_ ?_
    · refine State.useWrap_frame _ _ ?_ (List.Subset.trans (by decide) w)
      assumption
    · assumption
  clear_value y2
  extract_lets +onlyGivenNames y3
  have h3 : Frame ch s y3.2 := by
    unfold y3
    refine State.draw_frame _ _ ?_ (List.Subset.trans (by decide) w)
    assumption
  clear_value y3
  extract_lets +onlyGivenNames y4
  clear_value y4
  extract_lets +onlyGivenNames y5
  have h5 : Frame ch s y5.2 := by
    unfold y5
    refine Frame.sndIte ?_ ?_
    · refine State.draw_frame _ _ ?_ (List.Subset.trans (by decide) w)
      assumption
    · dsimp only
      assumption
  clear_value y5
  extract_lets +onlyGivenNames y6
  have h6 : Frame ch s y6 := by
    unfold y6
    assumption
  clear_value y6
  extract_lets +onlyGivenNames y7
  clear_value y7
  extract_lets +onlyGivenNames y8
  clear_value y8
  extract_lets +onlyGivenNames y9
  clear_value y9
  extract_lets +onlyGivenNames y10
  clear_value y10
  extract_lets +onlyGivenNames y11
  have h11 : Frame ch s y11 := by
    unfold y11
    split
    · refine State.allocCounted_frame _ _ _ _ _ _ ?_ (List.Subset.trans (by decide) w)
      assumption
    · assumption
  clear_value y11
  split
  · dsimp only
    assumption
  · dsimp only
    assumption

theorem State.randomly_frame (x a1 a2) (h : Frame ch s x) (ha2 : ∀ z0, Frame ch s z0 → Frame ch s (a2 z0))
        (w : ([.tnd, .ngl, .m] : List Block) ⊆ ch) :
    Frame ch s (State.randomly x a1 a2) := by
  delta State.randomly
  refine Frame.ite ?_ ?_
  · solve_by_elim
  · refine State.settle_frame _ _ _ _ _ _ _ _ ?_ (List.Subset.trans (by decide) w)
    assumption

theorem State.drawKey_frame (x a1 a2 a3) (h : Frame ch s x) (w : ([.m] : List Block) ⊆ ch) :
    Frame ch s (State.drawKey x a1 a2 a3).2 := by
  induction a3 generalizing x a1 a2 with
  | zero =>
    unfold State.drawKey
    dsimp only
    assumption
  | succ e1 ih =>
    unfold State.drawKey
    extract_lets +onlyGivenNames y1
    have h1 : Frame ch s y1.2 := by
      unfold y1
      refine State.draw_frame _ _ ?_ (List.Subset.trans (by decide) w)
      assumption
    clear_value y1
    refine Frame.sndIte ?_ ?_
    · dsimp only
      assumption
    · extract_lets +onlyGivenNames y2
      clear_value y2
      refine Frame.sndIte ?_ ?_
      · dsimp only
        assumption
      · refine ih _ _ _ ?_
        assumption

theorem State.keyDrawn_frame (x a1 a2) (p) (e : State.keyDrawn x a1 a2 = .ok p) (h : Frame ch s x)
    (w : ([.m] : List Block) ⊆ ch) : Frame ch s p.2 := by
  delta State.keyDrawn at e
  have hd := State.drawKey_frame x a1 a2 64 h w
  split at e
  · rename_i hk
    cases e
    rw [hk] at hd
    exact hd
  · cases e

theorem State.evictKey_frame (x a1 a2) (h : Frame ch s x) (w : ([.clusters] : List Block) ⊆ ch) :
    Frame ch s (State.evictKey x a1 a2) := by
  delta State.evictKey
  extract_lets +onlyGivenNames y1
  clear_value y1
  refine State.modCluster_frame _ _ _ ?_ (List.Subset.trans (by decide) w)
  assumption

theorem State.combineVerb_frame (x a1) (h : Frame ch s x)
        (w : ([.tnd, .clusters, .kst, .ngl, .commits, .m] : List Block) ⊆ ch) :
    FrameC ch s (State.combineVerb x a1) := by
  delta State.combineVerb
  refine FrameC.bind (fun y1 => ?_)
  split
  extract_lets +onlyGivenNames y2
  have h2 : Frame ch s y2.1 := by
    unfold y2
    refine State.createSym_frame _ _ _ _ _ ?_ (List.Subset.trans (by decide) w)
    assumption
  clear_value y2
  refine FrameC.pure ?_
  refine State.finishM_frame _ _ _ _ _ _ _ _ _ _ ?_ (List.Subset.trans (by decide) w)
  assumption

theorem State.eraseComponents_frame (x) (h : Frame ch s x) (w : ([.dcc] : List Block) ⊆ ch) :
    Frame ch s (State.eraseComponents x) := by
  delta State.eraseComponents
  split
  · apply Frame.upd <;> first | assumption | exact Or.inl (w (by decide)) | exact Or.inr rfl | exact List.suffix_rfl
  · assumption

theorem State.loadDukpt_frame (x a1 a2 a3 a4 a5 a6 a7 a8) (h : Frame ch s x) (w : ([.clusters] : List Block) ⊆ ch) :
    Frame ch s (State.loadDukpt x a1 a2 a3 a4 a5 a6 a7 a8) := by
  delta State.loadDukpt
  refine Frame.ite ?_ ?_
  · extract_lets +onlyGivenNames y1
    have h1 : Frame ch s y1 := by
      unfold y1
      refine State.loadWork_frame _ _ _ _ _ ?_ (List.Subset.trans (by decide) w)
      assumption
    clear_value y1
    refine Frame.ite ?_ ?_
    · refine State.loadWork_frame _ _ _ _ _ ?_ (List.Subset.trans (by decide) w)
      assumption
    · assumption
  · refine State.loadWork_frame _ _ _ _ _ ?_ (List.Subset.trans (by decide) w)
    assumption

theorem State.loadBlockKeys_frame (x a1 a2 a3) (h : Frame ch s x) (w : ([.clusters] : List Block) ⊆ ch) :
    Frame ch s (State.loadBlockKeys x a1 a2 a3) := by
  delta State.loadBlockKeys
  extract_lets +onlyGivenNames y1
  clear_value y1
  refine Frame.ite ?_ ?_
  · extract_lets +onlyGivenNames y2
    clear_value y2
    refine State.loadWork_frame _ _ _ _ _ ?_ (List.Subset.trans (by decide) w)
    refine State.loadWork_frame _ _ _ _ _ ?_ (List.Subset.trans (by decide) w)
    assumption
  · refine State.loadVariant_frame _ _ _ _ ?_ (List.Subset.trans (by decide) w)
    refine State.loadVariant_frame _ _ _ _ ?_ (List.Subset.trans (by decide) w)
    assumption

theorem State.outBlock_frame (x a1 a2 a3 a4 a5) (h : Frame ch s x)
        (w : ([.host, .queues, .tnd, .fabric, .clusters, .kst, .mea, .slc, .ngl, .regions, .commits, .log, .m] :
      List Block) ⊆ ch) :
    Frame ch s (State.outBlock x a1 a2 a3 a4 a5) := by
  delta State.outBlock
  refine State.randomly_frame _ _ _ ?_ ?_ (List.Subset.trans (by decide) w)
  · refine State.loadBlockKeys_frame _ _ _ _ ?_ (List.Subset.trans (by decide) w)
    assumption
  · intro y1 h2
    extract_lets +onlyGivenNames y3
    have h3 : Frame ch s y3.2 := by
      unfold y3
      refine State.draw_frame _ _ ?_ (List.Subset.trans (by decide) w)
      assumption
    clear_value y3
    refine State.okS_frame _ _ _ _ _ _ ?_ (List.Subset.trans (by decide) w)
    assumption

end Sys2Proof.Machine
end

