-- ==== Sys2Proof/Laws/FramesCustody.lean ====
section
/-!
SUPPORT. One lemma for each shared operation: the frame of the operations over the asymmetric verbs, custody, tamper,
the pattern and the ceremonies. Each says which blocks of the state the operation may change, and that it leaves the
queue of waiting commands as it is.
-/
namespace Sys2Proof.Machine

variable {ch : List Block} {s : State}

theorem State.corruptStop_frame (x a1 a2) (h : Frame ch s x) (w : ([.tnd, .clusters, .ngl, .m] : List Block) ⊆ ch) :
    FrameO ch s (State.corruptStop x a1 a2) := by
  delta State.corruptStop
  split
  · extract_lets +onlyGivenNames y1
    clear_value y1
    split
    · exact FrameO.none
    · extract_lets +onlyGivenNames y2
      extract_lets +onlyGivenNames y3
      refine FrameO.some ?_
      refine State.modItem_frame _ _ _ ?_ (List.Subset.trans (by decide) w)
      refine State.issueBnu_frame _ _ _ _ _ _ _ _ ?_ (List.Subset.trans (by decide) w)
      assumption
  · exact FrameO.none

theorem State.runBnu_frame (x a1 a2 a3) (h : Frame ch s x) (ha3 : ∀ z0 z1, Frame ch s z0 → FrameC ch s (a3 z0 z1))
        (w : ([.host, .queues, .tnd, .clusters, .kst, .mea, .slc, .ngl, .regions, .commits, .log, .dcc, .m] : List
      Block) ⊆ ch) :
    Frame ch s (State.runBnu x a1 a2 a3) := by
  delta State.runBnu
  refine State.runVerb_frame _ _ _ _ ?_ ?_ (List.Subset.trans (by decide) w)
  · assumption
  · intro y1 y2 h3
    split
    · refine FrameC.ok ?_
      refine Frame.ofOk ‹_› ?_
      solve_by_elim
    · split
      · refine FrameC.ok ?_
        refine Frame.ofSome ‹_› ?_
        refine State.corruptStop_frame _ _ _ ?_ (List.Subset.trans (by decide) w)
        assumption
      · exact FrameC.error

theorem State.onBnu_frame (x a1 a2) (h : Frame ch s x) (ha2 : ∀ z0, Frame ch s z0 → FrameC ch s (a2 z0))
        (w : ([.tnd, .ngl, .m] : List Block) ⊆ ch) :
    FrameC ch s (State.onBnu x a1 a2) := by
  delta State.onBnu
  refine FrameC.ite ?_ ?_
  · solve_by_elim
  · refine FrameC.ok ?_
    refine State.settle_frame _ _ _ _ _ _ _ _ ?_ (List.Subset.trans (by decide) w)
    assumption

theorem State.withUnits_frame (x a1 a2 a3) (h : Frame ch s x) (ha3 : ∀ z0, Frame ch s z0 → FrameC ch s (a3 z0))
        (w : ([.host, .queues, .tnd, .fabric, .clusters, .kst, .mea, .slc, .ngl, .regions, .commits, .log, .m] :
      List Block) ⊆ ch) :
    FrameC ch s (State.withUnits x a1 a2 a3) := by
  delta State.withUnits
  split
  · refine FrameC.ok ?_
    refine State.afterUnits_frame _ _ ?_ (List.Subset.trans (by decide) w)
    refine State.settle_frame _ _ _ _ _ _ _ _ ?_ (List.Subset.trans (by decide) w)
    refine Frame.ofFst ‹_› ?_
    refine State.unitOutcome_frame _ _ _ ?_ (List.Subset.trans (by decide) w)
    assumption
  · refine ha3 _ ?_
    refine Frame.ofFst ‹_› ?_
    refine State.unitOutcome_frame _ _ _ ?_ (List.Subset.trans (by decide) w)
    assumption

theorem State.issueOut_frame (x a1 a2 a3) (h : Frame ch s x) (w : ([.tnd, .clusters, .ngl, .m] : List Block) ⊆ ch) :
    Frame ch s (State.issueOut x a1 a2 a3) := by
  delta State.issueOut
  refine State.issueBnu_frame _ _ _ _ _ _ _ _ ?_ (List.Subset.trans (by decide) w)
  assumption

theorem ecSign_frame (a1 a2 a3 a4 a5 a6 x) (h : Frame ch s x) (w : ([.m] : List Block) ⊆ ch) :
    Frame ch s (ecSign a1 a2 a3 a4 a5 a6 x).2 := by
  induction a6 generalizing a1 a2 a3 a4 a5 x with
  | zero =>
    unfold ecSign
    dsimp only
    assumption
  | succ e1 ih =>
    unfold ecSign
    extract_lets +onlyGivenNames y1
    have h1 : Frame ch s y1.2 := by
      unfold y1
      refine State.draw_frame _ _ ?_ (List.Subset.trans (by decide) w)
      assumption
    clear_value y1
    extract_lets +onlyGivenNames y2
    clear_value y2
    extract_lets +onlyGivenNames y3
    clear_value y3
    extract_lets +onlyGivenNames y4
    clear_value y4
    refine Frame.sndIte ?_ ?_
    · refine ih _ _ _ _ _ _ ?_
      assumption
    · dsimp only
      assumption

theorem State.signature_frame (x a1 a2 a3 a4 a5) (h : Frame ch s x) (w : ([.m] : List Block) ⊆ ch) :
    Frame ch s (State.signature x a1 a2 a3 a4 a5).2 := by
  delta State.signature
  extract_lets +onlyGivenNames y1
  clear_value y1
  refine Frame.sndIte ?_ ?_
  · extract_lets +onlyGivenNames y2
    refine Frame.sndIte ?_ ?_
    · extract_lets +onlyGivenNames y3
      have h3 : Frame ch s y3.2 := by
        unfold y3
        refine State.draw_frame _ _ ?_ (List.Subset.trans (by decide) w)
        assumption
      clear_value y3
      dsimp only
      assumption
    · dsimp only
      assumption
  · split
    · refine ecSign_frame _ _ _ _ _ _ _ ?_ (List.Subset.trans (by decide) w)
      assumption
    · dsimp only
      assumption

theorem State.drawPrime_frame (a1 a2 a3 a4 x) (h : Frame ch s x) (w : ([.m] : List Block) ⊆ ch) :
    Frame ch s (State.drawPrime a1 a2 a3 a4 x).2 := by
  induction a4 generalizing a1 a2 a3 x with
  | zero =>
    unfold State.drawPrime
    dsimp only
    assumption
  | succ e1 ih =>
    unfold State.drawPrime
    extract_lets +onlyGivenNames y1
    have h1 : Frame ch s y1.2 := by
      unfold y1
      refine State.draw_frame _ _ ?_ (List.Subset.trans (by decide) w)
      assumption
    clear_value y1
    extract_lets +onlyGivenNames y2
    clear_value y2
    refine Frame.sndIte ?_ ?_
    · refine ih _ _ _ _ ?_
      assumption
    · extract_lets +onlyGivenNames y3
      have h3 : Frame ch s y3.2 := by
        unfold y3
        refine State.draw_frame _ _ ?_ (List.Subset.trans (by decide) w)
        assumption
      clear_value y3
      refine Frame.sndIte ?_ ?_
      · dsimp only
        assumption
      · refine ih _ _ _ _ ?_
        assumption

theorem State.pairOf_frame (x a1 a2 a3 a4 a5) (h : Frame ch s x) (w : ([.m] : List Block) ⊆ ch) :
    Frame ch s (State.pairOf x a1 a2 a3 a4 a5).2 := by
  delta State.pairOf
  extract_lets +onlyGivenNames y1
  clear_value y1
  extract_lets +onlyGivenNames y2
  clear_value y2
  extract_lets +onlyGivenNames y3
  clear_value y3
  extract_lets +onlyGivenNames y4
  clear_value y4
  extract_lets +onlyGivenNames y5
  clear_value y5
  extract_lets +onlyGivenNames y6
  clear_value y6
  extract_lets +onlyGivenNames y7
  clear_value y7
  extract_lets +onlyGivenNames y8
  have h8 : Frame ch s y8.2 := by
    unfold y8
    refine State.draw_frame _ _ ?_ (List.Subset.trans (by decide) w)
    assumption
  clear_value y8
  extract_lets +onlyGivenNames y9
  have h9 : Frame ch s y9.2 := by
    unfold y9
    refine State.draw_frame _ _ ?_ (List.Subset.trans (by decide) w)
    assumption
  clear_value y9
  extract_lets +onlyGivenNames y10
  have h10 : Frame ch s y10.2 := by
    unfold y10
    refine State.draw_frame _ _ ?_ (List.Subset.trans (by decide) w)
    assumption
  clear_value y10
  extract_lets +onlyGivenNames y11
  dsimp only
  assumption

theorem State.rsaPair_frame (x a1 a2 a3) (h : Frame ch s x) (w : ([.m] : List Block) ⊆ ch) :
    Frame ch s (State.rsaPair x a1 a2 a3).2 := by
  delta State.rsaPair
  split
  · dsimp only
    refine Frame.ofSnd ‹_› ?_
    refine State.drawPrime_frame _ _ _ _ _ ?_ (List.Subset.trans (by decide) w)
    assumption
  · split
    · dsimp only
      refine Frame.ofSnd ‹_› ?_
      refine State.drawPrime_frame _ _ _ _ _ ?_ (List.Subset.trans (by decide) w)
      refine Frame.ofSnd ‹_› ?_
      refine State.drawPrime_frame _ _ _ _ _ ?_ (List.Subset.trans (by decide) w)
      assumption
    · extract_lets +onlyGivenNames y1
      have h1 : Frame ch s y1.2 := by
        unfold y1
        refine State.pairOf_frame _ _ _ _ _ _ ?_ (List.Subset.trans (by decide) w)
        refine Frame.ofSnd ‹_› ?_
        refine State.drawPrime_frame _ _ _ _ _ ?_ (List.Subset.trans (by decide) w)
        refine Frame.ofSnd ‹_› ?_
        refine State.drawPrime_frame _ _ _ _ _ ?_ (List.Subset.trans (by decide) w)
        assumption
      clear_value y1
      dsimp only
      assumption

theorem State.drawUntil_frame (a1 a2 a3 a4 x) (h : Frame ch s x) (w : ([.m] : List Block) ⊆ ch) :
    Frame ch s (State.drawUntil a1 a2 a3 a4 x).2.2 := by
  induction a4 generalizing a1 a2 a3 x with
  | zero =>
    unfold State.drawUntil
    dsimp only
    assumption
  | succ e1 ih =>
    unfold State.drawUntil
    extract_lets +onlyGivenNames y1
    have h1 : Frame ch s y1.2 := by
      unfold y1
      refine State.draw_frame _ _ ?_ (List.Subset.trans (by decide) w)
      assumption
    clear_value y1
    split
    · dsimp only
      assumption
    · refine ih _ _ _ _ ?_
      assumption

theorem State.drawScalar_frame (x a1) (h : Frame ch s x) (w : ([.m] : List Block) ⊆ ch) :
    Frame ch s (State.drawScalar x a1).2 := by
  delta State.drawScalar
  extract_lets +onlyGivenNames y1
  have h1 : Frame ch s y1.2.2 := by
    unfold y1
    refine State.drawUntil_frame _ _ _ _ _ ?_ (List.Subset.trans (by decide) w)
    assumption
  clear_value y1
  dsimp only
  assumption

theorem State.curvePair_frame (x a1) (h : Frame ch s x) (w : ([.m] : List Block) ⊆ ch) :
    Frame ch s (State.curvePair x a1).2 := by
  have k : ∀ n f, Frame ch s (State.drawUntil n f 0 5 x).2.2 := fun n f =>
    State.drawUntil_frame _ _ _ _ _ h w
  unfold State.curvePair
  split
  · rename_i c _
    have hk := k (ceilDiv (Nat.log2 c.n + 1) 8) (fun b => 1 ≤ c.scalarOf b && decide (c.scalarOf b < c.n))
    split
    · rename_i n y hy
      exact Frame.ofLast hy hk
    · rename_i b n y hy
      exact Frame.ofLast hy hk
  · split
    · have hk := k 32 (fun b => (edSecret b).1 % l25519 != 0)
      split
      · rename_i n y hy
        exact Frame.ofLast hy hk
      · rename_i b n y hy
        exact Frame.ofLast hy hk
    · exact State.draw_frame _ _ h w

theorem State.keyPair_frame (x a1 a2 a3 a4) (h : Frame ch s x) (w : ([.m] : List Block) ⊆ ch) :
    Frame ch s (State.keyPair x a1 a2 a3 a4).2 := by
  delta State.keyPair
  refine Frame.sndIte ?_ ?_
  · refine State.rsaPair_frame _ _ _ _ ?_ (List.Subset.trans (by decide) w)
    assumption
  · extract_lets +onlyGivenNames y1
    have h1 : Frame ch s y1.2 := by
      unfold y1
      refine State.curvePair_frame _ _ ?_ (List.Subset.trans (by decide) w)
      assumption
    clear_value y1
    dsimp only
    assumption

theorem State.nextCmd_frame (x a1) (h : Frame ch s x) (w : ([.tnd, .clusters] : List Block) ⊆ ch) :
    Frame ch s (State.nextCmd x a1) := by
  delta State.nextCmd
  split
  · assumption
  · split
    · assumption
    · refine State.modItem_frame _ _ _ ?_ (List.Subset.trans (by decide) w)
      refine State.sendBnu_frame _ _ _ ?_ (List.Subset.trans (by decide) w)
      assumption

theorem State.invariantEnd_frame (x a1 a2 a3 a4) (h : Frame ch s x)
        (w : ([.host, .queues, .tnd, .fabric, .clusters, .kst, .mea, .slc, .ngl, .regions, .commits, .log, .m] :
      List Block) ⊆ ch) :
    Frame ch s (State.invariantEnd x a1 a2 a3 a4) := by
  delta State.invariantEnd
  extract_lets +onlyGivenNames y1
  have h1 : Frame ch s y1 := by
    unfold y1
    refine State.bnuInvariant_frame _ _ _ _ _ ?_ (List.Subset.trans (by decide) w)
    refine State.undoAlloc_frame _ _ ?_ (List.Subset.trans (by decide) w)
    assumption
  clear_value y1
  refine State.settle_frame _ _ _ _ _ _ _ _ ?_ (List.Subset.trans (by decide) w)
  refine State.modItem_frame _ _ _ ?_ (List.Subset.trans (by decide) w)
  assumption

theorem State.endBnu_frame (x a1 a2 a3) (h : Frame ch s x)
        (w : ([.host, .queues, .tnd, .fabric, .clusters, .kst, .mea, .slc, .ngl, .regions, .commits, .log, .dcc, .m]
      : List Block) ⊆ ch) :
    Frame ch s (State.endBnu x a1 a2 a3) := by
  delta State.endBnu
  extract_lets +onlyGivenNames y1
  clear_value y1
  extract_lets +onlyGivenNames y2
  clear_value y2
  extract_lets +onlyGivenNames y3
  clear_value y3
  extract_lets +onlyGivenNames y4
  clear_value y4
  extract_lets +onlyGivenNames y5
  have h5 : Frame ch s y5 := by
    unfold y5
    refine State.modCluster_frame _ _ _ ?_ (List.Subset.trans (by decide) w)
    assumption
  clear_value y5
  extract_lets +onlyGivenNames y6
  have h6 : Frame ch s y6 := by
    unfold y6
    refine Frame.ite ?_ ?_
    · refine State.countStop_frame _ _ ?_ (List.Subset.trans (by decide) w)
      refine State.logEv_frame _ _ _ _ _ ?_ (List.Subset.trans (by decide) w)
      assumption
    · assumption
  clear_value y6
  extract_lets +onlyGivenNames y7
  clear_value y7
  extract_lets +onlyGivenNames y8
  have h8 : Frame ch s y8 := by
    unfold y8
    refine State.modItem_frame _ _ _ ?_ (List.Subset.trans (by decide) w)
    assumption
  clear_value y8
  split
  · refine State.invariantEnd_frame _ _ _ _ _ ?_ (List.Subset.trans (by decide) w)
    assumption
  · refine State.doneWaiting_frame _ _ _ ?_ (List.Subset.trans (by decide) w)
    refine State.nextCmd_frame _ _ ?_ (List.Subset.trans (by decide) w)
    assumption

theorem State.modSession_frame (x a1) (h : Frame ch s x) (w : ([.dcc] : List Block) ⊆ ch) :
    Frame ch s (State.modSession x a1) := by
  delta State.modSession
  apply Frame.upd <;> first | assumption | exact Or.inl (w (by decide)) | exact Or.inr rfl | exact List.suffix_rfl

theorem State.ceremonyDone_frame (x a1 a2 a3 a4 a5 a6 a7) (h : Frame ch s x)
        (w : ([.tnd, .kst, .mea, .meas, .slc, .ngl, .per, .commits, .log, .store, .dcc, .custody, .cards, .m] : List
      Block) ⊆ ch) :
    Frame ch s (State.ceremonyDone x a1 a2 a3 a4 a5 a6 a7) := by
  delta State.ceremonyDone
  extract_lets +onlyGivenNames y1
  extract_lets +onlyGivenNames y2
  have h2 : Frame ch s y2 := by
    unfold y2
    apply Frame.upd <;> first | assumption | exact Or.inl (w (by decide)) | exact Or.inr rfl | exact List.suffix_rfl
  clear_value y2
  extract_lets +onlyGivenNames y3
  have h3 : Frame ch s y3 := by
    unfold y3
    refine State.finishM_frame _ _ _ _ _ _ _ _ _ _ ?_ (List.Subset.trans (by decide) w)
    assumption
  clear_value y3
  refine State.endSession_frame _ _ ?_ (List.Subset.trans (by decide) w)
  refine State.logG_frame _ _ _ ?_ (List.Subset.trans (by decide) w)
  assumption

theorem State.releaseQuench_frame (x) (h : Frame ch s x) (w : ([.clusters, .slc, .ngl] : List Block) ⊆ ch) :
    Frame ch s (State.releaseQuench x) := by
  delta State.releaseQuench
  extract_lets +onlyGivenNames y1
  extract_lets +onlyGivenNames y2
  have h2 : Frame ch s y2 := by
    unfold y2
    apply Frame.upd <;> first | assumption | exact Or.inl (w (by decide)) | exact Or.inr rfl | exact List.suffix_rfl
  clear_value y2
  apply Frame.upd <;> first | assumption | exact Or.inl (w (by decide)) | exact Or.inr rfl | exact List.suffix_rfl

theorem State.installRoot_frame (x a1) (h : Frame ch s x) (w : ([.unsealed, .roots] : List Block) ⊆ ch) :
    Frame ch s (State.installRoot x a1) := by
  delta State.installRoot
  apply Frame.upd <;> first | assumption | exact Or.inl (w (by decide)) | exact Or.inr rfl | exact List.suffix_rfl

theorem State.issueCommit_frame (x a1) (h : Frame ch s x) (w : ([.tnd, .commits, .custody] : List Block) ⊆ ch) :
    Frame ch s (State.issueCommit x a1) := by
  delta State.issueCommit
  extract_lets +onlyGivenNames y1
  clear_value y1
  extract_lets +onlyGivenNames y2
  clear_value y2
  extract_lets +onlyGivenNames y3
  extract_lets +onlyGivenNames y4
  have h4 : Frame ch s y4 := by
    unfold y4
    split
    · apply Frame.upd <;> first | assumption | exact Or.inl (w (by decide)) | exact Or.inr rfl | exact List.suffix_rfl
    · apply Frame.upd <;> first | assumption | exact Or.inl (w (by decide)) | exact Or.inr rfl | exact List.suffix_rfl
    · apply Frame.upd <;> first | assumption | exact Or.inl (w (by decide)) | exact Or.inr rfl | exact List.suffix_rfl
  clear_value y4
  extract_lets +onlyGivenNames y5
  have h5 : Frame ch s y5 := by
    unfold y5
    refine State.modItem_frame _ _ _ ?_ (List.Subset.trans (by decide) w)
    assumption
  clear_value y5
  refine Frame.ite ?_ ?_
  · assumption
  · apply Frame.upd <;> first | assumption | exact Or.inl (w (by decide)) | exact Or.inr rfl | exact List.suffix_rfl

theorem State.issueDone_frame (x a1 a2 a3) (h : Frame ch s x)
        (w : ([.alert, .unsealed, .tnd, .clusters, .kst, .roots, .mea, .meas, .slc, .ngl, .per, .commits, .log,
      .store, .dcc, .custody, .cards, .m] : List Block) ⊆ ch) :
    Frame ch s (State.issueDone x a1 a2 a3) := by
  delta State.issueDone
  extract_lets +onlyGivenNames y1
  have h1 : Frame ch s y1 := by
    unfold y1
    assumption
  clear_value y1
  extract_lets +onlyGivenNames y2
  have h2 : Frame ch s y2 := by
    unfold y2
    refine Frame.ite ?_ ?_
    · refine State.logG_frame _ _ _ ?_ (List.Subset.trans (by decide) w)
      refine State.releaseQuench_frame _ ?_ (List.Subset.trans (by decide) w)
      refine State.installRoot_frame _ _ ?_ (List.Subset.trans (by decide) w)
      assumption
    · refine Frame.ite ?_ ?_
      · refine State.logG_frame _ _ _ ?_ (List.Subset.trans (by decide) w)
        assumption
      · assumption
  clear_value y2
  extract_lets +onlyGivenNames y3
  have h3 : Frame ch s y3 := by
    unfold y3
    refine State.ceremonyDone_frame _ _ _ _ _ _ _ _ ?_ (List.Subset.trans (by decide) w)
    assumption
  clear_value y3
  refine State.logStat_frame _ _ ?_ (List.Subset.trans (by decide) w)
  assumption

theorem State.custodianRefused_frame (x a1 a2 a3) (h : Frame ch s x) (w : ([.log] : List Block) ⊆ ch) :
    Frame ch s (State.custodianRefused x a1 a2 a3) := by
  delta State.custodianRefused
  refine State.logG_frame _ _ _ ?_ (List.Subset.trans (by decide) w)
  assumption

theorem State.refuseCard_frame (x a1 a2 a3) (h : Frame ch s x) (w : ([.log, .dcc, .cards] : List Block) ⊆ ch) :
    Frame ch s (State.refuseCard x a1 a2 a3) := by
  delta State.refuseCard
  extract_lets +onlyGivenNames y1
  have h1 : Frame ch s y1 := by
    unfold y1
    refine State.custodianRefused_frame _ _ _ _ ?_ (List.Subset.trans (by decide) w)
    assumption
  clear_value y1
  refine State.deactivateIcc_frame _ _ ?_ (List.Subset.trans (by decide) w)
  refine State.modIcc_frame _ _ _ ?_ (List.Subset.trans (by decide) w)
  assumption

theorem State.refuseError_frame (x a1 a2) (h : Frame ch s x) (w : ([.log, .dcc, .cards] : List Block) ⊆ ch) :
    Frame ch s (State.refuseError x a1 a2) := by
  delta State.refuseError
  refine State.exchangeFail_frame _ _ _ _ ?_ (List.Subset.trans (by decide) w)
  refine State.custodianRefused_frame _ _ _ _ ?_ (List.Subset.trans (by decide) w)
  assumption

theorem State.blinkRed_frame (x a1 a2) (h : Frame ch s x) (w : ([.cards] : List Block) ⊆ ch) :
    Frame ch s (State.blinkRed x a1 a2) := by
  delta State.blinkRed
  refine State.modIcc_frame _ _ _ ?_ (List.Subset.trans (by decide) w)
  assumption

theorem State.prompt_frame (x a1 a2) (h : Frame ch s x) (w : ([.dcc, .cards] : List Block) ⊆ ch) :
    Frame ch s (State.prompt x a1 a2) := by
  delta State.prompt
  extract_lets +onlyGivenNames y1
  have h1 : Frame ch s y1 := by
    unfold y1
    refine State.modExch_frame _ _ _ ?_ (List.Subset.trans (by decide) w)
    assumption
  clear_value y1
  extract_lets +onlyGivenNames y2
  have h2 : Frame ch s y2 := by
    unfold y2
    refine State.modIcc_frame _ _ _ ?_ (List.Subset.trans (by decide) w)
    assumption
  clear_value y2
  extract_lets +onlyGivenNames y3
  apply Frame.upd <;> first | assumption | exact Or.inl (w (by decide)) | exact Or.inr rfl | exact List.suffix_rfl

theorem State.countMiss_frame (x a1 a2) (h : Frame ch s x) (ha2 : ∀ z0, Frame ch s z0 → Frame ch s (a2 z0))
        (w : ([.log, .dcc, .cards] : List Block) ⊆ ch) :
    Frame ch s (State.countMiss x a1 a2) := by
  delta State.countMiss
  extract_lets +onlyGivenNames y1
  have h1 : Frame ch s y1 := by
    unfold y1
    refine State.modExch_frame _ _ _ ?_ (List.Subset.trans (by decide) w)
    assumption
  clear_value y1
  refine Frame.ite ?_ ?_
  · refine State.refuseCard_frame _ _ _ _ ?_ (List.Subset.trans (by decide) w)
    assumption
  · solve_by_elim

theorem State.secure_frame (x a1 a2 a3 a4 a5) (h : Frame ch s x) (w : ([.mea, .cards, .m] : List Block) ⊆ ch) :
    Frame ch s (State.secure x a1 a2 a3 a4 a5) := by
  delta State.secure
  extract_lets +onlyGivenNames y1
  extract_lets +onlyGivenNames y2
  clear_value y2
  extract_lets +onlyGivenNames y3
  clear_value y3
  extract_lets +onlyGivenNames y4
  clear_value y4
  extract_lets +onlyGivenNames y5
  clear_value y5
  extract_lets +onlyGivenNames y6
  clear_value y6
  extract_lets +onlyGivenNames y7
  have h7 : Frame ch s y7 := by
    unfold y7
    refine State.modExch_frame _ _ _ ?_ (List.Subset.trans (by decide) w)
    assumption
  clear_value y7
  refine State.sendApdu_frame _ _ _ _ _ ?_ (List.Subset.trans (by decide) w)
  assumption

theorem State.beginExchange_frame (x a1) (h : Frame ch s x) (w : ([.mea, .dcc, .cards, .m] : List Block) ⊆ ch) :
    Frame ch s (State.beginExchange x a1) := by
  delta State.beginExchange
  split
  · assumption
  · extract_lets +onlyGivenNames y1
    clear_value y1
    extract_lets +onlyGivenNames y2
    have h2 : Frame ch s y2 := by
      unfold y2
      refine State.modIcc_frame _ _ _ ?_ (List.Subset.trans (by decide) w)
      refine State.keypadLeave_frame _ _ ?_ (List.Subset.trans (by decide) w)
      assumption
    clear_value y2
    refine Frame.ite ?_ ?_
    · refine State.sendBlock_frame _ _ _ _ ?_ (List.Subset.trans (by decide) w)
      refine State.modIcc_frame _ _ _ ?_ (List.Subset.trans (by decide) w)
      assumption
    · refine State.sendApdu_frame _ _ _ _ _ ?_ (List.Subset.trans (by decide) w)
      assumption

theorem State.putCredential_frame (x a1) (h : Frame ch s x) (w : ([.mea, .cards, .m] : List Block) ⊆ ch) :
    Frame ch s (State.putCredential x a1) := by
  delta State.putCredential
  split
  · assumption
  · split
    · assumption
    · split
      · refine State.modIcc_frame _ _ _ ?_ (List.Subset.trans (by decide) w)
        assumption
      · extract_lets +onlyGivenNames y1
        clear_value y1
        extract_lets +onlyGivenNames y2
        clear_value y2
        extract_lets +onlyGivenNames y3
        have h3 : Frame ch s y3 := by
          unfold y3
          refine State.modExch_frame _ _ _ ?_ (List.Subset.trans (by decide) w)
          assumption
        clear_value y3
        refine State.secure_frame _ _ _ _ _ _ ?_ (List.Subset.trans (by decide) w)
        assumption

theorem State.cardWritten_frame (x a1) (h : Frame ch s x)
        (w : ([.tnd, .commits, .log, .dcc, .custody, .cards] : List Block) ⊆ ch) :
    Frame ch s (State.cardWritten x a1) := by
  delta State.cardWritten
  split
  · assumption
  · split
    · assumption
    · extract_lets +onlyGivenNames y1
      extract_lets +onlyGivenNames y2
      extract_lets +onlyGivenNames y3
      have h3 : Frame ch s y3 := by
        unfold y3
        refine State.modSession_frame _ _ ?_ (List.Subset.trans (by decide) w)
        assumption
      clear_value y3
      extract_lets +onlyGivenNames y4
      have h4 : Frame ch s y4 := by
        unfold y4
        refine State.logG_frame _ _ _ ?_ (List.Subset.trans (by decide) w)
        refine State.modIcc_frame _ _ _ ?_ (List.Subset.trans (by decide) w)
        assumption
      clear_value y4
      refine Frame.ite ?_ ?_
      · refine State.issueCommit_frame _ _ ?_ (List.Subset.trans (by decide) w)
        assumption
      · assumption

theorem State.sealAdmission_frame (x a1 a2) (h : Frame ch s x) (w : ([.log, .dcc, .cards] : List Block) ⊆ ch) :
    Frame ch s (State.sealAdmission x a1 a2) := by
  delta State.sealAdmission
  split
  · assumption
  · extract_lets +onlyGivenNames y1
    refine Frame.ite ?_ ?_
    · refine State.refuseCard_frame _ _ _ _ ?_ (List.Subset.trans (by decide) w)
      assumption
    · extract_lets +onlyGivenNames y2
      clear_value y2
      extract_lets +onlyGivenNames y3
      extract_lets +onlyGivenNames y4
      have h4 : Frame ch s y4 := by
        unfold y4
        refine State.modSession_frame _ _ ?_ (List.Subset.trans (by decide) w)
        assumption
      clear_value y4
      refine State.logG_frame _ _ _ ?_ (List.Subset.trans (by decide) w)
      refine State.modIcc_frame _ _ _ ?_ (List.Subset.trans (by decide) w)
      assumption

theorem State.recognise_frame (x a1 a2 a3) (h : Frame ch s x)
        (w : ([.tnd, .kst, .mea, .meas, .slc, .ngl, .per, .commits, .log, .store, .dcc, .custody, .cards, .m] : List
      Block) ⊆ ch) :
    Frame ch s (State.recognise x a1 a2 a3) := by
  delta State.recognise
  extract_lets +onlyGivenNames y1
  refine Frame.ite ?_ ?_
  · refine State.refuseCard_frame _ _ _ _ ?_ (List.Subset.trans (by decide) w)
    assumption
  · split
    · assumption
    · extract_lets +onlyGivenNames y2
      clear_value y2
      extract_lets +onlyGivenNames y3
      extract_lets +onlyGivenNames y4
      extract_lets +onlyGivenNames y5
      have h5 : Frame ch s y5 := by
        unfold y5
        apply Frame.upd <;> first | assumption | exact Or.inl (w (by decide)) | exact Or.inr rfl | exact List.suffix_rfl
      clear_value y5
      extract_lets +onlyGivenNames y6
      have h6 : Frame ch s y6 := by
        unfold y6
        refine State.modIcc_frame _ _ _ ?_ (List.Subset.trans (by decide) w)
        assumption
      clear_value y6
      refine State.ceremonyDone_frame _ _ _ _ _ _ _ _ ?_ (List.Subset.trans (by decide) w)
      assumption

theorem State.afterPin_frame (x a1) (h : Frame ch s x) (w : ([.mea, .log, .dcc, .cards, .m] : List Block) ⊆ ch) :
    Frame ch s (State.afterPin x a1) := by
  delta State.afterPin
  split
  · assumption
  · extract_lets +onlyGivenNames y1
    refine Frame.ite ?_ ?_
    · refine State.secure_frame _ _ _ _ _ _ ?_ (List.Subset.trans (by decide) w)
      assumption
    · refine Frame.ite ?_ ?_
      · refine State.secure_frame _ _ _ _ _ _ ?_ (List.Subset.trans (by decide) w)
        assumption
      · refine Frame.ite ?_ ?_
        · refine State.prompt_frame _ _ _ ?_ (List.Subset.trans (by decide) w)
          assumption
        · refine State.sealAdmission_frame _ _ _ ?_ (List.Subset.trans (by decide) w)
          assumption

theorem State.openSm_frame (x a1) (h : Frame ch s x) (w : ([.mea, .cards, .m] : List Block) ⊆ ch) :
    Frame ch s (State.openSm x a1) := by
  delta State.openSm
  extract_lets +onlyGivenNames y1
  have h1 : Frame ch s y1.2 := by
    unfold y1
    refine State.drawScalar_frame _ _ ?_ (List.Subset.trans (by decide) w)
    assumption
  clear_value y1
  extract_lets +onlyGivenNames y2
  clear_value y2
  extract_lets +onlyGivenNames y3
  have h3 : Frame ch s y3.2 := by
    unfold y3
    refine State.draw_frame _ _ ?_ (List.Subset.trans (by decide) w)
    assumption
  clear_value y3
  extract_lets +onlyGivenNames y4
  have h4 : Frame ch s y4 := by
    unfold y4
    refine State.modExch_frame _ _ _ ?_ (List.Subset.trans (by decide) w)
    assumption
  clear_value y4
  refine State.sendApdu_frame _ _ _ _ _ ?_ (List.Subset.trans (by decide) w)
  assumption

theorem State.plainAnswer_frame (x a1 a2 a3 a4) (h : Frame ch s x)
        (w : ([.mea, .log, .dcc, .cards, .m] : List Block) ⊆ ch) :
    Frame ch s (State.plainAnswer x a1 a2 a3 a4) := by
  delta State.plainAnswer
  extract_lets +onlyGivenNames y1
  extract_lets +onlyGivenNames y2
  clear_value y2
  refine Frame.ite ?_ ?_
  · refine State.exchangeFail_frame _ _ _ _ ?_ (List.Subset.trans (by decide) w)
    assumption
  · refine Frame.ite ?_ ?_
    · refine State.exchangeFail_frame _ _ _ _ ?_ (List.Subset.trans (by decide) w)
      assumption
    · split
      · refine State.sendApdu_frame _ _ _ _ _ ?_ (List.Subset.trans (by decide) w)
        refine State.modExch_frame _ _ _ ?_ (List.Subset.trans (by decide) w)
        assumption
      · extract_lets +onlyGivenNames y3
        have h3 : Frame ch s y3 := by
          unfold y3
          refine State.modExch_frame _ _ _ ?_ (List.Subset.trans (by decide) w)
          assumption
        clear_value y3
        refine Frame.ite ?_ ?_
        · refine State.openSm_frame _ _ ?_ (List.Subset.trans (by decide) w)
          assumption
        · refine State.refuseCard_frame _ _ _ _ ?_ (List.Subset.trans (by decide) w)
          assumption
      · split
        · refine State.refuseError_frame _ _ _ ?_ (List.Subset.trans (by decide) w)
          assumption
        · extract_lets +onlyGivenNames y4
          have h4 : Frame ch s y4 := by
            unfold y4
            refine State.modExch_frame _ _ _ ?_ (List.Subset.trans (by decide) w)
            assumption
          clear_value y4
          refine Frame.ite ?_ ?_
          · refine State.prompt_frame _ _ _ ?_ (List.Subset.trans (by decide) w)
            assumption
          · refine State.prompt_frame _ _ _ ?_ (List.Subset.trans (by decide) w)
            assumption

theorem State.secureAnswer_frame (x a1 a2 a3 a4) (h : Frame ch s x)
        (w : ([.tnd, .kst, .mea, .meas, .slc, .ngl, .per, .commits, .log, .store, .dcc, .custody, .cards, .m] : List
      Block) ⊆ ch) :
    Frame ch s (State.secureAnswer x a1 a2 a3 a4) := by
  delta State.secureAnswer
  extract_lets +onlyGivenNames y1
  have h1 : Frame ch s y1 := by
    unfold y1
    refine State.modExch_frame _ _ _ ?_ (List.Subset.trans (by decide) w)
    assumption
  clear_value y1
  extract_lets +onlyGivenNames y2
  split
  · refine State.refuseError_frame _ _ _ ?_ (List.Subset.trans (by decide) w)
    assumption
  · extract_lets +onlyGivenNames y3
    clear_value y3
    refine Frame.ite ?_ ?_
    · refine State.countMiss_frame _ _ _ ?_ ?_ (List.Subset.trans (by decide) w)
      · refine State.blinkRed_frame _ _ _ ?_ (List.Subset.trans (by decide) w)
        assumption
      · intro y4 h5
        refine State.prompt_frame _ _ _ ?_ (List.Subset.trans (by decide) w)
        refine State.modExch_frame _ _ _ ?_ (List.Subset.trans (by decide) w)
        assumption
    · refine Frame.ite ?_ ?_
      · refine State.refuseError_frame _ _ _ ?_ (List.Subset.trans (by decide) w)
        assumption
      · refine Frame.ite ?_ ?_
        · refine State.exchangeFail_frame _ _ _ _ ?_ (List.Subset.trans (by decide) w)
          assumption
        · refine Frame.ite ?_ ?_
          · refine State.exchangeFail_frame _ _ _ _ ?_ (List.Subset.trans (by decide) w)
            assumption
          · split
            · refine Frame.ite ?_ ?_
              · refine State.secure_frame _ _ _ _ _ _ ?_ (List.Subset.trans (by decide) w)
                assumption
              · refine State.afterPin_frame _ _ ?_ (List.Subset.trans (by decide) w)
                assumption
            · refine State.prompt_frame _ _ _ ?_ (List.Subset.trans (by decide) w)
              assumption
            · refine Frame.ite ?_ ?_
              · refine State.putCredential_frame _ _ ?_ (List.Subset.trans (by decide) w)
                assumption
              · refine State.afterPin_frame _ _ ?_ (List.Subset.trans (by decide) w)
                assumption
            · extract_lets +onlyGivenNames y6
              have h6 : Frame ch s y6 := by
                unfold y6
                refine State.modExch_frame _ _ _ ?_ (List.Subset.trans (by decide) w)
                assumption
              clear_value y6
              refine Frame.ite ?_ ?_
              · split
                · refine State.recognise_frame _ _ _ _ ?_ (List.Subset.trans (by decide) w)
                  assumption
                · assumption
              · refine State.sealAdmission_frame _ _ _ ?_ (List.Subset.trans (by decide) w)
                assumption
            · refine State.cardWritten_frame _ _ ?_ (List.Subset.trans (by decide) w)
              assumption

theorem State.iccAnswer_frame (x a1 a2 a3) (h : Frame ch s x)
        (w : ([.tnd, .kst, .mea, .meas, .slc, .ngl, .per, .commits, .log, .store, .dcc, .custody, .cards, .m] : List
      Block) ⊆ ch) :
    Frame ch s (State.iccAnswer x a1 a2 a3) := by
  delta State.iccAnswer
  split
  · assumption
  · extract_lets +onlyGivenNames y1
    refine Frame.ite ?_ ?_
    · refine State.sendApdu_frame _ _ _ _ _ ?_ (List.Subset.trans (by decide) w)
      assumption
    · split
      · refine State.plainAnswer_frame _ _ _ _ _ ?_ (List.Subset.trans (by decide) w)
        assumption
      · refine State.plainAnswer_frame _ _ _ _ _ ?_ (List.Subset.trans (by decide) w)
        assumption
      · refine State.plainAnswer_frame _ _ _ _ _ ?_ (List.Subset.trans (by decide) w)
        assumption
      · assumption
      · assumption
      · assumption
      · assumption
      · assumption
      · refine State.secureAnswer_frame _ _ _ _ _ ?_ (List.Subset.trans (by decide) w)
        assumption

theorem State.entryDone_frame (x a1 a2 a3) (h : Frame ch s x)
        (w : ([.mea, .log, .dcc, .cards, .m] : List Block) ⊆ ch) :
    Frame ch s (State.entryDone x a1 a2 a3) := by
  delta State.entryDone
  extract_lets +onlyGivenNames y1
  split
  · refine Frame.ite ?_ ?_
    · refine State.countMiss_frame _ _ _ ?_ ?_ (List.Subset.trans (by decide) w)
      · assumption
      · intro y2 h3
        refine State.prompt_frame _ _ _ ?_ (List.Subset.trans (by decide) w)
        assumption
    · refine Frame.ite ?_ ?_
      · refine State.prompt_frame _ _ _ ?_ (List.Subset.trans (by decide) w)
        refine State.modExch_frame _ _ _ ?_ (List.Subset.trans (by decide) w)
        assumption
      · refine State.secure_frame _ _ _ _ _ _ ?_ (List.Subset.trans (by decide) w)
        refine State.keypadLeave_frame _ _ ?_ (List.Subset.trans (by decide) w)
        assumption
  · refine Frame.ite ?_ ?_
    · refine State.countMiss_frame _ _ _ ?_ ?_ (List.Subset.trans (by decide) w)
      · assumption
      · intro y4 h5
        refine State.prompt_frame _ _ _ ?_ (List.Subset.trans (by decide) w)
        assumption
    · refine State.prompt_frame _ _ _ ?_ (List.Subset.trans (by decide) w)
      refine State.modExch_frame _ _ _ ?_ (List.Subset.trans (by decide) w)
      assumption
  · refine Frame.ite ?_ ?_
    · refine State.prompt_frame _ _ _ ?_ (List.Subset.trans (by decide) w)
      refine State.blinkRed_frame _ _ _ ?_ (List.Subset.trans (by decide) w)
      assumption
    · refine Frame.ite ?_ ?_
      · refine State.secure_frame _ _ _ _ _ _ ?_ (List.Subset.trans (by decide) w)
        refine State.keypadLeave_frame _ _ ?_ (List.Subset.trans (by decide) w)
        assumption
      · refine State.secure_frame _ _ _ _ _ _ ?_ (List.Subset.trans (by decide) w)
        refine State.keypadLeave_frame _ _ ?_ (List.Subset.trans (by decide) w)
        assumption
  · refine Frame.ite ?_ ?_
    · refine State.countMiss_frame _ _ _ ?_ ?_ (List.Subset.trans (by decide) w)
      · assumption
      · intro y6 h7
        refine State.prompt_frame _ _ _ ?_ (List.Subset.trans (by decide) w)
        assumption
    · refine State.prompt_frame _ _ _ ?_ (List.Subset.trans (by decide) w)
      refine State.modExch_frame _ _ _ ?_ (List.Subset.trans (by decide) w)
      assumption
  · extract_lets +onlyGivenNames y8
    clear_value y8
    refine Frame.ite ?_ ?_
    · extract_lets +onlyGivenNames y9
      clear_value y9
      refine State.sealAdmission_frame _ _ _ ?_ (List.Subset.trans (by decide) w)
      refine State.keypadLeave_frame _ _ ?_ (List.Subset.trans (by decide) w)
      assumption
    · refine State.countMiss_frame _ _ _ ?_ ?_ (List.Subset.trans (by decide) w)
      · refine State.logG_frame _ _ _ ?_ (List.Subset.trans (by decide) w)
        refine State.blinkRed_frame _ _ _ ?_ (List.Subset.trans (by decide) w)
        assumption
      · intro y10 h11
        refine State.prompt_frame _ _ _ ?_ (List.Subset.trans (by decide) w)
        assumption
  · assumption

theorem State.entryKey_frame (x a1 a2 a3) (h : Frame ch s x)
        (w : ([.tnd, .kst, .mea, .meas, .slc, .ngl, .per, .commits, .log, .store, .dcc, .custody, .cards, .m] : List
      Block) ⊆ ch) :
    Frame ch s (State.entryKey x a1 a2 a3) := by
  delta State.entryKey
  extract_lets +onlyGivenNames y1
  extract_lets +onlyGivenNames y2
  clear_value y2
  extract_lets +onlyGivenNames y3
  clear_value y3
  extract_lets +onlyGivenNames y4
  extract_lets +onlyGivenNames y5
  have h5 : Frame ch s y5 := by
    unfold y5
    apply Frame.upd <;> first | assumption | exact Or.inl (w (by decide)) | exact Or.inr rfl | exact List.suffix_rfl
  clear_value y5
  extract_lets +onlyGivenNames y6
  extract_lets +onlyGivenNames y7
  clear_value y7
  split
  · unfold y6
    refine State.modIcc_frame _ _ _ ?_ (List.Subset.trans (by decide) w)
    apply Frame.upd <;> first | assumption | exact Or.inl (w (by decide)) | exact Or.inr rfl | exact List.suffix_rfl
  · refine Frame.ite ?_ ?_
    · refine State.endSession_frame _ _ ?_ (List.Subset.trans (by decide) w)
      assumption
    · refine State.countMiss_frame _ _ _ ?_ ?_ (List.Subset.trans (by decide) w)
      · unfold y6
        refine State.modIcc_frame _ _ _ ?_ (List.Subset.trans (by decide) w)
        assumption
      · intro y8 h9
        refine State.prompt_frame _ _ _ ?_ (List.Subset.trans (by decide) w)
        assumption
  · refine Frame.ite ?_ ?_
    · refine Frame.ite ?_ ?_
      · refine State.prompt_frame _ _ _ ?_ (List.Subset.trans (by decide) w)
        refine State.modExch_frame _ _ _ ?_ (List.Subset.trans (by decide) w)
        unfold y6
        refine State.modIcc_frame _ _ _ ?_ (List.Subset.trans (by decide) w)
        assumption
      · refine State.blinkRed_frame _ _ _ ?_ (List.Subset.trans (by decide) w)
        assumption
    · refine State.entryDone_frame _ _ _ _ ?_ (List.Subset.trans (by decide) w)
      unfold y6
      refine State.modIcc_frame _ _ _ ?_ (List.Subset.trans (by decide) w)
      assumption
  · unfold y6
    refine State.modIcc_frame _ _ _ ?_ (List.Subset.trans (by decide) w)
    apply Frame.upd <;> first | assumption | exact Or.inl (w (by decide)) | exact Or.inr rfl | exact List.suffix_rfl
  · split
    · refine Frame.ite ?_ ?_
      · unfold y6
        refine State.modIcc_frame _ _ _ ?_ (List.Subset.trans (by decide) w)
        apply Frame.upd <;> first | assumption | exact Or.inl (w (by decide)) | exact Or.inr rfl | exact List.suffix_rfl
      · refine State.blinkRed_frame _ _ _ ?_ (List.Subset.trans (by decide) w)
        assumption
    · refine State.blinkRed_frame _ _ _ ?_ (List.Subset.trans (by decide) w)
      assumption

theorem State.copyToBattery_frame (x) (h : Frame ch s x) (w : ([.tam] : List Block) ⊆ ch) :
    Frame ch s (State.copyToBattery x) := by
  delta State.copyToBattery
  apply Frame.upd <;> first | assumption | exact Or.inl (w (by decide)) | exact Or.inr rfl | exact List.suffix_rfl

theorem State.eraseRoot_frame (x) (h : Frame ch s x) (w : ([.unsealed, .roots] : List Block) ⊆ ch) :
    Frame ch s (State.eraseRoot x) := by
  delta State.eraseRoot
  apply Frame.upd <;> first | assumption | exact Or.inl (w (by decide)) | exact Or.inr rfl | exact List.suffix_rfl

theorem State.quench_frame (x) (h : Frame ch s x)
        (w : ([.unsealed, .pat, .host, .queues, .tnd, .clusters, .kst, .roots, .mea, .meas, .slc, .ngl, .per,
      .commits, .log, .store, .tam, .dcc, .custody, .cards, .m] : List Block) ⊆ ch) :
    Frame ch s (State.quench x) := by
  delta State.quench
  refine Frame.ite ?_ ?_
  · assumption
  · extract_lets +onlyGivenNames y1
    extract_lets +onlyGivenNames y2
    have h2 : Frame ch s y2 := by
      unfold y2
      apply Frame.upd <;> first | assumption | exact Or.inl (w (by decide)) | exact Or.inr rfl | exact List.suffix_rfl
    clear_value y2
    extract_lets +onlyGivenNames y3
    have h3 : Frame ch s y3 := by
      unfold y3
      refine State.zeroVolatileKeys_frame _ ?_ (List.Subset.trans (by decide) w)
      refine State.portsIdle_frame _ ?_ (List.Subset.trans (by decide) w)
      refine State.quenchItems_frame _ ?_ (List.Subset.trans (by decide) w)
      refine State.emitAll_frame _ _ ?_ (List.Subset.trans (by decide) w)
      refine State.eraseRoot_frame _ ?_ (List.Subset.trans (by decide) w)
      assumption
    clear_value y3
    refine State.logG_frame _ _ _ ?_ (List.Subset.trans (by decide) w)
    refine State.deactivateCards_frame _ ?_ (List.Subset.trans (by decide) w)
    refine State.endSession_frame _ _ ?_ (List.Subset.trans (by decide) w)
    assumption

theorem State.enterLock_frame (x) (h : Frame ch s x) (w : ([.log, .tam] : List Block) ⊆ ch) :
    Frame ch s (State.enterLock x) := by
  delta State.enterLock
  refine Frame.ite ?_ ?_
  · assumption
  · refine State.logG_frame _ _ _ ?_ (List.Subset.trans (by decide) w)
    apply Frame.upd <;> first | assumption | exact Or.inl (w (by decide)) | exact Or.inr rfl | exact List.suffix_rfl

theorem State.recordAlarm_frame (x a1 a2) (h : Frame ch s x) (w : ([.alert, .per, .log, .tam] : List Block) ⊆ ch) :
    Frame ch s (State.recordAlarm x a1 a2) := by
  delta State.recordAlarm
  extract_lets +onlyGivenNames y1
  clear_value y1
  extract_lets +onlyGivenNames y2
  clear_value y2
  extract_lets +onlyGivenNames y3
  extract_lets +onlyGivenNames y4
  have h4 : Frame ch s y4 := by
    unfold y4
    apply Frame.upd <;> first | assumption | exact Or.inl (w (by decide)) | exact Or.inr rfl | exact List.suffix_rfl
  clear_value y4
  extract_lets +onlyGivenNames y5
  have h5 : Frame ch s y5 := by
    unfold y5
    refine State.alert_frame _ _ ?_ (List.Subset.trans (by decide) w)
    refine State.lifeAdd_frame _ _ _ ?_ (List.Subset.trans (by decide) w)
    assumption
  clear_value y5
  refine State.logEv_frame _ _ _ _ _ ?_ (List.Subset.trans (by decide) w)
  assumption

theorem State.handleAlarms_frame (x a1) (h : Frame ch s x)
        (w : ([.alert, .unsealed, .pat, .host, .queues, .tnd, .clusters, .kst, .roots, .mea, .meas, .slc, .ngl,
      .per, .commits, .log, .store, .tam, .dcc, .custody, .cards, .m] : List Block) ⊆ ch) :
    Frame ch s (State.handleAlarms x a1) := by
  delta State.handleAlarms
  refine Frame.ite ?_ ?_
  · assumption
  · extract_lets +onlyGivenNames y1
    clear_value y1
    extract_lets +onlyGivenNames y2
    clear_value y2
    extract_lets +onlyGivenNames y3
    clear_value y3
    extract_lets +onlyGivenNames y4
    have h4 : Frame ch s y4 := by
      unfold y4
      assumption
    clear_value y4
    extract_lets +onlyGivenNames y5
    have h5 : Frame ch s y5 := by
      unfold y5
      refine Frame.fold ?_ (fun y6 a6 h6 => ?_)
      · assumption
      · refine State.recordAlarm_frame _ _ _ ?_ (List.Subset.trans (by decide) w)
        assumption
    clear_value y5
    extract_lets +onlyGivenNames y7
    extract_lets +onlyGivenNames y8
    have h8 : Frame ch s y8 := by
      unfold y8
      apply Frame.upd <;> first | assumption | exact Or.inl (w (by decide)) | exact Or.inr rfl | exact List.suffix_rfl
    clear_value y8
    extract_lets +onlyGivenNames y9
    have h9 : Frame ch s y9 := by
      unfold y9
      refine Frame.ite ?_ ?_
      · refine State.enterLock_frame _ ?_ (List.Subset.trans (by decide) w)
        assumption
      · assumption
    clear_value y9
    extract_lets +onlyGivenNames y10
    have h10 : Frame ch s y10 := by
      unfold y10
      refine Frame.ite ?_ ?_
      · refine State.quench_frame _ ?_ (List.Subset.trans (by decide) w)
        assumption
      · assumption
    clear_value y10
    refine State.logStat_frame _ _ ?_ (List.Subset.trans (by decide) w)
    assumption

theorem State.decisionAlarm_frame (x) (h : Frame ch s x)
        (w : ([.alert, .unsealed, .pat, .host, .queues, .tnd, .clusters, .kst, .roots, .mea, .meas, .slc, .ngl,
      .per, .commits, .log, .store, .tam, .dcc, .custody, .cards, .m] : List Block) ⊆ ch) :
    Frame ch s (State.decisionAlarm x) := by
  delta State.decisionAlarm
  split
  · assumption
  · extract_lets +onlyGivenNames y1
    have h1 : Frame ch s y1 := by
      unfold y1
      refine State.handleAlarms_frame _ _ ?_ (List.Subset.trans (by decide) w)
      assumption
    clear_value y1
    apply Frame.upd <;> first | assumption | exact Or.inl (w (by decide)) | exact Or.inr rfl | exact List.suffix_rfl

theorem State.mismatch_frame (x a1 a2 a3 a4) (h : Frame ch s x)
        (w : ([.alert, .unsealed, .pat, .host, .queues, .tnd, .clusters, .kst, .roots, .mea, .meas, .slc, .ngl,
      .per, .commits, .log, .store, .tam, .dcc, .custody, .cards, .m] : List Block) ⊆ ch) :
    Frame ch s (State.mismatch x a1 a2 a3 a4) := by
  delta State.mismatch
  extract_lets +onlyGivenNames y1
  extract_lets +onlyGivenNames y2
  have h2 : Frame ch s y2 := by
    unfold y2
    apply Frame.upd <;> first | assumption | exact Or.inl (w (by decide)) | exact Or.inr rfl | exact List.suffix_rfl
  clear_value y2
  extract_lets +onlyGivenNames y3
  have h3 : Frame ch s y3 := by
    unfold y3
    refine State.logEv_frame _ _ _ _ _ ?_ (List.Subset.trans (by decide) w)
    assumption
  clear_value y3
  refine State.decisionAlarm_frame _ ?_ (List.Subset.trans (by decide) w)
  assumption

theorem State.decide2_frame (x a1 a2 a3 a4 a5) (h : Frame ch s x)
        (w : ([.alert, .unsealed, .pat, .host, .queues, .tnd, .clusters, .kst, .roots, .mea, .meas, .slc, .ngl,
      .per, .commits, .log, .store, .tam, .dcc, .custody, .cards, .m] : List Block) ⊆ ch) :
    Frame ch s (State.decide2 x a1 a2 a3 a4 a5).2 := by
  delta State.decide2
  extract_lets +onlyGivenNames y1
  extract_lets +onlyGivenNames y2
  have h2 : Frame ch s y2 := by
    unfold y2
    apply Frame.upd <;> first | assumption | exact Or.inl (w (by decide)) | exact Or.inr rfl | exact List.suffix_rfl
  clear_value y2
  split
  · dsimp only
    assumption
  · refine Frame.sndIte ?_ ?_
    · dsimp only
      assumption
    · dsimp only
      refine State.mismatch_frame _ _ _ _ _ ?_ (List.Subset.trans (by decide) w)
      assumption

theorem State.extInput_frame (x a1 a2 a3) (h : Frame ch s x) (w : ([.tam] : List Block) ⊆ ch) :
    Frame ch s (State.extInput x a1 a2 a3).1 := by
  delta State.extInput
  extract_lets +onlyGivenNames y1
  clear_value y1
  extract_lets +onlyGivenNames y2
  clear_value y2
  extract_lets +onlyGivenNames y3
  clear_value y3
  extract_lets +onlyGivenNames y4
  clear_value y4
  extract_lets +onlyGivenNames y5
  clear_value y5
  extract_lets +onlyGivenNames y6
  clear_value y6
  extract_lets +onlyGivenNames y7
  extract_lets +onlyGivenNames y8
  have h8 : Frame ch s y8.1 := by
    unfold y8
    refine Frame.fstIte ?_ ?_
    · dsimp only
      assumption
    · split
      · dsimp only
        apply Frame.upd <;> first | assumption | exact Or.inl (w (by decide)) | exact Or.inr rfl | exact List.suffix_rfl
      · dsimp only
        apply Frame.upd <;> first | assumption | exact Or.inl (w (by decide)) | exact Or.inr rfl | exact List.suffix_rfl
  clear_value y8
  extract_lets +onlyGivenNames y9
  have h9 : Frame ch s y9 := by
    unfold y9
    assumption
  clear_value y9
  extract_lets +onlyGivenNames y10
  clear_value y10
  split
  · dsimp only
    apply Frame.upd <;> first | assumption | exact Or.inl (w (by decide)) | exact Or.inr rfl | exact List.suffix_rfl
  · dsimp only
    assumption

theorem State.extSample_frame (x a1) (h : Frame ch s x) (w : ([.tam] : List Block) ⊆ ch) :
    Frame ch s (State.extSample x a1).1 := by
  delta State.extSample
  refine Frame.foldFst ?_ (fun y1 a1 h1 => ?_)
  · dsimp only
    assumption
  · refine Frame.fstIte ?_ ?_
    · extract_lets +onlyGivenNames y2
      have h2 : Frame ch s y2.1 := by
        unfold y2
        refine State.extInput_frame _ _ _ _ ?_ (List.Subset.trans (by decide) w)
        assumption
      clear_value y2
      extract_lets +onlyGivenNames y3
      clear_value y3
      refine Frame.fstIte ?_ ?_
      · dsimp only
        apply Frame.upd <;> first | assumption | exact Or.inl (w (by decide)) | exact Or.inr rfl | exact List.suffix_rfl
      · dsimp only
        assumption
    · assumption

theorem State.unchatter_frame (x) (h : Frame ch s x) (w : ([.tam] : List Block) ⊆ ch) :
    Frame ch s (State.unchatter x) := by
  delta State.unchatter
  apply Frame.upd <;> first | assumption | exact Or.inl (w (by decide)) | exact Or.inr rfl | exact List.suffix_rfl

theorem State.vbatSample_frame (x a1) (h : Frame ch s x) (w : ([.pins, .per, .tam] : List Block) ⊆ ch) :
    Frame ch s (State.vbatSample x a1) := by
  delta State.vbatSample
  extract_lets +onlyGivenNames y1
  clear_value y1
  extract_lets +onlyGivenNames y2
  extract_lets +onlyGivenNames y3
  extract_lets +onlyGivenNames y4
  have h4 : Frame ch s y4 := by
    unfold y4
    apply Frame.upd <;> first | assumption | exact Or.inl (w (by decide)) | exact Or.inr rfl | exact List.suffix_rfl
  clear_value y4
  refine Frame.ite ?_ ?_
  · apply Frame.upd <;> first | assumption | exact Or.inl (w (by decide)) | exact Or.inr rfl | exact List.suffix_rfl
  · assumption

theorem State.sample_frame (x a1) (h : Frame ch s x)
        (w : ([.pins, .alert, .unsealed, .pat, .host, .queues, .tnd, .clusters, .kst, .roots, .mea, .meas, .slc,
      .ngl, .per, .commits, .log, .store, .tam, .dcc, .custody, .cards, .m] : List Block) ⊆ ch) :
    Frame ch s (State.sample x a1) := by
  delta State.sample
  extract_lets +onlyGivenNames y1
  have h1 : Frame ch s y1.1 := by
    unfold y1
    refine State.extSample_frame _ _ ?_ (List.Subset.trans (by decide) w)
    assumption
  clear_value y1
  extract_lets +onlyGivenNames y2
  have h2 : Frame ch s y2 := by
    unfold y2
    assumption
  clear_value y2
  extract_lets +onlyGivenNames y3
  clear_value y3
  extract_lets +onlyGivenNames y4
  clear_value y4
  extract_lets +onlyGivenNames y5
  clear_value y5
  extract_lets +onlyGivenNames y6
  clear_value y6
  extract_lets +onlyGivenNames y7
  clear_value y7
  extract_lets +onlyGivenNames y8
  clear_value y8
  extract_lets +onlyGivenNames y9
  clear_value y9
  extract_lets +onlyGivenNames y10
  clear_value y10
  extract_lets +onlyGivenNames y11
  extract_lets +onlyGivenNames y12
  have h12 : Frame ch s y12 := by
    unfold y12
    refine State.unchatter_frame _ ?_ (List.Subset.trans (by decide) w)
    apply Frame.upd <;> first | assumption | exact Or.inl (w (by decide)) | exact Or.inr rfl | exact List.suffix_rfl
  clear_value y12
  extract_lets +onlyGivenNames y13
  clear_value y13
  refine State.vbatSample_frame _ _ ?_ (List.Subset.trans (by decide) w)
  refine State.handleAlarms_frame _ _ ?_ (List.Subset.trans (by decide) w)
  assumption

theorem State.loseBattery_frame (x) (h : Frame ch s x) (w : ([.roots, .per, .tam] : List Block) ⊆ ch) :
    Frame ch s (State.loseBattery x) := by
  delta State.loseBattery
  apply Frame.upd <;> first | assumption | exact Or.inl (w (by decide)) | exact Or.inr rfl | exact List.suffix_rfl

theorem State.battRecord_frame (x a1 a2) (h : Frame ch s x) (w : ([.tam] : List Block) ⊆ ch) :
    Frame ch s (State.battRecord x a1 a2) := by
  delta State.battRecord
  extract_lets +onlyGivenNames y1
  clear_value y1
  extract_lets +onlyGivenNames y2
  extract_lets +onlyGivenNames y3
  have h3 : Frame ch s y3 := by
    unfold y3
    apply Frame.upd <;> first | assumption | exact Or.inl (w (by decide)) | exact Or.inr rfl | exact List.suffix_rfl
  refine Frame.ite ?_ ?_
  · apply Frame.upd <;> first | assumption | exact Or.inl (w (by decide)) | exact Or.inr rfl | exact List.suffix_rfl
  · apply Frame.upd <;> first | assumption | exact Or.inl (w (by decide)) | exact Or.inr rfl | exact List.suffix_rfl

theorem State.battAlarms_frame (x a1) (h : Frame ch s x) (w : ([.unsealed, .roots, .tam] : List Block) ⊆ ch) :
    Frame ch s (State.battAlarms x a1) := by
  delta State.battAlarms
  refine Frame.ite ?_ ?_
  · assumption
  · extract_lets +onlyGivenNames y1
    clear_value y1
    extract_lets +onlyGivenNames y2
    clear_value y2
    extract_lets +onlyGivenNames y3
    have h3 : Frame ch s y3 := by
      unfold y3
      refine Frame.fold ?_ (fun y4 a4 h4 => ?_)
      · assumption
      · refine State.battRecord_frame _ _ _ ?_ (List.Subset.trans (by decide) w)
        assumption
    clear_value y3
    refine Frame.ite ?_ ?_
    · refine State.eraseRoot_frame _ ?_ (List.Subset.trans (by decide) w)
      assumption
    · refine Frame.ite ?_ ?_
      · apply Frame.upd <;> first | assumption | exact Or.inl (w (by decide)) | exact Or.inr rfl | exact List.suffix_rfl
      · assumption

theorem State.replayBattery_frame (x) (h : Frame ch s x) (w : ([.alert, .per, .log, .tam] : List Block) ⊆ ch) :
    Frame ch s (State.replayBattery x) := by
  delta State.replayBattery
  extract_lets +onlyGivenNames y1
  clear_value y1
  extract_lets +onlyGivenNames y2
  clear_value y2
  extract_lets +onlyGivenNames y3
  have h3 : Frame ch s y3 := by
    unfold y3
    refine Frame.fold ?_ (fun y4 a4 h4 => ?_)
    · assumption
    · extract_lets +onlyGivenNames y5
      extract_lets +onlyGivenNames y6
      have h6 : Frame ch s y6 := by
        unfold y6
        refine State.enterLog_frame _ _ ?_ (List.Subset.trans (by decide) w)
        assumption
      clear_value y6
      refine State.alert_frame _ _ ?_ (List.Subset.trans (by decide) w)
      refine State.lifeAdd_frame _ _ _ ?_ (List.Subset.trans (by decide) w)
      assumption
  clear_value y3
  extract_lets +onlyGivenNames y7
  extract_lets +onlyGivenNames y8
  have h8 : Frame ch s y8 := by
    unfold y8
    refine Frame.ite ?_ ?_
    · assumption
    · refine State.enterLog_frame _ _ ?_ (List.Subset.trans (by decide) w)
      assumption
  clear_value y8
  apply Frame.upd <;> first | assumption | exact Or.inl (w (by decide)) | exact Or.inr rfl | exact List.suffix_rfl

theorem State.clockWatch_frame (x a1) (h : Frame ch s x)
        (w : ([.host, .tnd, .clusters, .regions, .log, .tam, .m] : List Block) ⊆ ch) :
    Frame ch s (State.clockWatch x a1) := by
  delta State.clockWatch
  extract_lets +onlyGivenNames y1
  clear_value y1
  refine Frame.ite ?_ ?_
  · assumption
  · refine Frame.ite ?_ ?_
    · apply Frame.upd <;> first | assumption | exact Or.inl (w (by decide)) | exact Or.inr rfl | exact List.suffix_rfl
    · refine State.offerAll_frame _ ?_ (List.Subset.trans (by decide) w)
      apply Frame.upd <;> first | assumption | exact Or.inl (w (by decide)) | exact Or.inr rfl | exact List.suffix_rfl

theorem State.commandedQuench_frame (x a1) (h : Frame ch s x)
        (w : ([.alert, .unsealed, .pat, .host, .queues, .tnd, .clusters, .kst, .roots, .mea, .meas, .slc, .ngl,
      .per, .commits, .log, .store, .tam, .dcc, .custody, .cards, .m] : List Block) ⊆ ch) :
    Frame ch s (State.commandedQuench x a1) := by
  delta State.commandedQuench
  extract_lets +onlyGivenNames y1
  have h1 : Frame ch s y1 := by
    unfold y1
    assumption
  clear_value y1
  extract_lets +onlyGivenNames y2
  have h2 : Frame ch s y2 := by
    unfold y2
    refine State.alert_frame _ _ ?_ (List.Subset.trans (by decide) w)
    refine State.logG_frame _ _ _ ?_ (List.Subset.trans (by decide) w)
    assumption
  clear_value y2
  refine State.logStat_frame _ _ ?_ (List.Subset.trans (by decide) w)
  refine State.quench_frame _ ?_ (List.Subset.trans (by decide) w)
  assumption

theorem State.readSlot_frame (x a1 a2 a3) (h : Frame ch s x) (w : ([.m] : List Block) ⊆ ch) :
    Frame ch s (State.readSlot x a1 a2 a3) := by
  delta State.readSlot
  refine State.emit_frame _ _ ?_ (List.Subset.trans (by decide) w)
  assumption

theorem State.fetchPattern_frame (x a1 a2 a3) (h : Frame ch s x) (w : ([.m] : List Block) ⊆ ch) :
    Frame ch s (State.fetchPattern x a1 a2 a3) := by
  delta State.fetchPattern
  extract_lets +onlyGivenNames y1
  extract_lets +onlyGivenNames y2
  have h2 : Frame ch s y2 := by
    unfold y2
    refine Frame.ite ?_ ?_
    · assumption
    · refine State.emit_frame _ _ ?_ (List.Subset.trans (by decide) w)
      assumption
  clear_value y2
  extract_lets +onlyGivenNames y3
  have h3 : Frame ch s y3 := by
    unfold y3
    refine State.emit_frame _ _ ?_ (List.Subset.trans (by decide) w)
    refine State.emit_frame _ _ ?_ (List.Subset.trans (by decide) w)
    assumption
  clear_value y3
  refine State.readSlot_frame _ _ _ _ ?_ (List.Subset.trans (by decide) w)
  refine State.emit_frame _ _ ?_ (List.Subset.trans (by decide) w)
  assumption

theorem State.verifyPattern_frame (x a1 a2 a3) (h : Frame ch s x)
        (w : ([.alert, .unsealed, .pat, .host, .queues, .tnd, .clusters, .kst, .roots, .mea, .meas, .slc, .ngl,
      .per, .commits, .log, .store, .tam, .dcc, .custody, .cards, .m] : List Block) ⊆ ch) :
    Frame ch s (State.verifyPattern x a1 a2 a3).2.2 := by
  delta State.verifyPattern
  extract_lets +onlyGivenNames y1
  clear_value y1
  split
  · dsimp only
    assumption
  · extract_lets +onlyGivenNames y2
    have h2 : Frame ch s y2.2 := by
      unfold y2
      refine State.decide2_frame _ _ _ _ _ _ ?_ (List.Subset.trans (by decide) w)
      assumption
    clear_value y2
    split
    · dsimp only
      assumption
    · extract_lets +onlyGivenNames y3
      clear_value y3
      dsimp only
      refine Frame.fold ?_ (fun y4 a4 h4 => ?_)
      · assumption
      · refine State.logG_frame _ _ _ ?_ (List.Subset.trans (by decide) w)
        assumption

theorem State.usePattern_frame (x a1 a2 a3 a4) (h : Frame ch s x) (w : ([.stage, .pat] : List Block) ⊆ ch) :
    Frame ch s (State.usePattern x a1 a2 a3 a4) := by
  delta State.usePattern
  apply Frame.upd <;> first | assumption | exact Or.inl (w (by decide)) | exact Or.inr rfl | exact List.suffix_rfl

theorem State.raiseRollback_frame (x a1) (h : Frame ch s x) (w : ([.tnd, .per, .commits] : List Block) ⊆ ch) :
    Frame ch s (State.raiseRollback x a1) := by
  delta State.raiseRollback
  refine Frame.ite ?_ ?_
  · refine State.commit_frame _ _ _ _ _ ?_ (List.Subset.trans (by decide) w)
    apply Frame.upd <;> first | assumption | exact Or.inl (w (by decide)) | exact Or.inr rfl | exact List.suffix_rfl
  · assumption

theorem State.applyFloors_frame (x) (h : Frame ch s x) (w : ([.pat, .log] : List Block) ⊆ ch) :
    Frame ch s (State.applyFloors x) := by
  delta State.applyFloors
  extract_lets +onlyGivenNames y1
  clear_value y1
  extract_lets +onlyGivenNames y2
  have h2 : Frame ch s y2 := by
    unfold y2
    refine Frame.fold ?_ (fun y3 a3 h3 => ?_)
    · assumption
    · refine State.logG_frame _ _ _ ?_ (List.Subset.trans (by decide) w)
      assumption
  clear_value y2
  apply Frame.upd <;> first | assumption | exact Or.inl (w (by decide)) | exact Or.inr rfl | exact List.suffix_rfl

theorem State.judgeRiser_frame (x) (h : Frame ch s x) (w : ([.per, .log] : List Block) ⊆ ch) :
    Frame ch s (State.judgeRiser x) := by
  delta State.judgeRiser
  refine Frame.ite ?_ ?_
  · extract_lets +onlyGivenNames y1
    extract_lets +onlyGivenNames y2
    have h2 : Frame ch s y2 := by
      unfold y2
      apply Frame.upd <;> first | assumption | exact Or.inl (w (by decide)) | exact Or.inr rfl | exact List.suffix_rfl
    refine Frame.ite ?_ ?_
    · assumption
    · refine State.logG_frame _ _ _ ?_ (List.Subset.trans (by decide) w)
      apply Frame.upd <;> first | assumption | exact Or.inl (w (by decide)) | exact Or.inr rfl | exact List.suffix_rfl
  · assumption

theorem State.acceptPattern_frame (x a1 a2 a3) (h : Frame ch s x)
        (w : ([.stage, .pat, .tnd, .meas, .per, .commits, .log, .tam] : List Block) ⊆ ch) :
    Frame ch s (State.acceptPattern x a1 a2 a3) := by
  delta State.acceptPattern
  extract_lets +onlyGivenNames y1
  clear_value y1
  extract_lets +onlyGivenNames y2
  clear_value y2
  extract_lets +onlyGivenNames y3
  have h3 : Frame ch s y3 := by
    unfold y3
    refine State.raiseRollback_frame _ _ ?_ (List.Subset.trans (by decide) w)
    refine State.measExtend_frame _ _ _ ?_ (List.Subset.trans (by decide) w)
    refine State.usePattern_frame _ _ _ _ _ ?_ (List.Subset.trans (by decide) w)
    assumption
  clear_value y3
  refine State.judgeRiser_frame _ ?_ (List.Subset.trans (by decide) w)
  refine State.copyToBattery_frame _ ?_ (List.Subset.trans (by decide) w)
  refine State.applyFloors_frame _ ?_ (List.Subset.trans (by decide) w)
  assumption

theorem State.verifyFirmware_frame (x a1 a2 a3) (h : Frame ch s x)
        (w : ([.alert, .unsealed, .pat, .host, .queues, .tnd, .clusters, .kst, .roots, .mea, .meas, .slc, .ngl,
      .per, .commits, .log, .store, .tam, .dcc, .custody, .cards, .m] : List Block) ⊆ ch) :
    Frame ch s (State.verifyFirmware x a1 a2 a3).2 := by
  delta State.verifyFirmware
  extract_lets +onlyGivenNames y1
  clear_value y1
  extract_lets +onlyGivenNames y2
  clear_value y2
  refine State.decide2_frame _ _ _ _ _ _ ?_ (List.Subset.trans (by decide) w)
  assumption

theorem State.acceptFirmware_frame (x a1 a2) (h : Frame ch s x)
        (w : ([.stage, .pat, .meas, .log] : List Block) ⊆ ch) :
    Frame ch s (State.acceptFirmware x a1 a2) := by
  delta State.acceptFirmware
  extract_lets +onlyGivenNames y1
  clear_value y1
  extract_lets +onlyGivenNames y2
  clear_value y2
  extract_lets +onlyGivenNames y3
  have h3 : Frame ch s y3 := by
    unfold y3
    refine State.measExtend_frame _ _ _ ?_ (List.Subset.trans (by decide) w)
    refine State.measExtend_frame _ _ _ ?_ (List.Subset.trans (by decide) w)
    assumption
  clear_value y3
  apply Frame.upd <;> first | assumption | exact Or.inl (w (by decide)) | exact Or.inr rfl | exact List.suffix_rfl

theorem State.bindCredential_frame (x a1 a2) (h : Frame ch s x)
        (w : ([.host, .queues, .tnd, .fabric, .clusters, .kst, .mea, .slc, .ngl, .regions, .commits, .log, .m] :
      List Block) ⊆ ch) :
    FrameC ch s (State.bindCredential x a1 a2) := by
  delta State.bindCredential
  refine FrameC.bind (fun y1 => ?_)
  split
  extract_lets +onlyGivenNames y2
  extract_lets +onlyGivenNames y3
  have h3 : Frame ch s y3 := by
    unfold y3
    refine State.reach12_frame _ _ _ _ _ ?_ (List.Subset.trans (by decide) w)
    assumption
  clear_value y3
  refine State.withUnits_frame _ _ _ _ ?_ ?_ (List.Subset.trans (by decide) w)
  · assumption
  · intro y4 h5
    extract_lets +onlyGivenNames y6
    extract_lets +onlyGivenNames y7
    refine FrameC.ite ?_ ?_
    · refine FrameC.ok ?_
      refine State.issueOut_frame _ _ _ _ ?_ (List.Subset.trans (by decide) w)
      assumption
    · extract_lets +onlyGivenNames y8
      clear_value y8
      refine FrameC.ite ?_ ?_
      · refine FrameC.ok ?_
        refine State.issueOut_frame _ _ _ _ ?_ (List.Subset.trans (by decide) w)
        assumption
      · refine FrameC.ite ?_ ?_
        · refine FrameC.ok ?_
          refine State.issueOut_frame _ _ _ _ ?_ (List.Subset.trans (by decide) w)
          assumption
        · extract_lets +onlyGivenNames y9
          clear_value y9
          extract_lets +onlyGivenNames y10
          have h10 : Frame ch s y10 := by
            unfold y10
            refine State.hashed_frame _ _ _ ?_ (List.Subset.trans (by decide) w)
            refine State.useWrap_frame _ _ ?_ (List.Subset.trans (by decide) w)
            assumption
          clear_value y10
          refine FrameC.ok ?_
          refine State.issueBnu_frame _ _ _ _ _ _ _ _ ?_ (List.Subset.trans (by decide) w)
          assumption

theorem State.bindSigned_frame (x a1 a2 a3 a4) (h : Frame ch s x)
        (w : ([.host, .queues, .tnd, .fabric, .clusters, .kst, .mea, .slc, .ngl, .regions, .commits, .log, .m] :
      List Block) ⊆ ch) :
    FrameC ch s (State.bindSigned x a1 a2 a3 a4) := by
  delta State.bindSigned
  refine FrameC.bind (fun y1 => ?_)
  split
  extract_lets +onlyGivenNames y2
  refine State.withUnits_frame _ _ _ _ ?_ ?_ (List.Subset.trans (by decide) w)
  · refine State.reach12_frame _ _ _ _ _ ?_ (List.Subset.trans (by decide) w)
    assumption
  · intro y3 h4
    refine State.onBnu_frame _ _ _ ?_ ?_ (List.Subset.trans (by decide) w)
    · assumption
    · intro y5 h6
      refine FrameC.ok ?_
      refine State.issueOut_frame _ _ _ _ ?_ (List.Subset.trans (by decide) w)
      refine State.hashed_frame _ _ _ ?_ (List.Subset.trans (by decide) w)
      assumption

theorem State.loadPin_frame (x a1 a2 a3) (h : Frame ch s x) (w : ([.clusters] : List Block) ⊆ ch) :
    Frame ch s (State.loadPin x a1 a2 a3) := by
  delta State.loadPin
  extract_lets +onlyGivenNames y1
  have h1 : Frame ch s y1 := by
    unfold y1
    refine State.loadSbu_frame _ _ _ ?_ (List.Subset.trans (by decide) w)
    assumption
  clear_value y1
  refine Frame.ite ?_ ?_
  · assumption
  · refine State.loadDukpt_frame _ _ _ _ _ _ _ _ _ ?_ (List.Subset.trans (by decide) w)
    assumption

theorem State.clearFails_frame (x a1 a2) (h : Frame ch s x) (w : ([.kst] : List Block) ⊆ ch) :
    Frame ch s (State.clearFails x a1 a2) := by
  delta State.clearFails
  apply Frame.upd <;> first | assumption | exact Or.inl (w (by decide)) | exact Or.inr rfl | exact List.suffix_rfl

theorem State.holdTag_frame (x a1 a2 a3) (h : Frame ch s x) (w : ([.kst] : List Block) ⊆ ch) :
    Frame ch s (State.holdTag x a1 a2 a3) := by
  delta State.holdTag
  apply Frame.upd <;> first | assumption | exact Or.inl (w (by decide)) | exact Or.inr rfl | exact List.suffix_rfl

theorem State.lockoutCheck_frame (x a1 a2 a3) (h : Frame ch s x)
        (w : ([.tnd, .kst, .slc, .commits] : List Block) ⊆ ch) :
    FrameC ch s (State.lockoutCheck x a1 a2 a3) := by
  delta State.lockoutCheck
  extract_lets +onlyGivenNames y1
  clear_value y1
  refine FrameC.ite ?_ ?_
  · exact FrameC.wait
  · split
    · refine FrameC.ite ?_ ?_
      · exact FrameC.stop
      · refine FrameC.ok ?_
        refine State.holdTag_frame _ _ _ _ ?_ (List.Subset.trans (by decide) w)
        refine State.clearFails_frame _ _ _ ?_ (List.Subset.trans (by decide) w)
        refine State.dropDelay_frame _ _ ?_ (List.Subset.trans (by decide) w)
        refine State.dropLockout_frame _ _ _ _ ?_ (List.Subset.trans (by decide) w)
        assumption
    · extract_lets +onlyGivenNames y2
      clear_value y2
      refine FrameC.ite ?_ ?_
      · exact FrameC.stop
      · refine FrameC.ok ?_
        refine State.holdTag_frame _ _ _ _ ?_ (List.Subset.trans (by decide) w)
        assumption

theorem State.countFailure_frame (x a1 a2 a3) (h : Frame ch s x)
        (w : ([.tnd, .kst, .slc, .commits, .log] : List Block) ⊆ ch) :
    Frame ch s (State.countFailure x a1 a2 a3).1 := by
  delta State.countFailure
  refine Frame.fstIte ?_ ?_
  · dsimp only
    assumption
  · extract_lets +onlyGivenNames y1
    clear_value y1
    extract_lets +onlyGivenNames y2
    clear_value y2
    extract_lets +onlyGivenNames y3
    clear_value y3
    extract_lets +onlyGivenNames y4
    clear_value y4
    extract_lets +onlyGivenNames y5
    extract_lets +onlyGivenNames y6
    have h6 : Frame ch s y6 := by
      unfold y6
      apply Frame.upd <;> first | assumption | exact Or.inl (w (by decide)) | exact Or.inr rfl | exact List.suffix_rfl
    clear_value y6
    refine Frame.fstIte ?_ ?_
    · dsimp only
      assumption
    · extract_lets +onlyGivenNames y7
      extract_lets +onlyGivenNames y8
      clear_value y8
      extract_lets +onlyGivenNames y9
      have h9 : Frame ch s y9 := by
        unfold y9
        refine State.modSlice_frame _ _ _ ?_ (List.Subset.trans (by decide) w)
        assumption
      clear_value y9
      extract_lets +onlyGivenNames y10
      have h10 : Frame ch s y10 := by
        unfold y10
        refine State.commit_frame _ _ _ _ _ ?_ (List.Subset.trans (by decide) w)
        assumption
      clear_value y10
      extract_lets +onlyGivenNames y11
      have h11 : Frame ch s y11 := by
        unfold y11
        refine State.armLockout_frame _ _ _ _ ?_ (List.Subset.trans (by decide) w)
        assumption
      clear_value y11
      dsimp only
      refine State.logEv_frame _ _ _ _ _ ?_ (List.Subset.trans (by decide) w)
      assumption

theorem State.verifyPin_frame (x a1 a2 a3 a4 a5 a6) (h : Frame ch s x)
        (w : ([.tnd, .kst, .slc, .commits, .log] : List Block) ⊆ ch) :
    Frame ch s (State.verifyPin x a1 a2 a3 a4 a5 a6).1 := by
  delta State.verifyPin
  split
  · dsimp only
    refine State.countFailure_frame _ _ _ _ ?_ (List.Subset.trans (by decide) w)
    assumption
  · refine Frame.fstIte ?_ ?_
    · split
      · dsimp only
        assumption
      · dsimp only
        refine State.clearFails_frame _ _ _ ?_ (List.Subset.trans (by decide) w)
        assumption
    · dsimp only
      refine State.countFailure_frame _ _ _ _ ?_ (List.Subset.trans (by decide) w)
      assumption

theorem State.pinVerifyVerb_frame (x a1 a2 a3) (h : Frame ch s x)
        (w : ([.host, .queues, .tnd, .fabric, .clusters, .kst, .mea, .slc, .ngl, .regions, .commits, .log, .m] :
      List Block) ⊆ ch) :
    FrameC ch s (State.pinVerifyVerb x a1 a2 a3) := by
  delta State.pinVerifyVerb
  refine FrameC.bind (fun y1 => ?_)
  split
  extract_lets +onlyGivenNames y2
  clear_value y2
  refine FrameC.bindS ?_ (fun y3 h3 => ?_)
  · refine State.lockoutCheck_frame _ _ _ _ ?_ (List.Subset.trans (by decide) w)
    refine State.useWrap_frame _ _ ?_ (List.Subset.trans (by decide) w)
    assumption
  · extract_lets +onlyGivenNames y4
    have h4 : Frame ch s y4 := by
      unfold y4
      refine State.loadSbu_frame _ _ _ ?_ (List.Subset.trans (by decide) w)
      refine State.loadPin_frame _ _ _ _ ?_ (List.Subset.trans (by decide) w)
      refine State.reach12_frame _ _ _ _ _ ?_ (List.Subset.trans (by decide) w)
      assumption
    clear_value y4
    refine FrameC.ite ?_ ?_
    · refine FrameC.pure ?_
      refine State.finishS_frame _ _ _ _ _ _ _ _ _ ?_ ?_ (List.Subset.trans (by decide) w)
      · assumption
      · intro y5 h6
        dsimp only [id]
        assumption
    · extract_lets +onlyGivenNames y7
      extract_lets +onlyGivenNames y8
      clear_value y8
      refine FrameC.pure ?_
      refine State.finishS_frame _ _ _ _ _ _ _ _ _ ?_ ?_ (List.Subset.trans (by decide) w)
      · assumption
      · intro y9 h10
        unfold y7
        refine State.verifyPin_frame _ _ _ _ _ _ _ ?_ (List.Subset.trans (by decide) w)
        assumption

theorem State.pinGenerateVerb_frame (x a1 a2 a3) (h : Frame ch s x)
        (w : ([.host, .queues, .tnd, .fabric, .clusters, .kst, .mea, .slc, .ngl, .regions, .commits, .log, .m] :
      List Block) ⊆ ch) :
    FrameC ch s (State.pinGenerateVerb x a1 a2 a3) := by
  delta State.pinGenerateVerb
  refine FrameC.bind (fun y1 => ?_)
  split
  extract_lets +onlyGivenNames y2
  have h2 : Frame ch s y2 := by
    unfold y2
    refine State.loadSbu_frame _ _ _ ?_ (List.Subset.trans (by decide) w)
    refine State.loadPin_frame _ _ _ _ ?_ (List.Subset.trans (by decide) w)
    refine State.reach12_frame _ _ _ _ _ ?_ (List.Subset.trans (by decide) w)
    assumption
  clear_value y2
  refine FrameC.ite ?_ ?_
  · refine FrameC.pure ?_
    refine State.finishS_frame _ _ _ _ _ _ _ _ _ ?_ ?_ (List.Subset.trans (by decide) w)
    · assumption
    · intro y3 h4
      dsimp only [id]
      assumption
  · split
    · refine FrameC.pure ?_
      refine State.finishS_frame _ _ _ _ _ _ _ _ _ ?_ ?_ (List.Subset.trans (by decide) w)
      · assumption
      · intro y5 h6
        dsimp only [id]
        assumption
    · refine FrameC.ite ?_ ?_
      · refine FrameC.pure ?_
        refine State.finishS_frame _ _ _ _ _ _ _ _ _ ?_ ?_ (List.Subset.trans (by decide) w)
        · assumption
        · intro y7 h8
          dsimp only [id]
          assumption
      · refine FrameC.pure ?_
        refine State.okS_frame _ _ _ _ _ _ ?_ (List.Subset.trans (by decide) w)
        assumption

theorem State.cvvVerb_frame (x a1 a2 a3) (h : Frame ch s x)
        (w : ([.host, .queues, .tnd, .fabric, .clusters, .kst, .mea, .slc, .ngl, .regions, .commits, .log, .m] :
      List Block) ⊆ ch) :
    FrameC ch s (State.cvvVerb x a1 a2 a3) := by
  delta State.cvvVerb
  refine FrameC.bind (fun y1 => ?_)
  split
  extract_lets +onlyGivenNames y2
  have h2 : Frame ch s y2 := by
    unfold y2
    refine State.loadSbu_frame _ _ _ ?_ (List.Subset.trans (by decide) w)
    refine State.reach12_frame _ _ _ _ _ ?_ (List.Subset.trans (by decide) w)
    assumption
  clear_value y2
  refine FrameC.ite ?_ ?_
  · refine FrameC.pure ?_
    refine State.okS_frame _ _ _ _ _ _ ?_ (List.Subset.trans (by decide) w)
    assumption
  · refine FrameC.pure ?_
    refine State.finishS_frame _ _ _ _ _ _ _ _ _ ?_ ?_ (List.Subset.trans (by decide) w)
    · assumption
    · intro y3 h4
      dsimp only [id]
      assumption

theorem State.spendFuses_frame (x a1) (h : Frame ch s x) (w : ([.fuses] : List Block) ⊆ ch) :
    Frame ch s (State.spendFuses x a1) := by
  delta State.spendFuses
  apply Frame.upd <;> first | assumption | exact Or.inl (w (by decide)) | exact Or.inr rfl | exact List.suffix_rfl

theorem State.blowRoots_frame (x a1) (h : Frame ch s x) (w : ([.fuses] : List Block) ⊆ ch) :
    Frame ch s (State.blowRoots x a1) := by
  delta State.blowRoots
  refine State.spendFuses_frame _ _ ?_ (List.Subset.trans (by decide) w)
  apply Frame.upd <;> first | assumption | exact Or.inl (w (by decide)) | exact Or.inr rfl | exact List.suffix_rfl

theorem State.useToken_frame (x a1) (h : Frame ch s x) (w : ([.fuses] : List Block) ⊆ ch) :
    Frame ch s (State.useToken x a1) := by
  delta State.useToken
  extract_lets +onlyGivenNames y1
  clear_value y1
  refine State.spendFuses_frame _ _ ?_ (List.Subset.trans (by decide) w)
  apply Frame.upd <;> first | assumption | exact Or.inl (w (by decide)) | exact Or.inr rfl | exact List.suffix_rfl

theorem State.blowPosition_frame (x a1) (h : Frame ch s x) (w : ([.fuses] : List Block) ⊆ ch) :
    Frame ch s (State.blowPosition x a1) := by
  delta State.blowPosition
  extract_lets +onlyGivenNames y1
  clear_value y1
  refine State.spendFuses_frame _ _ ?_ (List.Subset.trans (by decide) w)
  apply Frame.upd <;> first | assumption | exact Or.inl (w (by decide)) | exact Or.inr rfl | exact List.suffix_rfl

theorem State.startTransition_frame (x a1 a2 a3) (h : Frame ch s x) (w : ([.fuses, .log, .lc] : List Block) ⊆ ch) :
    Frame ch s (State.startTransition x a1 a2 a3) := by
  delta State.startTransition
  extract_lets +onlyGivenNames y1
  clear_value y1
  extract_lets +onlyGivenNames y2
  extract_lets +onlyGivenNames y3
  extract_lets +onlyGivenNames y4
  have h4 : Frame ch s y4 := by
    unfold y4
    apply Frame.upd <;> first | assumption | exact Or.inl (w (by decide)) | exact Or.inr rfl | exact List.suffix_rfl
  clear_value y4
  refine State.logG_frame _ _ _ ?_ (List.Subset.trans (by decide) w)
  refine State.useToken_frame _ _ ?_ (List.Subset.trans (by decide) w)
  assumption

theorem State.forgetErased_frame (x a1) (h : Frame ch s x) (w : ([.commits] : List Block) ⊆ ch) :
    Frame ch s (State.forgetErased x a1) := by
  delta State.forgetErased
  apply Frame.upd <;> first | assumption | exact Or.inl (w (by decide)) | exact Or.inr rfl | exact List.suffix_rfl

theorem State.eraseDomain_frame (x) (h : Frame ch s x)
        (w : ([.clusters, .kst, .roots, .mea, .slc, .commits, .tam, .custody] : List Block) ⊆ ch) :
    Frame ch s (State.eraseDomain x) := by
  delta State.eraseDomain
  extract_lets +onlyGivenNames y1
  extract_lets +onlyGivenNames y2
  extract_lets +onlyGivenNames y3
  extract_lets +onlyGivenNames y4
  extract_lets +onlyGivenNames y5
  extract_lets +onlyGivenNames y6
  have h6 : Frame ch s y6 := by
    unfold y6
    apply Frame.upd <;> first | assumption | exact Or.inl (w (by decide)) | exact Or.inr rfl | exact List.suffix_rfl
  clear_value y6
  refine State.zeroVolatileKeys_frame _ ?_ (List.Subset.trans (by decide) w)
  refine State.forgetErased_frame _ _ ?_ (List.Subset.trans (by decide) w)
  assumption

theorem State.eraseMram_frame (x) (h : Frame ch s x)
        (w : ([.fabric, .mea, .per, .commits, .log, .store] : List Block) ⊆ ch) :
    Frame ch s (State.eraseMram x) := by
  delta State.eraseMram
  extract_lets +onlyGivenNames y1
  have h1 : Frame ch s y1 := by
    unfold y1
    refine State.forgetErased_frame _ _ ?_ (List.Subset.trans (by decide) w)
    assumption
  clear_value y1
  apply Frame.upd <;> first | assumption | exact Or.inl (w (by decide)) | exact Or.inr rfl | exact List.suffix_rfl

theorem State.eraseFor_frame (x a1 a2) (h : Frame ch s x)
        (w : ([.fuses, .fabric, .clusters, .kst, .roots, .mea, .slc, .per, .commits, .log, .store, .tam, .custody,
      .m] : List Block) ⊆ ch) :
    Frame ch s (State.eraseFor x a1 a2) := by
  delta State.eraseFor
  extract_lets +onlyGivenNames y1
  have h1 : Frame ch s y1 := by
    unfold y1
    refine State.eraseDomain_frame _ ?_ (List.Subset.trans (by decide) w)
    assumption
  clear_value y1
  split
  · refine State.eraseMram_frame _ ?_ (List.Subset.trans (by decide) w)
    assumption
  · extract_lets +onlyGivenNames y2
    clear_value y2
    extract_lets +onlyGivenNames y3
    have h3 : Frame ch s y3 := by
      unfold y3
      refine State.spendFuses_frame _ _ ?_ (List.Subset.trans (by decide) w)
      assumption
    clear_value y3
    apply Frame.upd <;> first | assumption | exact Or.inl (w (by decide)) | exact Or.inr rfl | exact List.suffix_rfl
  · extract_lets +onlyGivenNames y4
    have h4 : Frame ch s y4 := by
      unfold y4
      refine State.logG_frame _ _ _ ?_ (List.Subset.trans (by decide) w)
      assumption
    clear_value y4
    extract_lets +onlyGivenNames y5
    have h5 : Frame ch s y5 := by
      unfold y5
      refine State.sealRecord_frame _ ?_ (List.Subset.trans (by decide) w)
      assumption
    clear_value y5
    extract_lets +onlyGivenNames y6
    have h6 : Frame ch s y6.2 := by
      unfold y6
      refine State.draw_frame _ _ ?_ (List.Subset.trans (by decide) w)
      assumption
    clear_value y6
    extract_lets +onlyGivenNames y7
    clear_value y7
    extract_lets +onlyGivenNames y8
    clear_value y8
    extract_lets +onlyGivenNames y9
    have h9 : Frame ch s y9 := by
      unfold y9
      refine State.blowRoots_frame _ _ ?_ (List.Subset.trans (by decide) w)
      assumption
    clear_value y9
    apply Frame.upd <;> first | assumption | exact Or.inl (w (by decide)) | exact Or.inr rfl | exact List.suffix_rfl
  · extract_lets +onlyGivenNames y10
    have h10 : Frame ch s y10 := by
      unfold y10
      refine State.blowRoots_frame _ _ ?_ (List.Subset.trans (by decide) w)
      refine State.eraseMram_frame _ ?_ (List.Subset.trans (by decide) w)
      assumption
    clear_value y10
    apply Frame.upd <;> first | assumption | exact Or.inl (w (by decide)) | exact Or.inr rfl | exact List.suffix_rfl
  · assumption

theorem State.transitionErase_frame (x a1 a2) (h : Frame ch s x)
        (w : ([.fuses, .fabric, .clusters, .kst, .roots, .mea, .slc, .per, .commits, .log, .store, .tam, .lc,
      .custody, .m] : List Block) ⊆ ch) :
    Frame ch s (State.transitionErase x a1 a2) := by
  delta State.transitionErase
  refine State.blowPosition_frame _ _ ?_ (List.Subset.trans (by decide) w)
  extract_lets +onlyGivenNames y1
  have h1 : Frame ch s y1 := by
    unfold y1
    refine State.eraseFor_frame _ _ _ ?_ (List.Subset.trans (by decide) w)
    assumption
  clear_value y1
  apply Frame.upd <;> first | assumption | exact Or.inl (w (by decide)) | exact Or.inr rfl | exact List.suffix_rfl

theorem State.transitionDone_frame (x a1 a2) (h : Frame ch s x) (w : ([.log, .lc] : List Block) ⊆ ch) :
    Frame ch s (State.transitionDone x a1 a2) := by
  delta State.transitionDone
  extract_lets +onlyGivenNames y1
  extract_lets +onlyGivenNames y2
  have h2 : Frame ch s y2 := by
    unfold y2
    apply Frame.upd <;> first | assumption | exact Or.inl (w (by decide)) | exact Or.inr rfl | exact List.suffix_rfl
  clear_value y2
  refine Frame.ite ?_ ?_
  · assumption
  · refine State.logG_frame _ _ _ ?_ (List.Subset.trans (by decide) w)
    assumption

theorem State.recoverTransition_frame (x a1) (h : Frame ch s x)
        (w : ([.fuses, .fabric, .clusters, .kst, .roots, .mea, .slc, .per, .commits, .log, .store, .tam, .lc,
      .custody, .m] : List Block) ⊆ ch) :
    Frame ch s (State.recoverTransition x a1) := by
  delta State.recoverTransition
  extract_lets +onlyGivenNames y1
  clear_value y1
  extract_lets +onlyGivenNames y2
  clear_value y2
  split
  · extract_lets +onlyGivenNames y3
    have h3 : Frame ch s y3 := by
      unfold y3
      refine State.useToken_frame _ _ ?_ (List.Subset.trans (by decide) w)
      assumption
    clear_value y3
    extract_lets +onlyGivenNames y4
    extract_lets +onlyGivenNames y5
    have h5 : Frame ch s y5 := by
      unfold y5
      apply Frame.upd <;> first | assumption | exact Or.inl (w (by decide)) | exact Or.inr rfl | exact List.suffix_rfl
    clear_value y5
    extract_lets +onlyGivenNames y6
    have h6 : Frame ch s y6 := by
      unfold y6
      refine State.transitionErase_frame _ _ _ ?_ (List.Subset.trans (by decide) w)
      assumption
    clear_value y6
    extract_lets +onlyGivenNames y7
    have h7 : Frame ch s y7 := by
      unfold y7
      refine Frame.ite ?_ ?_
      · assumption
      · refine State.logG_frame _ _ _ ?_ (List.Subset.trans (by decide) w)
        assumption
    clear_value y7
    refine State.transitionDone_frame _ _ _ ?_ (List.Subset.trans (by decide) w)
    assumption
  · split
    · assumption
    · refine Frame.ite ?_ ?_
      · extract_lets +onlyGivenNames y8
        extract_lets +onlyGivenNames y9
        have h9 : Frame ch s y9 := by
          unfold y9
          apply Frame.upd <;> first | assumption | exact Or.inl (w (by decide)) | exact Or.inr rfl | exact List.suffix_rfl
        clear_value y9
        extract_lets +onlyGivenNames y10
        have h10 : Frame ch s y10 := by
          unfold y10
          refine State.useToken_frame _ _ ?_ (List.Subset.trans (by decide) w)
          assumption
        clear_value y10
        extract_lets +onlyGivenNames y11
        have h11 : Frame ch s y11 := by
          unfold y11
          refine State.logG_frame _ _ _ ?_ (List.Subset.trans (by decide) w)
          assumption
        clear_value y11
        refine State.transitionDone_frame _ _ _ ?_ (List.Subset.trans (by decide) w)
        assumption
      · apply Frame.upd <;> first | assumption | exact Or.inl (w (by decide)) | exact Or.inr rfl | exact List.suffix_rfl

theorem State.tapLoad_frame (x a1) (h : Frame ch s x) (w : ([.stage, .lc] : List Block) ⊆ ch) :
    Frame ch s (State.tapLoad x a1) := by
  delta State.tapLoad
  extract_lets +onlyGivenNames y1
  clear_value y1
  extract_lets +onlyGivenNames y2
  clear_value y2
  apply Frame.upd <;> first | assumption | exact Or.inl (w (by decide)) | exact Or.inr rfl | exact List.suffix_rfl

theorem State.lcAnswer_frame (x a1) (h : Frame ch s x) (w : ([.lc, .m] : List Block) ⊆ ch) :
    Frame ch s (State.lcAnswer x a1) := by
  delta State.lcAnswer
  refine State.emit_frame _ _ ?_ (List.Subset.trans (by decide) w)
  apply Frame.upd <;> first | assumption | exact Or.inl (w (by decide)) | exact Or.inr rfl | exact List.suffix_rfl

theorem State.tokenRejected_frame (x a1 a2) (h : Frame ch s x) (w : ([.log] : List Block) ⊆ ch) :
    Frame ch s (State.tokenRejected x a1 a2) := by
  delta State.tokenRejected
  refine State.logG_frame _ _ _ ?_ (List.Subset.trans (by decide) w)
  assumption

theorem State.fuseAnswer_frame (x a1) (h : Frame ch s x) (w : ([.lc, .m] : List Block) ⊆ ch) :
    Frame ch s (State.fuseAnswer x a1) := by
  delta State.fuseAnswer
  refine State.emit_frame _ _ ?_ (List.Subset.trans (by decide) w)
  apply Frame.upd <;> first | assumption | exact Or.inl (w (by decide)) | exact Or.inr rfl | exact List.suffix_rfl

theorem State.ceremonyVerb_frame (x a1 a2 a3 a4 a5 a6 a7) (h : Frame ch s x) (ha7 : ∀ z0 z1 z2, Frame ch s z2 → FrameC ch s (a7 z0 z1 z2))
        (w : ([.alert, .unsealed, .pat, .host, .queues, .tnd, .clusters, .kst, .roots, .mea, .meas, .slc, .ngl,
      .regions, .per, .commits, .log, .store, .tam, .dcc, .custody, .cards, .m] : List Block) ⊆ ch) :
    Frame ch s (State.ceremonyVerb x a1 a2 a3 a4 a5 a6 a7) := by
  delta State.ceremonyVerb
  refine State.runVerb_frame _ _ _ _ ?_ ?_ (List.Subset.trans (by decide) w)
  · assumption
  · intro y1 y2 h3
    refine FrameC.bind (fun y4 => ?_)
    extract_lets +onlyGivenNames y5
    have h5 : Frame ch s y5.2 := by
      unfold y5
      refine State.decide2_frame _ _ _ _ _ _ ?_ (List.Subset.trans (by decide) w)
      assumption
    clear_value y5
    refine FrameC.ite ?_ ?_
    · refine FrameC.pure ?_
      refine State.stopItem_frame _ _ _ ?_ (List.Subset.trans (by decide) w)
      assumption
    · split
      · refine FrameC.pure ?_
        refine Frame.ofOk ‹_› ?_
        solve_by_elim
      · refine FrameC.pure ?_
        refine State.stopItem_frame _ _ _ ?_ (List.Subset.trans (by decide) w)
        assumption

theorem State.clearLatches_frame (x a1 a2) (h : Frame ch s x) (w : ([.tam] : List Block) ⊆ ch) :
    Frame ch s (State.clearLatches x a1 a2) := by
  delta State.clearLatches
  extract_lets +onlyGivenNames y1
  clear_value y1
  apply Frame.upd <;> first | assumption | exact Or.inl (w (by decide)) | exact Or.inr rfl | exact List.suffix_rfl

theorem State.deployBy_frame (x a1 a2 a3) (h : Frame ch s x)
        (w : ([.alert, .unsealed, .fuses, .pat, .host, .queues, .tnd, .clusters, .kst, .roots, .mea, .meas, .slc,
      .ngl, .regions, .per, .commits, .log, .store, .tam, .lc, .dcc, .custody, .cards, .m] : List Block) ⊆ ch) :
    Frame ch s (State.deployBy x a1 a2 a3) := by
  delta State.deployBy
  extract_lets +onlyGivenNames y1
  have h1 : Frame ch s y1.2 := by
    unfold y1
    refine State.decide2_frame _ _ _ _ _ _ ?_ (List.Subset.trans (by decide) w)
    assumption
  clear_value y1
  refine Frame.ite ?_ ?_
  · refine State.stopItem_frame _ _ _ ?_ (List.Subset.trans (by decide) w)
    refine State.tokenRejected_frame _ _ _ ?_ (List.Subset.trans (by decide) w)
    assumption
  · refine State.modItem_frame _ _ _ ?_ (List.Subset.trans (by decide) w)
    refine State.startTransition_frame _ _ _ _ ?_ (List.Subset.trans (by decide) w)
    assumption

theorem State.startIssuing_frame (x a1) (h : Frame ch s x) (w : ([.tnd, .mea, .dcc, .cards, .m] : List Block) ⊆ ch) :
    Frame ch s (State.startIssuing x a1) := by
  delta State.startIssuing
  extract_lets +onlyGivenNames y1
  have h1 : Frame ch s y1 := by
    unfold y1
    refine State.modSession_frame _ _ ?_ (List.Subset.trans (by decide) w)
    assumption
  clear_value y1
  extract_lets +onlyGivenNames y2
  have h2 : Frame ch s y2 := by
    unfold y2
    refine State.modItem_frame _ _ _ ?_ (List.Subset.trans (by decide) w)
    assumption
  clear_value y2
  refine Frame.fold ?_ (fun y3 a3 h3 => ?_)
  · assumption
  · extract_lets +onlyGivenNames y4
    refine Frame.ite ?_ ?_
    · refine State.beginExchange_frame _ _ ?_ (List.Subset.trans (by decide) w)
      assumption
    · assumption

theorem State.dropShares_frame (x a1 a2) (h : Frame ch s x)
        (w : ([.host, .queues, .tnd, .clusters, .kst, .mea, .slc, .ngl, .regions, .commits, .log, .dcc, .m] : List
      Block) ⊆ ch) :
    Frame ch s (State.dropShares x a1 a2) := by
  delta State.dropShares
  refine State.stopItem_frame _ _ _ ?_ (List.Subset.trans (by decide) w)
  refine State.modSession_frame _ _ ?_ (List.Subset.trans (by decide) w)
  assumption

theorem State.stepCalendar_frame (x a1) (h : Frame ch s x) (w : ([.slc, .per] : List Block) ⊆ ch) :
    Frame ch s (State.stepCalendar x a1) := by
  delta State.stepCalendar
  extract_lets +onlyGivenNames y1
  clear_value y1
  extract_lets +onlyGivenNames y2
  clear_value y2
  extract_lets +onlyGivenNames y3
  extract_lets +onlyGivenNames y4
  have h4 : Frame ch s y4 := by
    unfold y4
    apply Frame.upd <;> first | assumption | exact Or.inl (w (by decide)) | exact Or.inr rfl | exact List.suffix_rfl
  clear_value y4
  apply Frame.upd <;> first | assumption | exact Or.inl (w (by decide)) | exact Or.inr rfl | exact List.suffix_rfl

theorem State.sdOver_frame (x) (h : Frame ch s x) (w : ([.cards] : List Block) ⊆ ch) :
    Frame ch s (State.sdOver x) := by
  delta State.sdOver
  extract_lets +onlyGivenNames y1
  extract_lets +onlyGivenNames y2
  have h2 : Frame ch s y2 := by
    unfold y2
    apply Frame.upd <;> first | assumption | exact Or.inl (w (by decide)) | exact Or.inr rfl | exact List.suffix_rfl
  clear_value y2
  refine Frame.ite ?_ ?_
  · refine State.sdPowerDown_frame _ _ ?_ (List.Subset.trans (by decide) w)
    assumption
  · assumption

theorem State.archiveFails_frame (x a1 a2 a3) (h : Frame ch s x)
        (w : ([.host, .queues, .tnd, .clusters, .kst, .mea, .meas, .slc, .ngl, .regions, .per, .commits, .log,
      .store, .dcc, .custody, .cards, .m] : List Block) ⊆ ch) :
    Frame ch s (State.archiveFails x a1 a2 a3) := by
  delta State.archiveFails
  extract_lets +onlyGivenNames y1
  clear_value y1
  extract_lets +onlyGivenNames y2
  extract_lets +onlyGivenNames y3
  have h3 : Frame ch s y3 := by
    unfold y3
    refine Frame.ite ?_ ?_
    · apply Frame.upd <;> first | assumption | exact Or.inl (w (by decide)) | exact Or.inr rfl | exact List.suffix_rfl
    · assumption
  clear_value y3
  extract_lets +onlyGivenNames y4
  extract_lets +onlyGivenNames y5
  have h5 : Frame ch s y5 := by
    unfold y5
    refine Frame.ite ?_ ?_
    · apply Frame.upd <;> first | assumption | exact Or.inl (w (by decide)) | exact Or.inr rfl | exact List.suffix_rfl
    · assumption
  clear_value y5
  extract_lets +onlyGivenNames y6
  have h6 : Frame ch s y6 := by
    unfold y6
    refine State.stopItem_frame _ _ _ ?_ (List.Subset.trans (by decide) w)
    assumption
  clear_value y6
  split
  · refine Frame.ite ?_ ?_
    · refine State.endSession_frame _ _ ?_ (List.Subset.trans (by decide) w)
      assumption
    · assumption
  · assumption

theorem State.sdFails_frame (x a1 a2) (h : Frame ch s x)
        (w : ([.host, .queues, .tnd, .clusters, .kst, .mea, .meas, .slc, .ngl, .regions, .per, .commits, .log,
      .store, .dcc, .custody, .cards, .m] : List Block) ⊆ ch) :
    Frame ch s (State.sdFails x a1 a2) := by
  delta State.sdFails
  split
  · assumption
  · extract_lets +onlyGivenNames y1
    have h1 : Frame ch s y1 := by
      unfold y1
      refine Frame.ite ?_ ?_
      · refine State.logG_frame _ _ _ ?_ (List.Subset.trans (by decide) w)
        assumption
      · assumption
    clear_value y1
    extract_lets +onlyGivenNames y2
    have h2 : Frame ch s y2 := by
      unfold y2
      refine State.sdOver_frame _ ?_ (List.Subset.trans (by decide) w)
      assumption
    clear_value y2
    extract_lets +onlyGivenNames y3
    have h3 : Frame ch s y3 := by
      unfold y3
      refine Frame.ite ?_ ?_
      · refine State.sdCycle_frame _ ?_ (List.Subset.trans (by decide) w)
        assumption
      · assumption
    clear_value y3
    refine State.archiveFails_frame _ _ _ _ ?_ (List.Subset.trans (by decide) w)
    assumption

theorem State.sdDone_frame (x a1 a2 a3) (h : Frame ch s x)
        (w : ([.tnd, .ngl, .commits, .cards, .m] : List Block) ⊆ ch) :
    Frame ch s (State.sdDone x a1 a2 a3) := by
  delta State.sdDone
  refine State.finishM_frame _ _ _ _ _ _ _ _ _ _ ?_ (List.Subset.trans (by decide) w)
  refine State.sdOver_frame _ ?_ (List.Subset.trans (by decide) w)
  assumption

theorem State.keepArchive_frame (x a1) (h : Frame ch s x) (w : ([.cards] : List Block) ⊆ ch) :
    Frame ch s (State.keepArchive x a1) := by
  delta State.keepArchive
  apply Frame.upd <;> first | assumption | exact Or.inl (w (by decide)) | exact Or.inr rfl | exact List.suffix_rfl

theorem State.fetchRecord_frame (x a1 a2) (h : Frame ch s x) (w : ([.host, .cards, .m] : List Block) ⊆ ch) :
    Frame ch s (State.fetchRecord x a1 a2) := by
  delta State.fetchRecord
  refine State.hostWrite_frame _ _ ?_ (List.Subset.trans (by decide) w)
  apply Frame.upd <;> first | assumption | exact Or.inl (w (by decide)) | exact Or.inr rfl | exact List.suffix_rfl

theorem State.writeRecord_frame (x a1 a2 a3) (h : Frame ch s x) (w : ([.cards, .m] : List Block) ⊆ ch) :
    Frame ch s (State.writeRecord x a1 a2 a3) := by
  delta State.writeRecord
  extract_lets +onlyGivenNames y1
  clear_value y1
  extract_lets +onlyGivenNames y2
  clear_value y2
  extract_lets +onlyGivenNames y3
  have h3 : Frame ch s y3.2 := by
    unfold y3
    refine State.draw_frame _ _ ?_ (List.Subset.trans (by decide) w)
    assumption
  clear_value y3
  extract_lets +onlyGivenNames y4
  clear_value y4
  extract_lets +onlyGivenNames y5
  clear_value y5
  extract_lets +onlyGivenNames y6
  clear_value y6
  extract_lets +onlyGivenNames y7
  clear_value y7
  extract_lets +onlyGivenNames y8
  clear_value y8
  extract_lets +onlyGivenNames y9
  extract_lets +onlyGivenNames y10
  refine State.sdGo_frame _ _ ?_ (List.Subset.trans (by decide) w)
  assumption

theorem State.infoDone_frame (x a1 a2 a3) (h : Frame ch s x)
        (w : ([.tnd, .ngl, .commits, .cards, .m] : List Block) ⊆ ch) :
    Frame ch s (State.infoDone x a1 a2 a3) := by
  delta State.infoDone
  extract_lets +onlyGivenNames y1
  clear_value y1
  refine State.sdDone_frame _ _ _ _ ?_ (List.Subset.trans (by decide) w)
  assumption

theorem State.sdOpened_frame (x a1 a2 a3) (h : Frame ch s x)
        (w : ([.host, .queues, .tnd, .clusters, .kst, .mea, .meas, .slc, .ngl, .regions, .per, .commits, .log,
      .store, .dcc, .custody, .cards, .m] : List Block) ⊆ ch) :
    Frame ch s (State.sdOpened x a1 a2 a3) := by
  delta State.sdOpened
  split
  · refine Frame.ite ?_ ?_
    · refine State.sdFails_frame _ _ _ ?_ (List.Subset.trans (by decide) w)
      assumption
    · refine Frame.ite ?_ ?_
      · refine State.sdFails_frame _ _ _ ?_ (List.Subset.trans (by decide) w)
        assumption
      · split
        · refine State.sdGo_frame _ _ ?_ (List.Subset.trans (by decide) w)
          assumption
        · refine State.fetchRecord_frame _ _ _ ?_ (List.Subset.trans (by decide) w)
          assumption
  · extract_lets +onlyGivenNames y1
    clear_value y1
    refine Frame.ite ?_ ?_
    · refine State.sdFails_frame _ _ _ ?_ (List.Subset.trans (by decide) w)
      assumption
    · split
      · refine State.sdGo_frame _ _ ?_ (List.Subset.trans (by decide) w)
        assumption
      · refine State.sdGo_frame _ _ ?_ (List.Subset.trans (by decide) w)
        assumption
  · refine State.infoDone_frame _ _ _ _ ?_ (List.Subset.trans (by decide) w)
    assumption
  · refine Frame.ite ?_ ?_
    · refine State.sdDone_frame _ _ _ _ ?_ (List.Subset.trans (by decide) w)
      assumption
    · refine Frame.ite ?_ ?_
      · refine State.sdFails_frame _ _ _ ?_ (List.Subset.trans (by decide) w)
        assumption
      · extract_lets +onlyGivenNames y2
        refine State.sdGo_frame _ _ ?_ (List.Subset.trans (by decide) w)
        assumption
  · refine Frame.ite ?_ ?_
    · refine State.sdFails_frame _ _ _ ?_ (List.Subset.trans (by decide) w)
      assumption
    · refine Frame.ite ?_ ?_
      · refine State.sdFails_frame _ _ _ ?_ (List.Subset.trans (by decide) w)
        assumption
      · refine State.sdGo_frame _ _ ?_ (List.Subset.trans (by decide) w)
        assumption
  · assumption

theorem State.sdBegin_frame (x a1) (h : Frame ch s x)
        (w : ([.host, .queues, .tnd, .clusters, .kst, .mea, .meas, .slc, .ngl, .regions, .per, .commits, .log,
      .store, .dcc, .custody, .cards, .m] : List Block) ⊆ ch) :
    Frame ch s (State.sdBegin x a1) := by
  delta State.sdBegin
  split
  · assumption
  · extract_lets +onlyGivenNames y1
    extract_lets +onlyGivenNames y2
    extract_lets +onlyGivenNames y3
    have h3 : Frame ch s y3 := by
      unfold y3
      apply Frame.upd <;> first | assumption | exact Or.inl (w (by decide)) | exact Or.inr rfl | exact List.suffix_rfl
    clear_value y3
    split
    · refine Frame.ite ?_ ?_
      · refine State.sdGo_frame _ _ ?_ (List.Subset.trans (by decide) w)
        assumption
      · refine State.sdOpened_frame _ _ _ _ ?_ (List.Subset.trans (by decide) w)
        assumption
    · refine State.sdGo_frame _ _ ?_ (List.Subset.trans (by decide) w)
      assumption

theorem State.sdSubmit_frame (x a1) (h : Frame ch s x)
        (w : ([.host, .queues, .tnd, .clusters, .kst, .mea, .meas, .slc, .ngl, .regions, .per, .commits, .log,
      .store, .dcc, .custody, .cards, .m] : List Block) ⊆ ch) :
    FrameC ch s (State.sdSubmit x a1) := by
  delta State.sdSubmit
  refine FrameC.ite ?_ ?_
  · refine FrameC.pure ?_
    refine State.archiveFails_frame _ _ _ _ ?_ (List.Subset.trans (by decide) w)
    assumption
  · refine FrameC.ite ?_ ?_
    · refine FrameC.pure ?_
      refine State.archiveFails_frame _ _ _ _ ?_ (List.Subset.trans (by decide) w)
      assumption
    · refine FrameC.ite ?_ ?_
      · exact FrameC.wait
      · extract_lets +onlyGivenNames y1
        have h1 : Frame ch s y1 := by
          unfold y1
          refine State.modItem_frame _ _ _ ?_ (List.Subset.trans (by decide) w)
          assumption
        clear_value y1
        refine FrameC.ite ?_ ?_
        · refine FrameC.pure ?_
          refine State.sdBegin_frame _ _ ?_ (List.Subset.trans (by decide) w)
          assumption
        · refine FrameC.pure ?_
          apply Frame.upd <;> first | assumption | exact Or.inl (w (by decide)) | exact Or.inr rfl | exact List.suffix_rfl

theorem State.archiveVerb_frame (x a1 a2 a3 a4 a5) (h : Frame ch s x)
        (w : ([.host, .queues, .tnd, .clusters, .kst, .mea, .meas, .slc, .ngl, .regions, .per, .commits, .log,
      .store, .dcc, .custody, .cards, .m] : List Block) ⊆ ch) :
    Frame ch s (State.archiveVerb x a1 a2 a3 a4 a5) := by
  delta State.archiveVerb
  refine State.runVerb_frame _ _ _ _ ?_ ?_ (List.Subset.trans (by decide) w)
  · assumption
  · intro y1 y2 h3
    refine FrameC.bind (fun y4 => ?_)
    refine State.sdSubmit_frame _ _ ?_ (List.Subset.trans (by decide) w)
    apply Frame.upd <;> first | assumption | exact Or.inl (w (by decide)) | exact Or.inr rfl | exact List.suffix_rfl

theorem State.sdReady_frame (x) (h : Frame ch s x)
        (w : ([.host, .queues, .tnd, .clusters, .kst, .mea, .meas, .slc, .ngl, .regions, .per, .commits, .log,
      .store, .dcc, .custody, .cards, .m] : List Block) ⊆ ch) :
    Frame ch s (State.sdReady x) := by
  delta State.sdReady
  extract_lets +onlyGivenNames y1
  extract_lets +onlyGivenNames y2
  have h2 : Frame ch s y2 := by
    unfold y2
    apply Frame.upd <;> first | assumption | exact Or.inl (w (by decide)) | exact Or.inr rfl | exact List.suffix_rfl
  clear_value y2
  split
  · refine State.sdIssueNow_frame _ _ ?_ (List.Subset.trans (by decide) w)
    assumption
  · split
    · refine State.sdBegin_frame _ _ ?_ (List.Subset.trans (by decide) w)
      apply Frame.upd <;> first | assumption | exact Or.inl (w (by decide)) | exact Or.inr rfl | exact List.suffix_rfl
    · assumption

theorem State.initFails_frame (x a1) (h : Frame ch s x)
        (w : ([.host, .queues, .tnd, .clusters, .kst, .mea, .meas, .slc, .ngl, .regions, .per, .commits, .log,
      .store, .dcc, .custody, .cards, .m] : List Block) ⊆ ch) :
    Frame ch s (State.initFails x a1) := by
  delta State.initFails
  refine Frame.ite ?_ ?_
  · refine State.sdCycle_frame _ ?_ (List.Subset.trans (by decide) w)
    apply Frame.upd <;> first | assumption | exact Or.inl (w (by decide)) | exact Or.inr rfl | exact List.suffix_rfl
  · extract_lets +onlyGivenNames y1
    extract_lets +onlyGivenNames y2
    have h2 : Frame ch s y2 := by
      unfold y2
      refine State.logG_frame _ _ _ ?_ (List.Subset.trans (by decide) w)
      apply Frame.upd <;> first | assumption | exact Or.inl (w (by decide)) | exact Or.inr rfl | exact List.suffix_rfl
    clear_value y2
    split
    · refine State.archiveFails_frame _ _ _ _ ?_ (List.Subset.trans (by decide) w)
      apply Frame.upd <;> first | assumption | exact Or.inl (w (by decide)) | exact Or.inr rfl | exact List.suffix_rfl
    · assumption

theorem State.sdTryMode_frame (x) (h : Frame ch s x)
        (w : ([.host, .queues, .tnd, .clusters, .kst, .mea, .meas, .slc, .ngl, .regions, .per, .commits, .log,
      .store, .dcc, .custody, .cards, .m] : List Block) ⊆ ch) :
    Frame ch s (State.sdTryMode x) := by
  delta State.sdTryMode
  refine Frame.ite ?_ ?_
  · refine State.sdReady_frame _ ?_ (List.Subset.trans (by decide) w)
    apply Frame.upd <;> first | assumption | exact Or.inl (w (by decide)) | exact Or.inr rfl | exact List.suffix_rfl
  · refine State.sdStep_frame _ _ ?_ (List.Subset.trans (by decide) w)
    apply Frame.upd <;> first | assumption | exact Or.inl (w (by decide)) | exact Or.inr rfl | exact List.suffix_rfl

theorem State.sdNextMode_frame (x) (h : Frame ch s x)
        (w : ([.host, .queues, .tnd, .clusters, .kst, .mea, .meas, .slc, .ngl, .regions, .per, .commits, .log,
      .store, .dcc, .custody, .cards, .m] : List Block) ⊆ ch) :
    Frame ch s (State.sdNextMode x) := by
  delta State.sdNextMode
  refine State.sdTryMode_frame _ ?_ (List.Subset.trans (by decide) w)
  apply Frame.upd <;> first | assumption | exact Or.inl (w (by decide)) | exact Or.inr rfl | exact List.suffix_rfl

theorem State.tuneResult_frame (x a1 a2) (h : Frame ch s x)
        (w : ([.host, .queues, .tnd, .clusters, .kst, .mea, .meas, .slc, .ngl, .regions, .per, .commits, .log,
      .store, .dcc, .custody, .cards, .m] : List Block) ⊆ ch) :
    Frame ch s (State.tuneResult x a1 a2) := by
  delta State.tuneResult
  split
  · assumption
  · extract_lets +onlyGivenNames y1
    clear_value y1
    split
    · refine State.sdCmd_frame _ _ _ _ ?_ (List.Subset.trans (by decide) w)
      apply Frame.upd <;> first | assumption | exact Or.inl (w (by decide)) | exact Or.inr rfl | exact List.suffix_rfl
    · extract_lets +onlyGivenNames y2
      extract_lets +onlyGivenNames y3
      have h3 : Frame ch s y3 := by
        unfold y3
        apply Frame.upd <;> first | assumption | exact Or.inl (w (by decide)) | exact Or.inr rfl | exact List.suffix_rfl
      clear_value y3
      refine Frame.ite ?_ ?_
      · refine State.sdNextMode_frame _ ?_ (List.Subset.trans (by decide) w)
        refine State.logG_frame _ _ _ ?_ (List.Subset.trans (by decide) w)
        assumption
      · extract_lets +onlyGivenNames y4
        clear_value y4
        extract_lets +onlyGivenNames y5
        extract_lets +onlyGivenNames y6
        have h6 : Frame ch s y6 := by
          unfold y6
          apply Frame.upd <;> first | assumption | exact Or.inl (w (by decide)) | exact Or.inr rfl | exact List.suffix_rfl
        clear_value y6
        refine State.sdReady_frame _ ?_ (List.Subset.trans (by decide) w)
        refine State.logG_frame _ _ _ ?_ (List.Subset.trans (by decide) w)
        assumption

theorem State.initAnswer_frame (x a1) (h : Frame ch s x)
        (w : ([.host, .queues, .tnd, .clusters, .kst, .mea, .meas, .slc, .ngl, .regions, .per, .commits, .log,
      .store, .dcc, .custody, .cards, .m] : List Block) ⊆ ch) :
    Frame ch s (State.initAnswer x a1) := by
  delta State.initAnswer
  split
  · refine Frame.ite ?_ ?_
    · refine State.sdStep_frame _ _ ?_ (List.Subset.trans (by decide) w)
      apply Frame.upd <;> first | assumption | exact Or.inl (w (by decide)) | exact Or.inr rfl | exact List.suffix_rfl
    · refine State.initFails_frame _ _ ?_ (List.Subset.trans (by decide) w)
      assumption
  · refine Frame.ite ?_ ?_
    · extract_lets +onlyGivenNames y1
      extract_lets +onlyGivenNames y2
      have h2 : Frame ch s y2 := by
        unfold y2
        apply Frame.upd <;> first | assumption | exact Or.inl (w (by decide)) | exact Or.inr rfl | exact List.suffix_rfl
      clear_value y2
      refine State.sdStep_frame _ _ ?_ (List.Subset.trans (by decide) w)
      assumption
    · refine Frame.ite ?_ ?_
      · refine State.initFails_frame _ _ ?_ (List.Subset.trans (by decide) w)
        assumption
      · refine State.sdStep_frame _ _ ?_ (List.Subset.trans (by decide) w)
        assumption
  · refine Frame.ite ?_ ?_
    · refine State.sdStep_frame _ _ ?_ (List.Subset.trans (by decide) w)
      apply Frame.upd <;> first | assumption | exact Or.inl (w (by decide)) | exact Or.inr rfl | exact List.suffix_rfl
    · refine State.initFails_frame _ _ ?_ (List.Subset.trans (by decide) w)
      refine State.logG_frame _ _ _ ?_ (List.Subset.trans (by decide) w)
      assumption
  · refine Frame.ite ?_ ?_
    · refine State.sdStep_frame _ _ ?_ (List.Subset.trans (by decide) w)
      apply Frame.upd <;> first | assumption | exact Or.inl (w (by decide)) | exact Or.inr rfl | exact List.suffix_rfl
    · refine Frame.ite ?_ ?_
      · refine State.initFails_frame _ _ ?_ (List.Subset.trans (by decide) w)
        assumption
      · extract_lets +onlyGivenNames y3
        clear_value y3
        refine State.sdStep_frame _ _ ?_ (List.Subset.trans (by decide) w)
        extract_lets +onlyGivenNames y4
        have h4 : Frame ch s y4 := by
          unfold y4
          refine State.keepCsd_frame _ _ ?_ (List.Subset.trans (by decide) w)
          assumption
        clear_value y4
        apply Frame.upd <;> first | assumption | exact Or.inl (w (by decide)) | exact Or.inr rfl | exact List.suffix_rfl
  · extract_lets +onlyGivenNames y5
    extract_lets +onlyGivenNames y6
    have h6 : Frame ch s y6 := by
      unfold y6
      apply Frame.upd <;> first | assumption | exact Or.inl (w (by decide)) | exact Or.inr rfl | exact List.suffix_rfl
    clear_value y6
    refine Frame.ite ?_ ?_
    · refine State.initFails_frame _ _ ?_ (List.Subset.trans (by decide) w)
      assumption
    · refine State.sdStep_frame _ _ ?_ (List.Subset.trans (by decide) w)
      assumption
  · refine Frame.ite ?_ ?_
    · extract_lets +onlyGivenNames y7
      clear_value y7
      refine State.sdTryMode_frame _ ?_ (List.Subset.trans (by decide) w)
      apply Frame.upd <;> first | assumption | exact Or.inl (w (by decide)) | exact Or.inr rfl | exact List.suffix_rfl
    · extract_lets +onlyGivenNames y8
      clear_value y8
      refine Frame.ite ?_ ?_
      · extract_lets +onlyGivenNames y9
        extract_lets +onlyGivenNames y10
        have h10 : Frame ch s y10 := by
          unfold y10
          apply Frame.upd <;> first | assumption | exact Or.inl (w (by decide)) | exact Or.inr rfl | exact List.suffix_rfl
        clear_value y10
        refine Frame.ite ?_ ?_
        · refine State.sdTune_frame _ ?_ (List.Subset.trans (by decide) w)
          apply Frame.upd <;> first | assumption | exact Or.inl (w (by decide)) | exact Or.inr rfl | exact List.suffix_rfl
        · refine State.sdReady_frame _ ?_ (List.Subset.trans (by decide) w)
          assumption
      · refine State.sdNextMode_frame _ ?_ (List.Subset.trans (by decide) w)
        assumption
  · assumption

theorem State.initCrc_frame (x) (h : Frame ch s x)
        (w : ([.host, .queues, .tnd, .clusters, .kst, .mea, .meas, .slc, .ngl, .regions, .per, .commits, .log,
      .store, .dcc, .custody, .cards, .m] : List Block) ⊆ ch) :
    Frame ch s (State.initCrc x) := by
  delta State.initCrc
  extract_lets +onlyGivenNames y1
  extract_lets +onlyGivenNames y2
  have h2 : Frame ch s y2 := by
    unfold y2
    apply Frame.upd <;> first | assumption | exact Or.inl (w (by decide)) | exact Or.inr rfl | exact List.suffix_rfl
  refine Frame.ite ?_ ?_
  · refine State.sdInitIssue_frame _ ?_ (List.Subset.trans (by decide) w)
    assumption
  · refine Frame.ite ?_ ?_
    · refine Frame.ite ?_ ?_
      · refine State.sdNextMode_frame _ ?_ (List.Subset.trans (by decide) w)
        assumption
      · refine State.sdTryMode_frame _ ?_ (List.Subset.trans (by decide) w)
        assumption
    · refine State.initFails_frame _ _ ?_ (List.Subset.trans (by decide) w)
      assumption

theorem State.initTimeout_frame (x) (h : Frame ch s x)
        (w : ([.host, .queues, .tnd, .clusters, .kst, .mea, .meas, .slc, .ngl, .regions, .per, .commits, .log,
      .store, .dcc, .custody, .cards, .m] : List Block) ⊆ ch) :
    Frame ch s (State.initTimeout x) := by
  delta State.initTimeout
  split
  · refine State.sdStep_frame _ _ ?_ (List.Subset.trans (by decide) w)
    apply Frame.upd <;> first | assumption | exact Or.inl (w (by decide)) | exact Or.inr rfl | exact List.suffix_rfl
  · refine State.initFails_frame _ _ ?_ (List.Subset.trans (by decide) w)
    assumption
  · refine State.sdStep_frame _ _ ?_ (List.Subset.trans (by decide) w)
    refine State.logG_frame _ _ _ ?_ (List.Subset.trans (by decide) w)
    assumption
  · refine Frame.ite ?_ ?_
    · refine State.sdNextMode_frame _ ?_ (List.Subset.trans (by decide) w)
      assumption
    · refine State.sdTryMode_frame _ ?_ (List.Subset.trans (by decide) w)
      assumption
  · refine State.initFails_frame _ _ ?_ (List.Subset.trans (by decide) w)
    assumption

theorem State.formatWrite_frame (x a1) (h : Frame ch s x) (w : ([.cards, .m] : List Block) ⊆ ch) :
    Frame ch s (State.formatWrite x a1) := by
  delta State.formatWrite
  extract_lets +onlyGivenNames y1
  have h1 : Frame ch s y1.2 := by
    unfold y1
    refine State.draw_frame _ _ ?_ (List.Subset.trans (by decide) w)
    assumption
  clear_value y1
  extract_lets +onlyGivenNames y2
  clear_value y2
  extract_lets +onlyGivenNames y3
  extract_lets +onlyGivenNames y4
  clear_value y4
  refine State.sdGo_frame _ _ ?_ (List.Subset.trans (by decide) w)
  assumption

theorem State.labelRead_frame (x a1 a2 a3) (h : Frame ch s x)
        (w : ([.host, .queues, .tnd, .clusters, .kst, .mea, .meas, .slc, .ngl, .regions, .per, .commits, .log,
      .store, .dcc, .custody, .cards, .m] : List Block) ⊆ ch) :
    Frame ch s (State.labelRead x a1 a2 a3) := by
  delta State.labelRead
  refine Frame.ite ?_ ?_
  · refine Frame.ite ?_ ?_
    · refine State.sdFails_frame _ _ _ ?_ (List.Subset.trans (by decide) w)
      assumption
    · refine Frame.ite ?_ ?_
      · refine State.sdFails_frame _ _ _ ?_ (List.Subset.trans (by decide) w)
        assumption
      · refine State.sdGo_frame _ _ ?_ (List.Subset.trans (by decide) w)
        apply Frame.upd <;> first | assumption | exact Or.inl (w (by decide)) | exact Or.inr rfl | exact List.suffix_rfl
  · extract_lets +onlyGivenNames y1
    refine Frame.ite ?_ ?_
    · refine State.sdFails_frame _ _ _ ?_ (List.Subset.trans (by decide) w)
      apply Frame.upd <;> first | assumption | exact Or.inl (w (by decide)) | exact Or.inr rfl | exact List.suffix_rfl
    · refine Frame.ite ?_ ?_
      · extract_lets +onlyGivenNames y2
        extract_lets +onlyGivenNames y3
        have h3 : Frame ch s y3 := by
          unfold y3
          apply Frame.upd <;> first | assumption | exact Or.inl (w (by decide)) | exact Or.inr rfl | exact List.suffix_rfl
        clear_value y3
        refine Frame.ite ?_ ?_
        · refine State.infoDone_frame _ _ _ _ ?_ (List.Subset.trans (by decide) w)
          assumption
        · refine State.sdFails_frame _ _ _ ?_ (List.Subset.trans (by decide) w)
          assumption
      · refine Frame.ite ?_ ?_
        · refine State.sdFails_frame _ _ _ ?_ (List.Subset.trans (by decide) w)
          apply Frame.upd <;> first | assumption | exact Or.inl (w (by decide)) | exact Or.inr rfl | exact List.suffix_rfl
        · refine State.sdGo_frame _ _ ?_ (List.Subset.trans (by decide) w)
          assumption

theorem State.journalRead_frame (x a1 a2 a3) (h : Frame ch s x)
        (w : ([.host, .queues, .tnd, .clusters, .kst, .mea, .meas, .slc, .ngl, .regions, .per, .commits, .log,
      .store, .dcc, .custody, .cards, .m] : List Block) ⊆ ch) :
    Frame ch s (State.journalRead x a1 a2 a3) := by
  delta State.journalRead
  split
  · assumption
  · split
    · refine State.sdFails_frame _ _ _ ?_ (List.Subset.trans (by decide) w)
      apply Frame.upd <;> first | assumption | exact Or.inl (w (by decide)) | exact Or.inr rfl | exact List.suffix_rfl
    · extract_lets +onlyGivenNames y1
      have h1 : Frame ch s y1 := by
        unfold y1
        refine Frame.ite ?_ ?_
        · refine State.logG_frame _ _ _ ?_ (List.Subset.trans (by decide) w)
          assumption
        · assumption
      clear_value y1
      refine State.sdOpened_frame _ _ _ _ ?_ (List.Subset.trans (by decide) w)
      refine State.keepArchive_frame _ _ ?_ (List.Subset.trans (by decide) w)
      assumption

theorem State.newestRead_frame (x a1 a2 a3 a4) (h : Frame ch s x)
        (w : ([.host, .tnd, .ngl, .commits, .cards, .m] : List Block) ⊆ ch) :
    Frame ch s (State.newestRead x a1 a2 a3 a4) := by
  delta State.newestRead
  split
  · assumption
  · refine Frame.ite ?_ ?_
    · refine State.sdDone_frame _ _ _ _ ?_ (List.Subset.trans (by decide) w)
      assumption
    · refine State.fetchRecord_frame _ _ _ ?_ (List.Subset.trans (by decide) w)
      assumption

theorem State.recordInput_frame (x a1 a2 a3) (h : Frame ch s x)
        (w : ([.host, .queues, .tnd, .clusters, .kst, .mea, .meas, .slc, .ngl, .regions, .per, .commits, .log,
      .store, .dcc, .custody, .cards, .m] : List Block) ⊆ ch) :
    Frame ch s (State.recordInput x a1 a2 a3) := by
  delta State.recordInput
  split
  · refine Frame.ite ?_ ?_
    · assumption
    · refine Frame.ite ?_ ?_
      · refine State.sdFails_frame _ _ _ ?_ (List.Subset.trans (by decide) w)
        assumption
      · refine State.writeRecord_frame _ _ _ _ ?_ (List.Subset.trans (by decide) w)
        assumption
  · assumption

theorem State.recordBad_frame (x a1) (h : Frame ch s x)
        (w : ([.host, .queues, .tnd, .clusters, .kst, .mea, .meas, .slc, .ngl, .regions, .per, .commits, .log,
      .store, .dcc, .custody, .cards, .m] : List Block) ⊆ ch) :
    Frame ch s (State.recordBad x a1) := by
  delta State.recordBad
  refine State.sdFails_frame _ _ _ ?_ (List.Subset.trans (by decide) w)
  refine State.logG_frame _ _ _ ?_ (List.Subset.trans (by decide) w)
  assumption

theorem State.scanRead_frame (x a1 a2 a3 a4) (h : Frame ch s x)
        (w : ([.host, .queues, .tnd, .clusters, .kst, .mea, .meas, .slc, .ngl, .regions, .per, .commits, .log,
      .store, .dcc, .custody, .cards, .m] : List Block) ⊆ ch) :
    Frame ch s (State.scanRead x a1 a2 a3 a4) := by
  delta State.scanRead
  extract_lets +onlyGivenNames y1
  clear_value y1
  extract_lets +onlyGivenNames y2
  clear_value y2
  refine Frame.ite ?_ ?_
  · refine State.recordBad_frame _ _ ?_ (List.Subset.trans (by decide) w)
    assumption
  · refine Frame.ite ?_ ?_
    · refine State.sdGo_frame _ _ ?_ (List.Subset.trans (by decide) w)
      assumption
    · refine State.sdGo_frame _ _ ?_ (List.Subset.trans (by decide) w)
      assumption

theorem State.recordRead_frame (x a1 a2 a3 a4) (h : Frame ch s x)
        (w : ([.host, .queues, .tnd, .clusters, .kst, .mea, .meas, .slc, .ngl, .regions, .per, .commits, .log,
      .store, .dcc, .custody, .cards, .m] : List Block) ⊆ ch) :
    Frame ch s (State.recordRead x a1 a2 a3 a4) := by
  delta State.recordRead
  extract_lets +onlyGivenNames y1
  clear_value y1
  extract_lets +onlyGivenNames y2
  have h2 : Frame ch s y2 := by
    unfold y2
    refine State.measExtend_frame _ _ _ ?_ (List.Subset.trans (by decide) w)
    assumption
  clear_value y2
  split
  · refine State.recordBad_frame _ _ ?_ (List.Subset.trans (by decide) w)
    assumption
  · refine Frame.ite ?_ ?_
    · extract_lets +onlyGivenNames y3
      have h3 : Frame ch s y3 := by
        unfold y3
        refine State.sdOver_frame _ ?_ (List.Subset.trans (by decide) w)
        assumption
      clear_value y3
      extract_lets +onlyGivenNames y4
      extract_lets +onlyGivenNames y5
      have h5 : Frame ch s y5 := by
        unfold y5
        apply Frame.upd <;> first | assumption | exact Or.inl (w (by decide)) | exact Or.inr rfl | exact List.suffix_rfl
      clear_value y5
      refine State.settle_frame _ _ _ _ _ _ _ _ ?_ (List.Subset.trans (by decide) w)
      refine State.commitReplay_frame _ _ _ _ _ _ _ _ ?_ (List.Subset.trans (by decide) w)
      assumption
    · refine State.sdDone_frame _ _ _ _ ?_ (List.Subset.trans (by decide) w)
      assumption

theorem State.csdBack_frame (x a1 a2 a3) (h : Frame ch s x)
        (w : ([.host, .queues, .tnd, .clusters, .kst, .mea, .meas, .slc, .ngl, .regions, .per, .commits, .log,
      .store, .dcc, .custody, .cards, .m] : List Block) ⊆ ch) :
    Frame ch s (State.csdBack x a1 a2 a3) := by
  delta State.csdBack
  extract_lets +onlyGivenNames y1
  have h1 : Frame ch s y1 := by
    unfold y1
    refine State.keepCsd_frame _ _ ?_ (List.Subset.trans (by decide) w)
    assumption
  clear_value y1
  refine Frame.ite ?_ ?_
  · refine Frame.ite ?_ ?_
    · refine State.sdFails_frame _ _ _ ?_ (List.Subset.trans (by decide) w)
      assumption
    · split
      · assumption
      · refine State.ceremonyDone_frame _ _ _ _ _ _ _ _ ?_ (List.Subset.trans (by decide) w)
        refine State.logG_frame _ _ _ ?_ (List.Subset.trans (by decide) w)
        refine State.sdOver_frame _ ?_ (List.Subset.trans (by decide) w)
        assumption
  · refine Frame.ite ?_ ?_
    · refine State.sdFails_frame _ _ _ ?_ (List.Subset.trans (by decide) w)
      assumption
    · refine State.sdDone_frame _ _ _ _ ?_ (List.Subset.trans (by decide) w)
      refine State.logG_frame _ _ _ ?_ (List.Subset.trans (by decide) w)
      assumption

theorem State.runAnswer_frame (x a1 a2 a3) (h : Frame ch s x)
        (w : ([.host, .queues, .tnd, .clusters, .kst, .mea, .meas, .slc, .ngl, .regions, .per, .commits, .log,
      .store, .dcc, .custody, .cards, .m] : List Block) ⊆ ch) :
    Frame ch s (State.runAnswer x a1 a2 a3) := by
  delta State.runAnswer
  extract_lets +onlyGivenNames y1
  split
  · refine State.labelRead_frame _ _ _ _ ?_ (List.Subset.trans (by decide) w)
    assumption
  · refine State.journalRead_frame _ _ _ _ ?_ (List.Subset.trans (by decide) w)
    assumption
  · refine State.newestRead_frame _ _ _ _ _ ?_ (List.Subset.trans (by decide) w)
    assumption
  · refine State.scanRead_frame _ _ _ _ _ ?_ (List.Subset.trans (by decide) w)
    assumption
  · refine State.recordRead_frame _ _ _ _ _ ?_ (List.Subset.trans (by decide) w)
    assumption
  · refine State.csdBack_frame _ _ _ _ ?_ (List.Subset.trans (by decide) w)
    assumption
  · apply Frame.upd <;> first | assumption | exact Or.inl (w (by decide)) | exact Or.inr rfl | exact List.suffix_rfl
  · apply Frame.upd <;> first | assumption | exact Or.inl (w (by decide)) | exact Or.inr rfl | exact List.suffix_rfl
  · apply Frame.upd <;> first | assumption | exact Or.inl (w (by decide)) | exact Or.inr rfl | exact List.suffix_rfl
  · assumption

theorem State.runWritten_frame (x a1 a2) (h : Frame ch s x)
        (w : ([.tnd, .ngl, .commits, .log, .cards, .m] : List Block) ⊆ ch) :
    Frame ch s (State.runWritten x a1 a2) := by
  delta State.runWritten
  split
  · assumption
  · extract_lets +onlyGivenNames y1
    have h1 : Frame ch s y1 := by
      unfold y1
      refine State.keepArchive_frame _ _ ?_ (List.Subset.trans (by decide) w)
      assumption
    clear_value y1
    split
    · refine State.sdDone_frame _ _ _ _ ?_ (List.Subset.trans (by decide) w)
      refine State.logG_frame _ _ _ ?_ (List.Subset.trans (by decide) w)
      assumption
    · refine State.sdDone_frame _ _ _ _ ?_ (List.Subset.trans (by decide) w)
      assumption
    · refine State.sdGo_frame _ _ ?_ (List.Subset.trans (by decide) w)
      assumption

theorem State.runReleased_frame (x a1 a2) (h : Frame ch s x)
        (w : ([.tnd, .ngl, .commits, .log, .cards, .m] : List Block) ⊆ ch) :
    Frame ch s (State.runReleased x a1 a2) := by
  delta State.runReleased
  split
  · refine State.formatWrite_frame _ _ ?_ (List.Subset.trans (by decide) w)
    assumption
  · extract_lets +onlyGivenNames y1
    clear_value y1
    refine Frame.ite ?_ ?_
    · refine State.runWritten_frame _ _ _ ?_ (List.Subset.trans (by decide) w)
      assumption
    · refine State.sdGo_frame _ _ ?_ (List.Subset.trans (by decide) w)
      assumption
  · refine State.sdGo_frame _ _ ?_ (List.Subset.trans (by decide) w)
    assumption
  · assumption

theorem State.runCrc_frame (x a1) (h : Frame ch s x)
        (w : ([.host, .queues, .tnd, .clusters, .kst, .mea, .meas, .slc, .ngl, .regions, .per, .commits, .log,
      .store, .dcc, .custody, .cards, .m] : List Block) ⊆ ch) :
    Frame ch s (State.runCrc x a1) := by
  delta State.runCrc
  extract_lets +onlyGivenNames y1
  extract_lets +onlyGivenNames y2
  have h2 : Frame ch s y2 := by
    unfold y2
    apply Frame.upd <;> first | assumption | exact Or.inl (w (by decide)) | exact Or.inr rfl | exact List.suffix_rfl
  refine Frame.ite ?_ ?_
  · refine State.sdFails_frame _ _ _ ?_ (List.Subset.trans (by decide) w)
    assumption
  · refine Frame.ite ?_ ?_
    · refine State.sdTune_frame _ ?_ (List.Subset.trans (by decide) w)
      assumption
    · refine State.sdIssueNow_frame _ _ ?_ (List.Subset.trans (by decide) w)
      assumption

theorem State.loadCard_frame (x a1 a2 a3 a4) (h : Frame ch s x) (w : ([.clusters] : List Block) ⊆ ch) :
    Frame ch s (State.loadCard x a1 a2 a3 a4) := by
  delta State.loadCard
  extract_lets +onlyGivenNames y1
  clear_value y1
  extract_lets +onlyGivenNames y2
  have h2 : Frame ch s y2 := by
    unfold y2
    refine State.loadWork_frame _ _ _ _ _ ?_ (List.Subset.trans (by decide) w)
    assumption
  clear_value y2
  refine Frame.ite ?_ ?_
  · refine State.loadWork_frame _ _ _ _ _ ?_ (List.Subset.trans (by decide) w)
    assumption
  · assumption

theorem State.dcvvVerb_frame (x a1 a2 a3) (h : Frame ch s x)
        (w : ([.host, .queues, .tnd, .fabric, .clusters, .kst, .mea, .slc, .ngl, .regions, .commits, .log, .m] :
      List Block) ⊆ ch) :
    FrameC ch s (State.dcvvVerb x a1 a2 a3) := by
  delta State.dcvvVerb
  refine FrameC.bind (fun y1 => ?_)
  split
  extract_lets +onlyGivenNames y2
  clear_value y2
  extract_lets +onlyGivenNames y3
  have h3 : Frame ch s y3 := by
    unfold y3
    refine State.loadCard_frame _ _ _ _ _ ?_ (List.Subset.trans (by decide) w)
    refine State.loadSbu_frame _ _ _ ?_ (List.Subset.trans (by decide) w)
    refine State.reach12_frame _ _ _ _ _ ?_ (List.Subset.trans (by decide) w)
    assumption
  clear_value y3
  split
  · refine FrameC.pure ?_
    refine State.finishS_frame _ _ _ _ _ _ _ _ _ ?_ ?_ (List.Subset.trans (by decide) w)
    · assumption
    · intro y4 h5
      dsimp only [id]
      assumption
  · extract_lets +onlyGivenNames y6
    clear_value y6
    refine FrameC.ite ?_ ?_
    · refine FrameC.pure ?_
      refine State.okS_frame _ _ _ _ _ _ ?_ (List.Subset.trans (by decide) w)
      assumption
    · refine FrameC.pure ?_
      refine State.finishS_frame _ _ _ _ _ _ _ _ _ ?_ ?_ (List.Subset.trans (by decide) w)
      · assumption
      · intro y7 h8
        dsimp only [id]
        assumption

theorem State.outputOver_frame (x a1 a2 a3) (h : Frame ch s x) (w : ([.m] : List Block) ⊆ ch) :
    Frame ch s (State.outputOver x a1 a2 a3).2 := by
  delta State.outputOver
  refine Frame.sndIte ?_ ?_
  · dsimp only
    apply Frame.upd <;> first | assumption | exact Or.inl (w (by decide)) | exact Or.inr rfl | exact List.suffix_rfl
  · dsimp only
    assumption

theorem State.dataVerb_frame (x a1 a2 a3) (h : Frame ch s x)
        (w : ([.host, .queues, .tnd, .fabric, .clusters, .kst, .mea, .slc, .ngl, .regions, .commits, .log, .m] :
      List Block) ⊆ ch) :
    FrameC ch s (State.dataVerb x a1 a2 a3) := by
  delta State.dataVerb
  refine FrameC.bind (fun y1 => ?_)
  split
  extract_lets +onlyGivenNames y2
  clear_value y2
  extract_lets +onlyGivenNames y3
  clear_value y3
  extract_lets +onlyGivenNames y4
  clear_value y4
  extract_lets +onlyGivenNames y5
  clear_value y5
  extract_lets +onlyGivenNames y6
  clear_value y6
  extract_lets +onlyGivenNames y7
  clear_value y7
  extract_lets +onlyGivenNames y8
  clear_value y8
  extract_lets +onlyGivenNames y9
  have h9 : Frame ch s y9 := by
    unfold y9
    refine State.loadSbu_frame _ _ _ ?_ (List.Subset.trans (by decide) w)
    refine State.reach12_frame _ _ _ _ _ ?_ (List.Subset.trans (by decide) w)
    assumption
  clear_value y9
  extract_lets +onlyGivenNames y10
  refine FrameC.ite ?_ ?_
  · refine FrameC.pure ?_
    refine State.randomly_frame _ _ _ ?_ ?_ (List.Subset.trans (by decide) w)
    · assumption
    · intro y11 h12
      extract_lets +onlyGivenNames y13
      have h13 : Frame ch s y13.2 := by
        unfold y13
        refine State.draw_frame _ _ ?_ (List.Subset.trans (by decide) w)
        assumption
      clear_value y13
      unfold y10
      extract_lets +onlyGivenNames y14
      clear_value y14
      refine Frame.ite ?_ ?_
      · refine Frame.ite ?_ ?_
        · extract_lets +onlyGivenNames y15
          clear_value y15
          extract_lets +onlyGivenNames y16
          have h16 : Frame ch s y16.2 := by
            unfold y16
            refine State.outputOver_frame _ _ _ _ ?_ (List.Subset.trans (by decide) w)
            assumption
          clear_value y16
          refine State.finishP_frame _ _ _ _ _ ?_ (List.Subset.trans (by decide) w)
          assumption
        · split
          · refine State.finishS_frame _ _ _ _ _ _ _ _ _ ?_ ?_ (List.Subset.trans (by decide) w)
            · assumption
            · intro y17 h18
              dsimp only [id]
              assumption
          · extract_lets +onlyGivenNames y19
            have h19 : Frame ch s y19.2 := by
              unfold y19
              refine State.outputOver_frame _ _ _ _ ?_ (List.Subset.trans (by decide) w)
              assumption
            clear_value y19
            refine State.okS_frame _ _ _ _ _ _ ?_ (List.Subset.trans (by decide) w)
            assumption
      · extract_lets +onlyGivenNames y20
        have h20 : Frame ch s y20.2 := by
          unfold y20
          refine State.outputOver_frame _ _ _ _ ?_ (List.Subset.trans (by decide) w)
          assumption
        clear_value y20
        refine State.finishP_frame _ _ _ _ _ ?_ (List.Subset.trans (by decide) w)
        assumption
  · refine FrameC.pure ?_
    unfold y10
    extract_lets +onlyGivenNames y21
    clear_value y21
    refine Frame.ite ?_ ?_
    · refine Frame.ite ?_ ?_
      · extract_lets +onlyGivenNames y22
        clear_value y22
        extract_lets +onlyGivenNames y23
        have h23 : Frame ch s y23.2 := by
          unfold y23
          refine State.outputOver_frame _ _ _ _ ?_ (List.Subset.trans (by decide) w)
          assumption
        clear_value y23
        refine State.finishP_frame _ _ _ _ _ ?_ (List.Subset.trans (by decide) w)
        assumption
      · split
        · refine State.finishS_frame _ _ _ _ _ _ _ _ _ ?_ ?_ (List.Subset.trans (by decide) w)
          · assumption
          · intro y24 h25
            dsimp only [id]
            assumption
        · extract_lets +onlyGivenNames y26
          have h26 : Frame ch s y26.2 := by
            unfold y26
            refine State.outputOver_frame _ _ _ _ ?_ (List.Subset.trans (by decide) w)
            assumption
          clear_value y26
          refine State.okS_frame _ _ _ _ _ _ ?_ (List.Subset.trans (by decide) w)
          assumption
    · extract_lets +onlyGivenNames y27
      have h27 : Frame ch s y27.2 := by
        unfold y27
        refine State.outputOver_frame _ _ _ _ ?_ (List.Subset.trans (by decide) w)
        assumption
      clear_value y27
      refine State.finishP_frame _ _ _ _ _ ?_ (List.Subset.trans (by decide) w)
      assumption

theorem State.macVerb_frame (x a1 a2 a3) (h : Frame ch s x)
        (w : ([.host, .queues, .tnd, .fabric, .clusters, .kst, .mea, .slc, .ngl, .regions, .commits, .log, .m] :
      List Block) ⊆ ch) :
    FrameC ch s (State.macVerb x a1 a2 a3) := by
  delta State.macVerb
  refine FrameC.bind (fun y1 => ?_)
  split
  extract_lets +onlyGivenNames y2
  have h2 : Frame ch s y2 := by
    unfold y2
    refine State.loadSbu_frame _ _ _ ?_ (List.Subset.trans (by decide) w)
    refine State.reach12_frame _ _ _ _ _ ?_ (List.Subset.trans (by decide) w)
    assumption
  clear_value y2
  extract_lets +onlyGivenNames y3
  clear_value y3
  refine FrameC.ite ?_ ?_
  · refine FrameC.pure ?_
    refine State.okS_frame _ _ _ _ _ _ ?_ (List.Subset.trans (by decide) w)
    assumption
  · refine FrameC.pure ?_
    refine State.finishS_frame _ _ _ _ _ _ _ _ _ ?_ ?_ (List.Subset.trans (by decide) w)
    · assumption
    · intro y4 h5
      dsimp only [id]
      assumption

theorem State.setGuardSlot_frame (x a1) (h : Frame ch s x) (w : ([.mea] : List Block) ⊆ ch) :
    Frame ch s (State.setGuardSlot x a1) := by
  delta State.setGuardSlot
  apply Frame.upd <;> first | assumption | exact Or.inl (w (by decide)) | exact Or.inr rfl | exact List.suffix_rfl

theorem State.hmacVerb_frame (x a1 a2 a3) (h : Frame ch s x)
        (w : ([.host, .queues, .tnd, .fabric, .clusters, .kst, .mea, .slc, .ngl, .regions, .commits, .log, .m] :
      List Block) ⊆ ch) :
    FrameC ch s (State.hmacVerb x a1 a2 a3) := by
  delta State.hmacVerb
  refine FrameC.bind (fun y1 => ?_)
  split
  extract_lets +onlyGivenNames y2
  clear_value y2
  extract_lets +onlyGivenNames y3
  clear_value y3
  extract_lets +onlyGivenNames y4
  clear_value y4
  extract_lets +onlyGivenNames y5
  have h5 : Frame ch s y5 := by
    unfold y5
    refine State.hashed_frame _ _ _ ?_ (List.Subset.trans (by decide) w)
    refine State.reach12_frame _ _ _ _ _ ?_ (List.Subset.trans (by decide) w)
    assumption
  clear_value y5
  extract_lets +onlyGivenNames y6
  have h6 : Frame ch s y6 := by
    unfold y6
    refine Frame.ite ?_ ?_
    · refine State.setGuardSlot_frame _ _ ?_ (List.Subset.trans (by decide) w)
      assumption
    · assumption
  clear_value y6
  extract_lets +onlyGivenNames y7
  clear_value y7
  extract_lets +onlyGivenNames y8
  have h8 : Frame ch s y8 := by
    unfold y8
    refine Frame.ite ?_ ?_
    · assumption
    · refine State.keepStates_frame _ _ _ _ _ ?_ (List.Subset.trans (by decide) w)
      assumption
  clear_value y8
  extract_lets +onlyGivenNames y9
  clear_value y9
  refine FrameC.ite ?_ ?_
  · extract_lets +onlyGivenNames y10
    have h10 : Frame ch s y10.2 := by
      unfold y10
      refine State.outputOver_frame _ _ _ _ ?_ (List.Subset.trans (by decide) w)
      assumption
    clear_value y10
    refine FrameC.pure ?_
    refine State.okS_frame _ _ _ _ _ _ ?_ (List.Subset.trans (by decide) w)
    assumption
  · refine FrameC.pure ?_
    refine State.finishS_frame _ _ _ _ _ _ _ _ _ ?_ ?_ (List.Subset.trans (by decide) w)
    · assumption
    · intro y11 h12
      dsimp only [id]
      assumption

theorem State.ff1Verb_frame (x a1 a2 a3) (h : Frame ch s x)
        (w : ([.host, .queues, .tnd, .fabric, .clusters, .kst, .mea, .slc, .ngl, .regions, .commits, .log, .m] :
      List Block) ⊆ ch) :
    FrameC ch s (State.ff1Verb x a1 a2 a3) := by
  delta State.ff1Verb
  refine FrameC.bind (fun y1 => ?_)
  split
  extract_lets +onlyGivenNames y2
  have h2 : Frame ch s y2 := by
    unfold y2
    refine State.loadSbu_frame _ _ _ ?_ (List.Subset.trans (by decide) w)
    refine State.reach12_frame _ _ _ _ _ ?_ (List.Subset.trans (by decide) w)
    assumption
  clear_value y2
  extract_lets +onlyGivenNames y3
  clear_value y3
  extract_lets +onlyGivenNames y4
  have h4 : Frame ch s y4.2 := by
    unfold y4
    refine State.outputOver_frame _ _ _ _ ?_ (List.Subset.trans (by decide) w)
    assumption
  clear_value y4
  refine FrameC.pure ?_
  refine State.okS_frame _ _ _ _ _ _ ?_ (List.Subset.trans (by decide) w)
  assumption

theorem State.wardenSignDigest_frame (x a1 a2 a3 a4 a5) (h : Frame ch s x) (w : ([.m] : List Block) ⊆ ch) :
    Frame ch s (State.wardenSignDigest x a1 a2 a3 a4 a5).2 := by
  delta State.wardenSignDigest
  refine Frame.sndIte ?_ ?_
  · extract_lets +onlyGivenNames y1
    have h1 : Frame ch s y1.2 := by
      unfold y1
      refine ecSign_frame _ _ _ _ _ _ _ ?_ (List.Subset.trans (by decide) w)
      assumption
    clear_value y1
    dsimp only
    assumption
  · dsimp only
    assumption

theorem State.wardenSign_frame (x a1 a2 a3 a4 a5) (h : Frame ch s x) (w : ([.m] : List Block) ⊆ ch) :
    Frame ch s (State.wardenSign x a1 a2 a3 a4 a5).2 := by
  delta State.wardenSign
  refine State.wardenSignDigest_frame _ _ _ _ _ _ ?_ (List.Subset.trans (by decide) w)
  assumption

theorem State.signed_frame (x a1 a2) (h : Frame ch s x) (w : ([.tnd, .mea] : List Block) ⊆ ch) :
    Frame ch s (State.signed x a1 a2) := by
  delta State.signed
  split
  · refine Frame.ite ?_ ?_
    · extract_lets +onlyGivenNames y1
      have h1 : Frame ch s y1 := by
        unfold y1
        refine State.modItem_frame _ _ _ ?_ (List.Subset.trans (by decide) w)
        assumption
      clear_value y1
      refine Frame.fold ?_ (fun y2 a2 h2 => ?_)
      · assumption
      · refine State.askSigner_frame _ _ ?_ (List.Subset.trans (by decide) w)
        assumption
    · assumption
  · assumption

theorem State.issueCert_frame (x a1 a2) (h : Frame ch s x) (w : ([.m] : List Block) ⊆ ch) :
    Frame ch s (State.issueCert x a1 a2).2 := by
  delta State.issueCert
  extract_lets +onlyGivenNames y1
  clear_value y1
  extract_lets +onlyGivenNames y2
  have h2 : Frame ch s y2.2 := by
    unfold y2
    refine State.wardenSign_frame _ _ _ _ _ _ ?_ (List.Subset.trans (by decide) w)
    assumption
  clear_value y2
  dsimp only
  assumption

theorem State.ensureCerts_frame (x) (h : Frame ch s x) (w : ([.mea, .m] : List Block) ⊆ ch) :
    Frame ch s (State.ensureCerts x) := by
  delta State.ensureCerts
  refine Frame.ite ?_ ?_
  · assumption
  · extract_lets +onlyGivenNames y1
    have h1 : Frame ch s y1.2 := by
      unfold y1
      refine State.issueCert_frame _ _ _ ?_ (List.Subset.trans (by decide) w)
      assumption
    clear_value y1
    extract_lets +onlyGivenNames y2
    have h2 : Frame ch s y2.2 := by
      unfold y2
      refine State.issueCert_frame _ _ _ ?_ (List.Subset.trans (by decide) w)
      assumption
    clear_value y2
    extract_lets +onlyGivenNames y3
    have h3 : Frame ch s y3 := by
      unfold y3
      assumption
    clear_value y3
    apply Frame.upd <;> first | assumption | exact Or.inl (w (by decide)) | exact Or.inr rfl | exact List.suffix_rfl

theorem State.pelynStatement_frame (x a1) (h : Frame ch s x) (w : ([.m] : List Block) ⊆ ch) :
    Frame ch s (State.pelynStatement x a1).2 := by
  delta State.pelynStatement
  extract_lets +onlyGivenNames y1
  clear_value y1
  extract_lets +onlyGivenNames y2
  clear_value y2
  extract_lets +onlyGivenNames y3
  have h3 : Frame ch s y3.2 := by
    unfold y3
    refine State.wardenSign_frame _ _ _ _ _ _ ?_ (List.Subset.trans (by decide) w)
    assumption
  clear_value y3
  extract_lets +onlyGivenNames y4
  clear_value y4
  dsimp only
  assumption

theorem State.lookClaims_frame (x a1 a2) (h : Frame ch s x) (w : ([.clusters, .kst] : List Block) ⊆ ch) :
    Frame ch s (State.lookClaims x a1 a2) := by
  delta State.lookClaims
  split
  · assumption
  · split
    · refine State.missed_frame _ _ _ ?_ (List.Subset.trans (by decide) w)
      assumption
    · assumption

end Sys2Proof.Machine
end

