-- ==== Sys2Proof/Laws/FramesVerbs.lean ====
section
/-!
SUPPORT. One lemma for each shared operation: the frame of the operations over the SMBus, the start, the flash,
inputs, Ngueth, slices and registers. Each says which blocks of the state the operation may change, and that it leaves
the queue of waiting commands as it is.
-/
namespace Sys2Proof.Machine

variable {ch : List Block} {s : State}

theorem State.smbusRead_frame (x a1 a2) (h : Frame ch s x) (w : ([.stage, .m] : List Block) ⊆ ch) :
    Frame ch s (State.smbusRead x a1 a2) := by
  delta State.smbusRead
  refine Frame.ite ?_ ?_
  · refine State.emit_frame _ _ ?_ (List.Subset.trans (by decide) w)
    apply Frame.upd <;> first | assumption | exact Or.inl (w (by decide)) | exact Or.inr rfl | exact List.suffix_rfl
  · refine State.emit_frame _ _ ?_ (List.Subset.trans (by decide) w)
    assumption

theorem State.loseWaiting_frame (x) (h : Frame ch s x)
        (w : ([.kst, .slc, .per, .commits, .store, .custody] : List Block) ⊆ ch) :
    Frame ch s (State.loseWaiting x) := by
  delta State.loseWaiting
  extract_lets +onlyGivenNames y1
  have h1 : Frame ch s y1 := by
    unfold y1
    refine State.applyUndos_frame _ _ ?_ (List.Subset.trans (by decide) w)
    assumption
  clear_value y1
  apply Frame.upd <;> first | assumption | exact Or.inl (w (by decide)) | exact Or.inr rfl | exact List.suffix_rfl

theorem State.haltAll_frame (x) (h : Frame ch s x)
        (w : ([.pins, .pat, .queues, .tnd, .clusters, .kst, .mea, .slc, .ngl, .chl, .per, .commits, .store,
      .custody, .cards] : List Block) ⊆ ch) :
    Frame ch s (State.haltAll x) := by
  delta State.haltAll
  extract_lets +onlyGivenNames y1
  have h1 : Frame ch s y1 := by
    unfold y1
    refine State.loseWaiting_frame _ ?_ (List.Subset.trans (by decide) w)
    assumption
  clear_value y1
  apply Frame.upd <;> first | assumption | exact Or.inl (w (by decide)) | exact Or.inr rfl | exact List.suffix_rfl

theorem State.tapHold_frame (x) (h : Frame ch s x) (w : ([.stage, .lc] : List Block) ⊆ ch) :
    Frame ch s (State.tapHold x) := by
  delta State.tapHold
  apply Frame.upd <;> first | assumption | exact Or.inl (w (by decide)) | exact Or.inr rfl | exact List.suffix_rfl

theorem State.holdBalls_frame (x) (h : Frame ch s x)
        (w : ([.stage, .host, .tnd, .kst, .mea, .meas, .slc, .ngl, .per, .commits, .log, .store, .tam, .lc, .dcc,
      .custody, .cards, .m] : List Block) ⊆ ch) :
    Frame ch s (State.holdBalls x) := by
  delta State.holdBalls
  extract_lets +onlyGivenNames y1
  have h1 : Frame ch s y1 := by
    unfold y1
    refine State.tapHold_frame _ ?_ (List.Subset.trans (by decide) w)
    refine State.endSession_frame _ _ ?_ (List.Subset.trans (by decide) w)
    refine State.portsIdle_frame _ ?_ (List.Subset.trans (by decide) w)
    assumption
  clear_value y1
  apply Frame.upd <;> first | assumption | exact Or.inl (w (by decide)) | exact Or.inr rfl | exact List.suffix_rfl

theorem State.enterHold_frame (x) (h : Frame ch s x)
        (w : ([.pins, .stage, .pat, .host, .queues, .tnd, .clusters, .kst, .mea, .meas, .slc, .ngl, .chl, .per,
      .commits, .log, .store, .tam, .lc, .dcc, .custody, .cards, .m] : List Block) ⊆ ch) :
    Frame ch s (State.enterHold x) := by
  delta State.enterHold
  extract_lets +onlyGivenNames y1
  have h1 : Frame ch s y1 := by
    unfold y1
    refine State.haltAll_frame _ ?_ (List.Subset.trans (by decide) w)
    refine State.sealRecord_frame _ ?_ (List.Subset.trans (by decide) w)
    refine State.flushSummaries_frame _ ?_ (List.Subset.trans (by decide) w)
    refine State.holdBalls_frame _ ?_ (List.Subset.trans (by decide) w)
    assumption
  clear_value y1
  apply Frame.upd <;> first | assumption | exact Or.inl (w (by decide)) | exact Or.inr rfl | exact List.suffix_rfl

theorem State.drainAll_frame (x) (h : Frame ch s x) (w : ([.kst, .per, .commits, .log, .store] : List Block) ⊆ ch) :
    Frame ch s (State.drainAll x) := by
  delta State.drainAll
  extract_lets +onlyGivenNames y1
  have h1 : Frame ch s y1 := by
    unfold y1
    refine Frame.fold ?_ (fun y2 a2 h2 => ?_)
    · assumption
    · refine State.entryToMram_frame _ _ ?_ (List.Subset.trans (by decide) w)
      assumption
  clear_value y1
  extract_lets +onlyGivenNames y3
  have h3 : Frame ch s y3 := by
    unfold y3
    refine Frame.fold ?_ (fun y4 a4 h4 => ?_)
    · assumption
    · refine State.countWrite_frame _ _ ?_ (List.Subset.trans (by decide) w)
      assumption
  clear_value y3
  extract_lets +onlyGivenNames y5
  extract_lets +onlyGivenNames y6
  have h6 : Frame ch s y6 := by
    unfold y6
    apply Frame.upd <;> first | assumption | exact Or.inl (w (by decide)) | exact Or.inr rfl | exact List.suffix_rfl
  clear_value y6
  refine State.checkpoint_frame _ ?_ (List.Subset.trans (by decide) w)
  refine State.drainStaging_frame _ _ ?_ (List.Subset.trans (by decide) w)
  assumption

theorem State.coldReset_frame (x) (h : Frame ch s x)
        (w : ([.pins, .stage, .alert, .unsealed, .pat, .host, .queues, .tnd, .fabric, .clusters, .kst, .roots, .mea,
      .meas, .slc, .ngl, .chl, .regions, .per, .commits, .log, .store, .tam, .lc, .dcc, .custody, .cards, .gds] :
      List Block) ⊆ ch) :
    Frame ch s (State.coldReset x) := by
  delta State.coldReset
  extract_lets +onlyGivenNames y1
  apply Frame.upd <;> first | assumption | exact Or.inl (w (by decide)) | exact Or.inr rfl | exact List.suffix_rfl

theorem State.setReason_frame (x a1 a2) (h : Frame ch s x) (w : ([.stage] : List Block) ⊆ ch) :
    Frame ch s (State.setReason x a1 a2) := by
  delta State.setReason
  apply Frame.upd <;> first | assumption | exact Or.inl (w (by decide)) | exact Or.inr rfl | exact List.suffix_rfl

theorem State.guardStop_frame (x a1) (h : Frame ch s x) (w : ([.stage] : List Block) ⊆ ch) :
    Frame ch s (State.guardStop x a1) := by
  delta State.guardStop
  refine Frame.ite ?_ ?_
  · assumption
  · refine State.setReason_frame _ _ _ ?_ (List.Subset.trans (by decide) w)
    apply Frame.upd <;> first | assumption | exact Or.inl (w (by decide)) | exact Or.inr rfl | exact List.suffix_rfl

theorem State.checkBbram_frame (x) (h : Frame ch s x) (w : ([.roots, .log] : List Block) ⊆ ch) :
    Frame ch s (State.checkBbram x) := by
  delta State.checkBbram
  refine Frame.ite ?_ ?_
  · assumption
  · refine State.logG_frame _ _ _ ?_ (List.Subset.trans (by decide) w)
    apply Frame.upd <;> first | assumption | exact Or.inl (w (by decide)) | exact Or.inr rfl | exact List.suffix_rfl

theorem State.restoreClock_frame (x) (h : Frame ch s x) (w : ([.per, .log] : List Block) ⊆ ch) :
    Frame ch s (State.restoreClock x) := by
  delta State.restoreClock
  refine Frame.ite ?_ ?_
  · refine State.logG_frame _ _ _ ?_ (List.Subset.trans (by decide) w)
    apply Frame.upd <;> first | assumption | exact Or.inl (w (by decide)) | exact Or.inr rfl | exact List.suffix_rfl
  · assumption

theorem State.findLostSave_frame (x) (h : Frame ch s x) (w : ([.per, .log] : List Block) ⊆ ch) :
    Frame ch s (State.findLostSave x) := by
  delta State.findLostSave
  refine Frame.ite ?_ ?_
  · refine State.lifeAdd_frame _ _ _ ?_ (List.Subset.trans (by decide) w)
    refine State.logG_frame _ _ _ ?_ (List.Subset.trans (by decide) w)
    apply Frame.upd <;> first | assumption | exact Or.inl (w (by decide)) | exact Or.inr rfl | exact List.suffix_rfl
  · assumption

theorem State.checkEnrolment_frame (x a1) (h : Frame ch s x) (w : ([.log, .custody] : List Block) ⊆ ch) :
    Frame ch s (State.checkEnrolment x a1) := by
  delta State.checkEnrolment
  extract_lets +onlyGivenNames y1
  extract_lets +onlyGivenNames y2
  have h2 : Frame ch s y2 := by
    unfold y2
    refine Frame.ite ?_ ?_
    · refine State.logG_frame _ _ _ ?_ (List.Subset.trans (by decide) w)
      apply Frame.upd <;> first | assumption | exact Or.inl (w (by decide)) | exact Or.inr rfl | exact List.suffix_rfl
    · assumption
  clear_value y2
  extract_lets +onlyGivenNames y3
  clear_value y3
  extract_lets +onlyGivenNames y4
  extract_lets +onlyGivenNames y5
  have h5 : Frame ch s y5 := by
    unfold y5
    apply Frame.upd <;> first | assumption | exact Or.inl (w (by decide)) | exact Or.inr rfl | exact List.suffix_rfl
  clear_value y5
  refine Frame.fold ?_ (fun y6 a6 h6 => ?_)
  · assumption
  · refine State.logG_frame _ _ _ ?_ (List.Subset.trans (by decide) w)
    assumption

theorem State.finishPending_frame (x a1) (h : Frame ch s x)
        (w : ([.pins, .stage, .alert, .unsealed, .fuses, .pat, .host, .queues, .tnd, .fabric, .clusters, .kst,
      .roots, .mea, .meas, .slc, .ngl, .chl, .regions, .per, .commits, .log, .store, .tam, .lc, .dcc, .custody,
      .cards, .gds, .m] : List Block) ⊆ ch) :
    Frame ch s (State.finishPending x a1) := by
  delta State.finishPending
  extract_lets +onlyGivenNames y1
  have h1 : Frame ch s y1 := by
    unfold y1
    refine State.recoverTransition_frame _ _ ?_ (List.Subset.trans (by decide) w)
    assumption
  clear_value y1
  refine Frame.ite ?_ ?_
  · refine State.coldReset_frame _ ?_ (List.Subset.trans (by decide) w)
    refine State.drainAll_frame _ ?_ (List.Subset.trans (by decide) w)
    refine State.tapHold_frame _ ?_ (List.Subset.trans (by decide) w)
    refine State.haltAll_frame _ ?_ (List.Subset.trans (by decide) w)
    refine State.sealRecord_frame _ ?_ (List.Subset.trans (by decide) w)
    refine State.setReason_frame _ _ _ ?_ (List.Subset.trans (by decide) w)
    assumption
  · assumption

theorem State.guardRead_frame (x a1) (h : Frame ch s x) (w : ([.pins, .stage, .mea, .meas, .log] : List Block) ⊆ ch) :
    Frame ch s (State.guardRead x a1) := by
  delta State.guardRead
  extract_lets +onlyGivenNames y1
  extract_lets +onlyGivenNames y2
  extract_lets +onlyGivenNames y3
  extract_lets +onlyGivenNames y4
  have h4 : Frame ch s y4 := by
    unfold y4
    apply Frame.upd <;> first | assumption | exact Or.inl (w (by decide)) | exact Or.inr rfl | exact List.suffix_rfl
  clear_value y4
  extract_lets +onlyGivenNames y5
  have h5 : Frame ch s y5 := by
    unfold y5
    refine Frame.ite ?_ ?_
    · refine State.guardStop_frame _ _ ?_ (List.Subset.trans (by decide) w)
      assumption
    · assumption
  clear_value y5
  refine State.measExtend_frame _ _ _ ?_ (List.Subset.trans (by decide) w)
  assumption

theorem State.guardAdmission_frame (x a1) (h : Frame ch s x)
        (w : ([.stage, .alert, .unsealed, .pat, .host, .queues, .tnd, .clusters, .kst, .roots, .mea, .meas, .slc,
      .ngl, .per, .commits, .log, .store, .tam, .dcc, .custody, .cards, .m] : List Block) ⊆ ch) :
    Frame ch s (State.guardAdmission x a1) := by
  delta State.guardAdmission
  extract_lets +onlyGivenNames y1
  extract_lets +onlyGivenNames y2
  have h2 : Frame ch s y2 := by
    unfold y2
    apply Frame.upd <;> first | assumption | exact Or.inl (w (by decide)) | exact Or.inr rfl | exact List.suffix_rfl
  clear_value y2
  extract_lets +onlyGivenNames y3
  have h3 : Frame ch s y3 := by
    unfold y3
    split
    · assumption
    · refine Frame.ite ?_ ?_
      · assumption
      · refine State.guardStop_frame _ _ ?_ (List.Subset.trans (by decide) w)
        refine State.mismatch_frame _ _ _ _ _ ?_ (List.Subset.trans (by decide) w)
        assumption
  clear_value y3
  refine Frame.ite ?_ ?_
  · refine State.logG_frame _ _ _ ?_ (List.Subset.trans (by decide) w)
    refine State.guardStop_frame _ _ ?_ (List.Subset.trans (by decide) w)
    assumption
  · assumption

theorem State.guardArm_frame (x) (h : Frame ch s x) (w : ([.per, .tam] : List Block) ⊆ ch) :
    Frame ch s (State.guardArm x) := by
  delta State.guardArm
  apply Frame.upd <;> first | assumption | exact Or.inl (w (by decide)) | exact Or.inr rfl | exact List.suffix_rfl

theorem State.guardRiser_frame (x a1) (h : Frame ch s x) (w : ([.per, .log, .tam] : List Block) ⊆ ch) :
    Frame ch s (State.guardRiser x a1) := by
  delta State.guardRiser
  extract_lets +onlyGivenNames y1
  have h1 : Frame ch s y1 := by
    unfold y1
    refine State.guardArm_frame _ ?_ (List.Subset.trans (by decide) w)
    assumption
  clear_value y1
  refine Frame.ite ?_ ?_
  · apply Frame.upd <;> first | assumption | exact Or.inl (w (by decide)) | exact Or.inr rfl | exact List.suffix_rfl
  · refine State.logG_frame _ _ _ ?_ (List.Subset.trans (by decide) w)
    apply Frame.upd <;> first | assumption | exact Or.inl (w (by decide)) | exact Or.inr rfl | exact List.suffix_rfl

theorem State.guardRoots_frame (x) (h : Frame ch s x) (w : ([.unsealed, .roots, .per] : List Block) ⊆ ch) :
    Frame ch s (State.guardRoots x) := by
  delta State.guardRoots
  refine State.wearFigures_frame _ ?_ (List.Subset.trans (by decide) w)
  apply Frame.upd <;> first | assumption | exact Or.inl (w (by decide)) | exact Or.inr rfl | exact List.suffix_rfl

theorem State.guardEnd_frame (x) (h : Frame ch s x) (w : ([.stage, .roots] : List Block) ⊆ ch) :
    Frame ch s (State.guardEnd x) := by
  delta State.guardEnd
  extract_lets +onlyGivenNames y1
  have h1 : Frame ch s y1 := by
    unfold y1
    refine Frame.ite ?_ ?_
    · refine State.guardStop_frame _ _ ?_ (List.Subset.trans (by decide) w)
      assumption
    · assumption
  clear_value y1
  apply Frame.upd <;> first | assumption | exact Or.inl (w (by decide)) | exact Or.inr rfl | exact List.suffix_rfl

theorem State.guardUp_frame (x) (h : Frame ch s x) (w : ([.stage, .alert] : List Block) ⊆ ch) :
    Frame ch s (State.guardUp x) := by
  delta State.guardUp
  extract_lets +onlyGivenNames y1
  extract_lets +onlyGivenNames y2
  have h2 : Frame ch s y2 := by
    unfold y2
    apply Frame.upd <;> first | assumption | exact Or.inl (w (by decide)) | exact Or.inr rfl | exact List.suffix_rfl
  clear_value y2
  refine Frame.ite ?_ ?_
  · refine State.alert_frame _ _ ?_ (List.Subset.trans (by decide) w)
    assumption
  · assumption

theorem State.guardStage_frame (x a1) (h : Frame ch s x)
        (w : ([.pins, .stage, .alert, .unsealed, .fuses, .pat, .host, .queues, .tnd, .fabric, .clusters, .kst,
      .roots, .mea, .meas, .slc, .ngl, .chl, .regions, .per, .commits, .log, .store, .tam, .lc, .dcc, .custody,
      .cards, .gds, .m] : List Block) ⊆ ch) :
    Frame ch s (State.guardStage x a1) := by
  delta State.guardStage
  extract_lets +onlyGivenNames y1
  clear_value y1
  extract_lets +onlyGivenNames y2
  have h2 : Frame ch s y2 := by
    unfold y2
    refine State.guardRiser_frame _ _ ?_ (List.Subset.trans (by decide) w)
    refine State.guardAdmission_frame _ _ ?_ (List.Subset.trans (by decide) w)
    refine State.guardRead_frame _ _ ?_ (List.Subset.trans (by decide) w)
    assumption
  clear_value y2
  extract_lets +onlyGivenNames y3
  have h3 : Frame ch s y3 := by
    unfold y3
    refine State.findLostSave_frame _ ?_ (List.Subset.trans (by decide) w)
    refine State.restoreClock_frame _ ?_ (List.Subset.trans (by decide) w)
    refine State.checkBbram_frame _ ?_ (List.Subset.trans (by decide) w)
    refine State.replayBattery_frame _ ?_ (List.Subset.trans (by decide) w)
    assumption
  clear_value y3
  extract_lets +onlyGivenNames y4
  have h4 : Frame ch s y4 := by
    unfold y4
    refine State.logG_frame _ _ _ ?_ (List.Subset.trans (by decide) w)
    assumption
  clear_value y4
  extract_lets +onlyGivenNames y5
  have h5 : Frame ch s y5 := by
    unfold y5
    refine State.finishPending_frame _ _ ?_ (List.Subset.trans (by decide) w)
    refine State.guardUp_frame _ ?_ (List.Subset.trans (by decide) w)
    refine State.guardRoots_frame _ ?_ (List.Subset.trans (by decide) w)
    refine State.checkEnrolment_frame _ _ ?_ (List.Subset.trans (by decide) w)
    assumption
  clear_value y5
  refine Frame.ite ?_ ?_
  · assumption
  · refine State.guardEnd_frame _ ?_ (List.Subset.trans (by decide) w)
    assumption

theorem State.loseBuffers_frame (x) (h : Frame ch s x)
        (w : ([.kst, .slc, .per, .commits, .log, .store, .custody] : List Block) ⊆ ch) :
    Frame ch s (State.loseBuffers x) := by
  delta State.loseBuffers
  extract_lets +onlyGivenNames y1
  have h1 : Frame ch s y1 := by
    unfold y1
    refine State.loseWaiting_frame _ ?_ (List.Subset.trans (by decide) w)
    assumption
  clear_value y1
  extract_lets +onlyGivenNames y2
  have h2 : Frame ch s y2 := by
    unfold y2
    refine State.applyUndos_frame _ _ ?_ (List.Subset.trans (by decide) w)
    assumption
  clear_value y2
  extract_lets +onlyGivenNames y3
  have h3 : Frame ch s y3 := by
    unfold y3
    refine State.applyUndos_frame _ _ ?_ (List.Subset.trans (by decide) w)
    assumption
  clear_value y3
  extract_lets +onlyGivenNames y4
  clear_value y4
  apply Frame.upd <;> first | assumption | exact Or.inl (w (by decide)) | exact Or.inr rfl | exact List.suffix_rfl

theorem State.recordLanes_frame (x a1 a2 a3) (h : Frame ch s x) (w : ([.tnd, .fabric, .commits] : List Block) ⊆ ch) :
    Frame ch s (State.recordLanes x a1 a2 a3) := by
  delta State.recordLanes
  extract_lets +onlyGivenNames y1
  clear_value y1
  extract_lets +onlyGivenNames y2
  clear_value y2
  extract_lets +onlyGivenNames y3
  extract_lets +onlyGivenNames y4
  have h4 : Frame ch s y4 := by
    unfold y4
    apply Frame.upd <;> first | assumption | exact Or.inl (w (by decide)) | exact Or.inr rfl | exact List.suffix_rfl
  clear_value y4
  refine Frame.ite ?_ ?_
  · assumption
  · refine State.commit_frame _ _ _ _ _ ?_ (List.Subset.trans (by decide) w)
    assumption

theorem State.repourReset_frame (x) (h : Frame ch s x)
        (w : ([.stage, .pat, .queues, .tnd, .clusters, .kst, .chl, .regions, .log, .store, .dcc, .custody] : List
      Block) ⊆ ch) :
    Frame ch s (State.repourReset x) := by
  delta State.repourReset
  extract_lets +onlyGivenNames y1
  have h1 : Frame ch s y1 := by
    unfold y1
    exact State.flushSummaries_frame _ h (List.Subset.trans (by decide) w)
  clear_value y1
  extract_lets +onlyGivenNames y2
  apply Frame.upd (x := y1) <;> first | assumption | exact Or.inl (w (by decide)) | exact Or.inr rfl | exact List.suffix_rfl

theorem State.readPattern_frame (x a1 a2) (h : Frame ch s x)
        (w : ([.stage, .alert, .unsealed, .pat, .host, .queues, .tnd, .clusters, .kst, .roots, .mea, .meas, .slc,
      .ngl, .per, .commits, .log, .store, .tam, .dcc, .custody, .cards, .m] : List Block) ⊆ ch) :
    Frame ch s (State.readPattern x a1 a2) := by
  delta State.readPattern
  extract_lets +onlyGivenNames y1
  clear_value y1
  extract_lets +onlyGivenNames y2
  clear_value y2
  extract_lets +onlyGivenNames y3
  extract_lets +onlyGivenNames y4
  extract_lets +onlyGivenNames y5
  have h5 : Frame ch s y5 := by
    unfold y5
    refine State.fetchPattern_frame _ _ _ _ ?_ (List.Subset.trans (by decide) w)
    apply Frame.upd <;> first | assumption | exact Or.inl (w (by decide)) | exact Or.inr rfl | exact List.suffix_rfl
  clear_value y5
  refine Frame.ite ?_ ?_
  · refine State.setReason_frame _ _ _ ?_ (List.Subset.trans (by decide) w)
    assumption
  · extract_lets +onlyGivenNames y6
    have h6 : Frame ch s y6.2.2 := by
      unfold y6
      refine State.verifyPattern_frame _ _ _ _ ?_ (List.Subset.trans (by decide) w)
      assumption
    clear_value y6
    extract_lets +onlyGivenNames y7
    have h7 : Frame ch s y7 := by
      unfold y7
      unfold y3
      refine Frame.ite ?_ ?_
      · apply Frame.upd <;> first | assumption | exact Or.inl (w (by decide)) | exact Or.inr rfl | exact List.suffix_rfl
      · apply Frame.upd <;> first | assumption | exact Or.inl (w (by decide)) | exact Or.inr rfl | exact List.suffix_rfl
    clear_value y7
    refine Frame.ite ?_ ?_
    · refine State.acceptPattern_frame _ _ _ _ ?_ (List.Subset.trans (by decide) w)
      assumption
    · extract_lets +onlyGivenNames y8
      have h8 : Frame ch s y8 := by
        unfold y8
        refine State.fetchPattern_frame _ _ _ _ ?_ (List.Subset.trans (by decide) w)
        assumption
      clear_value y8
      refine Frame.ite ?_ ?_
      · refine State.setReason_frame _ _ _ ?_ (List.Subset.trans (by decide) w)
        assumption
      · extract_lets +onlyGivenNames y9
        have h9 : Frame ch s y9.2.2 := by
          unfold y9
          refine State.verifyPattern_frame _ _ _ _ ?_ (List.Subset.trans (by decide) w)
          assumption
        clear_value y9
        extract_lets +onlyGivenNames y10
        have h10 : Frame ch s y10 := by
          unfold y10
          unfold y3
          refine Frame.ite ?_ ?_
          · apply Frame.upd <;> first | assumption | exact Or.inl (w (by decide)) | exact Or.inr rfl | exact List.suffix_rfl
          · apply Frame.upd <;> first | assumption | exact Or.inl (w (by decide)) | exact Or.inr rfl | exact List.suffix_rfl
        clear_value y10
        refine Frame.ite ?_ ?_
        · extract_lets +onlyGivenNames y11
          extract_lets +onlyGivenNames y12
          have h12 : Frame ch s y12 := by
            unfold y12
            refine State.logG_frame _ _ _ ?_ (List.Subset.trans (by decide) w)
            apply Frame.upd <;> first | assumption | exact Or.inl (w (by decide)) | exact Or.inr rfl | exact List.suffix_rfl
          clear_value y12
          refine State.acceptPattern_frame _ _ _ _ ?_ (List.Subset.trans (by decide) w)
          assumption
        · refine State.setReason_frame _ _ _ ?_ (List.Subset.trans (by decide) w)
          assumption

theorem State.hubUp_frame (x) (h : Frame ch s x) (w : ([.stage, .host, .slc] : List Block) ⊆ ch) :
    Frame ch s (State.hubUp x) := by
  delta State.hubUp
  extract_lets +onlyGivenNames y1
  extract_lets +onlyGivenNames y2
  extract_lets +onlyGivenNames y3
  have h3 : Frame ch s y3 := by
    unfold y3
    apply Frame.upd <;> first | assumption | exact Or.inl (w (by decide)) | exact Or.inr rfl | exact List.suffix_rfl
  clear_value y3
  refine Frame.ite ?_ ?_
  · assumption
  · apply Frame.upd <;> first | assumption | exact Or.inl (w (by decide)) | exact Or.inr rfl | exact List.suffix_rfl

theorem State.unseal_frame (x) (h : Frame ch s x) (w : ([.stage, .unsealed, .roots] : List Block) ⊆ ch) :
    Frame ch s (State.unseal x) := by
  delta State.unseal
  extract_lets +onlyGivenNames y1
  extract_lets +onlyGivenNames y2
  have h2 : Frame ch s y2 := by
    unfold y2
    apply Frame.upd <;> first | assumption | exact Or.inl (w (by decide)) | exact Or.inr rfl | exact List.suffix_rfl
  extract_lets +onlyGivenNames y3
  extract_lets +onlyGivenNames y4
  have h4 : Frame ch s y4 := by
    unfold y4
    refine Frame.ite ?_ ?_
    · apply Frame.upd <;> first | assumption | exact Or.inl (w (by decide)) | exact Or.inr rfl | exact List.suffix_rfl
    · assumption
  clear_value y4
  refine Frame.ite ?_ ?_
  · assumption
  · apply Frame.upd <;> first | assumption | exact Or.inl (w (by decide)) | exact Or.inr rfl | exact List.suffix_rfl

theorem State.beginGate_frame (x) (h : Frame ch s x) (w : ([.stage, .unsealed, .roots] : List Block) ⊆ ch) :
    Frame ch s (State.beginGate x) := by
  delta State.beginGate
  refine Frame.ite ?_ ?_
  · assumption
  · refine Frame.ite ?_ ?_
    · refine State.unseal_frame _ ?_ (List.Subset.trans (by decide) w)
      apply Frame.upd <;> first | assumption | exact Or.inl (w (by decide)) | exact Or.inr rfl | exact List.suffix_rfl
    · refine Frame.ite ?_ ?_
      · refine State.unseal_frame _ ?_ (List.Subset.trans (by decide) w)
        assumption
      · refine State.setReason_frame _ _ _ ?_ (List.Subset.trans (by decide) w)
        apply Frame.upd <;> first | assumption | exact Or.inl (w (by decide)) | exact Or.inr rfl | exact List.suffix_rfl

theorem State.startPorts_frame (x) (h : Frame ch s x) (w : ([.ngl] : List Block) ⊆ ch) :
    Frame ch s (State.startPorts x) := by
  delta State.startPorts
  refine Frame.fold ?_ (fun y1 a1 h1 => ?_)
  · assumption
  · extract_lets +onlyGivenNames y2
    refine Frame.ite ?_ ?_
    · refine Frame.ite ?_ ?_
      · refine State.modPort_frame _ _ _ ?_ (List.Subset.trans (by decide) w)
        assumption
      · assumption
    · refine State.modPort_frame _ _ _ ?_ (List.Subset.trans (by decide) w)
      assumption

theorem State.noCapacity_frame (x) (h : Frame ch s x) (w : ([.stage] : List Block) ⊆ ch) :
    Frame ch s (State.noCapacity x) := by
  delta State.noCapacity
  refine Frame.ite ?_ ?_
  · refine State.setReason_frame _ _ _ ?_ (List.Subset.trans (by decide) w)
    apply Frame.upd <;> first | assumption | exact Or.inl (w (by decide)) | exact Or.inr rfl | exact List.suffix_rfl
  · assumption

theorem State.fitSlots_frame (x) (h : Frame ch s x) (w : ([.cards, .m] : List Block) ⊆ ch) :
    Frame ch s (State.fitSlots x) := by
  delta State.fitSlots
  extract_lets +onlyGivenNames y1
  extract_lets +onlyGivenNames y2
  have h2 : Frame ch s y2 := by
    unfold y2
    apply Frame.upd <;> first | assumption | exact Or.inl (w (by decide)) | exact Or.inr rfl | exact List.suffix_rfl
  clear_value y2
  refine Frame.ite ?_ ?_
  · apply Frame.upd <;> first | assumption | exact Or.inl (w (by decide)) | exact Or.inr rfl | exact List.suffix_rfl
  · refine Frame.ite ?_ ?_
    · refine State.sdPowerUp_frame _ ?_ (List.Subset.trans (by decide) w)
      assumption
    · assumption

theorem State.bistUnit_frame (x a1) (h : Frame ch s x) (w : ([.tnd, .fabric, .commits, .log] : List Block) ⊆ ch) :
    Frame ch s (State.bistUnit x a1) := by
  delta State.bistUnit
  refine Frame.ite ?_ ?_
  · refine State.logEv_frame _ _ _ _ _ ?_ (List.Subset.trans (by decide) w)
    refine State.retireUnit_frame _ _ _ _ ?_ (List.Subset.trans (by decide) w)
    assumption
  · assumption

theorem State.bistCluster_frame (x a1 a2) (h : Frame ch s x)
        (w : ([.tnd, .fabric, .commits, .log] : List Block) ⊆ ch) :
    Frame ch s (State.bistCluster x a1 a2) := by
  delta State.bistCluster
  refine Frame.ite ?_ ?_
  · assumption
  · extract_lets +onlyGivenNames y1
    clear_value y1
    extract_lets +onlyGivenNames y2
    clear_value y2
    extract_lets +onlyGivenNames y3
    clear_value y3
    refine Frame.ite ?_ ?_
    · refine State.logEv_frame _ _ _ _ _ ?_ (List.Subset.trans (by decide) w)
      refine State.retirePosition_frame _ _ ?_ (List.Subset.trans (by decide) w)
      assumption
    · refine Frame.fold ?_ (fun y4 a4 h4 => ?_)
      · assumption
      · refine State.bistUnit_frame _ _ ?_ (List.Subset.trans (by decide) w)
        assumption

theorem State.beginRepour_frame (x) (h : Frame ch s x)
        (w : ([.stage, .host, .queues, .tnd, .clusters, .kst, .mea, .meas, .slc, .ngl, .per, .commits, .log, .store,
      .dcc, .custody, .cards, .m] : List Block) ⊆ ch) :
    Frame ch s (State.beginRepour x) := by
  delta State.beginRepour
  extract_lets +onlyGivenNames y1
  have h1 : Frame ch s y1 := by
    unfold y1
    refine State.logG_frame _ _ _ ?_ (List.Subset.trans (by decide) w)
    assumption
  clear_value y1
  extract_lets +onlyGivenNames y2
  extract_lets +onlyGivenNames y3
  extract_lets +onlyGivenNames y4
  extract_lets +onlyGivenNames y5
  have h5 : Frame ch s y5 := by
    unfold y5
    apply Frame.upd <;> first | assumption | exact Or.inl (w (by decide)) | exact Or.inr rfl | exact List.suffix_rfl
  clear_value y5
  extract_lets +onlyGivenNames y6
  have h6 : Frame ch s y6 := by
    unfold y6
    refine Frame.fold ?_ (fun y7 a7 h7 => ?_)
    · assumption
    · refine State.beginDetach_frame _ _ _ ?_ (List.Subset.trans (by decide) w)
      assumption
  clear_value y6
  extract_lets +onlyGivenNames y8
  have h8 : Frame ch s y8 := by
    unfold y8
    refine State.beginDetach_frame _ _ _ ?_ (List.Subset.trans (by decide) w)
    assumption
  clear_value y8
  extract_lets +onlyGivenNames y9
  clear_value y9
  extract_lets +onlyGivenNames y10
  extract_lets +onlyGivenNames y11
  have h11 : Frame ch s y11 := by
    unfold y11
    apply Frame.upd <;> first | assumption | exact Or.inl (w (by decide)) | exact Or.inr rfl | exact List.suffix_rfl
  clear_value y11
  extract_lets +onlyGivenNames y12
  have h12 : Frame ch s y12 := by
    unfold y12
    refine State.deactivateCards_frame _ ?_ (List.Subset.trans (by decide) w)
    refine State.endSession_frame _ _ ?_ (List.Subset.trans (by decide) w)
    assumption
  clear_value y12
  extract_lets +onlyGivenNames y13
  have h13 : Frame ch s y13 := by
    unfold y13
    refine Frame.ite ?_ ?_
    · assumption
    · refine State.sdPowerDown_frame _ _ ?_ (List.Subset.trans (by decide) w)
      assumption
  clear_value y13
  extract_lets +onlyGivenNames y14
  extract_lets +onlyGivenNames y15
  extract_lets +onlyGivenNames y16
  have h16 : Frame ch s y16 := by
    unfold y16
    apply Frame.upd <;> first | assumption | exact Or.inl (w (by decide)) | exact Or.inr rfl | exact List.suffix_rfl
  clear_value y16
  apply Frame.upd <;> first | assumption | exact Or.inl (w (by decide)) | exact Or.inr rfl | exact List.suffix_rfl

theorem State.cfgWrite_frame (x a1 a2 a3) (h : Frame ch s x) (w : ([.host, .m] : List Block) ⊆ ch) :
    Frame ch s (State.cfgWrite x a1 a2 a3) := by
  delta State.cfgWrite
  extract_lets +onlyGivenNames y1
  extract_lets +onlyGivenNames y2
  extract_lets +onlyGivenNames y3
  split
  · unfold y3
    apply Frame.upd <;> first | assumption | exact Or.inl (w (by decide)) | exact Or.inr rfl | exact List.suffix_rfl
  · unfold y3
    apply Frame.upd <;> first | assumption | exact Or.inl (w (by decide)) | exact Or.inr rfl | exact List.suffix_rfl
  · unfold y3
    apply Frame.upd <;> first | assumption | exact Or.inl (w (by decide)) | exact Or.inr rfl | exact List.suffix_rfl
  · unfold y3
    apply Frame.upd <;> first | assumption | exact Or.inl (w (by decide)) | exact Or.inr rfl | exact List.suffix_rfl
  · unfold y3
    apply Frame.upd <;> first | assumption | exact Or.inl (w (by decide)) | exact Or.inr rfl | exact List.suffix_rfl
  · unfold y3
    apply Frame.upd <;> first | assumption | exact Or.inl (w (by decide)) | exact Or.inr rfl | exact List.suffix_rfl
  · unfold y3
    apply Frame.upd <;> first | assumption | exact Or.inl (w (by decide)) | exact Or.inr rfl | exact List.suffix_rfl
  · unfold y3
    apply Frame.upd <;> first | assumption | exact Or.inl (w (by decide)) | exact Or.inr rfl | exact List.suffix_rfl
  · unfold y3
    apply Frame.upd <;> first | assumption | exact Or.inl (w (by decide)) | exact Or.inr rfl | exact List.suffix_rfl
  · refine Frame.ite ?_ ?_
    · refine State.toD3hot_frame _ ?_ (List.Subset.trans (by decide) w)
      assumption
    · refine Frame.ite ?_ ?_
      · refine State.toD0_frame _ ?_ (List.Subset.trans (by decide) w)
        assumption
      · assumption
  · unfold y3
    apply Frame.upd <;> first | assumption | exact Or.inl (w (by decide)) | exact Or.inr rfl | exact List.suffix_rfl
  · unfold y3
    apply Frame.upd <;> first | assumption | exact Or.inl (w (by decide)) | exact Or.inr rfl | exact List.suffix_rfl
  · unfold y3
    apply Frame.upd <;> first | assumption | exact Or.inl (w (by decide)) | exact Or.inr rfl | exact List.suffix_rfl
  · unfold y3
    apply Frame.upd <;> first | assumption | exact Or.inl (w (by decide)) | exact Or.inr rfl | exact List.suffix_rfl
  · extract_lets +onlyGivenNames y4
    have h4 : Frame ch s y4 := by
      unfold y4
      unfold y3
      apply Frame.upd <;> first | assumption | exact Or.inl (w (by decide)) | exact Or.inr rfl | exact List.suffix_rfl
    clear_value y4
    refine Frame.fold ?_ (fun y5 a5 h5 => ?_)
    · assumption
    · refine State.unmask_frame _ _ ?_ (List.Subset.trans (by decide) w)
      assumption
  · unfold y3
    apply Frame.upd <;> first | assumption | exact Or.inl (w (by decide)) | exact Or.inr rfl | exact List.suffix_rfl
  · unfold y3
    apply Frame.upd <;> first | assumption | exact Or.inl (w (by decide)) | exact Or.inr rfl | exact List.suffix_rfl
  · unfold y3
    apply Frame.upd <;> first | assumption | exact Or.inl (w (by decide)) | exact Or.inr rfl | exact List.suffix_rfl
  · unfold y3
    apply Frame.upd <;> first | assumption | exact Or.inl (w (by decide)) | exact Or.inr rfl | exact List.suffix_rfl
  · unfold y3
    apply Frame.upd <;> first | assumption | exact Or.inl (w (by decide)) | exact Or.inr rfl | exact List.suffix_rfl
  · unfold y3
    apply Frame.upd <;> first | assumption | exact Or.inl (w (by decide)) | exact Or.inr rfl | exact List.suffix_rfl
  · apply Frame.upd <;> first | assumption | exact Or.inl (w (by decide)) | exact Or.inr rfl | exact List.suffix_rfl
  · assumption

theorem State.timeoutError_frame (x) (h : Frame ch s x) (w : ([.host] : List Block) ⊆ ch) :
    Frame ch s (State.timeoutError x) := by
  delta State.timeoutError
  extract_lets +onlyGivenNames y1
  apply Frame.upd <;> first | assumption | exact Or.inl (w (by decide)) | exact Or.inr rfl | exact List.suffix_rfl

theorem State.stageOver_frame (x a1 a2 a3) (h : Frame ch s x)
        (w : ([.pat, .host, .queues, .tnd, .clusters, .kst, .mea, .slc, .ngl, .regions, .commits, .log, .dcc, .m] :
      List Block) ⊆ ch) :
    Frame ch s (State.stageOver x a1 a2 a3) := by
  delta State.stageOver
  refine State.stopItem_frame _ _ _ ?_ (List.Subset.trans (by decide) w)
  apply Frame.upd <;> first | assumption | exact Or.inl (w (by decide)) | exact Or.inr rfl | exact List.suffix_rfl

theorem State.fetchPiece_frame (x a1) (h : Frame ch s x) (w : ([.pat, .host, .m] : List Block) ⊆ ch) :
    Frame ch s (State.fetchPiece x a1) := by
  delta State.fetchPiece
  extract_lets +onlyGivenNames y1
  extract_lets +onlyGivenNames y2
  have h2 : Frame ch s y2 := by
    unfold y2
    apply Frame.upd <;> first | assumption | exact Or.inl (w (by decide)) | exact Or.inr rfl | exact List.suffix_rfl
  clear_value y2
  refine State.hostWrite_frame _ _ ?_ (List.Subset.trans (by decide) w)
  assumption

theorem State.flashNext_frame (x a1) (h : Frame ch s x) (w : ([.pat, .m] : List Block) ⊆ ch) :
    Frame ch s (State.flashNext x a1) := by
  delta State.flashNext
  extract_lets +onlyGivenNames y1
  extract_lets +onlyGivenNames y2
  have h2 : Frame ch s y2 := by
    unfold y2
    refine State.emit_frame _ _ ?_ (List.Subset.trans (by decide) w)
    apply Frame.upd <;> first | assumption | exact Or.inl (w (by decide)) | exact Or.inr rfl | exact List.suffix_rfl
  clear_value y2
  extract_lets +onlyGivenNames y3
  have h3 : Frame ch s y3 := by
    unfold y3
    refine State.emit_frame _ _ ?_ (List.Subset.trans (by decide) w)
    assumption
  clear_value y3
  refine State.emit_frame _ _ ?_ (List.Subset.trans (by decide) w)
  assumption

theorem State.verifyStaged_frame (x a1 a2) (h : Frame ch s x)
        (w : ([.alert, .unsealed, .pat, .host, .queues, .tnd, .clusters, .kst, .roots, .mea, .meas, .slc, .ngl,
      .per, .commits, .log, .store, .tam, .dcc, .custody, .cards, .m] : List Block) ⊆ ch) :
    Frame ch s (State.verifyStaged x a1 a2).2 := by
  delta State.verifyStaged
  refine Frame.sndIte ?_ ?_
  · extract_lets +onlyGivenNames y1
    clear_value y1
    extract_lets +onlyGivenNames y2
    have h2 : Frame ch s y2.2 := by
      unfold y2
      refine State.decide2_frame _ _ _ _ _ _ ?_ (List.Subset.trans (by decide) w)
      assumption
    clear_value y2
    split
    · dsimp only
      assumption
    · dsimp only
      assumption
  · extract_lets +onlyGivenNames y3
    have h3 : Frame ch s y3.2.2 := by
      unfold y3
      refine State.verifyPattern_frame _ _ _ _ ?_ (List.Subset.trans (by decide) w)
      assumption
    clear_value y3
    dsimp only
    assumption

theorem State.stageVerify_frame (x a1 a2) (h : Frame ch s x)
        (w : ([.alert, .unsealed, .pat, .host, .queues, .tnd, .clusters, .kst, .roots, .mea, .meas, .slc, .ngl,
      .regions, .per, .commits, .log, .store, .tam, .dcc, .custody, .cards, .m] : List Block) ⊆ ch) :
    Frame ch s (State.stageVerify x a1 a2) := by
  delta State.stageVerify
  extract_lets +onlyGivenNames y1
  extract_lets +onlyGivenNames y2
  have h2 : Frame ch s y2 := by
    unfold y2
    refine State.readSlot_frame _ _ _ _ ?_ (List.Subset.trans (by decide) w)
    apply Frame.upd <;> first | assumption | exact Or.inl (w (by decide)) | exact Or.inr rfl | exact List.suffix_rfl
  clear_value y2
  extract_lets +onlyGivenNames y3
  have h3 : Frame ch s y3.2 := by
    unfold y3
    refine State.verifyStaged_frame _ _ _ ?_ (List.Subset.trans (by decide) w)
    assumption
  clear_value y3
  extract_lets +onlyGivenNames y4
  have h4 : Frame ch s y4 := by
    unfold y4
    assumption
  clear_value y4
  split
  · assumption
  · refine Frame.ite ?_ ?_
    · refine State.stageOver_frame _ _ _ _ ?_ (List.Subset.trans (by decide) w)
      assumption
    · extract_lets +onlyGivenNames y5
      extract_lets +onlyGivenNames y6
      clear_value y6
      extract_lets +onlyGivenNames y7
      extract_lets +onlyGivenNames y8
      have h8 : Frame ch s y8 := by
        unfold y8
        apply Frame.upd <;> first | assumption | exact Or.inl (w (by decide)) | exact Or.inr rfl | exact List.suffix_rfl
      clear_value y8
      refine Frame.ite ?_ ?_
      · extract_lets +onlyGivenNames y9
        extract_lets +onlyGivenNames y10
        have h10 : Frame ch s y10 := by
          unfold y10
          refine Frame.ite ?_ ?_
          · apply Frame.upd <;> first | assumption | exact Or.inl (w (by decide)) | exact Or.inr rfl | exact List.suffix_rfl
          · apply Frame.upd <;> first | assumption | exact Or.inl (w (by decide)) | exact Or.inr rfl | exact List.suffix_rfl
        clear_value y10
        refine State.finishM_frame _ _ _ _ _ _ _ _ _ _ ?_ (List.Subset.trans (by decide) w)
        assumption
      · refine State.finishM_frame _ _ _ _ _ _ _ _ _ _ ?_ (List.Subset.trans (by decide) w)
        assumption

theorem State.readRest_frame (x a1 a2 a3) (h : Frame ch s x) (w : ([.host, .m] : List Block) ⊆ ch) :
    Frame ch s (State.readRest x a1 a2 a3) := by
  delta State.readRest
  refine Frame.ite ?_ ?_
  · refine State.hostWrite_frame _ _ ?_ (List.Subset.trans (by decide) w)
    assumption
  · assumption

theorem State.startProcessing_frame (x a1) (h : Frame ch s x) (w : ([.tnd, .clusters] : List Block) ⊆ ch) :
    Frame ch s (State.startProcessing x a1) := by
  delta State.startProcessing
  split
  · assumption
  · extract_lets +onlyGivenNames y1
    have h1 : Frame ch s y1 := by
      unfold y1
      refine State.callBlocks_frame _ _ ?_ (List.Subset.trans (by decide) w)
      refine State.modItem_frame _ _ _ ?_ (List.Subset.trans (by decide) w)
      assumption
    clear_value y1
    extract_lets +onlyGivenNames y2
    clear_value y2
    refine State.modItem_frame _ _ _ ?_ (List.Subset.trans (by decide) w)
    assumption

theorem State.stageInput_frame (x a1 a2 a3) (h : Frame ch s x)
        (w : ([.pat, .host, .queues, .tnd, .clusters, .kst, .mea, .slc, .ngl, .regions, .commits, .log, .dcc, .m] :
      List Block) ⊆ ch) :
    Frame ch s (State.stageInput x a1 a2 a3) := by
  delta State.stageInput
  extract_lets +onlyGivenNames y1
  clear_value y1
  extract_lets +onlyGivenNames y2
  clear_value y2
  extract_lets +onlyGivenNames y3
  clear_value y3
  split
  · refine Frame.ite ?_ ?_
    · assumption
    · refine Frame.ite ?_ ?_
      · refine State.stageOver_frame _ _ _ _ ?_ (List.Subset.trans (by decide) w)
        assumption
      · extract_lets +onlyGivenNames y4
        clear_value y4
        refine State.flashNext_frame _ _ ?_ (List.Subset.trans (by decide) w)
        assumption
  · refine Frame.ite ?_ ?_
    · assumption
    · extract_lets +onlyGivenNames y5
      clear_value y5
      extract_lets +onlyGivenNames y6
      have h6 : Frame ch s y6 := by
        unfold y6
        refine State.modItem_frame _ _ _ ?_ (List.Subset.trans (by decide) w)
        assumption
      clear_value y6
      refine Frame.ite ?_ ?_
      · refine State.hostWrite_frame _ _ ?_ (List.Subset.trans (by decide) w)
        assumption
      · refine State.startProcessing_frame _ _ ?_ (List.Subset.trans (by decide) w)
        assumption

theorem State.readFault_frame (x a1 a2) (h : Frame ch s x) (w : ([.tnd, .clusters] : List Block) ⊆ ch) :
    Frame ch s (State.readFault x a1 a2) := by
  delta State.readFault
  extract_lets +onlyGivenNames y1
  clear_value y1
  extract_lets +onlyGivenNames y2
  have h2 : Frame ch s y2 := by
    unfold y2
    refine State.modItem_frame _ _ _ ?_ (List.Subset.trans (by decide) w)
    assumption
  clear_value y2
  refine Frame.ite ?_ ?_
  · refine State.startProcessing_frame _ _ ?_ (List.Subset.trans (by decide) w)
    assumption
  · assumption

theorem State.drawP384_frame (x) (h : Frame ch s x) (w : ([.m] : List Block) ⊆ ch) :
    Frame ch s (State.drawP384 x).2 := by
  delta State.drawP384
  refine State.drawScalar_frame _ _ ?_ (List.Subset.trans (by decide) w)
  assumption

theorem State.mirrorVerbsLost_frame (x) (h : Frame ch s x) (w : ([.tnd, .ngl, .m] : List Block) ⊆ ch) :
    Frame ch s (State.mirrorVerbsLost x) := by
  delta State.mirrorVerbsLost
  refine Frame.fold ?_ (fun y1 a1 h1 => ?_)
  · assumption
  · split
    · refine Frame.ite ?_ ?_
      · extract_lets +onlyGivenNames y2
        have h2 : Frame ch s y2 := by
          unfold y2
          refine State.settle_frame _ _ _ _ _ _ _ _ ?_ (List.Subset.trans (by decide) w)
          assumption
        clear_value y2
        apply Frame.upd <;> first | assumption | exact Or.inl (w (by decide)) | exact Or.inr rfl | exact List.suffix_rfl
      · assumption
    · assumption

theorem State.portDown_frame (x a1) (h : Frame ch s x) (w : ([.tnd, .ngl, .m] : List Block) ⊆ ch) :
    Frame ch s (State.portDown x a1) := by
  delta State.portDown
  extract_lets +onlyGivenNames y1
  refine Frame.ite ?_ ?_
  · refine State.mirrorVerbsLost_frame _ ?_ (List.Subset.trans (by decide) w)
    refine State.resendMirrors_frame _ ?_ (List.Subset.trans (by decide) w)
    refine State.modPort_frame _ _ _ ?_ (List.Subset.trans (by decide) w)
    assumption
  · assumption

theorem State.validFlits_frame (x a1 a2 a3) (h : Frame ch s x) (w : ([.ngl] : List Block) ⊆ ch) :
    Frame ch s (State.validFlits x a1 a2 a3) := by
  delta State.validFlits
  extract_lets +onlyGivenNames y1
  extract_lets +onlyGivenNames y2
  have h2 : Frame ch s y2 := by
    unfold y2
    refine State.modPort_frame _ _ _ ?_ (List.Subset.trans (by decide) w)
    assumption
  clear_value y2
  refine Frame.ite ?_ ?_
  · apply Frame.upd <;> first | assumption | exact Or.inl (w (by decide)) | exact Or.inr rfl | exact List.suffix_rfl
  · assumption

theorem State.portUp_frame (x a1) (h : Frame ch s x) (w : ([.ngl, .m] : List Block) ⊆ ch) :
    Frame ch s (State.portUp x a1) := by
  delta State.portUp
  extract_lets +onlyGivenNames y1
  refine Frame.ite ?_ ?_
  · assumption
  · refine State.resendMirrors_frame _ ?_ (List.Subset.trans (by decide) w)
    refine State.sendAll_frame _ _ _ _ ?_ (List.Subset.trans (by decide) w)
    assumption

theorem State.adoptCopy_frame (x a1 a2) (h : Frame ch s x) (w : ([.tnd, .kst, .slc, .commits] : List Block) ⊆ ch) :
    Frame ch s (State.adoptCopy x a1 a2) := by
  delta State.adoptCopy
  extract_lets +onlyGivenNames y1
  extract_lets +onlyGivenNames y2
  extract_lets +onlyGivenNames y3
  clear_value y3
  extract_lets +onlyGivenNames y4
  clear_value y4
  extract_lets +onlyGivenNames y5
  clear_value y5
  extract_lets +onlyGivenNames y6
  have h6 : Frame ch s y6 := by
    unfold y6
    refine State.modSlice_frame _ _ _ ?_ (List.Subset.trans (by decide) w)
    refine State.forgetCounts_frame _ _ ?_ (List.Subset.trans (by decide) w)
    assumption
  clear_value y6
  extract_lets +onlyGivenNames y7
  extract_lets +onlyGivenNames y8
  have h8 : Frame ch s y8 := by
    unfold y8
    apply Frame.upd <;> first | assumption | exact Or.inl (w (by decide)) | exact Or.inr rfl | exact List.suffix_rfl
  clear_value y8
  refine State.commit_frame _ _ _ _ _ ?_ (List.Subset.trans (by decide) w)
  assumption

theorem State.applyUpdate_frame (x a1 a2) (h : Frame ch s x)
        (w : ([.host, .tnd, .clusters, .kst, .slc, .commits, .log, .m] : List Block) ⊆ ch) :
    FrameO ch s (State.applyUpdate x a1 a2) := by
  delta State.applyUpdate
  extract_lets +onlyGivenNames y1
  clear_value y1
  extract_lets +onlyGivenNames y2
  split
  · exact FrameO.none
  · split
    · split
      · refine FrameO.some ?_
        refine State.eraseRecords_frame _ _ _ _ ?_ (List.Subset.trans (by decide) w)
        refine State.zeroSlice_frame _ _ ?_ (List.Subset.trans (by decide) w)
        assumption
      · refine FrameO.some ?_
        assumption
    · split
      · refine FrameO.some ?_
        refine State.adoptCopy_frame _ _ _ ?_ (List.Subset.trans (by decide) w)
        assumption
      · split
        · refine FrameO.some ?_
          refine State.logEv_frame _ _ _ _ _ ?_ (List.Subset.trans (by decide) w)
          refine State.sliceEvent_frame _ _ ?_ (List.Subset.trans (by decide) w)
          refine State.writeStatus_frame _ _ ?_ (List.Subset.trans (by decide) w)
          refine State.adoptCopy_frame _ _ _ ?_ (List.Subset.trans (by decide) w)
          assumption
        · exact FrameO.none

theorem State.sendAcks_frame (x) (h : Frame ch s x) (w : ([.ngl, .m] : List Block) ⊆ ch) :
    Frame ch s (State.sendAcks x) := by
  delta State.sendAcks
  refine Frame.ite ?_ ?_
  · assumption
  · extract_lets +onlyGivenNames y1
    have h1 : Frame ch s y1 := by
      unfold y1
      refine Frame.fold ?_ (fun y2 a2 h2 => ?_)
      · assumption
      · refine Frame.ite ?_ ?_
        · refine State.sendAll_frame _ _ _ _ ?_ (List.Subset.trans (by decide) w)
          assumption
        · assumption
    clear_value y1
    apply Frame.upd <;> first | assumption | exact Or.inl (w (by decide)) | exact Or.inr rfl | exact List.suffix_rfl

theorem State.mirrorMade_frame (x a1 a2 a3) (h : Frame ch s x)
        (w : ([.host, .tnd, .slc, .ngl, .commits, .m] : List Block) ⊆ ch) :
    Frame ch s (State.mirrorMade x a1 a2 a3) := by
  delta State.mirrorMade
  extract_lets +onlyGivenNames y1
  extract_lets +onlyGivenNames y2
  have h2 : Frame ch s y2 := by
    unfold y2
    refine State.modSlice_frame _ _ _ ?_ (List.Subset.trans (by decide) w)
    assumption
  clear_value y2
  extract_lets +onlyGivenNames y3
  have h3 : Frame ch s y3 := by
    unfold y3
    refine State.writeStatus_frame _ _ ?_ (List.Subset.trans (by decide) w)
    refine State.commit_frame _ _ _ _ _ ?_ (List.Subset.trans (by decide) w)
    assumption
  clear_value y3
  refine Frame.ite ?_ ?_
  · assumption
  · refine State.sendMirror_frame _ _ _ _ _ ?_ (List.Subset.trans (by decide) w)
    assumption

theorem State.fenceSlice_frame (x a1) (h : Frame ch s x)
        (w : ([.host, .queues, .tnd, .clusters, .kst, .mea, .slc, .ngl, .commits, .m] : List Block) ⊆ ch) :
    Frame ch s (State.fenceSlice x a1) := by
  delta State.fenceSlice
  extract_lets +onlyGivenNames y1
  have h1 : Frame ch s y1 := by
    unfold y1
    refine State.setSliceState_frame _ _ _ _ _ ?_ (List.Subset.trans (by decide) w)
    assumption
  clear_value y1
  extract_lets +onlyGivenNames y2
  clear_value y2
  extract_lets +onlyGivenNames y3
  extract_lets +onlyGivenNames y4
  have h4 : Frame ch s y4 := by
    unfold y4
    apply Frame.upd <;> first | assumption | exact Or.inl (w (by decide)) | exact Or.inr rfl | exact List.suffix_rfl
  clear_value y4
  extract_lets +onlyGivenNames y5
  have h5 : Frame ch s y5 := by
    unfold y5
    refine Frame.fold ?_ (fun y6 a6 h6 => ?_)
    · assumption
    · split
      · refine State.settle_frame _ _ _ _ _ _ _ _ ?_ (List.Subset.trans (by decide) w)
        assumption
      · assumption
  clear_value y5
  extract_lets +onlyGivenNames y7
  clear_value y7
  refine State.endItems_frame _ _ _ _ ?_ (List.Subset.trans (by decide) w)
  assumption

theorem State.leaseEntry_frame (x a1 a2) (h : Frame ch s x)
        (w : ([.host, .queues, .tnd, .clusters, .kst, .mea, .slc, .ngl, .commits, .log, .m] : List Block) ⊆ ch) :
    Frame ch s (State.leaseEntry x a1 a2) := by
  delta State.leaseEntry
  extract_lets +onlyGivenNames y1
  clear_value y1
  extract_lets +onlyGivenNames y2
  clear_value y2
  extract_lets +onlyGivenNames y3
  clear_value y3
  extract_lets +onlyGivenNames y4
  refine Frame.ite ?_ ?_
  · assumption
  · extract_lets +onlyGivenNames y5
    have h5 : Frame ch s y5 := by
      unfold y5
      refine State.modSlice_frame _ _ _ ?_ (List.Subset.trans (by decide) w)
      assumption
    clear_value y5
    refine Frame.ite ?_ ?_
    · refine State.sendMirror_frame _ _ _ _ _ ?_ (List.Subset.trans (by decide) w)
      assumption
    · refine Frame.ite ?_ ?_
      · refine State.sendMirror_frame _ _ _ _ _ ?_ (List.Subset.trans (by decide) w)
        assumption
      · refine Frame.ite ?_ ?_
        · refine State.logEv_frame _ _ _ _ _ ?_ (List.Subset.trans (by decide) w)
          refine State.fenceSlice_frame _ _ ?_ (List.Subset.trans (by decide) w)
          assumption
        · assumption

theorem State.sliceVerb_frame (x a1 a2 a3 a4 a5 a6 a7) (h : Frame ch s x) (ha6 : ∀ z0 z1, FrameC ch s (a6 z0 z1))
        (w : ([.host, .queues, .tnd, .clusters, .kst, .mea, .slc, .ngl, .regions, .commits, .log, .dcc, .m] : List
      Block) ⊆ ch) :
    Frame ch s (State.sliceVerb x a1 a2 a3 a4 a5 a6 a7) := by
  delta State.sliceVerb
  refine State.runVerb_frame _ _ _ _ ?_ ?_ (List.Subset.trans (by decide) w)
  · assumption
  · intro y1 y2 h3
    refine FrameC.bind (fun y4 => ?_)
    solve_by_elim

theorem State.changeSlice_frame (x a1 a2 a3 a4 a5) (h : Frame ch s x)
        (w : ([.host, .tnd, .slc, .ngl, .commits, .m] : List Block) ⊆ ch) :
    Frame ch s (State.changeSlice x a1 a2 a3 a4 a5) := by
  delta State.changeSlice
  extract_lets +onlyGivenNames y1
  extract_lets +onlyGivenNames y2
  have h2 : Frame ch s y2 := by
    unfold y2
    refine State.modSlice_frame _ _ _ ?_ (List.Subset.trans (by decide) w)
    assumption
  clear_value y2
  extract_lets +onlyGivenNames y3
  have h3 : Frame ch s y3 := by
    unfold y3
    refine State.sliceEvent_frame _ _ ?_ (List.Subset.trans (by decide) w)
    refine State.writeStatus_frame _ _ ?_ (List.Subset.trans (by decide) w)
    assumption
  clear_value y3
  refine State.mirrorItem_frame _ _ _ ?_ (List.Subset.trans (by decide) w)
  refine State.finishM_frame _ _ _ _ _ _ _ _ _ _ ?_ (List.Subset.trans (by decide) w)
  assumption

theorem State.staleKeys_frame (x a1) (h : Frame ch s x) (w : ([.clusters, .kst] : List Block) ⊆ ch) :
    Frame ch s (State.staleKeys x a1) := by
  delta State.staleKeys
  extract_lets +onlyGivenNames y1
  have h1 : Frame ch s y1 := by
    unfold y1
    refine Frame.fold ?_ (fun y2 a2 h2 => ?_)
    · assumption
    · refine State.freeHub_frame _ _ ?_ (List.Subset.trans (by decide) w)
      assumption
  clear_value y1
  refine State.freeDrained_frame _ ?_ (List.Subset.trans (by decide) w)
  apply Frame.upd <;> first | assumption | exact Or.inl (w (by decide)) | exact Or.inr rfl | exact List.suffix_rfl

theorem State.reinstateEntry_frame (x a1 a2) (h : Frame ch s x)
        (w : ([.host, .queues, .tnd, .slc, .m] : List Block) ⊆ ch) :
    Frame ch s (State.reinstateEntry x a1 a2) := by
  delta State.reinstateEntry
  extract_lets +onlyGivenNames y1
  clear_value y1
  refine Frame.ite ?_ ?_
  · assumption
  · refine Frame.ite ?_ ?_
    · apply Frame.upd <;> first | assumption | exact Or.inl (w (by decide)) | exact Or.inr rfl | exact List.suffix_rfl
    · refine State.writeEntry_frame _ _ _ _ ?_ (List.Subset.trans (by decide) w)
      assumption

theorem State.reinstateDelayed_frame (x a1 a2) (h : Frame ch s x) (w : ([.tnd] : List Block) ⊆ ch) :
    Frame ch s (State.reinstateDelayed x a1 a2) := by
  delta State.reinstateDelayed
  extract_lets +onlyGivenNames y1
  clear_value y1
  refine Frame.ite ?_ ?_
  · assumption
  · extract_lets +onlyGivenNames y2
    clear_value y2
    extract_lets +onlyGivenNames y3
    extract_lets +onlyGivenNames y4
    extract_lets +onlyGivenNames y5
    have h5 : Frame ch s y5 := by
      unfold y5
      apply Frame.upd <;> first | assumption | exact Or.inl (w (by decide)) | exact Or.inr rfl | exact List.suffix_rfl
    clear_value y5
    refine State.addDelay_frame _ _ _ _ _ ?_ (List.Subset.trans (by decide) w)
    assumption

theorem State.reinstate_frame (x a1) (h : Frame ch s x) (w : ([.host, .queues, .tnd, .slc, .m] : List Block) ⊆ ch) :
    Frame ch s (State.reinstate x a1) := by
  delta State.reinstate
  split
  · assumption
  · extract_lets +onlyGivenNames y1
    have h1 : Frame ch s y1 := by
      unfold y1
      refine Frame.fold ?_ (fun y2 a2 h2 => ?_)
      · assumption
      · refine State.setQueue_frame _ _ ?_ (List.Subset.trans (by decide) w)
        assumption
    clear_value y1
    extract_lets +onlyGivenNames y3
    have h3 : Frame ch s y3 := by
      unfold y3
      refine Frame.fold ?_ (fun y4 a4 h4 => ?_)
      · assumption
      · refine State.reinstateEntry_frame _ _ _ ?_ (List.Subset.trans (by decide) w)
        assumption
    clear_value y3
    extract_lets +onlyGivenNames y5
    have h5 : Frame ch s y5 := by
      unfold y5
      refine Frame.fold ?_ (fun y6 a6 h6 => ?_)
      · assumption
      · refine State.reinstateDelayed_frame _ _ _ ?_ (List.Subset.trans (by decide) w)
        assumption
    clear_value y5
    refine State.updateStall_frame _ _ ?_ (List.Subset.trans (by decide) w)
    refine State.modSlice_frame _ _ _ ?_ (List.Subset.trans (by decide) w)
    assumption

theorem State.sealObject_frame (x a1) (h : Frame ch s x) (w : ([.m] : List Block) ⊆ ch) :
    Frame ch s (State.sealObject x a1).2 := by
  delta State.sealObject
  extract_lets +onlyGivenNames y1
  clear_value y1
  extract_lets +onlyGivenNames y2
  have h2 : Frame ch s y2.2 := by
    unfold y2
    refine State.wardenSign_frame _ _ _ _ _ _ ?_ (List.Subset.trans (by decide) w)
    assumption
  clear_value y2
  dsimp only
  assumption

theorem State.bar0Read_frame (x a1) (h : Frame ch s x) (w : ([.host, .m] : List Block) ⊆ ch) :
    Frame ch s (State.bar0Read x a1) := by
  delta State.bar0Read
  extract_lets +onlyGivenNames y1
  have h1 : Frame ch s y1 := by
    unfold y1
    refine State.emit_frame _ _ ?_ (List.Subset.trans (by decide) w)
    assumption
  clear_value y1
  refine Frame.ite ?_ ?_
  · assumption
  · split
    · assumption
    · extract_lets +onlyGivenNames y2
      clear_value y2
      extract_lets +onlyGivenNames y3
      clear_value y3
      apply Frame.upd <;> first | assumption | exact Or.inl (w (by decide)) | exact Or.inr rfl | exact List.suffix_rfl

theorem State.msixWrite_frame (x a1 a2 a3) (h : Frame ch s x) (w : ([.host, .m] : List Block) ⊆ ch) :
    Frame ch s (State.msixWrite x a1 a2 a3) := by
  delta State.msixWrite
  extract_lets +onlyGivenNames y1
  split
  · refine State.setVec_frame _ _ ?_ (List.Subset.trans (by decide) w)
    assumption
  · refine State.setVec_frame _ _ ?_ (List.Subset.trans (by decide) w)
    assumption
  · refine State.setVec_frame _ _ ?_ (List.Subset.trans (by decide) w)
    assumption
  · refine Frame.ite ?_ ?_
    · refine State.setVec_frame _ _ ?_ (List.Subset.trans (by decide) w)
      assumption
    · refine State.unmask_frame _ _ ?_ (List.Subset.trans (by decide) w)
      assumption

theorem State.bar4Write_frame (x a1 a2) (h : Frame ch s x) (w : ([.host, .m] : List Block) ⊆ ch) :
    Frame ch s (State.bar4Write x a1 a2) := by
  delta State.bar4Write
  refine Frame.ite ?_ ?_
  · refine State.msixWrite_frame _ _ _ _ ?_ (List.Subset.trans (by decide) w)
    assumption
  · refine Frame.ite ?_ ?_
    · refine State.setVec_frame _ _ ?_ (List.Subset.trans (by decide) w)
      assumption
    · assumption

theorem State.bar0Write_frame (x a1 a2) (h : Frame ch s x)
        (w : ([.queues, .slc, .chl, .per, .store, .gds] : List Block) ⊆ ch) :
    Frame ch s (State.bar0Write x a1 a2) := by
  delta State.bar0Write
  refine Frame.ite ?_ ?_
  · apply Frame.upd <;> first | assumption | exact Or.inl (w (by decide)) | exact Or.inr rfl | exact List.suffix_rfl
  · refine Frame.ite ?_ ?_
    · apply Frame.upd <;> first | assumption | exact Or.inl (w (by decide)) | exact Or.inr rfl | exact List.suffix_rfl
    · refine Frame.ite ?_ ?_
      · apply Frame.upd <;> first | assumption | exact Or.inl (w (by decide)) | exact Or.inr rfl | exact List.suffix_rfl
      · refine Frame.ite ?_ ?_
        · apply Frame.upd <;> first | assumption | exact Or.inl (w (by decide)) | exact Or.inr rfl | exact List.suffix_rfl
        · refine Frame.ite ?_ ?_
          · apply Frame.upd <;> first | assumption | exact Or.inl (w (by decide)) | exact Or.inr rfl | exact List.suffix_rfl
          · refine Frame.ite ?_ ?_
            · apply Frame.upd <;> first | assumption | exact Or.inl (w (by decide)) | exact Or.inr rfl | exact List.suffix_rfl
            · refine Frame.ite ?_ ?_
              · assumption
              · refine Frame.ite ?_ ?_
                · apply Frame.upd <;> first | assumption | exact Or.inl (w (by decide)) | exact Or.inr rfl | exact List.suffix_rfl
                · refine Frame.ite ?_ ?_
                  · apply Frame.upd <;> first | assumption | exact Or.inl (w (by decide)) | exact Or.inr rfl | exact List.suffix_rfl
                  · assumption

end Sys2Proof.Machine
end

