-- ==== Sys2Proof/Laws/Verbs.lean ====
section
/-!
SUPPORT. What looking an item's references up changes, and what a verb's row answers: the lemmas the statements about
verbs are proved from.
-/
namespace Sys2Proof.Machine

/-- A look-up counts its misses and touches the clusters, and nothing else. -/
theorem State.lookUp_spec (s : State) (it : Item) : ∃ misses clusters,
    s.lookUp it = { s with kst.missCount := misses, fabric.clusters := clusters } := by
  unfold State.lookUp State.missed State.useWrap
  split
  · exact ⟨_, _, rfl⟩
  · split <;> exact ⟨_, _, rfl⟩

/-- A look-up leaves the in-flight table as it was. -/
@[simp] theorem State.lookUp_tnd (s : State) (it : Item) : (s.lookUp it).tnd = s.tnd := by
  obtain ⟨_, _, h⟩ := s.lookUp_spec it; rw [h]

/-- A look-up leaves the slices as they were. -/
@[simp] theorem State.lookUp_slc (s : State) (it : Item) : (s.lookUp it).slc = s.slc := by
  obtain ⟨_, _, h⟩ := s.lookUp_spec it; rw [h]

/-- A look-up leaves the measurement registers and the random source as they were. -/
@[simp] theorem State.lookUp_mea (s : State) (it : Item) : (s.lookUp it).mea = s.mea := by
  obtain ⟨_, _, h⟩ := s.lookUp_spec it; rw [h]

/-- A look-up leaves the session as it was. -/
@[simp] theorem State.lookUp_dcc (s : State) (it : Item) : (s.lookUp it).dcc = s.dcc := by
  obtain ⟨_, _, h⟩ := s.lookUp_spec it; rw [h]

/-- A look-up leaves the fuses as they were. -/
@[simp] theorem State.lookUp_fuses (s : State) (it : Item) : (s.lookUp it).fuses = s.fuses := by
  obtain ⟨_, _, h⟩ := s.lookUp_spec it; rw [h]

/-- A look-up draws nothing, takes no time and puts nothing out. -/
@[simp] theorem State.lookUp_m (s : State) (it : Item) : (s.lookUp it).m = s.m := by
  obtain ⟨_, _, h⟩ := s.lookUp_spec it; rw [h]

/-- A look-up leaves the hub cache as it was. -/
@[simp] theorem State.lookUp_hubCache (s : State) (it : Item) : (s.lookUp it).kst.hubCache = s.kst.hubCache := by
  obtain ⟨_, _, h⟩ := s.lookUp_spec it; rw [h]

/-- A look-up leaves every item as it was. -/
@[simp] theorem State.lookUp_item (s : State) (it : Item) (slot : Nat) : (s.lookUp it).item slot = s.item slot := by
  unfold State.item; rw [State.lookUp_tnd]

/-- A verb's row where no item of its slot is processed for it. -/
theorem State.runVerb_idle {s : State} {slot v : Nat} (f : State → Item → Chk State)
    (h : s.verbItem slot v = none) : s.runVerb slot v f = s := by
  unfold State.runVerb; rw [h]

/-- A verb's row whose checks pass. -/
theorem State.runVerb_ok {s t : State} {slot v : Nat} {it : Item} {f : State → Item → Chk State}
    (h : s.verbItem slot v = some it) (ok : f (s.lookUp it) it = .ok t) : s.runVerb slot v f = t := by
  unfold State.runVerb; rw [h]; simp only [ok]

/-- A verb's row that a check stops. -/
theorem State.runVerb_stop {s : State} {slot v : Nat} {it : Item} {e : Stop} {f : State → Item → Chk State}
    (h : s.verbItem slot v = some it) (stop : f (s.lookUp it) it = .error e) :
    s.runVerb slot v f = (s.lookUp it).stopItem slot e := by
  unfold State.runVerb; rw [h]; simp only [stop]

/-- A look-up leaves every answer as it was. -/
@[simp] theorem State.lookUp_answer (s : State) (it : Item) (slot : Nat) :
    (s.lookUp it).answer slot = s.answer slot := by
  unfold State.answer; rw [State.lookUp_item]

end Sys2Proof.Machine
end

