-- ==== Sys2Proof/WellFormed.lean ====
section
/-!
DEFINITION. Which commands are well formed: every operand lies in the range its field has in the manual. Every
constructor has its arm. The machine does not rely on it: a command outside these ranges names nothing and changes
nothing, or has its field cut to width (assumption log 2).
-/
namespace Sys2Proof

/-- A register's address is naturally aligned and lies in its space: BAR0 64 MiB, BAR2 16 MiB, BAR4 64 KiB, 4 KiB of
configuration space (R94, R97). -/
def Space.holds (x : Space) (addr : Nat) : Bool :=
  decide (addr % 4 = 0) && match x with
    | .bar0 => decide (addr < 2 ^ 26)
    | .bar2 => decide (addr < 2 ^ 24)
    | .bar4 => decide (addr < 2 ^ 16)
    | .config _ => decide (addr < 2 ^ 12)

/-- The operands of a command lie in their fields' ranges: in-flight slots (R113), slices (R374), queues (R102),
clusters and regions (R21), ports (R394), vectors (R118), register addresses and values (R569). -/
def Instr.wellFormed (i : Instr) : Bool :=
  match i with
  | .holdEntry pin => decide (pin < 2)
  | .stageFullEntry wiresDn wiresUp => wiresDn.length == 4 && wiresUp.length == 4
  | .riserSample mv => decide (mv < 2 ^ 13)
  | .regionBringupComplete region _ _ => decide (region < 16)
  | .stgRepour key => decide (key < 2 ^ 16)
  | .powerFailSave cause => decide (cause < 3)
  | .smbusAlertCauseClear b => decide (b.value < 256)
  | .smbusQuenchArm value _ => decide (value < 256)
  | .smbusQuenchFire value _ => decide (value < 256)
  | .smbusUnknownCommand code => decide (code < 256)
  | .tapBypass opcode => decide (opcode < 256)
  | .tapLcRequest target index token _ => decide (target < 16) && decide (index < 256) && token.length == 32
  | .tapLcFuse field index value _ token digestArg _ => decide (field < 256) && decide (index < 256) && decide (value < 256) && token.length == 32 && digestArg.length == 48
  | .barBadAccess bar _ _ => decide (bar < 3)
  | .regPairLoRead ⟨space, addr, wide⟩ => space.holds addr && (!wide || (decide (addr % 8 = 0) && (space == .bar2 || (space == .bar4 && decide (addr < 0x8000)))))
  | .registerWrite space addr ⟨value, wide⟩ => space.holds addr && (if wide then decide (value < 2 ^ 64) && decide (addr % 8 = 0) && space == .bar4 && decide (addr < 0x8000) else decide (value < 2 ^ 32))
  | .doorbellSqTail qid ⟨tail, head⟩ => decide (qid < 2 ^ 18) && decide (tail < 2 ^ 16) && head.all (fun h => decide (h < 2 ^ 16))
  | .doorbellCqHead qid head => decide (qid < 2 ^ 18) && decide (head < 2 ^ 16)
  | .mbNotify slice => decide (slice < 2 ^ 12)
  | .descriptorArrival qid _ descs => decide (qid < 2 ^ 18) && descs.all (fun d => d.length == 64)
  | .msixDelayExpire vector => decide (vector < 2048)
  | .msixVectorUnmask vector => decide (vector < 2048)
  | .take core => decide (core < 512)
  | .inputFetchComplete slot _ _ _ _ => decide (slot < 2 ^ 16)
  | .bnuCommandComplete slot _ => decide (slot < 2 ^ 16)
  | .commitAck slot => decide (slot < 2 ^ 16)
  | .itemFinish slot => decide (slot < 2 ^ 16)
  | .mustRunPromote slot => decide (slot < 2 ^ 16)
  | .agePromote slot => decide (slot < 2 ^ 16)
  | .notBeforeDue slot => decide (slot < 2 ^ 16)
  | .retryDue slot => decide (slot < 2 ^ 16)
  | .retryWaitPoll slot => decide (slot < 2 ^ 16)
  | .pinLockoutTimerDue slice tag => decide (slice < 2 ^ 12) && tag.length == 8
  | .regionIdleTimerDue region => decide (region < 16)
  | .regionWakeComplete region => decide (region < 16)
  | .regionDrainComplete region => decide (region < 16)
  | .tcEccCorrected core => decide (core < 512)
  | .tcEccUncorrectable core _ => decide (core < 512)
  | .clusterSramEcc phys _ _ => decide (phys < 144)
  | .spareSelftestComplete logical _ => decide (logical < 128)
  | .bnuDrbgReseed phys => decide (phys < 144)
  | .dguKatDue phys _ => decide (phys < 144)
  | .dieLinkFlitError link _ _ => decide (link < 5)
  | .hubMemoryEcc memory _ => decide (memory < 6)
  | .lifeCounterWrite bands _ => bands.all (fun b => decide (b < 5))
  | .heatOccurrence code source slice _ payload => decide (code < 2 ^ 16) && decide (source < 2 ^ 16) && decide (slice < 2 ^ 16) && decide (payload.length ≤ 24)
  | .hlwCursorHiWrite value => decide (value < 2 ^ 32)
  | .batteryInputEdge input _ => decide (input < 5)
  | .tamQuenchArm key => decide (key < 2 ^ 16)
  | .tamQuenchFire key => decide (key < 2 ^ 16)
  | .tamQuenchCancel op key => decide (op < 2 ^ 16) && decide (key < 2 ^ 16)
  | .tamLatchedClear mask => decide (mask < 2 ^ 32)
  | .meaSelectWrite value => decide (value < 2 ^ 32)
  | .slcNotifyWrite slice => decide (slice < 2 ^ 32)
  | .cluSbuInjectWrite phys mask => decide (phys < 144) && decide (mask < 2 ^ 32)
  | .cluBnuInjectWrite phys value => decide (phys < 144) && decide (value < 2 ^ 32)
  | .nglPortDisable port => decide (port < 4)
  | .nglPortEnable port => decide (port < 4)
  | .nglLanePrbsWrite port lane _ _ => decide (port < 4) && decide (lane < 16)
  | .nguethTrainingComplete port _ => decide (port < 4)
  | .nguethHandshake port _ ack _ => decide (port < 4) && decide (ack < 2 ^ 16)
  | .nguethHeartbeat port ack => decide (port < 4) && decide (ack < 2 ^ 16)
  | .nguethMirrorUpdate port _ ack _ => decide (port < 4) && decide (ack < 2 ^ 16)
  | .nguethMirrorAck port ack _ => decide (port < 4) && decide (ack < 2 ^ 16)
  | .nguethLeaseSummary port _ ack _ => decide (port < 4) && decide (ack < 2 ^ 16)
  | .nguethCalendar port ack _ _ => decide (port < 4) && decide (ack < 2 ^ 16)
  | .nguethRetryRequest port ack seq => decide (port < 4) && decide (ack < 2 ^ 16) && decide (seq < 2 ^ 16)
  | .nguethBadFlit port flit => decide (port < 4) && flit.length == 256
  | .nguethRxTimeout port => decide (port < 4)
  | .nguethAckTimeout port => decide (port < 4)
  | .nguethLockLoss port => decide (port < 4)
  | .nguethHeartbeatSend port => decide (port < 4)
  | .nguethRetrainDue port => decide (port < 4)
  | .leaseExpire slice => decide (slice < 2 ^ 12)
  | .offerExpire slice => decide (slice < 2 ^ 12)
  | .iccInserted slot => decide (slot < 2)
  | .iccRemoved slot => decide (slot < 2)
  | .iccPowerHoldEnd slot => decide (slot < 2)
  | .iccAtrReceived slot atr _ => decide (slot < 2) && decide (atr.length ≤ 33)
  | .iccResponse slot _ _ => decide (slot < 2)
  | .iccWaitTimeout slot _ => decide (slot < 2)
  | .keypadKey key => decide (key < 20)
  | .keypadStuck key => decide (key < 20)
  | .sdBusyRelease r1 => decide (r1 < 2 ^ 32)
  | .patternStage slot => decide (slot < 2 ^ 16)
  | .guardSlotLoad slot => decide (slot < 2 ^ 16)
  | .archiveFormat slot _ => decide (slot < 2 ^ 16)
  | .archiveWrite slot _ => decide (slot < 2 ^ 16)
  | .archiveRead slot _ => decide (slot < 2 ^ 16)
  | .archiveInfo slot _ => decide (slot < 2 ^ 16)
  | .archiveSeal slot _ => decide (slot < 2 ^ 16)
  | .keyGenerate slot _ => decide (slot < 2 ^ 16)
  | .keyCheck slot _ => decide (slot < 2 ^ 16)
  | .componentCombine slot => decide (slot < 2 ^ 16)
  | .tr31Import slot _ => decide (slot < 2 ^ 16)
  | .tr31Export slot _ => decide (slot < 2 ^ 16)
  | .tr31Translate slot _ => decide (slot < 2 ^ 16)
  | .dukptIkDerive slot _ => decide (slot < 2 ^ 16)
  | .dukptKeyDerive slot _ => decide (slot < 2 ^ 16)
  | .kdfDerive slot _ => decide (slot < 2 ^ 16)
  | .ingotInspect slot _ => decide (slot < 2 ^ 16)
  | .ingotRestrict slot _ => decide (slot < 2 ^ 16)
  | .ingotPin slot _ => decide (slot < 2 ^ 16)
  | .ingotUnpin slot => decide (slot < 2 ^ 16)
  | .counterRelease slot _ => decide (slot < 2 ^ 16)
  | .keypairGenerate slot => decide (slot < 2 ^ 16)
  | .sign slot => decide (slot < 2 ^ 16)
  | .verify slot => decide (slot < 2 ^ 16)
  | .ecdhDerive w => decide (w.slot < 2 ^ 16)
  | .oaepEncrypt slot => decide (slot < 2 ^ 16)
  | .oaepDecrypt slot => decide (slot < 2 ^ 16)
  | .publicExport slot _ => decide (slot < 2 ^ 16)
  | .pubkeyTicket slot _ => decide (slot < 2 ^ 16)
  | .tr34Bind w => decide (w.slot < 2 ^ 16)
  | .tr34Send w => decide (w.slot < 2 ^ 16)
  | .tr34Receive w => decide (w.slot < 2 ^ 16)
  | .pinTranslate slot _ => decide (slot < 2 ^ 16)
  | .pinVerifyPvv slot _ => decide (slot < 2 ^ 16)
  | .pinVerifyOffset slot _ => decide (slot < 2 ^ 16)
  | .pvvGenerate slot _ => decide (slot < 2 ^ 16)
  | .offsetGenerate slot _ => decide (slot < 2 ^ 16)
  | .pinChange slot _ => decide (slot < 2 ^ 16)
  | .pinTryStatus slot _ => decide (slot < 2 ^ 16)
  | .cvvGenerate slot _ => decide (slot < 2 ^ 16)
  | .cvvVerify slot _ => decide (slot < 2 ^ 16)
  | .dcvvGenerate slot _ => decide (slot < 2 ^ 16)
  | .dcvvVerify slot _ => decide (slot < 2 ^ 16)
  | .emvMkDerive slot _ => decide (slot < 2 ^ 16)
  | .emvArqcVerify slot _ => decide (slot < 2 ^ 16)
  | .emvScriptMac slot _ => decide (slot < 2 ^ 16)
  | .emvScriptEncrypt slot _ => decide (slot < 2 ^ 16)
  | .emvCertSign slot => decide (slot < 2 ^ 16)
  | .dataEncrypt slot _ => decide (slot < 2 ^ 16)
  | .dataDecrypt slot _ => decide (slot < 2 ^ 16)
  | .p2peDecrypt slot _ => decide (slot < 2 ^ 16)
  | .macGenerate slot _ => decide (slot < 2 ^ 16)
  | .macVerify slot _ => decide (slot < 2 ^ 16)
  | .blockRaw slot _ => decide (slot < 2 ^ 16)
  | .digest slot _ => decide (slot < 2 ^ 16)
  | .hmacGenerate slot _ => decide (slot < 2 ^ 16)
  | .hmacVerify slot _ => decide (slot < 2 ^ 16)
  | .ff1Tokenize slot _ => decide (slot < 2 ^ 16)
  | .ff1Detokenize slot _ => decide (slot < 2 ^ 16)
  | .random slot _ => decide (slot < 2 ^ 16)
  | .sliceCreate slot => decide (slot < 2 ^ 16)
  | .sliceAttach slot => decide (slot < 2 ^ 16)
  | .sliceDetach slot => decide (slot < 2 ^ 16)
  | .sliceDelete slot => decide (slot < 2 ^ 16)
  | .sliceGeneration slot => decide (slot < 2 ^ 16)
  | .sliceFreeze slot => decide (slot < 2 ^ 16)
  | .sliceOffer slot => decide (slot < 2 ^ 16)
  | .sliceSave slot => decide (slot < 2 ^ 16)
  | .sliceRestore slot => decide (slot < 2 ^ 16)
  | .sliceDiscard slot => decide (slot < 2 ^ 16)
  | .sliceActivate slot => decide (slot < 2 ^ 16)
  | .sliceThaw slot => decide (slot < 2 ^ 16)
  | .sliceMirror slot _ => decide (slot < 2 ^ 16)
  | .mirrorTakeover slot => decide (slot < 2 ^ 16)
  | .sliceUnfence slot => decide (slot < 2 ^ 16)
  | .quorumOpen slot => decide (slot < 2 ^ 16)
  | .quorumClose slot => decide (slot < 2 ^ 16)
  | .domainCreate slot _ _ => decide (slot < 2 ^ 16)
  | .domainJoin slot _ _ => decide (slot < 2 ^ 16)
  | .domainRestore slot _ => decide (slot < 2 ^ 16)
  | .unlock slot _ _ => decide (slot < 2 ^ 16)
  | .lifecycle slot _ _ => decide (slot < 2 ^ 16)
  | .custodianEnrol slot _ => decide (slot < 2 ^ 16)
  | .calendarSet slot _ => decide (slot < 2 ^ 16)
  | .patternKeyEnrol slot _ => decide (slot < 2 ^ 16)
  | .logClear slot _ => decide (slot < 2 ^ 16)
  | .archiveProtect slot _ => decide (slot < 2 ^ 16)
  | .logReadSlice slot _ => decide (slot < 2 ^ 16)
  | .logExport slot => decide (slot < 2 ^ 16)
  | .logAck slot => decide (slot < 2 ^ 16)
  | .pelynAttest slot _ _ => decide (slot < 2 ^ 16)
  | .keyOrigin slot _ => decide (slot < 2 ^ 16)
  | .identityChain slot _ => decide (slot < 2 ^ 16)
  | .measExtend slot => decide (slot < 2 ^ 16)
  | .completionTimeout _ id which => decide (id < 2 ^ 18) && decide (which < 4)
  | .bnuKeygenLong slot => decide (slot < 2 ^ 16)
  | .nguethPortShutdownComplete port => decide (port < 4)
  | .extTampFilterExpire input => decide (input < 4)
  | .slotChatterEnd slot => decide (slot < 3)
  | .keypadKeyRelease key => decide (key < 20)
  | .pllLockLoss region pll => decide (region < 16) && decide (pll < 3)
  | .keepRailUp | .guardStart .. | .stageHubEntry .. | .annealBistComplete .. | .firmwareReadComplete ..
  | .riserTimeout | .sliceRestoreComplete .. | .repourPendingStart | .stgHubHoldWrite .. | .saveDrainComplete
  | .keepRailOff | .perstNAssert | .perstNDeassert | .slice0Reattach | .pmD3hotEntry | .pmD0Return
  | .smbusStatus | .smbusReason | .smbusCapacity | .smbusThermal | .smbusPower | .smbusSerial | .smbusTamper
  | .smbusHeat | .smbusAlertCauseRead | .smbusAlertResponse | .quenchArmExpire | .smbusBusTimeout | .tapIdcode
  | .tapExtest .. | .tapSamplePreload .. | .tapHubHold | .tapVdbg .. | .tapReset | .fetchBatch | .qawRead
  | .qawWrite | .qawEnable | .qawDisable | .qawResetError | .signerComplete | .quorumSessionExpire
  | .chillUpdate .. | .entropyHealthFail | .rngRetestDue .. | .commitEntryAccept | .journalDrain ..
  | .linePaceExpire .. | .counterCheckpoint | .timeCheckpoint | .calendarFlitSend | .recordSealTimeout
  | .summaryFlushDue | .stagingDrain .. | .hlwData15Read | .tamperSample .. | .batteryPulse .. | .slcMbNextRead
  | .keypadEntryTimeout | .sdInserted .. | .sdRemoved | .sdPowerHoldEnd | .sdCommandResponse ..
  | .sdCommandTimeout | .sdBusyTimeout | .sdRetuneDue | .pcieLinkTrained .. | .flashOperationComplete ..
  | .flashTimeout | .lcTransitionDone .. | .rtcHold => true

end Sys2Proof
end

