-- ==== Sys2Proof/Tests/Slice0.lean ====
section
/-!
SUPPORT. Tests: ill-formed commands are refused by WellFormed, concrete states and operands meet the hypotheses of each
statement (witness_…), and single steps answer what the manual's rules say (test_…).
-/
namespace Sys2Proof.Tests
open Sys2Proof Sys2Proof.Machine

/-! ## WellFormed -/

/-- Ill-formed commands of each check, refused by it (1). -/
theorem test_ill_formed_1 : ([
    .holdEntry 2, .stageFullEntry [] [[], [], [], []], .stageFullEntry [[], [], [], []] [], .riserSample (2 ^ 13),
    .regionBringupComplete 16 0 [], .stgRepour (2 ^ 16), .powerFailSave 3, .smbusAlertCauseClear ⟨256, none⟩,
    .smbusQuenchArm 256 none, .smbusQuenchFire 256 none, .smbusUnknownCommand 256, .tapBypass 256, .tapLcRequest 16
    0 (List.replicate 32 0) none, .tapLcRequest 0 256 (List.replicate 32 0) none, .tapLcRequest 0 0 [] none,
    .tapLcFuse 256 0 0 0 (List.replicate 32 0) (List.replicate 48 0) none, .tapLcFuse 0 256 0 0 (List.replicate 32
    0) (List.replicate 48 0) none, .tapLcFuse 0 0 256 0 (List.replicate 32 0) (List.replicate 48 0) none, .tapLcFuse
    0 0 0 0 [] (List.replicate 48 0) none, .tapLcFuse 0 0 0 0 (List.replicate 32 0) [] none, .barBadAccess 3 0
    false, .regPairLoRead ⟨.bar0, (2 ^ 26), false⟩, .regPairLoRead ⟨.bar0, 1, false⟩, .regPairLoRead ⟨.bar2, (2 ^ 24), false⟩] : List Instr).all (fun i => !i.wellFormed) = true := by decide

/-- Ill-formed commands of each check, refused by it (2). -/
theorem test_ill_formed_2 : ([
    .regPairLoRead ⟨.bar4, (2 ^ 16), false⟩, .regPairLoRead ⟨.config 0, 4096, false⟩, .regPairLoRead ⟨.bar2, 4, true⟩,
    .regPairLoRead ⟨.bar4, 0x8000, true⟩, .regPairLoRead ⟨.bar0, 0, true⟩, .registerWrite .bar0 (2 ^ 26) ⟨0, false⟩,
    .registerWrite .bar0 0 ⟨2 ^ 32, false⟩, .registerWrite .bar0 1 ⟨0, false⟩, .registerWrite .bar4 (2 ^ 16) ⟨0, false⟩,
    .registerWrite (.config 0) 4096 ⟨0, false⟩, .registerWrite .bar0 0 ⟨0, true⟩, .registerWrite .bar4 0 ⟨2 ^ 64, true⟩,
    .registerWrite .bar4 0x8000 ⟨0, true⟩, .doorbellSqTail (2 ^ 18) ⟨0, none⟩, .doorbellSqTail 0 ⟨2 ^ 16, none⟩,
    .doorbellSqTail 0 ⟨0, some (2 ^ 16)⟩, .doorbellCqHead (2 ^ 18) 0, .doorbellCqHead 0 (2 ^ 16), .mbNotify (2 ^ 12),
    .descriptorArrival (2 ^ 18) false [], .descriptorArrival 0 false [[]], .msixDelayExpire 2048, .msixVectorUnmask
    2048, .take 512] : List Instr).all (fun i => !i.wellFormed) = true := by decide

/-- Ill-formed commands of each check, refused by it (3). -/
theorem test_ill_formed_3 : ([
    .inputFetchComplete (2 ^ 16) [] [] [] [], .bnuCommandComplete (2 ^ 16) {}, .commitAck (2 ^ 16), .itemFinish (2 ^
    16), .mustRunPromote (2 ^ 16), .agePromote (2 ^ 16), .notBeforeDue (2 ^ 16), .retryDue (2 ^ 16), .retryWaitPoll
    (2 ^ 16), .pinLockoutTimerDue (2 ^ 12) (List.replicate 8 0), .pinLockoutTimerDue 0 [], .regionIdleTimerDue 16,
    .regionWakeComplete 16, .regionDrainComplete 16, .tcEccCorrected 512, .tcEccUncorrectable 512 0, .clusterSramEcc
    144 false false, .spareSelftestComplete 128 false, .bnuDrbgReseed 144, .dguKatDue 144 false, .dieLinkFlitError 5
    ⟨{}, 0⟩ false, .hubMemoryEcc 6 false, .lifeCounterWrite [5] 0, .heatOccurrence (2 ^ 16) 0 0 0 []] : List Instr).all (fun i => !i.wellFormed) = true := by decide

/-- Ill-formed commands of each check, refused by it (4). -/
theorem test_ill_formed_4 : ([
    .heatOccurrence 0 (2 ^ 16) 0 0 [], .heatOccurrence 0 0 (2 ^ 16) 0 [], .heatOccurrence 0 0 0 0 (List.replicate 25
    0), .hlwCursorHiWrite (2 ^ 32), .batteryInputEdge 5 0, .tamQuenchArm (2 ^ 16), .tamQuenchFire (2 ^ 16),
    .tamQuenchCancel (2 ^ 16) 0, .tamQuenchCancel 0 (2 ^ 16), .tamLatchedClear (2 ^ 32), .meaSelectWrite (2 ^ 32),
    .slcNotifyWrite (2 ^ 32), .cluSbuInjectWrite 144 0, .cluSbuInjectWrite 0 (2 ^ 32), .cluBnuInjectWrite 144 0,
    .cluBnuInjectWrite 0 (2 ^ 32), .nglPortDisable 4, .nglPortEnable 4, .nglLanePrbsWrite 4 0 false 0,
    .nglLanePrbsWrite 0 16 false 0, .nguethTrainingComplete 4 {}, .nguethHandshake 4 0 0 {}, .nguethHandshake 0 0 (2
    ^ 16) {}, .nguethHeartbeat 4 0] : List Instr).all (fun i => !i.wellFormed) = true := by decide

/-- Ill-formed commands of each check, refused by it (5). -/
theorem test_ill_formed_5 : ([
    .nguethHeartbeat 0 (2 ^ 16), .nguethMirrorUpdate 4 0 0 {}, .nguethMirrorUpdate 0 0 (2 ^ 16) {}, .nguethMirrorAck
    4 0 0, .nguethMirrorAck 0 (2 ^ 16) 0, .nguethLeaseSummary 4 0 0 [], .nguethLeaseSummary 0 0 (2 ^ 16) [],
    .nguethCalendar 4 0 0 false, .nguethCalendar 0 (2 ^ 16) 0 false, .nguethRetryRequest 4 0 0, .nguethRetryRequest
    0 (2 ^ 16) 0, .nguethRetryRequest 0 0 (2 ^ 16), .nguethBadFlit 4 (List.replicate 256 0), .nguethBadFlit 0 [],
    .nguethRxTimeout 4, .nguethAckTimeout 4, .nguethLockLoss 4, .nguethHeartbeatSend 4, .nguethRetrainDue 4,
    .leaseExpire (2 ^ 12), .offerExpire (2 ^ 12), .iccInserted 2, .iccRemoved 2, .iccPowerHoldEnd 2] : List Instr).all (fun i => !i.wellFormed) = true := by decide

/-- Ill-formed commands of each check, refused by it (6). -/
theorem test_ill_formed_6 : ([
    .iccAtrReceived 2 [] none, .iccAtrReceived 0 (List.replicate 34 0) none, .iccResponse 2 [] 0, .iccWaitTimeout 2
    false, .keypadKey 20, .keypadStuck 20, .sdBusyRelease (2 ^ 32), .patternStage (2 ^ 16), .guardSlotLoad (2 ^ 16),
    .archiveFormat (2 ^ 16) false, .archiveWrite (2 ^ 16) false, .archiveRead (2 ^ 16) false, .archiveInfo (2 ^ 16)
    false, .archiveSeal (2 ^ 16) false, .keyGenerate (2 ^ 16) {}, .keyCheck (2 ^ 16) {}, .componentCombine (2 ^ 16),
    .tr31Import (2 ^ 16) {}, .tr31Export (2 ^ 16) {}, .tr31Translate (2 ^ 16) {}, .dukptIkDerive (2 ^ 16) {},
    .dukptKeyDerive (2 ^ 16) {}, .kdfDerive (2 ^ 16) {}, .ingotInspect (2 ^ 16) {}] : List Instr).all (fun i => !i.wellFormed) = true := by decide

/-- Ill-formed commands of each check, refused by it (7). -/
theorem test_ill_formed_7 : ([
    .ingotRestrict (2 ^ 16) {}, .ingotPin (2 ^ 16) {}, .ingotUnpin (2 ^ 16), .counterRelease (2 ^ 16) {},
    .keypairGenerate (2 ^ 16), .sign (2 ^ 16), .verify (2 ^ 16), .ecdhDerive ⟨2 ^ 16, {}⟩, .oaepEncrypt (2 ^ 16),
    .oaepDecrypt (2 ^ 16), .publicExport (2 ^ 16) {}, .pubkeyTicket (2 ^ 16) {}, .tr34Bind ⟨2 ^ 16, {}⟩, .tr34Send ⟨2
    ^ 16, {}⟩, .tr34Receive ⟨2 ^ 16, {}⟩, .pinTranslate (2 ^ 16) {}, .pinVerifyPvv (2 ^ 16) {}, .pinVerifyOffset (2 ^
    16) {}, .pvvGenerate (2 ^ 16) {}, .offsetGenerate (2 ^ 16) {}, .pinChange (2 ^ 16) {}, .pinTryStatus (2 ^ 16)
    {}, .cvvGenerate (2 ^ 16) {}, .cvvVerify (2 ^ 16) {}] : List Instr).all (fun i => !i.wellFormed) = true := by decide

/-- Ill-formed commands of each check, refused by it (8). -/
theorem test_ill_formed_8 : ([
    .dcvvGenerate (2 ^ 16) {}, .dcvvVerify (2 ^ 16) {}, .emvMkDerive (2 ^ 16) {}, .emvArqcVerify (2 ^ 16) {},
    .emvScriptMac (2 ^ 16) {}, .emvScriptEncrypt (2 ^ 16) {}, .emvCertSign (2 ^ 16), .dataEncrypt (2 ^ 16) {},
    .dataDecrypt (2 ^ 16) {}, .p2peDecrypt (2 ^ 16) {}, .macGenerate (2 ^ 16) {}, .macVerify (2 ^ 16) {}, .blockRaw
    (2 ^ 16) {}, .digest (2 ^ 16) {}, .hmacGenerate (2 ^ 16) {}, .hmacVerify (2 ^ 16) {}, .ff1Tokenize (2 ^ 16) {},
    .ff1Detokenize (2 ^ 16) {}, .random (2 ^ 16) {}, .sliceCreate (2 ^ 16), .sliceAttach (2 ^ 16), .sliceDetach (2 ^
    16), .sliceDelete (2 ^ 16), .sliceGeneration (2 ^ 16)] : List Instr).all (fun i => !i.wellFormed) = true := by decide

/-- Ill-formed commands of each check, refused by it (9). -/
theorem test_ill_formed_9 : ([
    .sliceFreeze (2 ^ 16), .sliceOffer (2 ^ 16), .sliceSave (2 ^ 16), .sliceRestore (2 ^ 16), .sliceDiscard (2 ^
    16), .sliceActivate (2 ^ 16), .sliceThaw (2 ^ 16), .sliceMirror (2 ^ 16) none, .mirrorTakeover (2 ^ 16),
    .sliceUnfence (2 ^ 16), .quorumOpen (2 ^ 16), .quorumClose (2 ^ 16), .domainCreate (2 ^ 16) none none,
    .domainJoin (2 ^ 16) none none, .domainRestore (2 ^ 16) none, .unlock (2 ^ 16) none none, .lifecycle (2 ^ 16)
    none none, .custodianEnrol (2 ^ 16) none, .calendarSet (2 ^ 16) none, .patternKeyEnrol (2 ^ 16) none, .logClear
    (2 ^ 16) none, .archiveProtect (2 ^ 16) none, .logReadSlice (2 ^ 16) {}, .logExport (2 ^ 16)] : List Instr).all (fun i => !i.wellFormed) = true := by decide

/-- Ill-formed commands of each check, refused by it (10). -/
theorem test_ill_formed_10 : ([
    .logAck (2 ^ 16), .pelynAttest (2 ^ 16) [] {}, .keyOrigin (2 ^ 16) {}, .identityChain (2 ^ 16) {}, .measExtend
    (2 ^ 16), .completionTimeout false (2 ^ 18) 0, .completionTimeout false 0 4, .bnuKeygenLong (2 ^ 16),
    .nguethPortShutdownComplete 4, .extTampFilterExpire 4, .slotChatterEnd 3, .keypadKeyRelease 20, .pllLockLoss 16
    0, .pllLockLoss 0 3] : List Instr).all (fun i => !i.wellFormed) = true := by decide

/-- Stage Full with verbs, link and regions up, as a small state. -/
def full : State :=
  { State.reset with
    stage.stage := .full, stage.verbs := true, stage.patternDone := true, stage.usable := List.range 16
    stage.annealDone := true, stage.firmwareDone := true, stage.online := [0]
    host.linkUp := true, slc.slice0 := { attached := true }, tnd.dispatching := true
    fabric.maps := [{ region := 0, slots := [some 0, some 1, some 2, some 3, some 4, some 5, some 6, some 7] }]
    chl.regions := [{ number := 0, state := 2, op := 0, credit := 1000000 }]
    mea.rngHealthy := true }

/-- A life-cycle word with its first `p` positions complete. -/
def inState (p : Nat) (s : State) : State :=
  { s with fuses.lcWord := List.replicate p 4 ++ List.replicate (6 - p) 0 }

/-- A check has passed. -/
def isOk {α : Type} : Chk α → Bool
  | .ok _ => true
  | .error _ => false

/-! ## The step, reset and frames -/

/-- A queue with a command in front, and an empty one (StepRunsFrontCommand). -/
theorem witness_queue : ({ full with pending := [.smbusStatus] }).pending = [.smbusStatus] ∧ full.pending = [] := by decide

/-- No word spells a command (assumption log 9). -/
theorem test_no_word_spells : decodeTableWord 32 0x1880014F = none := by decide

/-- A step on an empty queue is a tick (assumption log 1). -/
theorem test_tick : (match step full with | .next t => decide (t.m.now = 1) | _ => false) = true := by decide

/-- Every command has a row in one of the frame tables. -/
theorem test_every_command_has_a_frame (i : Instr) :
    ((startFrame i).isSome || (workFrame i).isSome || (deviceFrame i).isSome || (verbFrame i).isSome) = true := by
  cases i <;> rfl

/-- A measured state (MeasurementRegistersStand). -/
theorem witness_measured : State.reset.Measured where
  values := by decide
  counts := by decide
  bounded := fun i => by
    by_cases h : i < 32
    · exact (by decide : ∀ i < 32, State.reset.mea.measCount.getD i 0 < 2 ^ 32) i h
    · have : State.reset.mea.measCount.getD i 0 = 0 := by
        rw [List.getD_eq_getElem?_getD, List.getElem?_eq_none (by simpa [State.reset] using h)]; rfl
      omega
  spare := fun i h k => (by decide : ∀ i < 16, 6 ≤ i →
    State.reset.mea.meas.getD i [] = zeros 48 ∧ State.reset.mea.measCount.getD i 0 = 0) i (by omega) h

/-- A legal word, with SCRAPPED blown and not (LifeCycleWordDecodes, FusesOnlyBlow). -/
theorem witness_legal_word : (LegalWord (inState 4 full).fuses ∧ (inState 4 full).lcState = .deployed) ∧
    LegalWord (inState 6 full).fuses ∧ (inState 6 full).lcState = .scrapped := by unfold LegalWord; decide

/-- A latch that clears (TamperLatchClears). -/
def latched : State := { full with tam.latched := [3, 4], tam.latchedResp := [(3, 1), (4, 2)] }
theorem witness_latch : latched.gBlock = true ∧ bit 8 3 = true ∧ 3 ∈ latched.tam.latched ∧
    lookupD latched.tam.latchedResp 3 0 = 1 ∧ 3 ∉ latched.tam.active ∧ State.reset.gBlock = false := by decide
theorem test_latch_clears : (match exec (.tamLatchedClear 0x18) latched with
    | .next t => decide (t.tam.latched = [4]) | _ => false) = true := by decide

/-! ## SMBus, TAP, tamper -/

/-- The target answers, and does not in Hold or without the main supply; a cause and none; the Quench fused away
(SmbusCommandsWork). -/
theorem witness_smbus : full.stage.stage ≠ .hold ∧ full.pins.mainOn = true ∧ full.smbusUp = true ∧
    full.fuses.smbusQuenchOff = false ∧ State.reset.stage.stage = .hold ∧ full.stage.alertCause = 0 ∧
    (let s := { full with stage.alertCause := 8 }
     s.smbusUp = true ∧ s.stage.alertCause ≠ 0 ∧ s.stage.alertCause < 256) ∧
    ({ full with pins.mainOn := false }).pins.mainOn = false ∧
    (let s := { full with fuses.smbusQuenchOff := true }
     s.smbusUp = true ∧ s.fuses.smbusQuenchOff = true) ∧
    (let s := { full with stage.smbArm := some 0, m.now := 400000 }
     s.stage.smbArm = some 0 ∧ 400000 ≤ s.m.now - 0) ∧
    (let s := { full with stage.smbArm := some 0, m.now := 399999 }
     s.stage.smbArm = some 0 ∧ s.m.now - 0 < 400000) := by decide
/-- STATUS of a BLANK device in stage Full with verbs: 3 and bit 2 (R69). -/
theorem test_smbus_status : (match exec .smbusStatus full with
    | .next t => t.m.out.length == 1 && t.m.out.all (fun e => match e with
      | .smbus c d _ => c == 1 && d == [7, 0] | _ => false) | _ => false) = true := by decide

/-- An SMBus arm and a TAM_QUENCH arm at the end of their time, and a guard block that is not written
(CommandedQuenchRuns). -/
theorem witness_quench : let s := { full with stage.smbArm := some 0, tam.armedCmd := some 0, m.now := 400000 }
    s.quenchBusy = false ∧ s.smbusUp = true ∧ s.gBlock = true ∧ s.m.now - 0 ≤ 400000 ∧ s.fuses.smbusQuenchOff = false ∧
    s.usesTestRoot = true ∧ (inState 4 s).usesTestRoot = false ∧ State.reset.gBlock = false := by decide

/-- TEST offers the boundary, BLANK the fuses, TEST_UNLOCKED and RETURNED the debug port; a hold that is left; no main
supply (TapInstructionsWork). -/
theorem witness_tap : (inState 1 full).tapAvailable 0 = true ∧ (inState 2 full).tapAvailable 0 = false ∧
    (inState 1 full).tapAvailable 2 = true ∧ full.tapAvailable 0x10 = true ∧ State.reset.tapAvailable 0x10 = false ∧
    State.reset.tapAvailable 0x01 = true ∧ State.reset.pins.mainOn = true ∧ full.pins.mainOn = true ∧
    full.stage.stage ≠ .hold ∧ ({ inState 1 full with lc.testUnlocked := true }).lcState = .testUnlocked ∧
    (inState 5 full).lcState = .returned ∧ full.lcState ≠ .returned ∧
    (let s := { full with lc.tapSelected := 0x10 }
     s.lc.tapSelected = 0x10 ∧ s.stage.hubHold = false) ∧
    ({ full with pins.mainOn := false }).pins.mainOn = false := by decide
/-- IDCODE of stepping B0 (R502). -/
theorem test_idcode : (match exec .tapIdcode State.reset with
    | .next t => decide (t.m.out = [.tdo 1 0x1880014F]) | _ => false) = true := by decide

/-- Requests that name a transition, and that name none; a digest field of BLANK (LifeCycleTokensWork). -/
theorem witness_lc : (inState 2 full).tapAvailable 0x20 = true ∧ full.lc.running = none ∧ full.pins.mainOn = true ∧
    tokenFor (inState 2 full).lcState 4 = some 2 ∧ tokenFor (inState 2 full).lcState 1 = none ∧
    (inState 2 full).tokenGood 2 (zeros 32) = false ∧ (inState 1 full).lcState = .test ∧
    (inState 1 full).tapAvailable 0x20 = true ∧ (inState 1 full).testTokensLeft ≠ 0 ∧
    (inState 1 full).tokenConsumed 8 = false ∧ (inState 1 full).tokenConsumed 15 = false ∧
    full.tapAvailable 0x21 = true ∧ full.lcState = .blank ∧ (inState 2 full).tapAvailable 0x21 = true ∧
    (inState 2 full).lcState = .manufactured ∧ (inState 3 full).lcState = .provisioned ∧
    (inState 3 full).tapAvailable 0x21 = true := by decide
/-- MANUFACTURED with a digest for T2; the token behind it is accepted (LifeCycleTokensWork). -/
def withDigest (d : Bytes) : State := { inState 2 full with fuses.tokenDigests := [(2, d)] }
theorem sha384_of_zeros : (sha384 (zeros 32)).length = 48 := by decide +kernel
theorem witness_token_good : ∃ d, (withDigest d).tokenGood 2 (zeros 32) = true := by
  refine ⟨sha384 (zeros 32), ?_⟩
  have long := sha384_of_zeros
  revert long
  generalize hd : sha384 (zeros 32) = d
  intro long
  have consumed : (withDigest d).tokenConsumed 2 = false := rfl
  have held : (withDigest d).tokenDigest 2 = d := rfl
  simp [State.tokenGood, consumed, held, long, hd, show (zeros 32).length = 32 from rfl]

/-- Armed mesh on main power, no source of a sample, a lost clock, and the battery's cases (TamperSourcesRespond). -/
def guarded : State := { full with tam.mainArmed := true }
def onCell : State := { State.reset with pins.keepRail := false, pins.mainOn := false }
/-- Input 0 fitted on battery, its filter at its end. -/
def filtering (raw : Bool) : State := { onCell with
  tam.fittedCopy := 1, tam.filterRunning := [true, false, false, false], tam.extRaw := [raw, false, false, false]
  m.now := 128 }
theorem witness_tamper : guarded.pins.mainOn = true ∧ guarded.sourceArmed 0 = true ∧ 0 ∉ guarded.tam.active ∧
    guarded.tripsNow { meshA := 1 } 0 = true ∧ (∀ n < 11, guarded.tripsNow {} n = false) ∧ guarded.pat.extFitted = 0 ∧
    guarded.tam.active = [] ∧ guarded.fromHub = true ∧ guarded.tripsNow { sysclkKhz := 0 } 8 = true ∧
    full.tam.mainArmed = false ∧ onCell.onBattery = true ∧ State.reset.onBattery = true ∧ full.onBattery = false := by decide
theorem witness_battery : 0 ∈ pulseSources ∧ onCell.floorOf 0 ≠ 0 ∧ onCell.tripsNow { meshA := 1 } 0 = true ∧
    0 ∉ onCell.tam.disarmed ∧ (∀ n ∈ pulseSources, onCell.tripsNow {} n = false) ∧ onCell.tam.active = [] ∧
    onCell.floorOf 5 ≠ 0 ∧ onCell.pins.keepRail = false ∧ (filtering true).onBattery = true ∧
    bit (filtering true).tam.fittedCopy 0 = true ∧ (filtering true).floorOf 11 ≠ 0 ∧
    (filtering true).tam.filterRunning.length = 4 ∧ (filtering true).tam.extRaw.length = 4 ∧
    (filtering true).tam.filterRunning.getD 0 false = true ∧ (filtering true).tam.extRaw.getD 0 false = true ∧
    (filtering false).tam.extRaw.getD 0 false = false ∧
    4 * (filtering true).tam.filterCopy.getD 0 32 ≤ (filtering true).m.now - (filtering true).tam.extSince.getD 0 0 ∧
    11 ∉ (filtering true).tam.disarmed ∧ 11 ∉ (filtering true).tam.chatter ∧
    (let s := { onCell with pins.vbatOk := false }
     s.pins.keepRail = false ∧ s.pins.vbatOk = false ∧ s.stage.stage = .hold) := by decide

/-! ## Starts and power -/

/-- Hold entry, a save, the keep rail and the end of a drain (PowerFallsAndSaves). -/
theorem witness_power : full.stage.stage ≠ .hold ∧ full.lc.running = none ∧ full.stage.saving = false ∧
    full.pins.reposeSaved = false ∧ full.pins.keepRail = true ∧ full.pins.vbatOk = true ∧ onCell.pins.keepRail = false ∧
    State.reset.stage.stage = .hold ∧
    (let s := { State.reset with pins := State.reset.pins.driveHalt true, stage.draining := true }
     s.pins.halt = true ∧ s.stage.draining = true ∧ s.stage.heldStart = none) ∧
    (let s := { full with pins := full.pins.driveHalt true, stage.saving := true }
     s.pins.halt = true ∧ s.stage.saving = true ∧ s.stage.heldStart = none) ∧
    (let s := { full with pins := full.pins.driveHalt true }
     s.pins.halt = true ∧ s.stage.draining = false ∧ s.stage.saving = false) := by decide
/-- RESET_N falls in stage Full (R47). -/
theorem test_hold : (match exec (.holdEntry 0) full with
    | .next t => decide (t.stage.stage = .hold ∧ t.stage.draining = true ∧ t.host.linkUp = false) | _ => false) = true := by
  decide

/-- Stage Guard from reset: no intent, no consumed token; a drain, and a rise that it holds (GuardStarts). -/
theorem witness_guard : State.reset.stage.stage = .hold ∧ State.reset.pins.mainOn = true ∧
    State.reset.pins.keepRail = true ∧ State.reset.stage.draining = false ∧ State.reset.stage.saving = false ∧
    State.reset.lc.intentA = none ∧ State.reset.lc.intentB = none ∧
    (∀ p ∈ [(0, 1), (1, 3), (2, 4), (3, 5), (4, 6), (5, 7)], State.reset.tokenConsumed p.1 = false) ∧
    (let s := { State.reset with pins := State.reset.pins.driveHalt true, stage.draining := true, stage.heldStart := some {} }
     s.stage.stage = .hold ∧ s.pins.mainOn = true ∧ s.pins.keepRail = true ∧ s.pins.halt = true ∧
     s.stage.draining = true ∧ s.stage.heldStart = some {} ∧ s.lc.intentA = none ∧
     ∀ p ∈ [(0, 1), (1, 3), (2, 4), (3, 5), (4, 6), (5, 7)], s.tokenConsumed p.1 = false) := by decide

/-- Stage Hub is due; stage Full may begin, held and not, with a root to unseal, with and without a riser; with no region
left (StagesHubAndFullBegin). -/
theorem witness_stages : ({ State.reset with stage.stage := .guard, stage.hubEntryDue := true }).hubReady = true ∧
    State.reset.hubReady = false ∧
    (let s := { full with stage.stage := .hub }
     s.stage.patternDone = true ∧ s.stage.fault = false ∧ s.halted = false ∧ s.stage.hubEntryDue = false ∧
     s.stage.reasonCode = 0 ∧ s.hubHeld = false ∧ ({ s with stage.hubHold := true }).hubHeld = true ∧
     s.usesTestRoot = true ∧ ({ s with stage.usable := [] }).liveRegions = []) ∧
    (let s := { inState 4 full with stage.stage := .hub, stage.reasonCode := 0x13, kst.bbram := 1 :: zeros 31 }
     s.usesTestRoot = false ∧ s.stage.unsealed = false ∧ s.pat.riserUf ≠ 0 ∧ s.gateHeld = false ∧ s.bbramEmpty = false ∧
     ({ s with pat.riserUf := 0 }).pat.riserUf = 0) := by decide

/-- Anneal's results are awaited; the riser gate waits, with time left and at its timeout, with a root and without
(RestartQualifies). -/
def gated : State := { inState 4 full with
  stage.riserWait := true, kst.bbram := 1 :: zeros 31, per.gateSince := some 0, m.now := 2200000 }
theorem witness_restart : (let s := { full with stage.annealDone := false, stage.firmwareDone := false }
     s.stage.stage = .full ∧ s.stage.annealDone = false ∧ s.stage.firmwareDone = false ∧ s.halted = false ∧
     s.stage.hubEntryDue = false ∧ s.stage.fwTried.length = 0 ∧ s.mea.meas.length = 32 ∧
     ({ s with stage.fwTried := [1] }).stage.fwTried.length = 1) ∧
    gated.stage.riserWait = true ∧ gated.halted = false ∧ gated.usesTestRoot = false ∧ gated.riserTimeoutTicks = 2200000 ∧
    gated.riserTimeoutTicks ≤ gated.m.now - gated.per.chargerSince ∧ gated.bbramEmpty = false ∧
    ({ gated with m.now := 2199999 }).m.now - gated.per.chargerSince < gated.riserTimeoutTicks ∧
    ({ gated with kst.bbram := zeros 32 }).bbramEmpty = true ∧ gated.stage.stage ≠ .hold ∧
    gated.stage.stoppedInGuard = false ∧ 4000 ≤ gated.m.now - 0 ∧
    ({ gated with per.gateSince := none }).per.gateSince = none := by decide

/-- Slices are to be restored, a region comes up, a re-pour is asked for, one is held and one begins
(RegionsComeAndRepour). -/
theorem witness_regions : full.stage.fault = false ∧ full.halted = false ∧ full.stage.stage = .full ∧
    full.stage.annealDone = true ∧ full.stage.firmwareDone = true ∧ full.stage.riserWait = false ∧
    full.stage.restored = false ∧ full.stage.hubEntryDue = false ∧ full.mapsWait = false ∧
    (let s := { full with stage.bringing := some 15 }
     s.stage.bringing = some 15 ∧ 15 ∈ s.liveRegions) ∧ full.gBlock = true ∧
    full.stage.repourBusy = false ∧ full.stage.repourPending = false ∧ 0xC1A5 % 65536 = 0xC1A5 ∧
    ({ full with stage.repourBusy := true }).gBlock = true ∧
    ({ full with stage.repourPending := true }).stage.repourPending = true ∧ State.reset.gBlock = false := by decide
/-- STG_CONTROL with its key (R64). -/
theorem test_repour : (match exec (.stgRepour 0xC1A5) full with
    | .next t => decide (t.stage.repourBusy = true) | _ => false) = true := by decide

/-- The host port up, down, training and without its hub; slice 0 detached; D3hot (HostPortComesAndGoes). -/
theorem witness_port : full.halted = false ∧ full.fromHub = true ∧ full.stage.hubIdStop = false ∧
    full.ghFailed = false ∧ ({ full with host.linkUp := false }).host.linkUp = false ∧ State.reset.fromHub = false ∧
    ({ full with host.training := some 0 }).host.training = some 0 ∧
    (let s := { full with slc.slice0 := {} }
     s.slc.slice0.attached = false ∧ s.slc.slice0.detaching = false ∧ s.stage.hubEntryDue = false) ∧
    full.host.linkUp = true ∧ ({ full with host.d3hot := true }).host.d3hot = true := by decide

/-- A transition is running (TransitionErases). -/
theorem witness_transition : (let s := { full with lc.running := some { target := 1, token := 0, ceremony := none } }
    s.lc.running = some { target := 1, token := 0, ceremony := none } ∧ s.fuses.lcWord.length = 6 ∧ 1 ∈ [1, 3, 4, 5, 6, 7]) := by
  decide

/-! ## Registers, queues, items -/

/-- The register window answers; a pair, its high half and a plain register (RegisterAccessesWork). -/
theorem witness_registers : full.hostUp = true ∧ full.fromHub = true ∧ full.ghFailed = false ∧ full.gBlock = true ∧
    (full.regPair 0x50014).isSome = true ∧ full.regPair 0x50018 = none ∧ full.regPair 0 = none ∧
    State.reset.hostUp = false ∧ State.reset.gBlock = false := by decide
/-- The identity word (R570). -/
theorem test_identity : full.regWord 0 = 0x01B08800 := by decide
/-- SCRATCH keeps what is written. -/
theorem test_scratch : (match exec (.registerWrite .bar0 0xC ⟨7, false⟩) full with
    | .next t => decide (t.gds.scratch = 7) | _ => false) = true := by decide

/-- An enabled queue of slice 0 with 256 entries. -/
def queued : State := { full with queues.ctxs := [{ qid := 0, state := 1, sqLog2 := 8, cqLog2 := 8, sqTail := 2 }] }
/-- Doorbells in and out of range, and the window's commands on a queue that is ACTIVE, in ERROR and DISABLED
(QueuesAreMoved). -/
theorem witness_queues : queued.hostUp = true ∧ queued.fromHub = true ∧ queued.sliceAttached 0 = true ∧
    (queued.queue 0).state = 1 ∧ (255 < 2 ^ (queued.queue 0).sqLog2) ∧ (2 ^ (queued.queue 0).sqLog2 ≤ 256) ∧
    (queued.queue 0).headOk 0 = true ∧ (queued.queue 0).headOk 1 = false ∧ queued.qawCauseOf false = 0 ∧
    queued.qawCauseOf true = 0 ∧ ({ queued with queues.qawSelect := 64 }).qawCauseOf false = 1 ∧
    ({ queued with queues.qawSelect := 64 }).qawCauseOf true ≠ 0 ∧ (full.queue 0).state = 0 ∧
    full.qawCauseOf true = 0 ∧ queued.inflight 0 = 0 ∧ queued.parked 0 = 0 ∧
    full.configOk 0 (full.queue 0) = false ∧ full.configOk 0 { sqLog2 := 8, cqLog2 := 8 } = true ∧
    (let s := { queued with queues.ctxs := [{ qid := 0, state := 4 }] }
     s.qawCauseOf false = 0 ∧ (s.queue 0).state = 4) ∧
    queued.sliceAttached 1 = false ∧ byteAt full.qawImage 0x13 < 4 := by decide
/-- A tail out of range is an error with its bit (R103). -/
theorem test_bad_tail : (match exec (.doorbellSqTail 0 ⟨256, none⟩) queued with
    | .next t => decide ((t.queue 0).state = 4 ∧ (t.queue 0).err = 1) | _ => false) = true := by decide

/-- A visit finds descriptors; a batch arrives, with timeouts and with timeouts disabled (FetchAndAccept). -/
def fetching : State := { queued with queues.batches := [{ qid := 0, count := 1, head := 0 }] }
theorem witness_fetch : queued.mayFetch = true ∧ (queued.visit 0).isSome = true ∧ State.reset.mayFetch = false ∧
    ((afterLast queued.attachedSlices queued.queues.rrSlice).findSome? (fun n => (queued.visit n).map (fun b => (n, b)))) =
      some (0, 0, 2) ∧ fetching.tam.clockLost = false ∧ fetching.stage.fault = false ∧
    (fetching.queues.batches.find? (fun x => x.qid == 0)).isSome = true ∧ (fetching.queue 0).state = 1 ∧
    fetching.sliceDetaching 0 = false ∧ bit fetching.host.cfg.devCtl2 4 = false ∧
    (let s := { fetching with host.cfg.devCtl2 := 16 }
     bit s.host.cfg.devCtl2 4 = true) ∧
    fetching.newSlots 1 = [0] ∧ (verbInfo 0x0820).map (·.cls) = some 0 ∧ fetching.tnd.blocked = [] ∧
    fetching.accept15 (fit 64 [0x20, 0x08]) (fetching.queue 0) = none ∧
    fetching.accept6 (fit 64 [0x20, 0x08]) 0 = none := by decide
/-- Two descriptors are fetched in one read (R113). -/
theorem test_fetch : (match exec .fetchBatch queued with
    | .next t => decide ((t.queue 0).sqHead = 2 ∧ t.m.out = [.dmaRead 0 0 128]) | _ => false) = true := by decide

/-- MSI-X open, a pending vector, a mailbox with a notice, an attached tenant (NotificationsAreSent). -/
theorem witness_notifications : (let s := { full with
      host.cfg.msixEnable := true
      host.msix := [{ vector := 0, pending := 1, masked := true }, { vector := 5, pending := 2, masked := false }]
      slc.mbPending := [4], slc.slices := [{ number := 3, state := 1, attached := true, vecBase := 5 }] }
    s.msixOpen = true ∧ s.host.linkUp = true ∧ s.host.d3hot = false ∧ s.hostUp = true ∧ s.tam.clockLost = false ∧
    (0 < (s.vec 0).pending ∧ (s.vec 0).masked = true) ∧ (0 < (s.vec 5).pending ∧ (s.vec 5).masked = false) ∧
    (s.vec 7).pending = 0 ∧ s.sliceAttached 3 = true ∧ 3 ∉ s.slc.mbPending ∧ s.slc.mbPending = 4 :: [] ∧
    (s.slice 3).attached = true ∧ (s.vec (s.slice 3).vecBase).maxDelay = 0 ∧ full.slc.mbPending = [] ∧
    (full.slice 3).attached = false) := by decide

/-- A core that may take, with an item and with none (TakesDispatch). -/
theorem witness_take : full.coreFree 0 = true ∧ full.coreFree 200 = false ∧
    (full.syncRounds.takeChoice (coreCluster 0) (List.range 8)).2 = none := by decide

/-- One running item of slot 5 on core 0 whose input is being fetched, and one that waits. -/
def fetchingItem : Item := { slot := 5, state := .running, executor := some (.core 0), desc := fit 64 [0x20, 8] }
def waitingItem : Item := { fetchingItem with phase := .waiting, waits := [.signer, .commit], slot := 6 }
def working : State :=
  { queued with tnd.items := [fetchingItem, waitingItem, { waitingItem with slot := 7, waits := [], qid := 64 }]
                mea.signerItem := some 6, queues.ctxs := [{ qid := 64, state := 1, sqLog2 := 8, cqLog2 := 8 }] }
/-- Fetching, waiting and finished items (RunningItemsAdvance). -/
theorem witness_items : working.item 5 = some fetchingItem ∧ fetchingItem.state = .running ∧
    fetchingItem.phase = .fetching ∧ dInLen fetchingItem.desc ≤ 65536 ∧ working.tam.clockLost = false ∧
    bit working.host.cfg.devCtl2 4 = false ∧ working.item 6 = some waitingItem ∧
    waitingItem.phase ≠ .fetching ∧ working.readOutstanding waitingItem 0 = false ∧ working.mea.signerItem = some 6 ∧
    Wait.commit ∈ waitingItem.waits ∧ (∀ e ∈ working.per.waiting, e.item ≠ some 6) ∧ working.issuedBy 6 = none ∧
    working.host.linkUp = true ∧ working.host.d3hot = false ∧ (working.queue 64).ordered = false ∧
    working.parked 64 = 0 ∧ (working.queue 64).cqFull = false ∧
    (∀ x ∈ working.tnd.items, x.qid = 64 → x.heldOrder = none) ∧
    ({ working with per.waiting := [{ item := some 6 }] }).per.waiting = [{ item := some 6 }] := by decide
/-- The signer goes on to nobody (R365). -/
theorem test_signer : (match exec .signerComplete working with
    | .next t => decide (t.mea.signerItem = none ∧ (t.item 6).map (·.waits) = some [.commit]) | _ => false) = true := by
  decide

/-- A BNU command at the front of its cluster's queue: at its result, at its edge, with a value of its own that fails, and
armed (BnuCommandsEnd). -/
def onBnu (m : BnuCmd) (armed : Bool := false) : State := { full with
  tnd.items := [{ fetchingItem with phase := .waiting, waits := [.bnu] }]
  fabric.clusters := [{ phys := 0, bnuQueue := [m], bnuInject := armed }] }
theorem witness_bnu : ((onBnu { slot := 5 }).item 5).map (·.waits) = some [.bnu] ∧ (onBnu { slot := 5 }).physOfItem fetchingItem = 0 ∧
    ((onBnu { slot := 5 }).cluster 0).bnuQueue = { slot := 5 } :: [] ∧ (onBnu { slot := 5 }).tam.clockLost = false ∧
    ((onBnu { slot := 5 }).cluster 0).bnuInject = false ∧ (onBnu { slot := 5 }).strikesOf 0 kindBNU 0 = [] ∧
    fetchingItem.cmds = [] ∧ ((onBnu { slot := 5, ends := .edge }).cluster 0).bnuQueue.map (·.ends) = [.edge] ∧
    ((onBnu { slot := 5, failing := some 1 }).cluster 0).bnuQueue.map (·.failing) = [some 1] ∧
    ((onBnu { slot := 5 } true).cluster 0).bnuInject = true ∧ Wait.bnu ∉ fetchingItem.waits := by decide
/-- An invariant that fails suppresses the result (R193). -/
theorem test_bnu_invariant : (match exec (.bnuCommandComplete 5 { invariant := some 1 }) (onBnu { slot := 5 }) with
    | .next t => decide ((t.item 5).map (·.status) = some 0x0A01) | _ => false) = true := by decide

/-- Items that are deferred, below their ceiling, delayed and retried, entries of the delay lists whose turn it is, and
the device's timers (TimersFallDue). -/
def timed (k : DelayKind) (now : Nat := 20000) : State := { full with
  tnd.items := [{ slot := 1, state := .ready, prio := 3, deferredSince := some 0, desc := zeros 64 },
    { slot := 2, state := .delayed, desc := zeros 64 }, { slot := 3, state := .running, waits := [.resource] }]
  tnd.delays := [{ kind := k }], dcc.session := some { cls := 3, endsAt := 30000 }, m.now := now }
theorem witness_timers : (timed .quorum).tnd.blocked = [] ∧ (timed .quorum).tam.clockLost = false ∧
    ((timed .quorum).item 1).map (fun x => (x.state, x.deferredSince, x.mustRun)) = some (.ready, some 0, false) ∧
    4 * (timed .quorum).pat.deferUs ≤ (timed .quorum).m.now - 0 ∧ (timed .quorum).ceilingOf 0 < 3 ∧
    (timed (.notBefore 2)).servesNow (.notBefore 2) = true ∧ (timed (.notBefore 2)).servesNow (.notBefore 1) = false ∧
    dFence (zeros 64) = false ∧ (timed (.retry 2)).servesNow (.retry 2) = true ∧ Wait.resource ∈ [Wait.resource] ∧
    (timed .quorum).itemEntries < 64512 ∧ (∀ x ∈ (timed .quorum).tnd.items, x.cls < 2) := by decide
theorem witness_device_timers : (timed (.pinLockout 3 [1])).servesNow (.pinLockout 3 [1]) = true ∧
    (timed (.pinLockout 3 [1])).kst.pinHeld = [] ∧ (timed .quorum).servesNow .quorum = true ∧
    (timed .quorum).m.now < 30000 ∧ (timed .quorum 30000).ceremonyAtWork { cls := 3, endsAt := 30000 } = false ∧
    (timed (.regionIdle 0)).servesNow (.regionIdle 0) = true ∧ ((timed (.regionIdle 0)).region 0).state = 2 ∧
    (timed (.regionIdle 0)).itemsInRegion 0 = [] ∧ (timed .quorum).servesNow (.regionIdle 1) = false ∧
    rtcMaxSec ≤ ({ full with per.rtc := rtcMaxSec * 4000000000000 }).rtcSec ∧ full.rtcSec < rtcMaxSec ∧
    full.batteryDomain = true := by decide
/-- A promoted item is counted (R135). -/
theorem test_promote : (match exec (.mustRunPromote 1) (timed .quorum 40000) with
    | .next t => decide (t.tnd.promoted = 1) | _ => false) = true := by decide

/-! ## Chill, regions, units -/

/-- Updates run and every credit is in bounds; updates do not run (ChillUpdateKeepsCredit). -/
theorem witness_chill : ({ full with chl.updating := true }).halted = false ∧ State.reset.chl.updating = false ∧
    ∀ g, -10000000 ≤ (full.region g).credit ∧ (full.region g).credit ≤ 1000000 := by
  refine ⟨by decide, by decide, fun g => ?_⟩
  by_cases h : g = 0
  · subst h; decide
  · have : full.region g = { number := g } := by simp [State.region, full, Ne.symm h]
    rw [this]; exact ⟨by simp, by simp⟩

/-- Waking, draining and wake-pending regions, and one that is OFF (RegionsWakeAndDrain). -/
theorem witness_wake : (let s := { full with chl.regions := [{ number := 0, state := 1 }, { number := 1, state := 3 },
      { number := 2, state := 4 }, { number := 15, state := 1 }] }
    s.tam.clockLost = false ∧ 0 ∈ s.liveRegions ∧ 15 ∈ s.liveRegions ∧ (s.region 0).state = 1 ∧ (s.region 15).state = 1 ∧
    (s.region 1).state = 3 ∧ (s.region 2).state = 4 ∧ s.tnd.blocked = [] ∧ (s.region 3).state = 0) := by decide
/-- A drained region is OFF (R24). -/
theorem test_drained : (match exec (.regionDrainComplete 1) { full with chl.regions := [{ number := 1, state := 3 }] } with
    | .next t => decide ((t.region 1).state = 0) | _ => false) = true := by decide

/-- A live core in a lit cluster, with and without an earlier strike; an unlit one; a spare under test
(ErrorsRetireUnits). -/
theorem witness_errors : full.tam.clockLost = false ∧ full.phys (coreCluster 0) = 0 ∧ full.unitLive 0 kindTC 0 = true ∧
    full.clusterLit 0 = true ∧ full.posUsable (physRegion 0) (physPos 0) = true ∧ full.clusterLit 143 = false ∧
    full.clusterLit (full.phys (coreCluster 511)) = false ∧
    ({ full with fabric.strikes := [{ phys := 0, kind := kindTC, unit := 0, time := 0 }] }).strikesOf 0 kindTC 0 ≠ [] ∧
    (let s := { full with fabric.spareTest := [(8, 2)] }
     s.halted = false ∧ (s.fabric.spareTest.find? (fun y => y.2 == 2)) = some (8, 2)) ∧
    full.fabric.spareTest.find? (fun y => y.2 == 2) = none := by decide
/-- A second strike retires the core (R16). -/
theorem test_second_strike : (match exec (.tcEccUncorrectable 0 0)
      { full with fabric.strikes := [{ phys := 0, kind := kindTC, unit := 0, time := 0 }] } with
    | .next t => !t.unitLive 0 kindTC 0 | _ => false) = true := by decide

/-- Reseeding by requests and by time; a digest unit idle and busy; injection allowed; locks (UnitsAreWatched). -/
theorem witness_units : full.tam.clockLost = false ∧ full.mea.rngHealthy = true ∧ full.clusterLit 0 = true ∧
    65536 ≤ (({ full with fabric.clusters := [{ phys := 0, bnuRequests := 65536 }] }).cluster 0).bnuRequests ∧
    4000000 ≤ ({ full with m.now := 4000000 }).m.now - (full.cluster 0).bnuReseeded ∧
    (full.cluster 0).bnuRequests < 65536 ∧ full.m.now - (full.cluster 0).bnuReseeded < 4000000 ∧
    full.unitLive 0 kindDGU 0 = true ∧ full.dguBusy 0 = false ∧
    ({ full with tnd.items := [{ fetchingItem with desc := fit 64 [1, 8] }] }).dguBusy 0 = true ∧
    (let s := { inState 1 full with lc.testUnlocked := true }
     s.mayInject 0 = true ∧ (s.cluster 0).sbuInject.length = 4) ∧ (inState 5 full).mayInject 0 = true ∧
    full.mayInject 0 = false ∧ full.lcState ≠ .testUnlocked ∧ full.lcState ≠ .returned ∧
    (let s := { full with chl.regions := [{ number := 15, state := 2, pllLock := [true, true, true] }] }
     (s.region 15).pllLock.length = 3 ∧ (s.region 15).pllLock.getD 2 false = true ∧
     (s.region 14).pllLock.getD 2 false = false) := by decide
/-- A link whose eighth retry has failed; a damaged flit and one out of sequence; hub memories; the entropy source
(UnitsAreWatched). -/
theorem witness_links : (let s := { full with fabric.links := List.replicate 5 { state := 2, consecutive := 7 } }
     s.fabric.links.length = 5 ∧ (s.fabric.links.getD 4 {}).state = 2 ∧ (s.fabric.links.getD 4 {}).consecutive = 7 ∧
     (s.fabric.links.getD 4 {}).recent = []) ∧
    flitIntact { crc := 1 } = false ∧ flitIntact { crc := crcLeft 16 0x1021 (flitCovered {}) } = true ∧
    full.fromHub = true ∧ State.reset.fromHub = false ∧ full.stage.fault = false ∧ full.stage.stage ≠ .hold ∧
    full.mea.rngDead = false ∧ full.mea.rngFailed = false ∧ ({ full with mea.rngDead := true }).mea.rngDead = true ∧
    (let s := { full with mea.rngFailed := true, mea.rngConsec := 14 }
     s.mea.rngFailed = true ∧ s.mea.rngConsec < 15) ∧
    ({ full with mea.rngFailed := true, mea.rngConsec := 15 }).mea.rngConsec = 15 := by decide +kernel
/-- The sixteenth failed test in a row (R355). -/
theorem test_rng_dead : (match exec (.rngRetestDue false) { full with mea.rngFailed := true, mea.rngConsec := 15 } with
    | .next t => decide (t.mea.rngDead = true ∧ t.mea.rngFailed = false) | _ => false) = true := by decide

/-! ## Persistence and the heat log -/

/-- An entry that fits, one with a changed map, one for a line that waits, one that must wait; lines with and without a
wait; no main power (PersistenceKeepsOrder). -/
def committing : State := { full with
  per.waiting := [{ size := 64, line := some 9, slot := some (2, some 8) }], per.lines := [{ line := 9 }]
  per.persistUnsafe := false }
theorem witness_commit : committing.halted = false ∧ committing.journalUsed + 64 ≤ 228 * 1024 ∧
    (∃ x ∈ committing.per.lines, x.line = 9) ∧ committing.paced 9 = false ∧
    (committing.mapOf 0).map (fun m => m.slots.length) = some 8 ∧
    (let s := { committing with per.lines := [] }
     s.paced 9 = false ∧ ∀ x ∈ s.per.lines, x.line ≠ 9) ∧
    (let s := { committing with per.waiting := [{ safeOnly := true }], per.persistUnsafe := true }
     ∀ e ∈ s.per.waiting, (s.acceptEntry e).isNone = true) ∧
    ({ committing with per.lineWrites := [(9, 0)] }).paced 9 = true ∧
    ({ full with pins := full.pins.driveHalt true }).pins.halt = true ∧
    full.stage.stage ≠ .hold ∧ State.reset.stage.stage = .hold ∧ [0, 1, 2, 3, 4, 0].length = 6 := by decide
/-- A journal entry leaves by draining (R423). -/
theorem test_drain : (match exec (.journalDrain 1) { full with per.journal := [{ size := 64, line := some 9 }] } with
    | .next t => decide (t.per.journal = [] ∧ t.per.lineWrites.lookup 9 = some 0) | _ => false) = true := by decide

/-- Occurrences of ALARM and of DEBUG, one during a save, and a limited one whose bucket is empty
(OccurrencesAreRecorded). -/
theorem witness_occurrence : 5 ≤ severityOf 0x0104 ∧ full.ghFailed = false ∧ full.stage.saving = false ∧
    full.halted = false ∧ full.log.staging.length + 1 < 256 ∧
    full.log.suppressed.find? (fun y => y.code == 0x0104) = none ∧ full.pat.fullPolicyHold = false ∧
    (full.log.next - full.log.acked) * 10 < 393216 * 9 ∧ severityOf 0xFFFF = 0 ∧ full.lcState ≠ .testUnlocked ∧
    full.lcState ≠ .returned ∧ limitedCode 0x0108 = true ∧ severityOf 0x0108 ≠ 0 ∧
    (let s := { full with stage.saving := true }
     s.stage.saving = true ∧ s.log.queue.length < 64) ∧
    ({ full with log.buckets := [{ code := 0x0108, microTokens := 0, refilled := 0 }] }).bucketNow 0x0108 < 1000000 := by
  decide
/-- An ALARM opens a record with the next heat number (R448). -/
theorem test_alarm : (match exec (.heatOccurrence 0x0104 0 0xFFFF 0 []) full with
    | .next t => decide (t.log.next = 2 ∧ (t.log.opened.map (·.heat)) = some 1) | _ => false) = true := by decide

/-- An open record; the window at OLDEST, NEWEST, below and beyond; a block that does not answer
(HeatLogIsKeptAndRead). -/
def logged : State := { full with
  log.opened := some { heat := 4 }, log.next := 5, log.cleared := 1, log.store := [{ heat := 3 }, { heat := 2 }] }
theorem witness_log : logged.log.opened = some { heat := 4 } ∧ full.log.opened = none ∧ logged.hostUp = true ∧
    logged.fromHub = true ∧ logged.ghFailed = false ∧ logged.oldest = 2 ∧ logged.newest = 3 ∧
    (logged.findRec 2).isSome = true ∧ (logged.findRec 3).isSome = true ∧ logged.log.atEnd = false ∧
    logged.log.cursor ≤ logged.newest ∧ ({ logged with log.atEnd := true }).log.atEnd = true ∧
    logged.log.queue = [] ∧ logged.log.droppedPending = 0 ∧
    (let s := { logged with stage.fault := true, stage.faultCause := 1, fabric.links := List.replicate 5 { state := 3 } }
     s.hostUp = true ∧ s.ghFailed = true) := by decide
/-- The window below OLDEST shows GONE and the oldest record (R460). -/
theorem test_gone : (match exec (.hlwCursorHiWrite 0) { logged with log.cursorLo := 1 } with
    | .next t => decide (t.log.gone = true ∧ t.log.cursor = 2) | _ => false) = true := by decide

/-! ## Ngueth and peers -/

/-- A port with its pattern entry, otherwise as given; UP with its domain matched. -/
def porting (p : Port) : State := { full with pat.peers := [(0, [7])], ngl.ports := [p], m.now := 4000000 }
def linked : State := porting { number := 0, state := 4, peer := [7], domainMatch := true, buffer := [(3, [1, 2])] }
/-- Ports in each state that a command asks for (NguethPortsWork). -/
theorem witness_ngueth : linked.hostUp = true ∧ linked.hasPeer 0 = true ∧ linked.quenched = false ∧
    linked.portsLive = true ∧ linked.tam.clockLost = false ∧ (linked.port 0).shutting = false ∧
    (linked.port 0).enable = true ∧ (linked.port 0).state = 4 ∧ State.reset.portsLive = false ∧
    State.reset.hostUp = false ∧ ((porting { state := 1, shutting := true }).port 0).shutting = true ∧
    (let p := (porting { state := 1, attestFailed := true }).port 0
     p.state = 1 ∧ p.attestFailed = true ∧ p.enable = true ∧ p.shutting = false ∧ 4000000 ≤ 4000000 - p.failedAt) ∧
    (let p := (porting { state := 1, enable := false }).port 0
     p.shutting = false ∧ p.enable = false) ∧ ((porting { state := 5 }).port 0).state = 5 ∧
    (let p := (porting { state := 2 }).port 0
     p.state = 2 ∧ p.attestFailed = false ∧ p.shutting = false) ∧ ((porting { state := 3 }).port 0).state = 3 ∧
    (let p := (porting { state := 0, prbs := [true, false, false, false] }).port 0
     p.state = 0 ∧ p.prbs.length = 4 ∧ p.prbsErr.length = 4 ∧ p.prbs.getD 0 false = true ∧ p.prbs.getD 3 false = false) := by
  decide
/-- Flits of an UP port: counts, a bad flit by its CRC with and without retries left, its replay (NguethPortsWork). -/
theorem witness_flits : (linked.port 0).rxCount < 2 ^ 32 - 1 ∧ (linked.port 0).txCount < 2 ^ 32 - 1 ∧
    (linked.port 0).retryOf < 8 ∧ linked.flitCause (linked.port 0) [] = some 0 ∧
    8 ≤ ((porting { state := 4, retryOf := 8 }).port 0).retryOf ∧
    (linked.port 0).buffer.head? = some (3, [1, 2]) := by decide
/-- Disabling a port that is UP brings it down (R396). -/
theorem test_port_disable : (match exec (.nglPortDisable 0) linked with
    | .next t => decide ((t.port 0).state = 1 ∧ (t.port 0).enable = false) | _ => false) = true := by decide

/-- A handshake is awaited; the hello of a peer that is not the pattern's, and of one that is and does not attest itself
(NguethHandshakeDecides). -/
theorem witness_handshake : (let s := porting { state := 3 }
    s.portsLive = true ∧ (s.port 0).state = 3 ∧ (s.pat.peers.lookup 0).getD [] ≠ [8] ∧ (s.pat.peers.lookup 0).getD [] = [7] ∧
    s.attestedKey [] [] = none) := by decide

/-- Mirrors, a lease at its end and before, an offer at its end, calendars (PeersStayInStep). -/
theorem witness_peers : (linked.port 0).matched = true ∧ linked.portsLive = true ∧ (linked.slice 1).state = 0 ∧
    linked.existing < linked.pat.maxSlices ∧ linked.ngl.mirrorWaits = [] ∧ linked.tnd.items = [] ∧
    (let s := { linked with
       slc.slices := [{ number := 2, state := 1, mirrorPeer := [7] }, { number := 4095, state := 7, mirrorPeer := [7] }]
       slc.offers := [{ slice := 6 }], ngl.mirrorWaits := [{ slice := 2, item := 5, peer := [7] }], tnd.items := [fetchingItem]
       m.now := 2400000000 }
     (s.slice 2).state = 1 ∧ (s.slice 2).mirrorPeer = (s.port 0).peer ∧ (s.slice 2).attached = false ∧
     s.mirrored 2 = true ∧ s.mirrored 3 = false ∧ (s.slice 4095).state = 7 ∧
     s.pat.leaseMs * 4000 ≤ s.m.now - (s.ngl.peerSeen.lookup [7]).getD s.stage.t0 ∧
     (∃ o ∈ s.slc.offers, o.slice = 6 ∧ 2400000000 ≤ s.m.now - o.since) ∧
     s.ngl.mirrorWaits = { slice := 2, item := 5, peer := [7] } :: [] ∧ s.item 5 = some fetchingItem ∧
     dVerb fetchingItem.desc ≠ 0x0920) ∧
    linked.per.calSet = false ∧ ({ linked with per.calSet := true }).per.calSet = true ∧
    ((porting { state := 4 }).port 0).matched = false := by decide
/-- An expired lease fences the slice (R399). -/
theorem test_lease : (match exec (.leaseExpire 2) { linked with slc.slices := [{ number := 2, state := 1, mirrorPeer := [7] }] } with
    | .next t => decide ((t.slice 2).state = 8) | _ => false) = true := by decide

/-! ## Cards and the keypad -/

/-- Empty, present, held, activating, active and chattering slots (CardSlotsComeAndGo). -/
def carded : State := { full with cards.icc := [{ state := .activating, present := true, cls := 2 },
  { state := .active, present := true, exchange := some { command := [0, 0xA4] } }]
                                  dcc.session := some { cls := 3 } }
/-- An answer to reset of T=0 with the class indicator of classes A to C. -/
def atrC : Bytes := [0x3B, 0x80, 0x80, 0x1F, 0x07, 0x18]
theorem witness_cards : full.slotsLive = true ∧ full.tam.clockLost = false ∧ full.iccFitted 1 = true ∧
    full.cards.icc.length = 2 ∧ (full.icc 1).present = false ∧ (full.icc 1).state ≠ .chatter ∧
    (carded.icc 0).state = .activating ∧ (carded.icc 0).present = true ∧ (carded.icc 0).changes.length < 16 ∧
    (carded.icc 0).noPps = false ∧ (carded.icc 0).cls = 2 ∧
    ((parseAtr atrC).bind atrClass).map (fun y => bit y 2) = some true ∧
    ((parseAtr atrC).bind atrProtocol) = some 0 ∧
    (parseAtr atrC).map (fun bs => (atrAt bs 0 2, ratesOf bs)) = some (none, none) ∧ parseAtr [0] = none ∧
    (carded.icc 1).state = .active ∧ ((carded.icc 1).exchange.map (fun e => (e.step, e.mode, e.received))) =
      some (.select, 0, []) ∧ (carded.icc 1).clockStopped = false ∧ (carded.icc 1).protoT1 = false ∧
    State.reset.slotsLive = false := by decide
theorem witness_card_holds : (let s := { full with
      cards.icc := [{ hold := true, state := .deactivating }, { state := .chatter }], cards.sdState := .chatter }
     s.cards.icc.length = 2 ∧ (s.icc 0).hold = true ∧ (s.icc 1).state = .chatter ∧ s.cards.sdState = .chatter ∧
     changesWithin s.m.now (s.icc 1).changes [] = [] ∧ changesWithin s.m.now s.cards.sdChanges [] = []) ∧
    (let s := { carded with cards.icc := [{ hold := true, state := .activatePending, present := true }, { state := .chatter, changes := [0] }] }
     (s.icc 0).hold = true ∧ (s.icc 0).state = .activatePending ∧ (s.icc 0).present = true ∧ s.dcc.session ≠ none ∧
     changesWithin s.m.now (s.icc 1).changes [] ≠ []) := by decide
/-- A card that answers SELECT is asked for its information (R513). -/
theorem test_select : (match exec (.iccResponse 1 [0x90, 0] 0) carded with
    | .next t => decide (t.m.out = [.apdu 1 [0x80, 0x10, 0, 0, 89]]) | _ => false) = true := by decide

/-- Keys with and without a slot to serve, entries at the bounds of a PIN, keys down (KeypadTakesKeys). -/
def typing (n : Nat) : State := { full with
  dcc.session := some { cls := 3 }, dcc.keypad.slot := some 0, dcc.keypad.entry := List.replicate n 1
  cards.icc := [{ state := .active, exchange := some { step := .pin } }, {}] }
theorem witness_keypad : full.slotsLive = true ∧ full.tam.clockLost = false ∧ bit full.pat.fitted 3 = true ∧
    full.dcc.keypad.down = [] ∧ full.dcc.keypad.stuck = [] ∧ full.dcc.keypad.slot = none ∧ keyDigit 0 = some 1 ∧
    (typing 5).dcc.keypad.slot = some 0 ∧ (typing 5).dcc.session.isSome = true ∧ 0 < (typing 5).cards.icc.length ∧
    ((typing 5).icc 0).exchange.map (fun e => (e.step, e.failures, e.changing)) = some (.pin, 0, false) ∧
    (typing 5).dcc.keypad.entry.length = 5 ∧ (typing 6).dcc.keypad.entry.length = 6 ∧
    (typing 12).dcc.keypad.entry.length = 12 ∧ (typing 13).dcc.keypad.entry.length = 13 ∧
    (typing 5).dcc.keypad.fnAt = none ∧ 19 ∈ ({ full with dcc.keypad.down := [19] }).dcc.keypad.down ∧
    (let s : State := { typing 5 with cards.icc := [{ exchange := some { step := .pin, failures := 2 } }, {}] }
     (s.icc 0).exchange.map (fun e => e.failures) = some 2) := by decide
/-- A PIN of five digits is discarded (R516). -/
theorem test_short_pin : (match exec (.keypadKey 18) (typing 5) with
    | .next t => decide (t.dcc.keypad.entry = [] ∧ (t.exch 0).failures = 1) | _ => false) = true := by decide

/-- A card is seen, initialised, tuned, written to and busy, ready for a retune, gone (SdSlotAdvances). -/
theorem witness_sd : full.slotsLive = true ∧ full.sdFitted = true ∧ full.cards.sdPresent = false ∧
    full.cards.sdState ≠ .chatter ∧ full.cards.sdHold = false ∧ full.stage.hubEntryDue = false ∧
    (let s := { full with cards.sdPresent := true, cards.initStep := 2 }
     s.cards.tuning = none ∧ s.cards.run = none ∧ s.cards.sdItem = none ∧ s.cards.sdChanges.length < 16) ∧
    (let s := { full with cards.sdHold := true, cards.sdState := .powerPending, cards.sdPresent := true }
     s.cards.sdHold = true ∧ s.cards.sdState = .powerPending ∧ s.cards.sdPresent = true) ∧
    ({ full with cards.tuning := some [] }).cards.tuning = some [] ∧
    (let s := { full with cards.tuning := some (List.replicate 14 (0, true)) }
     s.cards.tuning.map (·.length) = some 14) ∧
    (let s := { full with cards.sdState := .ready, cards.sdMode := 5 }
     s.cards.sdState = .ready ∧ tunedMode s.cards.sdMode = true ∧ s.cards.tuning = none ∧ s.cards.initStep = 0) := by decide
theorem witness_sd_run : (let s := { full with cards.sdBusy := true, tnd.items := [fetchingItem], cards.run := some { item := 5, phase := .write } }
     s.runningItem 5 = some fetchingItem ∧ s.cards.sdBusy = true ∧ s.cards.tuning = none ∧ s.cards.initStep = 0 ∧
     ({ s with cards.sdBusy := false }).cards.sdBusy = false ∧ s.stage.repourBusy = false ∧
     s.cards.run.map (fun r => decide (r.phase ≠ .fetch)) = some true) ∧
    (let it := { fetchingItem with desc := fit 64 [0x50, 1] }
     let s := { full with cards.sdBusy := true, tnd.items := [it], cards.run := some { item := 5, phase := .write, todo := [(0, [])], next := some { id := [] } } }
     s.runningItem 5 = some it ∧ dVerb it.desc = 0x0150 ∧ s.cards.run.map (fun r => (r.todo, r.next)) = some ([(0, [])], some { id := [] })) ∧
    r1Error 0x900 = false ∧ bits 0x900 9 4 = 4 ∧ bit 0x900 8 = true ∧ r1Error 0xE00 = false ∧ bits 0xE00 9 4 ≠ 4 := by decide
/-- A card with its answer to CMD8 is asked to power up (R539). -/
theorem test_cmd8 : (match exec (.sdCommandResponse { crcOk := true, resp := 0x1AA }) { full with cards.initStep := 2 } with
    | .next t => decide (t.cards.initStep = 3 ∧ t.cards.v2Card = true) | _ => false) = true := by decide

/-! ## Verbs: an item whose checks pass, for one or more verbs of each statement -/

/-- A descriptor of a verb: keys, output room, inline bytes from 0x30 on. -/
def desc (verb keyA keyB room inLen : Nat) (inline : Bytes) : Bytes :=
  le 2 verb ++ zeros 6 ++ le 8 keyA ++ le 8 keyB ++ zeros 8 ++ le 4 inLen ++ le 4 room ++ zeros 8 ++ fit 16 inline

/-- The item of a verb, running on core 0 with its input arrived. -/
def verbOf (verb : Nat) (inline input : Bytes) (keyA keyB : Bytes := []) : Item :=
  { slot := 9, state := .running, executor := some (.core 0), phase := .processing, input := input
    keyA := keyA, keyB := keyB
    desc := desc verb (if keyA.isEmpty then 0 else 64) (if keyB.isEmpty then 0 else 128) 4096 input.length inline }

/-- A symmetric ingot of slice 0 with the last byte of its tag (R213, R214). -/
def ingot (alg attr mods bits : Nat) (us : String) (mode : Char) (tag : Nat) : Bytes :=
  le 2 0x4749 ++ le 1 1 ++ le 1 1 ++ le 2 128 ++ le 2 0 ++ le 1 alg ++ le 1 attr ++ le 1 mods ++ le 1 1 ++ le 2 bits ++
    le 2 (usage us) ++ le 1 (chr mode) ++ le 1 0 ++ le 2 1 ++ le 4 0xFFFFFFFF ++ zeros 103 ++ le 1 tag

/-- The ingots used here: a card verification key, PIN keys, a data key, a MAC key, a derivation key, a block key. -/
def keys : List Bytes := [ingot 1 1 0 128 "C0" 'C' 1, ingot 3 2 0 128 "P0" 'D' 2, ingot 3 1 0 128 "P0" 'E' 3,
  ingot 3 1 1 128 "D0" 'E' 4, ingot 3 1 0 128 "M6" 'C' 5, ingot 3 8 0 128 "E6" 'X' 6, ingot 3 4 0 128 "K1" 'E' 7]
/-- One of them. -/
def key (n : Nat) : Bytes := keys.getD (n - 1) []

/-- The service state with an item, every key cached, and a riser that is safe. -/
def serving (it : Item) : State := { full with
  tnd.items := [it], per.persistUnsafe := false, stage.riserWait := false
  kst.hubCache := keys.map (fun k => { slice := 0, ingot := k, key := (List.range 16).map (BitVec.ofNat 8) }) }

/-- The same after the item's references are looked up. -/
def ready (it : Item) : State := (serving it).lookUp it

/-- The item is the one processed for its verb, and the units report nothing (the hypotheses of `unitsClean` with the
report {}). -/
def processed (verb : Nat) (it : Item) : Bool :=
  decide ((serving it).verbItem 9 verb = some it) && (injectedFaults ((serving it).cluster ((serving it).physOfItem it)) {}).isEmpty

/-- A template of an AES-128 data key (R247). -/
def template : Bytes := [3, 1, 0, 69] ++ le 2 (usage "D0") ++ le 2 128 ++ zeros 24
/-- Sixteen decimal digits of a PAN and their count (R287). -/
def pan : Bytes := List.replicate 8 0x12 ++ [0xFF, 0xFF, 16]
/-- A length in front of a segment (R243). -/
def seg (d : Bytes) : Bytes := le 4 d.length ++ d ++ zeros ((4 - d.length % 4) % 4)

/-- KEY_GENERATE and KDF_DERIVE pass; COMPONENT_COMBINE without a session fails (KeysAreMade). -/
theorem witness_key_generate : (let it := verbOf 0x0201 [] template
    processed 0x0201 it && isOk ((ready it).keyGenerateChecks it)) = true := by decide
theorem witness_kdf : (let it := verbOf 0x0230 [] (seg template ++ seg [1] ++ seg []) (key 6)
    processed 0x0230 it && isOk ((ready it).kdfChecks it)) = true := by decide
/-- COMPONENT_COMBINE in a session with two components, and without a session (KeysAreMade). -/
theorem witness_combine : (let it := verbOf 0x0203 [] (template ++ zeros 8)
    let s := { serving it with dcc.session := some { cls := 10, comps := [(1, zeros 16), (2, zeros 16)] } }
    decide (s.verbItem 9 0x0203 = some it) && isOk (s.combineChecks it) && !isOk ((serving it).combineChecks it)) = true := by
  decide
/-- KEY_CHECK, INGOT_INSPECT pass on a cached key (IngotsAreManaged). -/
theorem witness_key_check : (let it := verbOf 0x0202 [] [] (key 4)
    processed 0x0202 it && isOk ((ready it).keyCheckChecks it) && processed 0x0240 (verbOf 0x0240 [] [] (key 4)) &&
    isOk ((ready (verbOf 0x0240 [] [] (key 4))).inspectChecks (verbOf 0x0240 [] [] (key 4)))) = true := by decide
/-- INGOT_UNPIN of a pinned entry by its handle (IngotsAreManaged). -/
theorem witness_unpin : (let it := { verbOf 0x0243 [] [] with desc := desc 0x0243 (2 ^ 63) 0 0 0 [], hubA := some 0 }
    let s := { serving it with kst.hubCache := [{ slice := 0, ingot := key 4, key := zeros 16, pinned := true }] }
    decide (s.verbItem 9 0x0243 = some it) && isOk ((s.lookUp it).unpinChecks it)) = true := by decide
/-- TR31_EXPORT of an exportable key under a block key (KeyBlocksCross). -/
theorem witness_tr31_export : (let it := verbOf 0x0211 [68, 69, 48, 48, 48, 0] [] (key 4) (key 7)
    processed 0x0211 it && isOk ((ready it).tr31ExportChecks it)) = true := by decide
/-- KEYPAIR_GENERATE on P-256 (BnuVerbsCompute). -/
theorem witness_keypair : (let it := verbOf 0x0301 [] ([0x20, 1, 0, 83] ++ le 2 (usage "S0") ++ le 2 256 ++ zeros 24)
    processed 0x0301 it && isOk ((ready it).keypairChecks it)) = true := by decide
/-- PIN_TRANSLATE between formats 4 and 4, and PIN_TRY_STATUS (PinVerbsWork). -/
theorem witness_pin : (let it := verbOf 0x0401 [4] (zeros 16 ++ pan.take 10 ++ [16, 4, 0] ++ zeros 19) (key 2) (key 3)
    processed 0x0401 it && isOk ((ready it).pinTranslateChecks it)) = true := by decide
theorem witness_try_status : (let it := verbOf 0x0407 [] (pan ++ zeros 5)
    processed 0x0407 it && isOk ((ready it).tryStatusChecks it)) = true := by decide
/-- CVV_GENERATE (CardVerbsWork). -/
theorem witness_cvv : (let it := verbOf 0x0501 [] (pan ++ [0x25, 0x12, 0x01, 0x01, 0]) (key 1)
    processed 0x0501 it && isOk ((ready it).cvvChecks it false)) = true := by decide
/-- DATA_ENCRYPT in CBC, MAC_GENERATE, DIGEST and RANDOM (DataVerbsWork). -/
theorem witness_data : (let it := verbOf 0x0701 [1, 0, 0] (seg (zeros 16) ++ seg [] ++ seg (zeros 32)) (key 4)
    processed 0x0701 it && isOk ((ready it).dataChecks it true)) = true := by decide
theorem witness_mac : (let it := verbOf 0x0710 [0, 16] [1, 2, 3] (key 5)
    processed 0x0710 it && isOk ((ready it).macChecks it false)) = true := by decide
theorem witness_digest : (let it := verbOf 0x0801 [2] [97, 98, 99]
    processed 0x0801 it && isOk ((ready it).digestChecks it)) = true := by decide
theorem witness_random : (let it := verbOf 0x0820 [0, 0, 0, 0, 3] []
    processed 0x0820 it && isOk ((ready it).randomChecks it)) = true := by decide
/-- RANDOM while the entropy source is out of service. -/
theorem witness_random_out : (let it := verbOf 0x0820 [0, 0, 0, 0, 3] []
    let s := { serving it with mea.rngHealthy := false }
    decide (s.verbItem 9 0x0820 = some it) && isOk ((s.lookUp it).randomChecks it)) = true := by decide
/-- RANDOM answers as many bytes as asked (R347). -/
theorem test_random : (let it := verbOf 0x0820 [0, 0, 0, 0, 3] []
    match exec (.random 9 {}) (serving it) with
    | .next t => decide ((t.item 9).map (fun x => (x.status, x.output.length)) = some (0, 3)) | _ => false) = true := by
  decide

/-- SLICE_CREATE of a free slice, and of one that drains with and without items (SlicesLive). -/
theorem witness_slice_create : (let it := verbOf 0x0901 (zeros 8 ++ le 2 4095) []
    processed 0x0901 it && isOk ((serving it).sliceChecks it [0, 2, 9] (serving it).createPre noRoom)) = true := by decide
def draining (it : Item) (more : List Item) : State :=
  { serving it with slc.slices := [{ number := 1, state := 2, heldCreate := [3] }], tnd.items := it :: more }
theorem witness_slice_create_held : (let it := verbOf 0x0901 (zeros 8 ++ le 2 1) []
    isOk ((draining it []).sliceChecks it [0, 2, 9] (draining it []).createPre noRoom) &&
    decide ((draining it []).verbItem 9 0x0901 = some it)) = true ∧
    (∀ it, ((draining it []).slice 1).state = 2 ∧ ((draining it []).slice 1).heldCreate = [3] ∧
      (draining it []).queues.batches = [] ∧ (draining it []).tnd.blocked = []) ∧
    (verbOf 0x0901 [] []).slice ≠ 1 ∧
    (∃ y ∈ ([{ slot := 8, slice := 1 }] : List Item), y.slice = 1 ∧ y.heldOrder = none) :=
  ⟨by decide +kernel, fun _ => ⟨rfl, rfl, rfl, rfl⟩, by decide, by decide⟩
/-- The same with slice 1 active. -/
def owning (it : Item) (st : Nat := 1) : State := { serving it with slc.slices := [{ number := 1, state := st }] }
theorem witness_slice_freeze : (let it := verbOf 0x0910 (zeros 8 ++ le 2 1) []
    isOk ((owning it).sliceChecks it [1] noPre noRoom) && decide ((owning it).verbItem 9 0x0910 = some it)) = true ∧
    (verbOf 0x0910 [] []).slice ≠ 1 ∧ ((owning {}).slice 1).mirrorPeer = [] ∧ ((owning {}).slice 1).heldAttach = none ∧
    (let it := verbOf 0x0905 (zeros 8 ++ le 2 1) []
     isOk ((owning it).sliceChecks it [1, 8] (owning it).generationPre noRoom) &&
       decide ((owning it).verbItem 9 0x0905 = some it)) = true ∧
    (let it := verbOf 0x0904 (zeros 8 ++ le 2 1) []
     isOk ((owning it).sliceChecks it [1, 2, 3, 4, 5, 6, 8, 9] noPre noRoom true)) = true ∧
    (let it := verbOf 0x0916 (zeros 8 ++ le 2 1) []
     isOk ((owning it 4).sliceChecks it [4, 5] noPre noRoom)) = true := by decide
/-- SLICE_ATTACH of an active slice, free and while it detaches with a request held; SLICE_DETACH of an attached one
(SlicesLive). -/
theorem witness_slice_attach : (let it := verbOf 0x0902 (zeros 8 ++ le 2 1) (zeros 16 ++ le 2 64 ++ le 2 1 ++ zeros 44)
    let s := { owning it with host.pasidEnable := true }
    isOk (s.sliceChecks it [1, 8, 3, 4, 5, 6] s.attachPre noRoom) && decide ((s.slice 1).detaching = false)) = true ∧
    (let it := verbOf 0x0903 (zeros 8 ++ le 2 1) []
     let s := { serving it with slc.slices := [{ number := 1, state := 1, attached := true }] }
     isOk (s.detachChecks it) && decide ((s.slice 1).heldAttach = none)) = true := by decide +kernel
/-- SLICE_OFFER of a free slice, SLICE_MIRROR of an active one (SlicesMove). -/
theorem witness_slice_offer : (let it := verbOf 0x0911 (zeros 8 ++ le 2 1) []
    isOk ((serving it).sliceChecks it [0] noPre (fun _ => 264))) = true ∧ (serving {}).slc.offers.length < 16 := by decide
theorem witness_slice_mirror : (let it := verbOf 0x0920 (zeros 8 ++ le 2 1) []
    isOk ((owning it).sliceChecks it [1] noPre noRoom)) = true ∧ full.portTo [7] = none ∧ linked.portTo [7] = some 0 := by
  decide

/-- A stage run at its phases: 300 bytes read of the image's length (PatternStages). -/
def staging (phase done inLen : Nat) (due aborting : Bool := false) : State :=
  { serving (verbOf 0x0130 [] []) with m.now := 7, pat.staging := some {
      item := 9, image := zeros 300, inLen := inLen, phase := phase, done := done, pieceDue := due, aborting := aborting } }
theorem witness_stage : slotSize false / 65536 = 64 ∧ 62 + 1 < 64 ∧ 64 ≤ 63 + 1 ∧ 256 * (0 + 1) < 300 ∧ 300 ≤ 256 * (1 + 1) ∧
    ((staging 1 0 300).pat.staging.map (fun x => (x.phase, x.pieceDue, x.aborting))) = some (1, false, false) ∧
    ((staging 0 63 300).pat.staging.map (fun x => (x.done, x.firmware))) = some (63, false) ∧
    ((staging 1 1 301).pat.staging.map (·.inLen)) = some 301 ∧ ((staging 1 1 300 true).pat.staging.map (·.pieceDue)) = some true ∧
    ((staging 1 1 300 false true).pat.staging.map (·.aborting)) = some true ∧
    ((staging 1 1 300).runningItem 9).isSome = true ∧ (staging 1 1 300).tam.clockLost = false ∧
    ((staging 1 1 300).pat.staging.map (fun x => decide (x.limit ≤ 7 - x.since))) = some true ∧
    full.pat.staging = none := by decide
theorem witness_stage_image (phase done inLen : Nat) :
    ((staging phase done inLen).pat.staging.map (·.image.length)) = some 300 :=
  congrArg some (List.length_replicate (n := 300) (a := (0 : Byte)))
/-- PATTERN_STAGE with the shortest image of a header that states no length (PatternStages). -/
theorem witness_pattern_stage : (let it := verbOf 0x0130 (zeros 8) (zeros 8)
    processed 0x0130 it && isOk ((serving it).stageChecks it)) = true := by decide
/-- The first block erased, the second follows (R89). -/
theorem test_flash_next : (match exec (.flashOperationComplete none)
      { full with pat.staging := some { item := 9, image := zeros 300 } } with
    | .next t => decide (t.m.out = [.flash (.status8d 0), .flash (.erase8d 0 65536), .flash (.wren8d 0)])
    | _ => false) = true := by decide

/-- MEAS_EXTEND at both ends of its range, GUARD_SLOT_LOAD that clears, LOG_READ_SLICE, LOG_EXPORT (WardenVerbsWork). -/
theorem witness_warden : (let it := verbOf 0x0B13 (zeros 8 ++ [16]) (zeros 48)
    processed 0x0B13 it && isOk ((serving it).extendChecks it)) = true ∧
    (let it := verbOf 0x0B13 (zeros 8 ++ [31]) (zeros 48)
     isOk ((serving it).extendChecks it)) = true ∧
    (let it := verbOf 0x0140 (zeros 8 ++ [15, 1]) []
     processed 0x0140 it && isOk ((serving it).slotLoadChecks it) && ((serving it).guardSlot 15).user.isNone) = true ∧
    (let it := verbOf 0x0B01 (zeros 8 ++ le 4 64) []
     processed 0x0B01 it && isOk ((serving it).logReadChecks it)) = true := by decide
/-- MEAS_EXTEND counts (R362). -/
theorem test_meas_extend : (let it := verbOf 0x0B13 (zeros 8 ++ [16]) (zeros 48)
    match exec (.measExtend 9) (serving it) with
    | .next t => decide (t.mea.measCount.getD 16 0 = 1 ∧ t.mea.measCount.getD 15 0 = 0) | _ => false) = true := by decide

/-- QUORUM_OPEN of every class at its ends, QUORUM_CLOSE of an open session (QuorumSessionsOpenAndClose). -/
theorem witness_quorum : (let it := verbOf 0x0A01 (zeros 8 ++ [0]) []
    processed 0x0A01 it && isOk ((serving it).openChecks it)) = true ∧
    (let it := verbOf 0x0A01 (zeros 8 ++ [10, 5, 3]) []
     isOk ((serving it).openChecks it)) = true ∧
    (let it := verbOf 0x0A02 [] []
     let s := { serving it with dcc.session := some { cls := 3 } }
     decide (s.verbItem 9 0x0A02 = some it) && isOk (s.closeChecks it)) = true := by decide

/-- A session of a class whose quorum is met. -/
def met (cls : Nat) (it : Item) : State :=
  { serving it with dcc.session := some { cls := cls, admitted := [{ index := 1 }, { index := 2 }] } }
/-- DOMAIN_CREATE in DEPLOYED without a domain, UNLOCK with no active source (DomainCeremoniesRun). -/
theorem witness_domain : (let it := verbOf 0x0A10 [] ([3, 2] ++ zeros 38)
    let s := inState 4 (met 0 it)
    decide (s.verbItem 9 0x0A10 = some it) && isOk (s.ceremonyChecks it 0 true s.createInput) &&
      decide (s.lcState = .deployed ∧ s.dcc.domainId = [] ∧ (sub it.input 8 32).all (· == 0) = true)) = true ∧
    (let it := verbOf 0x0A13 [] []
     let s := met 3 it
     decide (s.verbItem 9 0x0A13 = some it) && isOk (s.ceremonyChecks it 3 false plainInput) &&
       decide (s.quenched = false ∧ s.activeSources = [])) = true := by decide
/-- CALENDAR_SET and LOG_CLEAR (OtherCeremoniesRun). -/
theorem witness_other : (let it := verbOf 0x0A16 [] (le 8 1000)
    let s := met 6 it
    decide (s.verbItem 9 0x0A16 = some it) && isOk (s.ceremonyChecks it 6 true calendarInput)) = true ∧
    (let it := verbOf 0x0A18 [] []
     decide ((met 8 it).verbItem 9 0x0A18 = some it) && isOk ((met 8 it).ceremonyChecks it 8 true plainInput)) = true := by
  decide
/-- Records are acknowledged. -/
theorem witness_acknowledged : ({ full with log.acked := 1 }).oldest ≤ 1 := by decide
/-- CALENDAR_SET sets the calendar (R441). -/
theorem test_calendar : (match exec (.calendarSet 9 none) (met 6 (verbOf 0x0A16 [] (le 8 1000))) with
    | .next t => decide (t.per.calSet = true ∧ t.per.calSource = 1) | _ => false) = true := by decide

/-- ARCHIVE_INFO without a card, with a card that is failed, and with one that is ready (ArchiveVerbsTakeTheCard). -/
theorem witness_archive : (let it := verbOf 0x0153 [] []
    processed 0x0153 it && isOk ((serving it).archiveChecks it [] infoRoom) &&
      decide ((serving it).cards.sdPresent = false ∧ ∀ x, (serving it).dcc.session = some x → x.expired = false)) = true := by
  simp [show ∀ it, (serving it).dcc.session = none from fun _ => rfl]; decide
/-- Without a card it ends with 0x0D04 (R550). -/
theorem test_no_card : (let it := verbOf 0x0153 [] []
    match exec (.archiveInfo 9 false) (serving it) with
    | .next t => decide ((t.item 9).map (·.status) = some 0x0D04) | _ => false) = true := by decide

end Sys2Proof.Tests
end

section
/-!
SUPPORT. What each command of the row table `workFrame` changes (O9), from the lemmas of the shared operations
(Sys2Proof/Laws/Frame*.lean): the rules for an update of one block, the rules for a command, and one lemma for each
command.
-/
namespace Sys2Proof.Machine

variable {ch : List Block} {s x : State} {i : Instr}

/-! ## Updates of one block -/

/-- An update of the Tundish alone. -/
theorem Frame.setTnd {v : Tundish} (h : Frame ch s x) (w : .tnd ∈ ch) : Frame ch s { x with tnd := v } :=
  ⟨h.queue, h.out, fun b hb => by cases b with
    | tnd => exact absurd w hb
    | _ => exact (h.rest _ hb :)⟩

/-- An update of the queue contexts alone. -/
theorem Frame.setQueues {v : Queues} (h : Frame ch s x) (w : .queues ∈ ch) : Frame ch s { x with queues := v } :=
  ⟨h.queue, h.out, fun b hb => by cases b with
    | queues => exact absurd w hb
    | _ => exact (h.rest _ hb :)⟩

/-- An update of the slices alone. -/
theorem Frame.setSlc {v : Slices} (h : Frame ch s x) (w : .slc ∈ ch) : Frame ch s { x with slc := v } :=
  ⟨h.queue, h.out, fun b hb => by cases b with
    | slc => exact absurd w hb
    | _ => exact (h.rest _ hb :)⟩

/-- An update of the Ngueth ports alone. -/
theorem Frame.setNgl {v : Ngueth} (h : Frame ch s x) (w : .ngl ∈ ch) : Frame ch s { x with ngl := v } :=
  ⟨h.queue, h.out, fun b hb => by cases b with
    | ngl => exact absurd w hb
    | _ => exact (h.rest _ hb :)⟩

/-- An update of the device block's registers alone. -/
theorem Frame.setGds {v : Gds} (h : Frame ch s x) (w : .gds ∈ ch) : Frame ch s { x with gds := v } :=
  ⟨h.queue, h.out, fun b hb => by cases b with
    | gds => exact absurd w hb
    | _ => exact (h.rest _ hb :)⟩

/-- An update of the fabric, its clusters kept. -/
theorem Frame.setFabric {v : Fabric} (h : Frame ch s x) (w : .fabric ∈ ch) (c : v.clusters = x.fabric.clusters) :
    Frame ch s { x with fabric := v } :=
  ⟨h.queue, h.out, fun b hb => by cases b with
    | fabric => exact absurd w hb
    | clusters => exact c.trans (h.rest _ hb)
    | _ => exact (h.rest _ hb :)⟩

/-- An update of Chill, its regions kept. -/
theorem Frame.setChl {v : Chill} (h : Frame ch s x) (w : .chl ∈ ch) (c : v.regions = x.chl.regions) :
    Frame ch s { x with chl := v } :=
  ⟨h.queue, h.out, fun b hb => by cases b with
    | chl => exact absurd w hb
    | regions => exact c.trans (h.rest _ hb)
    | _ => exact (h.rest _ hb :)⟩

/-- An update of the measurement block, its registers kept. -/
theorem Frame.setMea {v : Measure} (h : Frame ch s x) (w : .mea ∈ ch) (c : v.registerPart = x.mea.registerPart) :
    Frame ch s { x with mea := v } :=
  ⟨h.queue, h.out, fun b hb => by cases b with
    | mea => exact absurd w hb
    | meas => exact c.trans (h.rest _ hb)
    | _ => exact (h.rest _ hb :)⟩

/-- An update of the persistence block outside the commit path. -/
theorem Frame.setPer {v : Persist} (h : Frame ch s x) (w : .per ∈ ch) (c : v.commitPart = x.per.commitPart) :
    Frame ch s { x with per := v } :=
  ⟨h.queue, h.out, fun b hb => by cases b with
    | per => exact absurd w hb
    | commits => exact c.trans (h.rest _ hb)
    | _ => exact (h.rest _ hb :)⟩

/-- An update of the persistence block within the commit path. -/
theorem Frame.setCommits {v : Persist} (h : Frame ch s x) (w : .commits ∈ ch)
    (c : v.otherPart = x.per.otherPart) : Frame ch s { x with per := v } :=
  ⟨h.queue, h.out, fun b hb => by cases b with
    | commits => exact absurd w hb
    | per => exact c.trans (h.rest _ hb)
    | _ => exact (h.rest _ hb :)⟩

/-! ## Commands -/

/-- A command that answers `f` changes what `f` changes. -/
theorem Touches.next {f : State → State} (e : ∀ s, exec i s = .next (f s)) (k : ∀ s, Frame ch s (f s)) :
    Touches i ch :=
  fun s _ h => Host.Outcome.next.inj ((e s).symm.trans h) ▸ k s

/-- A command that stands still while the clock is lost (R43) changes what it changes otherwise. -/
theorem Touches.clocked {f : State → State} (e : ∀ s, exec i s = .next (s.clocked (f s)))
    (k : ∀ s, Frame ch s (f s)) : Touches i ch :=
  .next e fun s => State.clocked_frame s _ (.refl ch s) (k s)

/-! ## Host accesses and queues -/

theorem touches_barBadAccess (bar addr : Nat) (write : Bool) :
    Touches (.barBadAccess bar addr write) [.tnd, .log, .m] := by
  refine .next (fun _ => rfl) fun s => .ite (.refl _ s) ?_
  refine State.logH_frame _ _ _ (.setTnd ?_ (by decide)) (by decide)
  exact .ite (.refl _ s) (State.emit_frame _ _ (.refl _ s) (by decide))

theorem touches_regPairLoRead (read : RegRead) : Touches (.regPairLoRead read) [.host, .m] := by
  refine .next (fun _ => rfl) fun s => .ite (.refl _ s) ?_
  cases read.space with
  | bar0 => exact State.bar0Read_frame _ _ (.refl _ s) (by decide)
  | bar2 => exact State.emit_frame _ _ (.refl _ s) (by decide)
  | bar4 => exact State.emit_frame _ _ (.refl _ s) (by decide)
  | config cap => exact State.emit_frame _ _ (.refl _ s) (by decide)

theorem touches_msixDelayExpire (vector : Nat) : Touches (.msixDelayExpire vector) [.host, .m] :=
  .clocked (fun _ => rfl) fun s => .ite (State.fireVector_frame _ _ (.refl _ s) (by decide)) (.refl _ s)

theorem touches_msixVectorUnmask (vector : Nat) : Touches (.msixVectorUnmask vector) [.host, .m] :=
  .next (fun _ => rfl) fun s => .ite (.refl _ s) (State.unmask_frame _ _ (.refl _ s) (by decide))

theorem touches_registerWrite (space : Space) (addr : Nat) (data : RegValue) :
    Touches (.registerWrite space addr data) [.host, .queues, .slc, .chl, .per, .store, .gds, .m] := by
  refine .next (fun _ => rfl) fun s => .ite (.refl _ s) ?_
  cases space with
  | bar0 => exact State.bar0Write_frame _ _ _ (.refl _ s) (by decide)
  | bar2 => exact .refl _ s
  | bar4 =>
    refine .ite (State.bar4Write_frame _ _ _ ?_ (by decide)) ?_
    all_goals exact State.bar4Write_frame _ _ _ (.refl _ s) (by decide)
  | config cap => exact State.cfgWrite_frame _ _ _ _ (.refl _ s) (by decide)

theorem touches_doorbellSqTail (qid : Nat) (write : DoorbellWrite) :
    Touches (.doorbellSqTail qid write) [.host, .queues, .tnd, .slc, .m] := by
  refine .next (fun _ => rfl) fun s => .ite (.refl _ s) (State.ringTail_frame _ _ _ ?_ (by decide))
  cases write.head with
  | none => exact .refl _ s
  | some h => exact State.ringHead_frame _ _ _ (.refl _ s) (by decide)

theorem touches_doorbellCqHead (qid head : Nat) :
    Touches (.doorbellCqHead qid head) [.host, .queues, .tnd, .slc, .m] :=
  .next (fun _ => rfl) fun s => .ite (.refl _ s) (State.ringHead_frame _ _ _ (.refl _ s) (by decide))

theorem touches_mbNotify (slice : Nat) : Touches (.mbNotify slice) [.host, .slc, .m] :=
  .next (fun _ => rfl) fun s => .ite (.refl _ s)
    (State.notify_frame _ _ (.setSlc (.refl _ s) (by decide)) (by decide))

theorem touches_fetchBatch : Touches .fetchBatch [.queues, .m] := by
  refine .next (fun _ => rfl) fun s => .ite (.refl _ s) ?_
  split
  · exact .refl _ s
  · exact State.emit_frame _ _ (.setQueues (State.setQueue_frame _ _ (.refl _ s) (by decide)) (by decide)) (by decide)

theorem touches_descriptorArrival (qid : Nat) (fault : Bool) (descs : List Bytes) :
    Touches (.descriptorArrival qid fault descs)
      [.host, .queues, .tnd, .clusters, .kst, .mea, .slc, .ngl, .regions, .commits, .log, .m] := by
  refine .clocked (fun _ => rfl) fun s => ?_
  split
  · exact .refl _ s
  next b _ =>
    refine .ite (State.batchFault_frame _ _ (.setQueues (.refl _ s) (by decide)) (by decide)) ?_
    refine State.queueDrained_frame _ _ (.fold (.ite ?_ (State.modSlice_frame _ _ _ ?_ (by decide)))
      fun _ _ hy => State.acceptItem_frame _ _ _ _ hy (by decide)) (by decide)
    all_goals exact State.modQueue_frame _ _ _ (.setQueues (.refl _ s) (by decide)) (by decide)

theorem touches_qawRead : Touches .qawRead [.queues] :=
  .next (fun _ => rfl) fun s => State.qaw_frame _ _ _ (.refl _ s) (fun _ hz => .setQueues hz (by decide)) (by decide)

theorem touches_qawWrite : Touches .qawWrite [.queues] :=
  .next (fun _ => rfl) fun s => State.qaw_frame _ _ _ (.refl _ s) (fun _ hz =>
    .sndIte hz (.sndIte hz (State.setQueue_frame _ _ hz (by decide)))) (by decide)

theorem touches_qawEnable : Touches .qawEnable [.queues] :=
  .next (fun _ => rfl) fun s => State.qaw_frame _ _ _ (.refl _ s) (fun _ hz =>
    .sndIte hz (.sndIte hz (.sndIte (State.setQueue_frame _ _ hz (by decide))
      (State.setQueue_frame _ _ hz (by decide))))) (by decide)

theorem touches_qawResetError : Touches .qawResetError [.queues] :=
  .next (fun _ => rfl) fun s => State.qaw_frame _ _ _ (.refl _ s) (fun _ hz =>
    .sndIte (State.setQueue_frame _ _ hz (by decide)) hz) (by decide)

theorem touches_qawDisable : Touches .qawDisable
    [.host, .queues, .tnd, .clusters, .kst, .mea, .slc, .ngl, .regions, .commits, .log, .m] := by
  refine .next (fun _ => rfl) fun s => State.qaw_frame _ _ _ (.refl _ s) (fun z hz => .sndIte ?_ hz) (by decide)
  refine State.offerAll_frame _ (State.queueDrained_frame _ _ ?_ (by decide)) (by decide)
  exact State.endItems_frame _ _ _ _ (State.setQueue_frame _ _ hz (by decide)) (by decide)

/-! ## The Tundish and its items -/

theorem touches_take (core : Nat) : Touches (.take core) [.host, .tnd, .clusters, .regions, .log, .m] :=
  .next (fun _ => rfl) fun s => State.take_frame _ _ (.refl _ s) (by decide)

theorem touches_inputFetchComplete (slot : Nat) (input keyA keyB : Bytes) (faults : List Nat) :
    Touches (.inputFetchComplete slot input keyA keyB faults) [.pat, .host, .queues, .tnd, .clusters, .kst, .mea,
      .meas, .slc, .ngl, .regions, .per, .commits, .log, .store, .dcc, .custody, .cards, .m] := by
  refine .clocked (fun _ => rfl) fun s => ?_
  split
  · exact .refl _ s
  refine .ite (State.stageInput_frame _ _ _ _ (.refl _ s) (by decide)) ?_
  refine .ite (State.recordInput_frame _ _ _ _ (.refl _ s) (by decide)) (.ite (.refl _ s) ?_)
  refine State.startProcessing_frame _ _ (State.modItem_frame _ _ _ ?_ (by decide)) (by decide)
  refine .ite (State.readRest_frame _ _ _ _ ?_ (by decide)) ?_
  all_goals exact .ite (State.readRest_frame _ _ _ _ (.refl _ s) (by decide)) (.refl _ s)

theorem touches_completionTimeout (descriptor : Bool) (id which : Nat) :
    Touches (.completionTimeout descriptor id which) [.pat, .host, .queues, .tnd, .clusters, .kst, .mea, .meas, .slc,
      .ngl, .regions, .per, .commits, .log, .store, .dcc, .custody, .cards, .m] := by
  refine .clocked (fun _ => rfl) fun s => .ite (.refl _ s) (.ite (.ite ?_ (.refl _ s)) ?_)
  · exact State.batchFault_frame _ _ (State.timeoutError_frame _ (.setQueues (.refl _ s) (by decide)) (by decide))
      (by decide)
  split
  · exact .refl _ s
  refine .ite (.refl _ s) (.ite (State.stageInput_frame _ _ _ _ ?_ (by decide))
    (.ite (State.recordInput_frame _ _ _ _ ?_ (by decide)) (.ite (State.readFault_frame _ _ _ ?_ (by decide))
      (State.offerAll_frame _ (State.cutAt_frame _ _ _ _ _ _ (State.progressOf_frame _ _ ?_ (by decide)) (by decide))
        (by decide)))))
  all_goals exact State.timeoutError_frame _ (.refl _ s) (by decide)

theorem touches_bnuCommandComplete (slot : Nat) (report : BnuReport) : Touches (.bnuCommandComplete slot report)
    [.host, .queues, .tnd, .fabric, .clusters, .kst, .mea, .slc, .ngl, .regions, .commits, .log, .dcc, .m] := by
  refine .clocked (fun _ => rfl) fun s => ?_
  split
  · exact .refl _ s
  dsimp only
  split
  · exact .refl _ s
  refine .ite (.refl _ s) (.ite (State.completeWith_frame _ _ _ _ ?_ (by decide))
    (State.endBnu_frame _ _ _ _ ?_ (by decide)))
  all_goals exact State.modCluster_frame _ _ _ (.refl _ s) (by decide)

theorem touches_signerComplete : Touches .signerComplete [.tnd, .mea] := by
  refine .next (fun _ => rfl) fun s => ?_
  split
  · exact .refl _ s
  · exact .setMea (State.doneWaiting_frame _ _ _ (.refl _ s) (by decide)) (by decide) rfl

theorem touches_commitAck (slot : Nat) : Touches (.commitAck slot) [.alert, .unsealed, .tnd, .clusters, .kst, .roots,
    .mea, .meas, .slc, .ngl, .per, .commits, .log, .store, .dcc, .custody, .cards, .m] := by
  refine .next (fun _ => rfl) fun s => ?_
  split
  · exact .refl _ s
  refine .ite ?_ (.refl _ s)
  split
  · exact State.issueDone_frame _ _ _ _ (.refl _ s) (by decide)
  · exact State.doneWaiting_frame _ _ _ (.refl _ s) (by decide)

theorem touches_itemFinish (slot : Nat) : Touches (.itemFinish slot)
    [.host, .queues, .tnd, .clusters, .kst, .mea, .slc, .ngl, .regions, .commits, .log, .m] := by
  refine .clocked (fun _ => rfl) fun s => ?_
  split
  · exact .refl _ s
  · exact .ite (State.complete_frame _ _ (State.writeOutput_frame _ _ (.refl _ s) (by decide)) (by decide)) (.refl _ s)

theorem touches_mustRunPromote (slot : Nat) :
    Touches (.mustRunPromote slot) [.host, .tnd, .clusters, .regions, .log, .m] := by
  refine .clocked (fun _ => rfl) fun s => ?_
  split
  · exact .refl _ s
  · exact .ite (State.offerItem_frame _ _ (.setTnd (State.modItem_frame _ _ _ (.refl _ s) (by decide)) (by decide))
      (by decide)) (.refl _ s)

theorem touches_agePromote (slot : Nat) : Touches (.agePromote slot) [.host, .tnd, .clusters, .regions, .log, .m] := by
  refine .clocked (fun _ => rfl) fun s => ?_
  split
  · exact .refl _ s
  refine .ite (State.offerItem_frame _ _ (State.syncRounds_frame _ ?_ (by decide)) (by decide)) (.refl _ s)
  exact .setTnd (State.modItem_frame _ _ _ (.refl _ s) (by decide)) (by decide)

theorem touches_notBeforeDue (slot : Nat) :
    Touches (.notBeforeDue slot) [.host, .tnd, .clusters, .regions, .log, .m] :=
  .next (fun _ => rfl) fun s => .ite (State.undelay_frame _ _ (State.dropDelay_frame _ _ (.refl _ s) (by decide))
    (by decide)) (.refl _ s)

theorem touches_retryDue (slot : Nat) : Touches (.retryDue slot) [.host, .tnd, .clusters, .regions, .log, .m] := by
  refine .next (fun _ => rfl) fun s => .ite (State.offerItem_frame _ _ (State.syncRounds_frame _ ?_ (by decide))
    (by decide)) (.refl _ s)
  exact State.modItem_frame _ _ _ (State.dropDelay_frame _ _ (.refl _ s) (by decide)) (by decide)

theorem touches_retryWaitPoll (slot : Nat) : Touches (.retryWaitPoll slot)
    [.host, .queues, .tnd, .clusters, .kst, .mea, .slc, .ngl, .regions, .commits, .log, .m] := by
  refine .clocked (fun _ => rfl) fun s => ?_
  split
  · exact .refl _ s
  · exact .ite (State.retryItem_frame _ _ (State.modItem_frame _ _ _ (.refl _ s) (by decide)) (by decide)) (.refl _ s)

theorem touches_pinLockoutTimerDue (slice : Nat) (tag : Bytes) :
    Touches (.pinLockoutTimerDue slice tag) [.tnd, .slc, .commits] := by
  refine .next (fun _ => rfl) fun s => .ite (.ite (State.dropLockout_frame _ _ _ _ ?_ (by decide)) ?_) (.refl _ s)
  all_goals exact State.dropDelay_frame _ _ (.refl _ s) (by decide)

theorem touches_quorumSessionExpire : Touches .quorumSessionExpire
    [.tnd, .kst, .mea, .meas, .slc, .ngl, .per, .commits, .log, .store, .dcc, .custody, .cards, .m] := by
  refine .next (fun _ => rfl) fun s => ?_
  split
  · exact .refl _ s
  refine .ite (.refl _ s) (.ite (State.addDelay_frame _ _ _ _ _ ?_ (by decide))
    (.ite (State.modSession_frame _ _ ?_ (by decide)) (State.endSession_frame _ _ ?_ (by decide))))
  all_goals exact State.dropDelay_frame _ _ (.refl _ s) (by decide)

/-! ## Chill -/

theorem touches_regionIdleTimerDue (region : Nat) :
    Touches (.regionIdleTimerDue region) [.tnd, .clusters, .regions] := by
  refine .clocked (fun _ => rfl) fun s => .ite (.ite (State.beginDrain_frame _ _ ?_ (by decide)) ?_) (.refl _ s)
  all_goals exact State.dropDelay_frame _ _ (.refl _ s) (by decide)

theorem touches_chillUpdate (sense : ChillSense) : Touches (.chillUpdate sense)
    [.alert, .host, .tnd, .clusters, .chl, .regions, .log, .gds, .m] := by
  refine .next (fun _ => rfl) fun s => .ite (.refl _ s) (.fold (.setTnd ?_ (by decide))
    fun _ _ hy => State.reoffer_frame _ _ hy (by decide))
  refine State.serveDemand_frame _ _ _ _ (State.serveDemand_frame _ _ _ _ ?_ (by decide)) (by decide)
  refine .ite (State.alert_frame _ _ ?_ (by decide)) ?_
  all_goals
    refine .fold ?_ fun _ _ hy => .ite (State.updateRegion_frame _ _ _ _ hy (by decide)) hy
    exact State.packageFigures_frame _ _ (.refl _ s) (by decide)

theorem touches_regionWakeComplete (region : Nat) : Touches (.regionWakeComplete region)
    [.host, .tnd, .fabric, .clusters, .regions, .commits, .log, .m] :=
  .clocked (fun _ => rfl) fun s => .ite (State.offerAll_frame _ (State.regionOn_frame _ _ (.refl _ s) (by decide))
    (by decide)) (.refl _ s)

theorem touches_regionDrainComplete (region : Nat) : Touches (.regionDrainComplete region) [.chl, .regions] := by
  refine .clocked (fun _ => rfl) fun s => .ite (.refl _ s) (.ite (.setChl (State.modRegion_frame _ _ _ ?_ (by decide))
    (by decide) rfl) (State.modRegion_frame _ _ _ ?_ (by decide)))
  all_goals exact .setChl (State.modRegion_frame _ _ _ (.refl _ s) (by decide)) (by decide) rfl

theorem touches_pllLockLoss (region pll : Nat) : Touches (.pllLockLoss region pll) [.regions] :=
  .clocked (fun _ => rfl) fun s => .ite (State.modRegion_frame _ _ _ (.refl _ s) (by decide)) (.refl _ s)

/-! ## Units, links and memories -/

theorem touches_tcEccCorrected (core : Nat) : Touches (.tcEccCorrected core) [.log] :=
  .clocked (fun _ => rfl) fun s => State.logEv_frame _ _ _ _ _ (.refl _ s) (by decide)

theorem touches_tcEccUncorrectable (core written : Nat) : Touches (.tcEccUncorrectable core written)
    [.host, .queues, .tnd, .fabric, .clusters, .kst, .mea, .slc, .ngl, .regions, .commits, .log, .m] := by
  refine .clocked (fun _ => rfl) fun s => .ite (.refl _ s) (State.offerAll_frame _ (.ite
    (State.checkCluster_frame _ _ (State.logEv_frame _ _ _ _ _ (.setTnd (State.retireUnit_frame _ _ _ _ ?_ (by decide))
      (by decide)) (by decide)) (by decide)) ?_) (by decide))
  all_goals exact State.addStrike_frame _ _ _ _ (State.logEv_frame _ _ _ _ _ (State.tcItemStops_frame _ _ _ (.refl _ s)
    (by decide)) (by decide)) (by decide)

theorem touches_clusterSramEcc (phys : Nat) (keyCache uncorrectable : Bool) :
    Touches (.clusterSramEcc phys keyCache uncorrectable)
      [.host, .queues, .tnd, .fabric, .clusters, .kst, .mea, .slc, .ngl, .regions, .commits, .log, .m] :=
  .clocked (fun _ => rfl) fun s => .ite (.refl _ s) (.ite (State.failCluster_frame _ _ _ (.refl _ s) (by decide))
    (State.logEv_frame _ _ _ _ _ (State.modCluster_frame _ _ _ (.refl _ s) (by decide)) (by decide)))

theorem touches_spareSelftestComplete (logical : Nat) (pass : Bool) : Touches (.spareSelftestComplete logical pass)
    [.host, .queues, .tnd, .fabric, .clusters, .kst, .mea, .slc, .ngl, .commits, .log, .m] := by
  refine .clocked (fun _ => rfl) fun s => ?_
  split
  · exact .refl _ s
  refine .ite (State.setSlot_frame _ _ _ (.setFabric ?_ (by decide) rfl) (by decide)) (State.dropNoCapacity_frame _
    (State.substitute_frame _ _ (State.retirePosition_frame _ _ ?_ (by decide)) (by decide)) (by decide))
  all_goals exact .setFabric (.refl _ s) (by decide) rfl

theorem touches_dguKatDue (phys : Nat) (pass : Bool) : Touches (.dguKatDue phys pass)
    [.host, .queues, .tnd, .fabric, .clusters, .kst, .mea, .slc, .ngl, .commits, .log, .m] := by
  refine .clocked (fun _ => rfl) fun s => .ite (.refl _ s) (.ite ?_ (.ite ?_ (State.dropNoCapacity_frame _
    (State.logEv_frame _ _ _ _ _ (State.retireUnit_frame _ _ _ _ ?_ (by decide)) (by decide)) (by decide))))
  all_goals exact State.modCluster_frame _ _ _ (.refl _ s) (by decide)

theorem touches_bnuDrbgReseed (phys : Nat) : Touches (.bnuDrbgReseed phys) [.clusters] :=
  .clocked (fun _ => rfl) fun s => .ite (State.modCluster_frame _ _ _ (.refl _ s) (by decide)) (.refl _ s)

theorem touches_bnuKeygenLong (slot : Nat) : Touches (.bnuKeygenLong slot) [.log] := by
  refine .clocked (fun _ => rfl) fun s => ?_
  split
  · split
    · exact .ite (State.logEv_frame _ _ _ _ _ (.refl _ s) (by decide)) (.refl _ s)
    · exact .refl _ s
  · exact .refl _ s

theorem touches_dieLinkFlitError (link : Nat) (arrival : LinkArrival) (again : Bool) :
    Touches (.dieLinkFlitError link arrival again) [.stage, .alert, .host, .queues, .tnd, .fabric, .clusters, .kst,
      .mea, .slc, .ngl, .regions, .commits, .log, .gds, .m] := by
  refine .clocked (fun _ => rfl) fun s => .ite (.refl _ s) (.ite (.ite (State.ghFail_frame _ ?_ (by decide))
    (State.dieOffline_frame _ _ ?_ (by decide))) ?_)
  all_goals
    refine .ite (State.logEv_frame _ _ _ _ _ ?_ (by decide)) ?_
    all_goals exact State.emit_frame _ _ (State.modLink_frame _ _ _ (.refl _ s) (by decide)) (by decide)

theorem touches_hubMemoryEcc (memory : Nat) (uncorrectable : Bool) : Touches (.hubMemoryEcc memory uncorrectable)
    [.stage, .alert, .host, .queues, .tnd, .clusters, .kst, .mea, .slc, .ngl, .commits, .gds, .m] := by
  refine .clocked (fun _ => rfl) fun s => .ite (.refl _ s) (.ite (State.deviceFault_frame _ _ _ _ ?_ (by decide)) ?_)
  all_goals exact .setGds (.refl _ s) (by decide)

theorem touches_entropyHealthFail : Touches .entropyHealthFail [.mea, .log] :=
  .next (fun _ => rfl) fun s => .ite (.refl _ s)
    (State.logG_frame _ _ _ (.setMea (.refl _ s) (by decide) rfl) (by decide))

theorem touches_rngRetestDue (pass : Bool) : Touches (.rngRetestDue pass) [.mea, .log] := by
  refine .next (fun _ => rfl) fun s => .ite (.refl _ s) (.ite ?_ (.ite
    (State.logG_frame _ _ _ (.setMea ?_ (by decide) rfl) (by decide)) ?_))
  all_goals exact .setMea (.refl _ s) (by decide) rfl

/-! ## Persistence and time -/

theorem touches_commitEntryAccept : Touches .commitEntryAccept
    [.host, .tnd, .fabric, .clusters, .ngl, .regions, .commits, .log, .m] :=
  .next (fun _ => rfl) fun s => .ite (.refl _ s) (State.offerAll_frame _ (State.sendAcks_frame _
    (State.acceptFirst_frame _ _ _ (.refl _ s) (by decide)) (by decide)) (by decide))

theorem touches_journalDrain (count : Nat) : Touches (.journalDrain count) [.per, .commits] :=
  .next (fun _ => rfl) fun s => .fold (.setCommits (.refl _ s) (by decide) rfl)
    fun _ _ hy => State.entryToMram_frame _ _ hy (by decide)

theorem touches_linePaceExpire (line : Nat) : Touches (.linePaceExpire line) [.per, .commits] :=
  .next (fun _ => rfl) fun s => .ite (.setCommits (State.countWrite_frame _ _ (.refl _ s) (by decide)) (by decide) rfl)
    (.refl _ s)

theorem touches_counterCheckpoint : Touches .counterCheckpoint [.kst, .commits] :=
  .next (fun _ => rfl) fun s => .ite (.refl _ s) (State.checkpoint_frame _ (.refl _ s) (by decide))

theorem touches_timeCheckpoint : Touches .timeCheckpoint [.tnd, .per, .commits] :=
  .next (fun _ => rfl) fun s => .ite (.refl _ s)
    (State.commit_frame _ _ _ _ _ (.setPer (.refl _ s) (by decide) rfl) (by decide))

theorem touches_lifeCounterWrite (bands : List Nat) (batteryUah : Nat) :
    Touches (.lifeCounterWrite bands batteryUah) [.tnd, .per, .commits, .log] := by
  refine .next (fun _ => rfl) fun s => .ite (.refl _ s) (State.wearUpdate_frame _ (State.writeLife_frame _
    (State.lifeAdd_frame _ _ _ ?_ (by decide)) (by decide)) (by decide))
  exact .fold (.refl _ s) fun _ _ hy => State.lifeAdd_frame _ _ _ hy (by decide)

theorem touches_calendarFlitSend : Touches .calendarFlitSend [.ngl, .m] :=
  .clocked (fun _ => rfl) fun s => .ite (.refl _ s) (.fold (.setNgl (.refl _ s) (by decide))
    fun _ _ hy => .ite (State.sendAll_frame _ _ _ _ hy (by decide)) hy)

theorem touches_rtcHold : Touches .rtcHold [.per] :=
  .next (fun _ => rfl) fun s => .ite (.setPer (.refl _ s) (by decide) rfl) (.refl _ s)

/-! ## The heat log -/

theorem touches_heatOccurrence (code source slice time : Nat) (payload : Bytes) :
    Touches (.heatOccurrence code source slice time payload) [.log] :=
  .next (fun _ => rfl) fun s => State.logOccurrence_frame _ _ (.refl _ s) (by decide)

theorem touches_recordSealTimeout : Touches .recordSealTimeout [.log] :=
  .next (fun _ => rfl) fun s => .ite (State.sealRecord_frame _ (.refl _ s) (by decide)) (.refl _ s)

theorem touches_summaryFlushDue : Touches .summaryFlushDue [.log] :=
  .next (fun _ => rfl) fun s => State.flushSummaries_frame _ (.refl _ s) (by decide)

theorem touches_stagingDrain (count : Nat) : Touches (.stagingDrain count) [.per, .log, .store] :=
  .next (fun _ => rfl) fun s => State.drainStaging_frame _ _ (.refl _ s) (by decide)

theorem touches_hlwCursorHiWrite (value : Nat) : Touches (.hlwCursorHiWrite value) [.store] :=
  .next (fun _ => rfl) fun s => .ite (State.loadWindow_frame _ _ (.refl _ s) (by decide)) (.refl _ s)

theorem touches_hlwData15Read : Touches .hlwData15Read [.store, .m] := by
  intro s
  have read := fun v => State.emit_frame (ch := [.store, .m]) s (.mmioData 0x08007C v) (.refl _ s) (by decide)
  exact FrameX.ite (.next (.refl _ s)) (.ite (.next (read _)) (.ite (.next (.ite (read _)
    (State.loadWindow_frame _ _ (read _) (by decide)))) (.next (read _))))

/-- Settles O9: each command's frame, by the row of the table that names it. -/
theorem workCommandsKeepTheRest : Obligations.WorkCommandsKeepTheRest := by
  intro i ch row
  cases i <;> cases row
  case barBadAccess => exact touches_barBadAccess _ _ _
  case regPairLoRead => exact touches_regPairLoRead _
  case msixDelayExpire => exact touches_msixDelayExpire _
  case msixVectorUnmask => exact touches_msixVectorUnmask _
  case registerWrite => exact touches_registerWrite _ _ _
  case doorbellSqTail => exact touches_doorbellSqTail _ _
  case doorbellCqHead => exact touches_doorbellCqHead _ _
  case mbNotify => exact touches_mbNotify _
  case fetchBatch => exact touches_fetchBatch
  case descriptorArrival => exact touches_descriptorArrival _ _ _
  case qawRead => exact touches_qawRead
  case qawWrite => exact touches_qawWrite
  case qawEnable => exact touches_qawEnable
  case qawResetError => exact touches_qawResetError
  case qawDisable => exact touches_qawDisable
  case take => exact touches_take _
  case inputFetchComplete => exact touches_inputFetchComplete _ _ _ _ _
  case completionTimeout => exact touches_completionTimeout _ _ _
  case bnuCommandComplete => exact touches_bnuCommandComplete _ _
  case signerComplete => exact touches_signerComplete
  case commitAck => exact touches_commitAck _
  case itemFinish => exact touches_itemFinish _
  case mustRunPromote => exact touches_mustRunPromote _
  case agePromote => exact touches_agePromote _
  case notBeforeDue => exact touches_notBeforeDue _
  case retryDue => exact touches_retryDue _
  case retryWaitPoll => exact touches_retryWaitPoll _
  case pinLockoutTimerDue => exact touches_pinLockoutTimerDue _ _
  case quorumSessionExpire => exact touches_quorumSessionExpire
  case regionIdleTimerDue => exact touches_regionIdleTimerDue _
  case chillUpdate => exact touches_chillUpdate _
  case regionWakeComplete => exact touches_regionWakeComplete _
  case regionDrainComplete => exact touches_regionDrainComplete _
  case pllLockLoss => exact touches_pllLockLoss _ _
  case tcEccCorrected => exact touches_tcEccCorrected _
  case tcEccUncorrectable => exact touches_tcEccUncorrectable _ _
  case clusterSramEcc => exact touches_clusterSramEcc _ _ _
  case spareSelftestComplete => exact touches_spareSelftestComplete _ _
  case dguKatDue => exact touches_dguKatDue _ _
  case bnuDrbgReseed => exact touches_bnuDrbgReseed _
  case bnuKeygenLong => exact touches_bnuKeygenLong _
  case dieLinkFlitError => exact touches_dieLinkFlitError _ _ _
  case hubMemoryEcc => exact touches_hubMemoryEcc _ _
  case entropyHealthFail => exact touches_entropyHealthFail
  case rngRetestDue => exact touches_rngRetestDue _
  case commitEntryAccept => exact touches_commitEntryAccept
  case journalDrain => exact touches_journalDrain _
  case linePaceExpire => exact touches_linePaceExpire _
  case counterCheckpoint => exact touches_counterCheckpoint
  case timeCheckpoint => exact touches_timeCheckpoint
  case lifeCounterWrite => exact touches_lifeCounterWrite _ _
  case calendarFlitSend => exact touches_calendarFlitSend
  case rtcHold => exact touches_rtcHold
  case heatOccurrence => exact touches_heatOccurrence _ _ _ _ _
  case recordSealTimeout => exact touches_recordSealTimeout
  case summaryFlushDue => exact touches_summaryFlushDue
  case stagingDrain => exact touches_stagingDrain _
  case hlwCursorHiWrite => exact touches_hlwCursorHiWrite _
  case hlwData15Read => exact touches_hlwData15Read

end Sys2Proof.Machine
end

section
/-!
SUPPORT. Register accesses (O24): association lists, the MSI-X vectors, the reads of the register window, the doorbell
pages and the configuration space, and the writes that have no row of their own.
-/
namespace Sys2Proof.Machine

variable {s : State} {addr v : Nat}

/-! ## Association lists -/

/-- A key reads back the value set for it. -/
@[simp] theorem lookupD_assocSet_self (l : List (Nat × Nat)) (k v d : Nat) : lookupD (assocSet l k v) k d = v := by
  simp [lookupD, assocSet]

/-- Setting a key leaves every other key as it was. -/
theorem lookupD_assocSet_ne (l : List (Nat × Nat)) {k j : Nat} (v d : Nat) (h : j ≠ k) :
    lookupD (assocSet l k v) j d = lookupD l j d := by
  have other : ∀ (p : Nat × Nat) (r : List (Nat × Nat)), p.1 = k → (p :: r).lookup j = r.lookup j :=
    fun _ _ hp => by simp [List.lookup, hp, beq_eq_false_iff_ne.mpr h]
  have filtered : (l.filter (fun p => !(p.1 == k))).lookup j = l.lookup j := by
    induction l with
    | nil => rfl
    | cons p l ih =>
      by_cases hp : p.1 = k
      · rw [List.filter_cons_of_neg (by simp [hp]), ih, other p l hp]
      · rw [List.filter_cons_of_pos (by simp [hp]), List.lookup_cons, List.lookup_cons, ih]
  rw [lookupD, assocSet, other (k, v) _ rfl, filtered, lookupD]

/-! ## MSI-X vectors -/

/-- A vector's entries carry its number. -/
@[simp] theorem State.vec_vector (s : State) (n : Nat) : (s.vec n).vector = n := by
  unfold State.vec
  cases h : s.host.msix.find? (fun x => x.vector == n) with
  | none => rfl
  | some x => simpa using List.find?_some h

/-- A vector reads back the entries set for it. -/
theorem State.vec_setVec (s : State) {x : MsixVec} {n : Nat} (h : x.vector = n) : (s.setVec x).vec n = x := by
  simp [State.vec, State.setVec, h]

/-- Setting a vector puts nothing out. -/
@[simp] theorem State.setVec_m (s : State) (x : MsixVec) : (s.setVec x).m = s.m := rfl

/-- A write towards the host leaves the vectors as they were. -/
@[simp] theorem State.vec_hostWrite (s : State) (e : OutEvent) (n : Nat) : (s.hostWrite e).vec n = s.vec n := by
  unfold State.hostWrite State.vec State.emit
  split
  · rfl
  · split <;> rfl

/-- With the link up a write towards the host goes out in D0 and is held in D3hot. -/
theorem State.hostWrite_out (e : OutEvent) (up : s.host.linkUp = true) :
    (s.hostWrite e).m.out = if s.host.d3hot then s.m.out else e :: s.m.out := by
  unfold State.hostWrite State.emit
  cases d : s.host.d3hot <;> simp [up]

/-- An unmasked vector gives up its PBA bit where its message can be sent. -/
theorem State.vec_unmask (s : State) (n : Nat) :
    (s.unmask n).vec n = { s.vec n with masked := false, pba := (s.vec n).pba && !s.msixOpen } := by
  unfold State.unmask
  by_cases sends : ((s.vec n).pba && s.msixOpen) = true
  · simp_all [State.vec_setVec]
  · cases p : (s.vec n).pba <;> simp_all [State.vec_setVec]

/-- Unmasking a vector sends its pending message with MSI-X enabled and in D0. -/
theorem State.unmask_out (n : Nat) (up : s.host.linkUp = true) : (s.unmask n).m.out =
    if (s.vec n).pba && s.msixOpen && !s.host.d3hot then .msix n :: s.m.out else s.m.out := by
  unfold State.unmask
  by_cases sends : ((s.vec n).pba && s.msixOpen) = true
  · rw [if_pos sends, State.hostWrite_out _ (by exact up)]
    cases d : s.host.d3hot <;> simp_all [State.setVec]
  · rw [if_neg sends]
    simp_all [State.setVec]

/-! ## Reads -/

/-- A read of BAR0 while the port answers. -/
theorem exec_read_bar0 (up : s.hostUp = true) (hub : s.fromHub = true) (wide : Bool) :
    exec (.regPairLoRead ⟨.bar0, addr, wide⟩) s = .next (s.bar0Read addr) := by
  simp [exec, execRegPairLoRead, up, hub]

/-- A read of BAR2 while the port answers. -/
theorem exec_read_bar2 (up : s.hostUp = true) (hub : s.fromHub = true) (wide : Bool) :
    exec (.regPairLoRead ⟨.bar2, addr, wide⟩) s =
      .next (s.emit (.mmioData addr (wideRead s.bar2Read addr wide))) := by
  simp [exec, execRegPairLoRead, up, hub]

/-- The low half of a pair answers and latches the other half; of the device time it latches the fraction too. -/
theorem State.bar0Read_pair (live : s.ghFailed = false) (pair : s.regPair addr = some v) : ∃ latches,
    s.bar0Read addr = { s with host.latches := latches, m.out := .mmioData addr (v % 2 ^ 32) :: s.m.out } ∧
      lookupD latches (addr + 4) 0 = v / 2 ^ 32 % 2 ^ 32 := by
  have read : s.regRead addr = v % 2 ^ 32 := by simp [State.regRead, live, pair, wrap]
  refine ⟨_, by rw [State.bar0Read, read]; simp only [live, pair]; rfl, ?_⟩
  split
  · rw [lookupD_assocSet_ne _ _ _ (by omega), lookupD_assocSet_self, wrap]
  · rw [lookupD_assocSet_self, wrap]

/-- The high half of a pair answers what was latched for it. -/
theorem State.bar0Read_high (live : s.ghFailed = false) (single : s.regPair addr = none)
    (low : (s.regPair (addr - 4)).isSome = true) (h : 4 ≤ addr) :
    s.bar0Read addr = s.emit (.mmioData addr (lookupD s.host.latches addr 0 % 2 ^ 32)) := by
  simp [State.bar0Read, State.regRead, State.latchedAt, live, single, low, h, wrap]

/-- A register of no pair answers its word. -/
theorem State.bar0Read_plain (live : s.ghFailed = false) (single : s.regPair addr = none)
    (low : s.regPair (addr - 4) = none) : s.bar0Read addr = s.emit (.mmioData addr (s.regWord addr % 2 ^ 32)) := by
  simp [State.bar0Read, State.regRead, live, single, low, wrap]

/-- A queue's doorbell page answers SQ_HEAD. -/
theorem State.bar2Read_sqHead (s : State) (q : Nat) :
    s.bar2Read (q / 64 * 0x1000 + q % 64 * 8) = (s.queue q).sqHead := by
  have queue : 64 * ((q / 64 * 0x1000 + q % 64 * 8) / 0x1000) + (q / 64 * 0x1000 + q % 64 * 8) % 0x1000 / 8 = q := by
    omega
  unfold State.bar2Read
  rw [queue, if_neg (by omega), if_pos (by omega)]

/-- The word above answers CQ_TAIL. -/
theorem State.bar2Read_cqTail (s : State) (q : Nat) :
    s.bar2Read (q / 64 * 0x1000 + q % 64 * 8 + 4) = (s.queue q).cqTail := by
  have queue : 64 * ((q / 64 * 0x1000 + q % 64 * 8 + 4) / 0x1000) +
      (q / 64 * 0x1000 + q % 64 * 8 + 4) % 0x1000 / 8 = q := by omega
  unfold State.bar2Read
  rw [queue, if_neg (by omega), if_neg (by omega)]

/-- The configuration space identifies the device (R94). -/
theorem State.cfgRead_identity (s : State) :
    s.cfgRead 0 0 = 0x88001FD6 ∧ s.cfgRead 0 8 = 0x108000B0 ∧ s.cfgRead 0 0x2C = 0x00011FD6 ∧
    s.cfgRead 0x10003 4 = fld s.fuses.serial 0 4 ∧ s.cfgRead 0x10003 8 = fld s.fuses.serial 4 4 := by
  simp [State.cfgRead, State.cfgHeader, State.cfgCap, capabilities]

/-- No_Soft_Reset reads 1 in every power state (R95). -/
theorem State.cfgRead_noSoftReset (s : State) : bit (s.cfgRead 1 4) 3 = true := by
  cases d : s.host.d3hot <;> simp [State.cfgRead, State.cfgCap, capabilities, d] <;> decide

/-- A record of the heat log leaves the Tundish as it was. -/
@[simp] theorem State.logH_tnd (s : State) (code : Nat) (payload : Bytes) : (s.logH code payload).tnd = s.tnd :=
  (State.logH_frame (ch := [.log]) s code payload (.refl _ s) (List.Subset.refl _)).rest .tnd (by decide)

/-- A record of the heat log puts nothing out. -/
@[simp] theorem State.logH_m (s : State) (code : Nat) (payload : Bytes) : (s.logH code payload).m = s.m :=
  (State.logH_frame (ch := [.log]) s code payload (.refl _ s) (List.Subset.refl _)).rest .m (by decide)

/-- A bad access is counted with its BAR, and a read of it is answered with all ones (R97). -/
theorem reaches_barBadAccess (up : s.hostUp = true) (bar addr : Nat) (write : Bool) :
    Reaches (.barBadAccess bar addr write) s (fun t => t.tnd.badAccess = (s.tnd.badAccess + 1) % 2 ^ 24 ∧
      t.tnd.badBar = bar % 4 ∧ t.m.out = if write then s.m.out else .mmioData addr 0xFFFFFFFF :: s.m.out) := by
  refine ⟨_, rfl, ?_⟩
  cases write <;> simp [up, State.emit, wrap]

/-! ## Writes -/

/-- A write of a word is not cut. -/
theorem wrap_word (h : v < 2 ^ 32) : wrap 32 v = v := Nat.mod_eq_of_lt h

/-- A write of a word to BAR0 while the port answers. -/
theorem exec_write_bar0 (up : s.hostUp = true) (hub : s.fromHub = true) (h : v < 2 ^ 32) (wide : Bool) :
    exec (.registerWrite .bar0 addr ⟨v, wide⟩) s = .next (s.bar0Write addr v) := by
  simp [exec, execRegisterWrite, up, hub, wrap_word h]

/-- A write of one word to BAR4 while the port answers. -/
theorem exec_write_bar4 (up : s.hostUp = true) (hub : s.fromHub = true) (h : v < 2 ^ 32) :
    exec (.registerWrite .bar4 addr ⟨v, false⟩) s = .next (s.bar4Write addr v) := by
  simp [exec, execRegisterWrite, up, hub, wrap_word h]

/-- A write of a word to the configuration space while the port answers. -/
theorem exec_write_config (up : s.hostUp = true) (hub : s.fromHub = true) (h : v < 2 ^ 32) (cap : Nat) (wide : Bool) :
    exec (.registerWrite (.config cap) addr ⟨v, wide⟩) s = .next (s.cfgWrite cap addr v) := by
  simp [exec, execRegisterWrite, up, hub, wrap_word h]

/-- A write to the queue administration window's data changes its word. -/
theorem State.bar0Write_qawData (s : State) (v : Nat) {i : Nat} (h : i < 16) : s.bar0Write (0x40040 + 4 * i) v =
    { s with queues.qawData := s.queues.qawData.modify i (fun _ => v) } := by
  unfold State.bar0Write
  rw [if_neg (by omega), if_neg (by omega), if_pos (by omega), show (0x40040 + 4 * i - 0x40040) / 4 = i by omega, modAt]

/-- A write above the blocks of BAR0 that have writable registers changes nothing. -/
theorem State.bar0Write_above (s : State) (v : Nat) (h : 0x100000 ≤ addr) : s.bar0Write addr v = s := by
  simp (disch := omega) only [State.bar0Write, if_neg, ite_self]

/-- The data word of a vector. -/
theorem State.bar4Write_data (s : State) (v : Nat) {n : Nat} (h : n < 2048) :
    s.bar4Write (16 * n + 8) v = s.setVec { s.vec n with data := v } := by
  unfold State.bar4Write
  rw [if_pos (by omega), show (16 * n + 8) / 16 = n by omega, show (16 * n + 8) % 16 / 4 = 2 by omega]
  rfl

/-- The control word of a vector masks it, or unmasks it. -/
theorem State.bar4Write_control (s : State) (v : Nat) {n : Nat} (h : n < 2048) : s.bar4Write (16 * n + 12) v =
    if bit v 0 then s.setVec { s.vec n with masked := true } else s.unmask n := by
  unfold State.bar4Write
  rw [if_pos (by omega), show (16 * n + 12) / 16 = n by omega, show (16 * n + 12) % 16 / 4 = 3 by omega]
  rfl

/-- The moderation of a vector. -/
theorem State.bar4Write_moderation (s : State) (v : Nat) {n : Nat} (h : n < 2048) : s.bar4Write (0xC000 + 4 * n) v =
    s.setVec { s.vec n with maxCount := v % 256, maxDelay := v / 256 % 65536 } := by
  unfold State.bar4Write
  rw [if_neg (by omega), if_pos (by omega), show (0xC000 + 4 * n - 0xC000) / 4 = n by omega]

/-- The words of BAR0 that are written whole or in part (R100, R402, R418, R570). -/
theorem bar0_writes (up : s.hostUp = true) (hub : s.fromHub = true) (h : v < 2 ^ 32) (wide : Bool) :
    exec (.registerWrite .bar0 0xC ⟨v, wide⟩) s = .next { s with gds.scratch := v } ∧
    exec (.registerWrite .bar0 0x40000 ⟨v, wide⟩) s = .next { s with queues.qawSelect := v % 2 ^ 18 } ∧
    exec (.registerWrite .bar0 0x50004 ⟨v, wide⟩) s = .next
      { s with chl.pplCap := v % 2048, chl.opCap := v / 4096 % 4 } ∧
    exec (.registerWrite .bar0 0x60000 ⟨v, wide⟩) s = .next { s with slc.select := v % 4096 } ∧
    exec (.registerWrite .bar0 0x60048 ⟨v, wide⟩) s = .next { s with slc.mbVector := v % 2048 } ∧
    (s.ghFailed = false → exec (.registerWrite .bar0 0x80000 ⟨v, wide⟩) s = .next { s with log.cursorLo := v } ∧
      exec (.registerWrite .bar0 0xB0030 ⟨v, wide⟩) s = .next { s with per.lifeSelect := v % 1024 }) := by
  simp only [exec_write_bar0 up hub h, State.bar0Write]
  exact ⟨rfl, rfl, rfl, rfl, rfl, fun live => by simp [live]⟩

/-- The words of a vector are written (R118, R119). -/
theorem bar4_writes (up : s.hostUp = true) (hub : s.fromHub = true) (h : v < 2 ^ 32) {n : Nat} (hn : n < 2048) :
    Reaches (.registerWrite .bar4 (16 * n + 8) ⟨v, false⟩) s (fun t => (t.vec n).data = v ∧
      (t.vec n).masked = (s.vec n).masked ∧ t.m.out = s.m.out) ∧
    (bit v 0 = true → Reaches (.registerWrite .bar4 (16 * n + 12) ⟨v, false⟩) s (fun t => (t.vec n).masked = true ∧
      t.m.out = s.m.out)) ∧
    (bit v 0 = false → Reaches (.registerWrite .bar4 (16 * n + 12) ⟨v, false⟩) s (fun t =>
      (t.vec n).masked = false ∧ (t.vec n).pba = ((s.vec n).pba && !s.msixOpen) ∧
      t.m.out = (if (s.vec n).pba && s.msixOpen && !s.host.d3hot then .msix n :: s.m.out else s.m.out))) ∧
    Reaches (.registerWrite .bar4 (0xC000 + 4 * n) ⟨v, false⟩) s (fun t => (t.vec n).maxCount = v % 256 ∧
      (t.vec n).maxDelay = v / 256 % 65536) := by
  have link : s.host.linkUp = true := by simp_all [State.hostUp]
  simp only [Reaches, exec_write_bar4 up hub h, State.bar4Write_data s v hn, State.bar4Write_control s v hn,
    State.bar4Write_moderation s v hn, Host.Outcome.next.injEq, exists_eq_left']
  refine ⟨?_, fun masks => ?_, fun unmasks => ?_, ?_⟩
  · simp [State.vec_setVec]
  · simp [State.vec_setVec, masks]
  · simp [State.vec_unmask, State.unmask_out n link, unmasks]
  · simp [State.vec_setVec]

/-- PASID Enable and the power state follow their control words (R94, R95). -/
theorem config_writes (up : s.hostUp = true) (hub : s.fromHub = true) (h : v < 2 ^ 32) (wide : Bool) :
    exec (.registerWrite (.config 0x1001B) 4 ⟨v, wide⟩) s = .next { s with host.pasidEnable := bit v 16 } ∧
    (v % 4 = 3 → exec (.registerWrite (.config 1) 4 ⟨v, wide⟩) s = .next { s with host.d3hot := true }) ∧
    (v % 4 = 0 → s.host.d3hot = false → exec (.registerWrite (.config 1) 4 ⟨v, wide⟩) s = .next s) := by
  simp only [exec_write_config up hub h]
  exact ⟨rfl, fun off => by simp [State.cfgWrite, State.toD3hot, off],
    fun on active => by simp [State.cfgWrite, on, active]⟩

/-- Settles O24: a read of the register window by the kind of its register, and a write by its field. -/
theorem registerAccessesWork : Obligations.RegisterAccessesWork := by
  unfold Obligations.RegisterAccessesWork
  refine ⟨fun s => ?reads, fun s => ?writes⟩
  case reads =>
    obtain ⟨vendor, revision, subsystem, serialLo, serialHi⟩ := s.cfgRead_identity
    refine ⟨fun up hub addr wide => ⟨fun live => ⟨fun v pair => ?pair, fun single low h => ?high,
          fun single low => ?plain⟩, fun q _ => ⟨?sqHead, ?both⟩, fun cap => ?config⟩, rfl, vendor, revision, subsystem, serialLo, serialHi,
      s.cfgRead_noSoftReset, fun up bar addr => ⟨?badRead, ?badWrite⟩, fun down space addr wide bar w => ⟨?_, ?_⟩⟩
    case pair =>
      obtain ⟨latches, read, latched⟩ := State.bar0Read_pair live pair
      exact ⟨_, (exec_read_bar0 up hub wide).trans (congrArg _ read), rfl, latched, rfl, rfl, rfl⟩
    case high => exact (exec_read_bar0 up hub wide).trans (congrArg _ (State.bar0Read_high live single low h))
    case plain => exact (exec_read_bar0 up hub wide).trans (congrArg _ (State.bar0Read_plain live single low))
    case sqHead => simp [exec_read_bar2 up hub, wideRead, State.bar2Read_sqHead, State.emit]
    case both =>
      simp [exec_read_bar2 up hub, wideRead, State.bar2Read_sqHead, State.bar2Read_cqTail, State.emit]
    case config => simp [exec, execRegPairLoRead, State.emit, up, hub]
    case badRead => exact reaches_barBadAccess up bar addr false
    case badWrite => exact reaches_barBadAccess up bar addr true
    all_goals simp [exec, execRegPairLoRead, execBarBadAccess, down]
  case writes =>
    refine ⟨fun up hub v h wide => ?_, fun block v => ?_, fun down space addr v wide => ?_, fun block v => ?_⟩
    · obtain ⟨scratch, select, cap, slice, mailbox, guarded⟩ := bar0_writes up hub h wide
      obtain ⟨pasid, sleeps, stays⟩ := config_writes up hub h wide
      refine ⟨scratch, select, cap, slice, mailbox, guarded, fun i hi => ?_, fun addr above => ?_, fun addr => ?_,
        pasid, sleeps, stays, fun n hn => bar4_writes up hub h hn⟩
      · rw [exec_write_bar0 up hub h, State.bar0Write_qawData s v hi]
      · rw [exec_write_bar0 up hub h, State.bar0Write_above s v above]
      · simp [exec, execRegisterWrite]
    · simp [exec, execMeaSelectWrite, block]
    · simp [exec, execRegisterWrite, down]
    · simp [exec, execMeaSelectWrite, block]

end Sys2Proof.Machine
end
